-- ==== Sys2Proof/Word.lean ====
section
/-! DEFINITION. Bytes, and the sparse table every store and register group of the model is held in. -/

namespace Sys2Proof

/-- The smallest addressable unit of every memory of the module. -/
abbrev Byte := BitVec 8

/-- A sparse table: keys strictly rising, no entry equal to what an unlisted key reads as (`Tab.wf`). -/
abbrev Tab (α : Type) := List (Nat × α)

/-- The entry of `k`, or `d` where `k` is not listed. -/
def Tab.get {α : Type} (d : α) : Tab α → Nat → α
  | [], _ => d
  | (a, v) :: t, k => if k = a then v else Tab.get d t k

/-- Put `v` at `k`, keeping the keys rising; `keep = false` removes the entry of `k`. -/
def Tab.put {α : Type} (keep : Bool) (k : Nat) (v : α) : Tab α → Tab α
  | [] => if keep then [(k, v)] else []
  | (a, w) :: t =>
    if k < a then (if keep then (k, v) :: (a, w) :: t else (a, w) :: t)
    else if k = a then (if keep then (k, v) :: t else t)
    else (a, w) :: Tab.put keep k v t

/-- Write `v` at `k`: an entry equal to the default `d` is not listed. -/
def Tab.set {α : Type} [DecidableEq α] (d : α) (t : Tab α) (k : Nat) (v : α) : Tab α :=
  Tab.put (!decide (v = d)) k v t

/-- The table without the keys of [lo, lo + n). -/
def Tab.without {α : Type} (lo n : Nat) (t : Tab α) : Tab α :=
  t.filter (fun e => !(decide (lo ≤ e.1) && decide (e.1 < lo + n)))

/-- The entries of the keys of [lo, lo + n). -/
def Tab.within {α : Type} (lo n : Nat) (t : Tab α) : Tab α :=
  t.filter (fun e => decide (lo ≤ e.1) && decide (e.1 < lo + n))

/-- Move the entries of [lo, lo + n) to [hi, hi + n), whose own entries go. -/
def Tab.move {α : Type} [DecidableEq α] (d : α) (lo n hi : Nat) (t : Tab α) : Tab α :=
  (Tab.within lo n t).foldl (fun a e => Tab.set d a (hi + (e.1 - lo)) e.2)
    (Tab.without hi n (Tab.without lo n t))

/-- Keys rise strictly, and all lie above `lo`. -/
def Tab.risesFrom {α : Type} : Nat → Tab α → Bool
  | _, [] => true
  | lo, (a, _) :: t => decide (lo ≤ a) && Tab.risesFrom (a + 1) t

/-- The canonical form: strictly rising keys, no entry equal to the default. -/
def Tab.wf {α : Type} [DecidableEq α] (d : α) (t : Tab α) : Bool :=
  Tab.risesFrom 0 t && t.all (fun e => !decide (e.2 = d))

end Sys2Proof
end

