-- ==== Sys2Proof/Machine/Bits.lean ====
section
/-! DEFINITION. Bit fields, byte order and integer helpers (00 R7, R8). -/

namespace Sys2Proof.Machine

/-- Bits [hi:lo] of a word (00 R8: both ends included). -/
def bits (hi lo w : Nat) : Nat := (w / 2 ^ lo) % 2 ^ (hi + 1 - lo)

/-- Bit `i` of a word. -/
def bit (i w : Nat) : Bool := decide ((w / 2 ^ i) % 2 = 1)

/-- A flag as a number. -/
def b2n (b : Bool) : Nat := if b then 1 else 0

/-- Set or clear bit `i`. -/
def setBit (i : Nat) (b : Bool) (w : Nat) : Nat :=
  if bit i w = b then w else if b then w + 2 ^ i else w - 2 ^ i

/-- Replace bits [hi:lo] by `v`. -/
def setBits (hi lo v w : Nat) : Nat :=
  w - bits hi lo w * 2 ^ lo + (v % 2 ^ (hi + 1 - lo)) * 2 ^ lo

/-- Little-endian bytes to a number (00 R7). -/
def ofBytes : List Byte → Nat
  | [] => 0
  | b :: t => b.toNat + 256 * ofBytes t

/-- `n` little-endian bytes of a number (00 R7). -/
def toBytes : Nat → Nat → List Byte
  | 0, _ => []
  | n + 1, v => BitVec.ofNat 8 v :: toBytes n (v / 256)

/-- Two's-complement reading of `w` bits. -/
def toSigned (w v : Nat) : Int :=
  let u := v % 2 ^ w
  if u < 2 ^ (w - 1) then (u : Int) else (u : Int) - (2 : Int) ^ w

/-- Two's-complement encoding in `w` bits. -/
def ofSigned (w : Nat) (v : Int) : Nat := (v % (2 : Int) ^ w).toNat

/-- ceil (a / b), 0 for b = 0. -/
def ceilDiv (a b : Nat) : Nat := (a + b - 1) / b

/-- Round up to a multiple. -/
def alignUp (a m : Nat) : Nat := ceilDiv a m * m

/-- A 64-bit counter that saturates (01 R86 and the counters of every chapter). -/
def sat64 (v : Nat) : Nat := min v (2 ^ 64 - 1)

/-- A 32-bit counter that wraps. -/
def wrap32 (v : Nat) : Nat := v % 2 ^ 32

/-- Clamp an integer to [lo, hi]. -/
def clampInt (lo hi v : Int) : Int := max lo (min hi v)

/-- floor (sqrt n), one bit at a time from bit `k` down. -/
def isqrtFrom (n : Nat) : Nat → Nat → Nat
  | 0, r => if (r + 1) * (r + 1) ≤ n then r + 1 else r
  | k + 1, r =>
    let c := r + 2 ^ (k + 1)
    isqrtFrom n k (if c * c ≤ n then c else r)

/-- floor (sqrt n). -/
def isqrt (n : Nat) : Nat := isqrtFrom n (Nat.log2 n / 2 + 1) 0

/-- 2^k for an integer k, applied to a natural number with truncation toward zero. -/
def shiftNat (n : Nat) (k : Int) : Nat :=
  match k with
  | .ofNat j => n * 2 ^ j
  | .negSucc j => n / 2 ^ (j + 1)

/-- Maximum of a list of integers, if any. -/
def maxInt? : List Int → Option Int
  | [] => none
  | x :: t => match maxInt? t with
    | none => some x
    | some y => some (max x y)

/-- Sum of a list. -/
def sumNat (l : List Nat) : Nat := l.foldl (· + ·) 0

end Sys2Proof.Machine
end

