-- ==== Sys2Proof/Machine/Float.lean ====
section
/-! DEFINITION. Number formats, decoding, rounding and conversion (02 R31 to R49, R72 to R77). -/

namespace Sys2Proof.Machine

/-- Floating-point storage formats of Table 2-2. -/
inductive FFmt where
  | e4m3 | e5m2 | b16 | bf16 | b32
  deriving DecidableEq, Repr

/-- Stored significand bits (Table 2-2). -/
def FFmt.mant : FFmt → Nat
  | .e4m3 => 3 | .e5m2 => 2 | .b16 => 10 | .bf16 => 7 | .b32 => 23

/-- Exponent bits (Table 2-2). -/
def FFmt.expo : FFmt → Nat
  | .e4m3 => 4 | .e5m2 => 5 | .b16 => 5 | .bf16 => 8 | .b32 => 8

/-- Exponent bias (Table 2-2). -/
def FFmt.bias : FFmt → Int
  | .e4m3 => 7 | .e5m2 => 15 | .b16 => 15 | .bf16 => 127 | .b32 => 127

/-- Encoding of the largest finite magnitude (Table 2-2). -/
def FFmt.maxCode : FFmt → Nat
  | .e4m3 => 0x7E | .e5m2 => 0x7B | .b16 => 0x7BFF | .bf16 => 0x7F7F | .b32 => 0x7F7FFFFF

/-- Encoding of +Inf; E4M3 has none and gives its canonical NaN (Table 2-4). -/
def FFmt.infCode : FFmt → Nat
  | .e4m3 => 0x7F | .e5m2 => 0x7C | .b16 => 0x7C00 | .bf16 => 0x7F80 | .b32 => 0x7F800000

/-- Canonical NaN (Table 2-3). -/
def FFmt.nanCode : FFmt → Nat
  | .e4m3 => 0x7F | .e5m2 => 0x7E | .b16 => 0x7E00 | .bf16 => 0x7FC0 | .b32 => 0x7FC00000

/-- Schedule poison (Table 2-3). -/
def FFmt.poisonCode : FFmt → Nat
  | .e4m3 => 0x7F | .e5m2 => 0x7F | .b16 => 0x7FCF | .bf16 => 0x7FCF | .b32 => 0x7FC005CF

/-- Storage in bytes. -/
def FFmt.bytes : FFmt → Nat
  | .e4m3 => 1 | .e5m2 => 1 | .b16 => 2 | .bf16 => 2 | .b32 => 4

/-- Bits of an encoding. -/
def FFmt.width (f : FFmt) : Nat := 1 + f.expo + f.mant

/-- Formats whose overflow saturates and sets SAT (Table 2-4). -/
def FFmt.isFp8 : FFmt → Bool
  | .e4m3 => true | .e5m2 => true | _ => false

/-- A decoded value: poison, NaN, an infinity, or ±m × 2^e (m = 0 is a signed zero). -/
inductive Val where
  | poison
  | nan
  | inf (neg : Bool)
  | fin (neg : Bool) (m : Nat) (e : Int)
  deriving DecidableEq, Repr

/-- +0. -/
def Val.zero : Val := .fin false 0 0

/-- A value is NaN (poison apart). -/
def Val.isNan : Val → Bool
  | .nan => true | _ => false

/-- Poison or NaN. -/
def Val.isNanP : Val → Bool
  | .nan => true | .poison => true | _ => false

/-- Finite. -/
def Val.isFin : Val → Bool
  | .fin _ _ _ => true | _ => false

/-- ±0. -/
def Val.isZero : Val → Bool
  | .fin _ m _ => decide (m = 0) | _ => false

/-- The sign as IEEE 754 carries it. -/
def Val.sign : Val → Bool
  | .inf s => s | .fin s _ _ => s | _ => false

/-- Change of sign. -/
def Val.negate : Val → Val
  | .inf s => .inf (!s) | .fin s m e => .fin (!s) m e | v => v

/-- Magnitude. -/
def Val.abs : Val → Val
  | .inf _ => .inf false | .fin _ m e => .fin false m e | v => v

/-- floor (log2 |v|) of a finite non-zero value. -/
def Val.ilog2 : Val → Option Int
  | .fin _ m e => if m = 0 then none else some (Nat.log2 m + e)
  | _ => none

/-- Multiply by 2^k (02 R48: exact). -/
def Val.scale (k : Int) : Val → Val
  | .fin s m e => .fin s m (e + k)
  | v => v

/-- The integer value(v) / 2^k for a finite value, toward minus infinity, with whether it is exact. -/
def Val.units (k : Int) : Val → Int
  | .fin s m e =>
    let n : Int := (shiftNat m (e - k) : Int)
    if s then -n else n
  | _ => 0

/-- Decode an encoding (Tables 2-2, 2-3; 02 R36: which patterns are read as poison). -/
def decode (f : FFmt) (c : Nat) : Val :=
  let c := c % 2 ^ f.width
  let s := decide (2 ^ (f.width - 1) ≤ c)
  let a := c % 2 ^ (f.width - 1)
  if c = f.poisonCode && !f.isFp8 then .poison
  else if f = .e4m3 && a = 0x7F then .nan
  else if f ≠ .e4m3 && a = f.infCode then .inf s
  else if f ≠ .e4m3 && f.infCode < a then .nan
  else
    let x := a / 2 ^ f.mant
    let m := a % 2 ^ f.mant
    if x = 0 then .fin s m (1 - f.bias - f.mant)
    else .fin s (m + 2 ^ f.mant) ((x : Int) - f.bias - f.mant)

/-- Encoding of a magnitude rounded to nearest, ties to even, with no upper limit on the exponent (02 R72).
The magnitude lies in [n·2^e, (n+1)·2^e), above n·2^e where `sticky`. -/
def roundMag (f : FFmt) (n : Nat) (e : Int) (sticky : Bool) : Nat :=
  if n = 0 then 0 else
  let lead : Int := Nat.log2 n + e
  let top : Int := max lead (1 - f.bias)
  let q : Int := top - f.mant
  let sh : Int := q - e
  let r : Nat :=
    match sh with
    | .negSucc j => n * 2 ^ (j + 1)
    | .ofNat 0 => n
    | .ofNat (k + 1) =>
      let m := n / 2 ^ (k + 1)
      let rem := n % 2 ^ (k + 1)
      let half := 2 ^ k
      if half < rem || (rem = half && (sticky || m % 2 = 1)) then m + 1 else m
  (top + f.bias - 1).toNat * 2 ^ f.mant + r

/-- A signed encoding from a magnitude encoding. -/
def withSign (f : FFmt) (s : Bool) (c : Nat) : Nat := c + b2n s * 2 ^ (f.width - 1)

/-- Round a finite magnitude into a format by Table 2-4: the encoding, and whether SAT is set (02 R46). -/
def roundTo (f : FFmt) (s : Bool) (n : Nat) (e : Int) (sticky : Bool) : Nat × Bool :=
  let c := roundMag f n e sticky
  if c ≤ f.maxCode then (withSign f s c, false)
  else if f.isFp8 then (withSign f s f.maxCode, true)
  else (withSign f s f.infCode, false)

/-- Conversion of a decoded value into a format (Table 2-4; 02 R36, R45 to R47). -/
def convert (f : FFmt) : Val → Nat × Bool
  | .poison => (f.poisonCode, false)
  | .nan => (f.nanCode, false)
  | .inf s => (if f = .e4m3 then f.nanCode else withSign f s f.infCode, false)
  | .fin s m e => roundTo f s m e false

/-- Round to binary32 and decode the result again: one arithmetic rounding (05 R162). -/
def rnd (f : FFmt) (s : Bool) (n : Nat) (e : Int) (sticky : Bool) : Val :=
  decode f (roundTo f s n e sticky).1

/-- Round a value to a format, as a value. -/
def Val.round (f : FFmt) (v : Val) : Val := decode f (convert f v).1

/-- A dyadic integer times 2^e as a value; an exact zero takes the sign given. -/
def valOfInt (zeroNeg : Bool) (i : Int) (e : Int) : Val :=
  if i = 0 then .fin zeroNeg 0 0 else .fin (decide (i < 0)) i.natAbs e

/-- Exact sum of two finite values; an exact zero of unlike signs is +0, of two −0 is −0 (IEEE 754). -/
def Val.addFin (s1 : Bool) (m1 : Nat) (e1 : Int) (s2 : Bool) (m2 : Nat) (e2 : Int) : Val :=
  let e := min e1 e2
  let a : Int := (m1 * 2 ^ (e1 - e).toNat : Nat)
  let b : Int := (m2 * 2 ^ (e2 - e).toNat : Nat)
  valOfInt (s1 && s2) ((if s1 then -a else a) + (if s2 then -b else b)) e

/-- Exact sum with the special cases of IEEE 754 and poison dominance (02 R36, R37). -/
def Val.add : Val → Val → Val
  | .poison, _ => .poison
  | _, .poison => .poison
  | .nan, _ => .nan
  | _, .nan => .nan
  | .inf s, .inf t => if s = t then .inf s else .nan
  | .inf s, _ => .inf s
  | _, .inf t => .inf t
  | .fin s1 m1 e1, .fin s2 m2 e2 => Val.addFin s1 m1 e1 s2 m2 e2

/-- Exact product with the special cases of IEEE 754 and poison dominance. -/
def Val.mul : Val → Val → Val
  | .poison, _ => .poison
  | _, .poison => .poison
  | .nan, _ => .nan
  | _, .nan => .nan
  | .inf s, .inf t => .inf (s != t)
  | .inf s, .fin t m _ => if m = 0 then .nan else .inf (s != t)
  | .fin s m _, .inf t => if m = 0 then .nan else .inf (s != t)
  | .fin s1 m1 e1, .fin s2 m2 e2 => .fin (s1 != s2) (m1 * m2) (e1 + e2)

/-- Comparison key of two finite or infinite values: −1, 0, 1. -/
def Val.cmp (a b : Val) : Int :=
  match a, b with
  | .inf s, .inf t => if s = t then 0 else if s then -1 else 1
  | .inf s, _ => if s then -1 else 1
  | _, .inf t => if t then 1 else -1
  | .fin s1 m1 e1, .fin s2 m2 e2 =>
    match Val.addFin s1 m1 e1 (!s2) m2 e2 with
    | .fin s m _ => if m = 0 then 0 else if s then -1 else 1
    | _ => 0
  | _, _ => 0

/-- Fraction bits kept where a quotient, a root or a series is cut before its one rounding. -/
def fracBits : Nat := 320

/-- Correctly rounded quotient num / den of positive integers times 2^e (05 R163; 12 fixed functions). -/
def rndRatio (f : FFmt) (s : Bool) (num den : Nat) (e : Int) : Val :=
  if num = 0 then .fin s 0 0 else
  let n := num * 2 ^ (fracBits + Nat.log2 den)
  rnd f s (n / den) (e - (fracBits + Nat.log2 den : Nat)) (decide (n % den ≠ 0))

/-- Square root of m·2^e cut to `fracBits` bits below an even exponent: integer, exponent, inexactness. -/
def sqrtCut (m : Nat) (e : Int) : Nat × Int × Bool :=
  let e' : Int := if e % 2 = 0 then e else e - 1
  let m' : Nat := if e % 2 = 0 then m else m * 2
  let n := m' * 2 ^ (2 * fracBits)
  let r := isqrt n
  (r, e' / 2 - (fracBits : Nat), decide (r * r ≠ n))

/-- DIV (Table 5-4). -/
def Val.div (f : FFmt) : Val → Val → Val
  | .poison, _ => .poison
  | _, .poison => .poison
  | .nan, _ => .nan
  | _, .nan => .nan
  | .inf _, .inf _ => .nan
  | .inf s, .fin t _ _ => .inf (s != t)
  | .fin s _ _, .inf t => .fin (s != t) 0 0
  | .fin s m1 e1, .fin t m2 e2 =>
    if m2 = 0 then (if m1 = 0 then .nan else .inf (s != t))
    else rndRatio f (s != t) m1 m2 (e1 - e2)

/-- SQRT (Table 5-4). -/
def Val.sqrt (f : FFmt) : Val → Val
  | .poison => .poison
  | .nan => .nan
  | .inf s => if s then .nan else .inf false
  | .fin s m e =>
    if m = 0 then .fin s 0 0
    else if s then .nan
    else
      let r := sqrtCut m e
      rnd f false r.1 r.2.1 r.2.2

/-- RCP (Table 5-4). -/
def Val.rcp (f : FFmt) : Val → Val
  | .poison => .poison
  | .nan => .nan
  | .inf s => .fin s 0 0
  | .fin s m e => if m = 0 then .inf s else rndRatio f s 1 m (-e)

/-- RSQRT (Table 5-4): floor (sqrt (floor y)) = floor (sqrt y), and the result is exact for even powers of two only. -/
def Val.rsqrt (f : FFmt) : Val → Val
  | .poison => .poison
  | .nan => .nan
  | .inf s => if s then .nan else .zero
  | .fin s m e =>
    if m = 0 then .inf s
    else if s then .nan
    else
      let e' : Int := if e % 2 = 0 then e else e - 1
      let m' : Nat := if e % 2 = 0 then m else m * 2
      let k := 2 * (fracBits + Nat.log2 m')
      let r := isqrt (2 ^ k / m')
      rnd f false r (-(e' / 2) - (k / 2 : Nat)) (decide (r * r * m' ≠ 2 ^ k))

end Sys2Proof.Machine
end

