-- ==== Sys2Proof/Machine/Xa.lean ====
section
/-! DEFINITION. The XA128 accumulator word, its status record, addition and export (02 R50 to R67). -/

namespace Sys2Proof.Machine

/-- What an XA128 word stands for (Table 2-5): an integer number of units, or a special kind. -/
inductive XaVal where
  | fin (i : Int)
  | posInf
  | negInf
  | nan
  | poison
  deriving DecidableEq, Repr

/-- Largest finite word (Table 2-5). -/
def boundHi : Int := 2 ^ 127 - 1

/-- Most negative finite word (Table 2-5). -/
def boundLo : Int := -(2 ^ 127 - 4)

/-- Reading of a 128-bit word (Table 2-5). -/
def xaOfWord (w : Nat) : XaVal :=
  let w := w % 2 ^ 128
  if w = 2 ^ 127 then .nan
  else if w = 2 ^ 127 + 1 then .posInf
  else if w = 2 ^ 127 + 2 then .negInf
  else if w = 2 ^ 127 + 3 then .poison
  else .fin (toSigned 128 w)

/-- Encoding as a 128-bit word (Table 2-5). -/
def wordOfXa : XaVal → Nat
  | .nan => 2 ^ 127
  | .posInf => 2 ^ 127 + 1
  | .negInf => 2 ^ 127 + 2
  | .poison => 2 ^ 127 + 3
  | .fin i => ofSigned 128 i

/-- Special-state merge (Table 2-7), the second argument special. -/
def xaMerge : XaVal → XaVal → XaVal
  | .poison, _ => .poison
  | _, .poison => .poison
  | .nan, _ => .nan
  | _, .nan => .nan
  | .posInf, .negInf => .nan
  | .negInf, .posInf => .nan
  | _, .posInf => .posInf
  | _, .negInf => .negInf
  | k, .fin _ => k

/-- The status record of an accumulation target (Table 2-8). -/
structure XaStat where
  anchor : Int
  satf : Bool
  nanf : Bool
  inff : Bool
  poisonf : Bool
  empty : Bool
  infp : Bool
  infn : Bool
  wspill : Nat
  deriving DecidableEq, Repr

/-- The status of a target as a START leaves it (02 R61). -/
def XaStat.start (a : Int) : XaStat := ⟨a, false, false, false, false, true, false, false, 0⟩

/-- Table 2-8 as 64 bits. -/
def XaStat.toNat (s : XaStat) : Nat :=
  ofSigned 16 s.anchor + b2n s.satf * 2 ^ 16 + b2n s.nanf * 2 ^ 17 + b2n s.inff * 2 ^ 18
    + b2n s.poisonf * 2 ^ 19 + b2n s.empty * 2 ^ 20 + b2n s.infp * 2 ^ 21 + b2n s.infn * 2 ^ 22
    + (s.wspill % 2 ^ 32) * 2 ^ 32

/-- Table 2-8 read back. -/
def XaStat.ofNat (w : Nat) : XaStat :=
  ⟨toSigned 16 (bits 15 0 w), bit 16 w, bit 17 w, bit 18 w, bit 19 w, bit 20 w, bit 21 w, bit 22 w, bits 63 32 w⟩

/-- WSPILL saturates at 0xFFFF_FFFF (02 R56). -/
def XaStat.spill (n : Nat) (s : XaStat) : XaStat := { s with wspill := min (s.wspill + n) 0xFFFFFFFF }

/-- Flags of a special term (02 R56). -/
def XaStat.special (k : XaVal) (s : XaStat) : XaStat :=
  let s := match k with
    | .posInf => { s with inff := true, infp := true }
    | .negInf => { s with inff := true, infn := true }
    | .nan => { s with nanf := true }
    | .poison => { s with poisonf := true }
    | .fin _ => s
  { s with nanf := s.nanf || (s.infp && s.infn) }

/-- Round m·2^e to an integer number of units 2^u, ties to even: the integer and whether it is exact (02 R56). -/
def roundUnits (neg : Bool) (m : Nat) (e u : Int) : Int × Bool :=
  let sgn (n : Nat) : Int := if neg then -(n : Int) else (n : Int)
  match e - u with
  | .ofNat k => (sgn (m * 2 ^ k), true)
  | .negSucc k =>
    let d := 2 ^ (k + 1)
    let q := m / d
    let r := m % d
    (sgn (if 2 ^ k < r || (r = 2 ^ k && q % 2 = 1) then q + 1 else q), decide (r = 0))

/-- Add n units to a finite word with the saturation of R56. -/
def xaAddUnits (n : Int) (w : XaVal) (s : XaStat) : XaVal × XaStat :=
  match w with
  | .fin i =>
    let m := i + n
    if boundHi < m then (.fin boundHi, { s with satf := true })
    else if m < boundLo then (.fin boundLo, { s with satf := true })
    else (.fin m, s)
  | k => (k, s)

/-- The special kind of a value, if it has one. -/
def Val.kind? : Val → Option XaVal
  | .poison => some .poison
  | .nan => some .nan
  | .inf s => some (if s then .negInf else .posInf)
  | .fin _ _ _ => none

/-- `add_term` for a value (02 R56). -/
def addTerm (v : Val) (w : XaVal) (s : XaStat) : XaVal × XaStat :=
  let s := { s with empty := false }
  match v with
  | .fin neg m e =>
    let r := roundUnits neg m e (s.anchor - 103)
    xaAddUnits r.1 w (if r.2 then s else s.spill 1)
  | v =>
    match v.kind? with
    | some k => (xaMerge w k, s.special k)
    | none => (w, s)

/-- The sticky flags of a source record ORed in, its WSPILL added (02 R58). -/
def XaStat.absorb (src s : XaStat) : XaStat :=
  let s := { s with satf := s.satf || src.satf, nanf := s.nanf || src.nanf, inff := s.inff || src.inff,
                    infp := s.infp || src.infp, infn := s.infn || src.infn, poisonf := s.poisonf || src.poisonf }
  { s with nanf := s.nanf || (s.infp && s.infn) }.spill src.wspill

/-- `add_term` for an XA128 word under its own anchor, flags apart (02 R56). -/
def addXaTerm (t : XaVal) (aSrc : Int) (w : XaVal) (s : XaStat) : XaVal × XaStat :=
  match t with
  | .fin i => addTerm (.fin (decide (i < 0)) i.natAbs (aSrc - 103)) w s
  | k =>
    let s := { s with empty := false }
    (xaMerge w k, s.special k)

/-- The value a word stands for under an anchor. -/
def xaValue (a : Int) : XaVal → Val
  | .fin i => valOfInt false i (a - 103)
  | .posInf => .inf false
  | .negInf => .inf true
  | .nan => .nan
  | .poison => .poison

/-- export_b32 (02 R64). -/
def exportB32 (a : Int) (w : XaVal) : Nat := (convert .b32 (xaValue a w)).1

/-- The remainder a − b of two finite values, rounded to binary32. -/
def remainderB32 (a b : Val) : Nat := (convert .b32 (a.add b.negate)).1

/-- The pair of R64 from an exact value. -/
def pairOf (v : Val) : Nat × Nat :=
  let hi := (convert .b32 v).1
  match v, decode .b32 hi with
  | .fin _ _ _, .fin s m e => (hi, remainderB32 v (.fin s m e))
  | _, _ => (hi, 0)

/-- export_pair (02 R64): a −0 remainder cannot arise, since an exact zero is +0. -/
def exportPair (a : Int) (w : XaVal) : Nat × Nat := pairOf (xaValue a w)

end Sys2Proof.Machine
end

