-- ==== Sys2Proof/Machine/StateCore.lean ====
section
/-! DEFINITION. The parts of the state that the compute half of the module holds: queues, engines, accumulators,
memory requests and cache tags (chapters 02 to 07). -/

namespace Sys2Proof.Machine

/-- STATE of a queue (Table 6-2). -/
inductive QState where
  | idle | load | run | halt | fault | done
  deriving DecidableEq, Repr

/-- A tensor descriptor (Table 6-8). -/
structure Desc where
  base : Int
  fmt : Nat
  watchEn : Bool
  hint : Nat
  guard : Nat
  ext : List Nat
  stride : List Int
  scaleH : Nat
  watchId : Nat
  layout : Nat
  guardSnap : Nat
  deriving DecidableEq, Repr

/-- An operand as an instruction latched it (06 R206): descriptor, per-tensor scale exponent, scale plane, and
whether its guarded use failed (07 R265). -/
structure Held where
  handle : Nat
  d : Desc
  scaleX : Int
  plane : Option Desc
  stale : Bool
  deriving DecidableEq, Repr

/-- A loop nest as latched (Table 6-12): trip counts of its levels, and increments by level and position. -/
structure Nest where
  trips : List Nat
  incs : List (List Int)
  deriving DecidableEq, Repr

/-- An instruction between its latch and its completion. -/
structure Flight where
  word : Nat
  pc : Nat
  sc1 : Nat
  sc2 : Nat
  ops : List Held
  nest : Nest
  /-- executions already begun -/
  begun : Nat
  total : Nat
  /-- nothing to do but to signal (04 R142) -/
  null : Bool
  /-- an execution of it has run and not completed -/
  running : Bool
  /-- tile-register-file regions it has claimed (06 R216) -/
  owned : List Nat
  /-- regions whose claim failed, each with the engine that owned it then (06 R218, Table 6-15) -/
  denied : List (Nat × Nat)
  /-- anchor-base register it has claimed -/
  ownedAbr : Option Nat
  /-- guard regions whose WACTIVE it raised (07 R263) -/
  guards : List Nat
  /-- generation of the watch's OPEN bank it latched (03 R89) -/
  gen : Nat
  /-- latched scalars of its engine -/
  args : List Nat
  /-- Span cycles of the running execution (Table 4-8), or groups of a Deck execution -/
  cycles : Nat
  /-- WAIT_TIMEOUT is recorded for an internal wait of it (09 R317, Table 12-7) -/
  timedOut : Bool
  /-- additions to UNSIGNED32 words of the fast tier made at its completion (09 R333): physical address, amount -/
  adds : List (Nat × Nat)
  /-- what it has counted once already (09 R318) -/
  seen : List Nat
  deriving DecidableEq, Repr

/-- A bank of the numeric watch that waits to close (03 R90): its generation, the envelopes of its step that govern it (01 R29:
SILENT_THRESHOLD, SILENT_STEPS, SPILL_THRESHOLD, HIST_BASE, HIST_WIDTH), and the epoch and attempt that its step committed as. -/
structure WatchClose where
  gen : Nat
  limits : List Nat
  epoch : Nat
  attempt : Nat
  deriving DecidableEq, Repr

/-- A queue: its control block (Table 6-2), its instruction buffer and its instructions in flight. -/
structure Queue where
  qbase : Nat
  qlen : Nat
  passLimit : Nat
  mul1 : Nat
  mul2 : Nat
  st : QState
  /-- RESET was applied and instructions are still in flight (Table 6-3) -/
  draining : Bool
  /-- the last instruction of the last pass has latched -/
  ended : Bool
  pc : Nat
  sc1 : Nat
  sc2 : Nat
  /-- WAIT_TIMEOUT is recorded for the instruction at the head (Table 6-14) -/
  timedOut : Bool
  /-- the window has still to be copied into the buffer (06 R188) -/
  loading : Bool
  /-- the word at the head as its fetch found it, of a queue without a buffer (06 R188, R189) -/
  head : Option Nat
  /-- the wait of the instruction at the head has been met (06 R194) -/
  met : Bool
  /-- the on-chip buffer of a Span or Deck queue (06 R188) -/
  buf : Tab Nat
  flights : List Flight
  deriving DecidableEq, Repr

/-- A control block after reset (06 R187). -/
def Queue.zero : Queue := ⟨0, 0, 0, 0, 0, .idle, false, false, 0, 0, 0, false, false, none, false, [], []⟩

/-- State of one Span or Deck (Table 4-9); the deeper states belong to the cluster. -/
inductive EngState where
  | run | gated | waking
  deriving DecidableEq, Repr

/-- An accumulator slot (04 R120): words, status record, recorded shape, WSPILL already reported (04 R124). -/
structure Slot where
  words : Tab Nat
  stat : XaStat
  shape : Nat
  reported : Nat
  deriving DecidableEq, Repr

/-- A slot as after a START with anchor 0 (Table 4-9). -/
def Slot.zero : Slot := ⟨[], .start 0, 0, 0⟩

/-- An exact sum of the Deck (05 R168, R169): units of 2^−298, special kind, all terms −0 so far, term count. -/
structure ExSum where
  sum : Int
  kind : XaVal
  allNegZero : Bool
  cnt : Nat
  deriving DecidableEq, Repr

/-- A cleared exact sum. -/
def ExSum.zero : ExSum := ⟨0, .fin 0, true, 0⟩

/-- One Span/Deck pair. -/
structure Pair where
  spanSt : EngState
  deckSt : EngState
  spanWarm : Bool
  deckWarm : Bool
  slots : Tab Slot
  abr : Tab Int
  abrOwn : Nat
  cr : Tab Nat
  ds : Tab Nat
  preds : Tab Nat
  vlr : Nat
  ea : Tab ExSum
  dstat : Nat
  deriving DecidableEq, Repr

/-- A pair as after a restore (17 R574, 05 R182, Table 4-9), with the VLR given. -/
def Pair.restored (vlmax : Nat) : Pair := ⟨.gated, .gated, false, false, [], [], 0, [], [], [], vlmax, [], 0⟩

/-- A Girder line's tag (07 R242, R244): the granule, dirty, pinned, age; and what SEC-DED finds in it: 0 nothing, 1 a
single-bit error, 2 an uncorrectable one (07 R272). -/
structure Line where
  granule : Nat
  dirty : Bool
  pinned : Bool
  age : Nat
  flaw : Nat
  deriving DecidableEq, Repr

/-- Who makes an access: its Pier, its source as 07 R241 lists them (0 to 15 copy engines, 16 the Trestle, 17 the Ilben link
end, 18 the host attachment, 19 the Causeway end, 20 the router attachment, 21 instruction fetch), the ORIGIN of its traffic
(08 Table 8-2), and the instruction it belongs to, 0 for none. -/
structure Asker where
  pier : Nat
  source : Nat
  origin : Nat
  ident : Nat
  deriving DecidableEq, Repr

/-- Where a granule request stands (07 R239, R240): not issued yet, held at its source, or admitted to its bank. -/
inductive ReqStage where
  | waiting | held | admitted
  deriving DecidableEq, Repr

/-- A fast-tier request not yet served (07 R238 to R241): its bank and granule, the source that issues it here, who asks,
and whether it fills a Girder line (07 R248). -/
structure MemReq where
  bank : Nat
  granule : Nat
  source : Nat
  who : Asker
  fill : Bool
  stage : ReqStage
  deriving DecidableEq, Repr

/-- The symbols in error that the two codewords of a granule hold, and whether the cells themselves fail (07 R267; of a
slow-tier granule, its two halves likewise, 12 R418). -/
structure CellErr where
  low : List Nat
  high : List Nat
  hard : Bool
  deriving DecidableEq, Repr

/-- Errors that have arisen since the last patrol pass: in granules of a Pier's fast tier and of the slow tier, by granule number;
in Girder lines of the Pier, by line, as `Line.flaw` numbers them; in 32-byte blocks of the reduce buffer. -/
structure FreshErrors where
  fast : List (Nat × CellErr)
  slow : List (Nat × CellErr)
  lines : List (Nat × Nat)
  buffer : List Nat
  deriving DecidableEq, Repr

/-- Cycles of an arbiter instance since the last row of it, and the beats that its owner moved in them (08 R274, R293). -/
structure Elapsed where
  cycles : Nat
  beats : Nat
  deriving DecidableEq, Repr

/-- Who presents a request at an instance: its ORIGIN (08 Table 8-2) and the input it comes by (08 R277). -/
structure Requester where
  origin : Nat
  input : Nat
  deriving DecidableEq, Repr

/-- A granule without an error. -/
def CellErr.none : CellErr := ⟨[], [], false⟩

end Sys2Proof.Machine
end

