-- ==== Sys2Proof/Machine/StateNet.lean ====
section
/-! DEFINITION. The parts of the state that the exchange half of the module holds: live batches, packets, outstanding
requests, ports (chapters 09, 10, 14). -/

namespace Sys2Proof.Machine

/-- STATE of a live-batch entry (Table 9-11). -/
inductive LiveState where
  | free | live | quiet
  deriving DecidableEq, Repr

/-- A live-batch entry (09 R319, 10 R342). -/
structure LiveEntry where
  st : LiveState
  gen : Nat
  hc : Desc
  hr : Desc
  hg : Desc
  /-- K of the layer of its ROUTE or GSEND -/
  k : Nat
  expected : Nat
  arrived : Nat
  routed : Bool
  /-- its ROUTE or GSEND has completed -/
  sent : Bool
  backward : Bool
  /-- CEXPORT has exported and waits for the GGRAD before it to free the entry (10 R354) -/
  freeing : Bool
  deriving DecidableEq, Repr

/-- The zero descriptor. -/
def Desc.zero : Desc := ⟨0, 0, false, 0, 0, [0, 0, 0, 0, 0], [0, 0, 0, 0], 0, 0, 0, 0⟩

/-- A free entry. -/
def LiveEntry.zero : LiveEntry := ⟨.free, 0, Desc.zero, Desc.zero, Desc.zero, 0, 0, 0, false, false, false, false⟩

/-- A fabric packet: its 32-byte header as a number (Table 14-5), and its body. -/
structure Packet where
  hdr : Nat
  body : List Byte
  deriving DecidableEq, Repr

/-- What an outstanding request carries (Tables 14-6, 11-6, 15-5). -/
inductive ReqKind where
  | row | arrival | answer | reduce | mapData | mapSignal
  deriving DecidableEq, Repr

/-- A request packet sent and not yet answered (14 R496). -/
structure Req where
  tag : Nat
  kind : ReqKind
  /-- identity of the instruction it belongs to -/
  ident : Nat
  /-- slot group of a scattered row; operand of the retry rules otherwise -/
  group : Nat
  pkt : Packet
  /-- NOT_READY was answered and RETRY_DELAY has not elapsed -/
  retry : Bool
  deriving DecidableEq, Repr

/-- An arrival record that waits for the rows of its slot (09 R316): instruction, group, packet. -/
structure After where
  ident : Nat
  group : Nat
  pkt : Packet
  deriving DecidableEq, Repr

/-- LINK_STATE (14 R507). -/
inductive LinkState where
  | disabled | down | training | active | selftest | failed
  deriving DecidableEq, Repr

/-- A codeword as kept for replay (14 R492): its number, its header, its 320 data bytes. -/
structure Codeword where
  num : Nat
  header : Nat
  data : List Byte
  deriving DecidableEq, Repr

/-- A data slot that waits for transmission: its VC, whether it is its packet's first, the slots of the packet after
it, its 64 bytes. -/
structure TxSlot where
  vc : Nat
  first : Bool
  left : Nat
  data : List Byte
  deriving DecidableEq, Repr

/-- What TRAIN words exchange at VERIFY (Table 14-9): fabric identity base, topology, dimensions, coordinates, port. -/
structure Train where
  base : Nat
  topology : Nat
  dims : Nat × Nat × Nat
  at' : Nat × Nat × Nat
  port : Nat
  deriving DecidableEq, Repr

/-- A port (14 R489 to R494, R507). -/
structure Port where
  st : LinkState
  cause : Nat
  peer : Nat
  /-- training steps passed (Table 14-9) -/
  step : Nat
  /-- FOREIGN or MISWIRED: no further training until RETRAIN -/
  barred : Bool
  /-- number of the next codeword sent -/
  txNext : Nat
  /-- data slots that wait for a credit or for room in the replay buffer -/
  txWait : List TxSlot
  /-- control words that wait (Table 14-4) -/
  txCtl : List Nat
  /-- credits spent of each VC -/
  spent : Tab Nat
  replay : List Codeword
  /-- number of the next codeword expected -/
  rxNext : Nat
  /-- a NAK is out: codewords are discarded until the replayed one -/
  discarding : Bool
  /-- replays of the codeword last named by a NAK -/
  nakOf : Nat
  nakCount : Nat
  /-- good codewords since the last ACK -/
  sinceAck : Nat
  /-- bytes of the packet in progress on each VC, as (VC, bytes) -/
  partials : List (Nat × List Byte)
  /-- whole packets that wait for PACKET_FORWARD, with the VC each came on -/
  arrived : List (Nat × Packet)
  deriving DecidableEq, Repr

/-- A port in a state, with nothing in progress. -/
def Port.fresh (st : LinkState) (cause : Nat) : Port :=
  ⟨st, cause, 0xFFFF, 0, false, 0, [], [], [], [], 0, false, 0, 0, 0, [], []⟩

/-- A port after a cold reset: DOWN. -/
def Port.zero : Port := Port.fresh .down 0

/-- A REDUCE in flight: its bucket is OPEN (11 R385 to R395). Stages are numbered from 1. -/
structure Red where
  bucket : Nat
  queue : Nat
  ident : Nat
  /-- bytes 0 to 63 of the entry as latched -/
  raw : Nat
  hs : Held
  hd : Held
  pc : Nat
  gen : Nat
  tag : Nat
  att : Nat
  /-- packets applied of a contribution: RET × 4,096 + stage × 64 + position -/
  got : Tab Nat
  /-- contributions complete, by the same keys -/
  done : List Nat
  /-- VISITS summed by stage -/
  visits : Tab Nat
  /-- stages whose shard is complete and acted on -/
  stageDone : List Nat
  /-- result elements held, by stage -/
  ret : Tab Nat
  retDone : List Nat
  /-- status record of each final tile, as first learned -/
  tiles : Tab (Option Nat)
  v : Nat
  /-- every element of HD is written -/
  full : Bool
  rejected : Bool
  /-- final values as exported here or received, by flat index (11 R393, R394) -/
  vals : Tab Nat
  /-- its instruction ended in an engine reset: the bucket stays OPEN and takes terms, and nothing is sent or written
  (17 R589, Table 11-9) -/
  ended : Bool
  deriving DecidableEq, Repr

/-- An LFENCE in flight: Pier, queue, identity, new layout. -/
structure Fence where
  pier : Nat
  queue : Nat
  ident : Nat
  layout : Nat
  deriving DecidableEq, Repr

/-- The router and the outstanding requests of the module. -/
structure Fab where
  nextTag : Nat
  reqs : List Req
  after : List After
  ports : Tab Port
  /-- packets held for a TRAINING port (14 R502) -/
  held : List (Nat × Packet)
  /-- packets at the ejection of this module, CRC not yet checked, with the port each came by, 6 for its own -/
  eject : List (Nat × Packet)
  /-- packets handed to Pier 0, Pier 1 and the reduce contexts, oldest first -/
  inbox0 : List Packet
  inbox1 : List Packet
  inboxR : List Packet
  /-- LFENCEs in flight, in the order of their latches (11 R405) -/
  fences : List Fence
  /-- blocks of 32 bytes of the reduce buffer that hold an uncorrectable error (14 R506) -/
  bufBad : List Nat
  deriving DecidableEq, Repr

/-- An idle router. -/
def Fab.zero : Fab := ⟨0, [], [], [], [], [], [], [], [], [], []⟩

/-- Where a packet stays when RESIDENCE_LIMIT takes it (14 R502). -/
inductive Resides where
  /-- in the input buffer of the port -/
  | input
  /-- held for the port, which trains -/
  | training
  /-- waiting to leave by the port on a VC, whole or in part -/
  | output (vc : Nat)
  /-- waiting for delivery to this module -/
  | ejection
  deriving DecidableEq, Repr

/-- A limit of Table 14-8 is reached: replays of one codeword here, or, as the receiver measured over a second,
uncorrectable codewords or a lane's symbol error ratio. -/
inductive LinkLimit where
  | replays
  | uncorrectable (codewords : Nat)
  /-- symbol errors in 10^9 symbols of a lane -/
  | ratio (errors : Nat)
  deriving DecidableEq, Repr

end Sys2Proof.Machine
end

