-- ==== Sys2Proof/Syntax.lean ====
section
/-! DEFINITION. The commands of the block: one constructor for each row of the command table.

Operands, by name: `p` Pier; `i` Span/Deck pair, or an index of its row; `q` queue number of Table 6-1; `e` copy engine, or
the engine code of RESET_CONTROL; `k` place of an instruction among those in flight of its queue, oldest first; `port` fabric
port; `tr` transport, 0 CAN FD and 1 mailbox (for SPDM, 0 management port and 1 DOE); `idx`, `sub` dictionary index and
subindex. Commands with operands stand first: the compiler's tags for constructors with fields end at 243. A row of an
instruction stands for the moment in which the head of its queue latches, the instruction word being the one in
the queue's program. -/

namespace Sys2Proof

open Sys2Proof.Machine in
/-- The commands. -/
inductive Instr where
  /-- DICTIONARY_WRITE (R14) -/
  | dictionaryWrite (tr idx sub : Nat) (data : List Byte)
  /-- WATCH_BANK_CLOSE (R90) -/
  | watchBankClose (p : Nat)
  /-- RING_TAIL_WRITE (R109) -/
  | ringTailWrite (n p t : Nat)
  /-- MMA (R115) -/
  | mma (p i : Nat)
  /-- MMA_S (R122) -/
  | mmaS (p i : Nat)
  /-- MMA_E (R115) -/
  | mmaE (p i : Nat)
  /-- MMA_SE (R122) -/
  | mmaSe (p i : Nat)
  /-- XPORT (R124) -/
  | xport (p i : Nat)
  /-- ASTAT (R134) -/
  | astat (p i : Nat)
  /-- SNOP (R142) -/
  | snop (p i : Nat)
  /-- SPAN_EXECUTION_COMPLETE (R138) -/
  | spanExecutionComplete (p i : Nat)
  /-- WAKE_COMPLETE (R143) -/
  | wakeComplete (p i : Nat) (deck : Bool)
  /-- DNOP (R151) -/
  | dnop (p i : Nat)
  /-- ADD (R162) -/
  | add (p i : Nat)
  /-- SUB (R162) -/
  | sub (p i : Nat)
  /-- MUL (R162) -/
  | mul (p i : Nat)
  /-- FMA (R162) -/
  | fma (p i : Nat)
  /-- DIV (R163) -/
  | div (p i : Nat)
  /-- MIN (R164) -/
  | min (p i : Nat)
  /-- MAX (R164) -/
  | max (p i : Nat)
  /-- ABS (R161) -/
  | abs (p i : Nat)
  /-- NEG (R161) -/
  | neg (p i : Nat)
  /-- SQRT (R163) -/
  | sqrt (p i : Nat)
  /-- RSQRT (R163) -/
  | rsqrt (p i : Nat)
  /-- RCP (R163) -/
  | rcp (p i : Nat)
  /-- EXP (R163) -/
  | exp (p i : Nat)
  /-- LOG (R163) -/
  | log (p i : Nat)
  /-- TANH (R163) -/
  | tanh (p i : Nat)
  /-- SIGM (R163) -/
  | sigm (p i : Nat)
  /-- MOV (R161) -/
  | mov (p i : Nat)
  /-- BCAST (R165) -/
  | bcast (p i : Nat)
  /-- CMPLT (R164) -/
  | cmplt (p i : Nat)
  /-- CMPLE (R164) -/
  | cmple (p i : Nat)
  /-- CMPEQ (R164) -/
  | cmpeq (p i : Nat)
  /-- CMPNE (R164) -/
  | cmpne (p i : Nat)
  /-- IADD (R164) -/
  | iadd (p i : Nat)
  /-- IMIN (R164) -/
  | imin (p i : Nat)
  /-- IMAX (R164) -/
  | imax (p i : Nat)
  /-- SCANSUM (R166) -/
  | scansum (p i : Nat)
  /-- SCANSUMX (R166) -/
  | scansumx (p i : Nat)
  /-- SCANMAX (R166) -/
  | scanmax (p i : Nat)
  /-- SCANMIN (R166) -/
  | scanmin (p i : Nat)
  /-- ISCAN (R166) -/
  | iscan (p i : Nat)
  /-- ISCANX (R166) -/
  | iscanx (p i : Nat)
  /-- RSUM (R167) -/
  | rsum (p i : Nat)
  /-- RPROD (R167) -/
  | rprod (p i : Nat)
  /-- RMAX (R167) -/
  | rmax (p i : Nat)
  /-- RMIN (R167) -/
  | rmin (p i : Nat)
  /-- RARGMAX (R167) -/
  | rargmax (p i : Nat)
  /-- RARGMIN (R167) -/
  | rargmin (p i : Nat)
  /-- RCOUNT (R167) -/
  | rcount (p i : Nat)
  /-- RNORM (R167) -/
  | rnorm (p i : Nat)
  /-- RMEAN (R167) -/
  | rmean (p i : Nat)
  /-- RSSQ (R167) -/
  | rssq (p i : Nat)
  /-- IRSUM (R167) -/
  | irsum (p i : Nat)
  /-- RABR (R177) -/
  | rabr (p i : Nat)
  /-- EASUM (R169) -/
  | easum (p i : Nat)
  /-- EASSQ (R169) -/
  | eassq (p i : Nat)
  /-- EAOUT (R169) -/
  | eaout (p i : Nat)
  /-- EANORM (R169) -/
  | eanorm (p i : Nat)
  /-- EAMEAN (R169) -/
  | eamean (p i : Nat)
  /-- EACLR (R169) -/
  | eaclr (p i : Nat)
  /-- BADD (R162) -/
  | badd (p i : Nat)
  /-- BSUB (R162) -/
  | bsub (p i : Nat)
  /-- BMUL (R162) -/
  | bmul (p i : Nat)
  /-- BFMA (R162) -/
  | bfma (p i : Nat)
  /-- BMIN (R164) -/
  | bmin (p i : Nat)
  /-- BMAX (R164) -/
  | bmax (p i : Nat)
  /-- SETS (R156) -/
  | sets (p i : Nat)
  /-- LDS (R152) -/
  | lds (p i : Nat)
  /-- SETVL (R153) -/
  | setvl (p i : Nat)
  /-- DSTAT (R170) -/
  | dstat (p i : Nat)
  /-- DECK_EXECUTION_COMPLETE (R174) -/
  | deckExecutionComplete (p i k : Nat)
  /-- QUEUE_START (R190) -/
  | queueStart (p q : Nat)
  /-- QUEUE_HALT (R190) -/
  | queueHalt (p q : Nat)
  /-- QUEUE_RESUME (R656) -/
  | queueResume (p q : Nat)
  /-- QUEUE_RESET (R190) -/
  | queueReset (p q : Nat)
  /-- WINDOW_LOADED (R188) -/
  | windowLoaded (p q : Nat)
  /-- QUEUE_DONE (R190) -/
  | queueDone (p q : Nat)
  /-- QUEUE_DRAINED (R190) -/
  | queueDrained (p q : Nat)
  /-- WAIT_TIMEOUT (R224) -/
  | waitTimeout (p q k : Nat)
  /-- FLAG_MIRROR_UPDATE (R197) -/
  | flagMirrorUpdate (p : Nat)
  /-- BANK_REFRESH (R231) -/
  | bankRefresh (p bank : Nat) (on : Bool)
  /-- REQUEST_ADMIT (R239) -/
  | requestAdmit (p bank served : Nat)
  /-- SCRUB_PASS (R268) -/
  | scrubPass (p : Nat) (fresh : FreshErrors) (hours : Nat)
  /-- UNPIN (R249) -/
  | unpin (p : Nat)
  /-- WRITE_BACK_INVALIDATE (R249) -/
  | writeBackInvalidate (p : Nat)
  /-- CNOP (R255) -/
  | cnop (p e : Nat)
  /-- COPY (R256) -/
  | copy (p e : Nat)
  /-- GATHER (R257) -/
  | gather (p e : Nat)
  /-- SCATTER (R257) -/
  | scatter (p e : Nat)
  /-- FILL (R255) -/
  | fill (p e : Nat)
  /-- COPY_COMPLETE (R260) -/
  | copyComplete (p e : Nat)
  /-- GUARD_BASE_WRITE (R262) -/
  | guardBaseWrite (r v : Nat)
  /-- GUARD_SIZE_WRITE (R262) -/
  | guardSizeWrite (r v : Nat)
  /-- ARBITER_REQUEST (R277) -/
  | arbiterRequest (c n : Nat) (past : Elapsed) (who : Requester) (len : Nat)
  /-- ARBITER_GRANT (R278) -/
  | arbiterGrant (c n cycles beats : Nat)
  /-- GRANT_END (R280) -/
  | grantEnd (c n cycles beats : Nat)
  /-- CUTOFF (R291) -/
  | cutoff (c n cycles beats : Nat)
  /-- QUOTA_WINDOW_END (R285) -/
  | quotaWindowEnd (c n : Nat)
  /-- ADAPT_CLASS (R287) -/
  | adaptClass (c : Nat)
  /-- PRIORITY_WRITE (R283) -/
  | priorityWrite (o v : Nat)
  /-- TNOP (R300) -/
  | tnop (p : Nat)
  /-- GOPEN (R319) -/
  | gopen (p : Nat)
  /-- GCANCEL (R319) -/
  | gcancel (p : Nat)
  /-- ROUTE (R311) -/
  | route (p : Nat)
  /-- ROUTE_COMPLETE (R316) -/
  | routeComplete (p k : Nat)
  /-- INBOX (R317) -/
  | inbox (p : Nat)
  /-- INBOX_ARRIVALS_COMPLETE (R317) -/
  | inboxArrivalsComplete (p k : Nat)
  /-- ANSWER (R326) -/
  | answer (p : Nat)
  /-- CEXPORT (R329) -/
  | cexport (p : Nat)
  /-- CEXPORT_READY (R329) -/
  | cexportReady (p k : Nat)
  /-- GEN_QUIET_EXPIRY (R319) -/
  | genQuietExpiry (p i : Nat)
  /-- ANSWER_PACKET (R499) -/
  | answerPacket (p : Nat)
  /-- GSEND (R343) -/
  | gsend (p : Nat)
  /-- GSEND_COMPLETE (R345) -/
  | gsendComplete (p k : Nat)
  /-- GINBOX (R348) -/
  | ginbox (p : Nat)
  /-- GINBOX_ARRIVALS_COMPLETE (R348) -/
  | ginboxArrivalsComplete (p k : Nat)
  /-- GANSWER (R351) -/
  | ganswer (p : Nat)
  /-- GGRAD (R353) -/
  | ggrad (p : Nat)
  /-- GGRAD_READY (R353) -/
  | ggradReady (p k : Nat)
  /-- WGSTART (R356) -/
  | wgstart (p : Nat)
  /-- REDUCE (R385) -/
  | reduce (p e : Nat)
  /-- LACC (R383) -/
  | lacc (p e : Nat)
  /-- LFENCE (R405) -/
  | lfence (p e : Nat)
  /-- REDUCE_PACKET (R388) -/
  | reducePacket (p : Nat) (priv : Bool)
  /-- REDUCE_COMPLETE (R395) -/
  | reduceComplete (p b : Nat)
  /-- RESPONSE (R496) -/
  | response (p : Nat)
  /-- REDUCE_RETRY (R389) -/
  | reduceRetry (tag : Nat)
  /-- RELEASE_BUCKET (R407) -/
  | releaseBucket (p b : Nat)
  /-- RELEASE_ALL_BUCKETS (R407) -/
  | releaseAllBuckets (p : Nat)
  /-- CUR_LAYOUT_WRITE (R528) -/
  | curLayoutWrite (v : Nat)
  /-- INOP (R426) -/
  | inop (p : Nat)
  /-- UOPEN (R428) -/
  | uopen (p : Nat)
  /-- PASS1 (R432) -/
  | pass1 (p : Nat)
  /-- NEXPORT (R433) -/
  | nexport (p : Nat)
  /-- NORMS (R434) -/
  | norms (p : Nat)
  /-- PASS2 (R436) -/
  | pass2 (p : Nat)
  /-- WCOPY (R440) -/
  | wcopy (p : Nat)
  /-- UCLOSE (R428) -/
  | uclose (p : Nat)
  /-- CODEWORD (R492) -/
  | codeword (port n : Nat) (symbols : List Nat)
  /-- ACK (R492) -/
  | ack (port n : Nat)
  /-- NAK (R492) -/
  | nak (port n : Nat)
  /-- CREDIT (R494) -/
  | credit (port vc n : Nat)
  /-- STOMP (R502) -/
  | stomp (port vc : Nat)
  /-- PACKET_FORWARD (R501) -/
  | packetForward (port : Nat)
  /-- PACKET_EXPIRED (R502) -/
  | packetExpired (port : Nat) (place : Resides)
  /-- WRITE (R496) -/
  | write (p : Nat)
  /-- SIGNAL_DETECTED (R507) -/
  | signalDetected (port : Nat)
  /-- TRAINING_STEP (R507) -/
  | trainingStep (port : Nat) (peer : Train)
  /-- TRAINING_TIMEOUT (R507) -/
  | trainingTimeout (port : Nat)
  /-- DETECT_REPEAT (R507) -/
  | detectRepeat (port : Nat)
  /-- LINK_ERROR_LIMIT (R507) -/
  | linkErrorLimit (port : Nat) (limit : LinkLimit)
  /-- SIGNAL_LOST (R507) -/
  | signalLost (port : Nat)
  /-- FAR_END_DETECT (R507) -/
  | farEndDetect (port : Nat)
  /-- SELFTEST_PASS (R507) -/
  | selftestPass (port : Nat)
  /-- LOOPBACK_FAIL (R508) -/
  | loopbackFail (port lanes : Nat)
  /-- RETRAIN (R507) -/
  | retrain (port : Nat)
  /-- DISABLE (R507) -/
  | disable (port : Nat)
  /-- ENABLE (R507) -/
  | enable (port : Nat)
  /-- PORT_ENABLE_WRITE (R507) -/
  | portEnableWrite (v : Nat)
  /-- RWRITE (R517) -/
  | rwrite (p e : Nat)
  /-- PERMUTE (R527) -/
  | permute (p e : Nat)
  /-- MAP_DATA (R519) -/
  | mapData (p : Nat)
  /-- MAP_SIGNAL (R519) -/
  | mapSignal (p : Nat)
  /-- MAP_RETRY (R520) -/
  | mapRetry (tag : Nat)
  /-- BAR_WRITE (R538) -/
  | barWrite (bar off : Nat) (data : List Byte)
  /-- BAR_READ (R539) -/
  | barRead (bar off n : Nat)
  /-- HDM_READ (R542) -/
  | hdmRead (w off : Nat)
  /-- HDM_WRITE (R543) -/
  | hdmWrite (w off : Nat) (data : List Byte)
  /-- BISNP_RESPONSE (R544) -/
  | bisnpResponse (line : Nat) (dirty : Option (List Byte))
  /-- INT_HOLDOFF_EXPIRY (R548) -/
  | intHoldoffExpiry (v : Nat)
  /-- INT_CAUSE_WRITE (R548) -/
  | intCauseWrite (v : Nat)
  /-- INT_MASK_WRITE (R548) -/
  | intMaskWrite (v : Nat)
  /-- GET_EVENT_RECORDS (R551) -/
  | getEventRecords (log : Nat)
  /-- CLEAR_EVENT_RECORDS (R551) -/
  | clearEventRecords (log : Nat) (all : Bool) (n : Nat)
  /-- SET_EVENT_INTERRUPT_POLICY (R551) -/
  | setEventInterruptPolicy (policy : List Nat)
  /-- TRANSFER_FW (R629) -/
  | transferFw (action slot off : Nat) (data : List Byte)
  /-- ACTIVATE_FW (R629) -/
  | activateFw (slot : Nat)
  /-- SET_TIMESTAMP (R551) -/
  | setTimestamp (ns : BitVec 64)
  /-- GET_LOG (R551) -/
  | getLog (effects : Bool) (off len : Nat)
  /-- OD_READ (R552) -/
  | odRead (idx sub off len : Nat) (rsv : Bool)
  /-- OD_WRITE (R552) -/
  | odWrite (idx sub off len : Nat) (rsv : Bool) (data : List Byte)
  /-- OD_WRITE_SIGNED (R552) -/
  | odWriteSigned (idx sub off len : Nat) (rsv : Bool) (data : List Byte) (ref : BitVec 64)
  /-- DOE_DISCOVERY (R553) -/
  | doeDiscovery (index : Nat)
  /-- GET_VERSION (R633) -/
  | getVersion (tr : Nat)
  /-- GET_CAPABILITIES (R633) -/
  | getCapabilities (tr : Nat)
  /-- NEGOTIATE_ALGORITHMS (R633) -/
  | negotiateAlgorithms (tr : Nat)
  /-- GET_DIGESTS (R633) -/
  | getDigests (tr : Nat)
  /-- GET_CERTIFICATE (R627) -/
  | getCertificate (tr slot off len : Nat)
  /-- CHALLENGE (R633) -/
  | challenge (tr slot : Nat) (nonce : List Byte)
  /-- GET_MEASUREMENTS (R632) -/
  | getMeasurements (tr index : Nat) (sign : Bool) (nonce : List Byte)
  /-- KEY_EXCHANGE (R633) -/
  | keyExchange (tr : Nat) (data : List Byte)
  /-- FINISH (R633) -/
  | finish (tr : Nat) (data : List Byte)
  /-- SPDM_HEARTBEAT (R633) -/
  | spdmHeartbeat (tr : Nat)
  /-- KEY_UPDATE (R633) -/
  | keyUpdate (tr : Nat) (data : List Byte)
  /-- END_SESSION (R633) -/
  | endSession (tr : Nat)
  /-- CHUNK_SEND (R633) -/
  | chunkSend (tr : Nat) (last : Bool) (data : List Byte)
  /-- CHUNK_GET (R633) -/
  | chunkGet (tr seq : Nat)
  /-- GET_PQ_SIGNATURE (R633) -/
  | getPqSignature (tr : Nat)
  /-- HOST_LINK_UP (R533) -/
  | hostLinkUp (rate width : Nat) (flit : Bool)
  /-- INPUT_RISE (R564) -/
  | inputRise (node : Nat) (wakeMode : Bool)
  /-- OVERVOLTAGE (R559) -/
  | overvoltage (mv : Nat)
  /-- INPUT_LOW (R560) -/
  | inputLow (mv : Nat)
  /-- RAIL_POWER_GOOD (R561) -/
  | railPowerGood (order : Nat)
  /-- RAIL_FAULT (R561) -/
  | railFault (order : Nat)
  /-- CHANNEL_TRAINING (R592) -/
  | channelTraining (fails : List (Nat × Nat × Nat))
  /-- GATE_ENTRY (R572) -/
  | gateEntry (p i : Nat) (deck : Bool)
  /-- PARK_ENTRY (R572) -/
  | parkEntry (c : Nat)
  /-- RETAIN_ENTRY (R572) -/
  | retainEntry (c : Nat)
  /-- OFF_ENTRY (R572) -/
  | offEntry (c : Nat)
  /-- CLUSTER_RESTORE_COMPLETE (R574) -/
  | clusterRestoreComplete (c : Nat)
  /-- POWER_LOOP (R577) -/
  | powerLoop (p100 p1 pk mv ma : Nat)
  /-- THERMAL_LOOP (R578) -/
  | thermalLoop (ts : List (Nat × Int))
  /-- STACK_THROTTLE (R582) -/
  | stackThrottle (p stack : Nat) (t : Int)
  /-- ILBEN_THROTTLE (R583) -/
  | ilbenThrottle (sensor : Nat) (t : Int)
  /-- THERMAL_TRIP (R584) -/
  | thermalTrip (sensor : Nat) (t : Int)
  /-- PIER_RESET (R588) -/
  | pierReset (p : Nat)
  /-- PIER_RESET_RELEASE (R588) -/
  | pierResetRelease (p : Nat)
  /-- ENGINE_RESET (R589) -/
  | engineReset (p e : Nat)
  /-- CAN_READ (R616) -/
  | canRead (node tag idx sub rsv off len : Nat)
  /-- CAN_WRITE (R616) -/
  | canWrite (node tag idx sub rsv : Nat) (data : List Byte)
  /-- WRITE_INIT (R617) -/
  | writeInit (node tag idx sub rsv total len : Nat)
  /-- WRITE_SEG (R617) -/
  | writeSeg (node tag idx sub rsv seq : Nat) (data : List Byte)
  /-- ABORT (R616) -/
  | abort (node tag idx sub rsv : Nat)
  /-- FOREIGN_FRAME (R613) -/
  | foreignFrame (ident : Nat)
  /-- BUS_OFF (R621) -/
  | busOff (tec : Nat) (interrupted : Bool)
  /-- OWNER_KEY_DIGEST_WRITE (R638) -/
  | ownerKeyDigestWrite (tr : Nat) (digest : List Byte)
  /-- FW_SECURITY_VERSION_WRITE (R631) -/
  | fwSecurityVersionWrite (tr v : Nat)
  /-- FABRIC_ID_BASE_WRITE (R640) -/
  | fabricIdBaseWrite (tr v : Nat)
  /-- DEBUG_LOCKOUT_WRITE (R639) -/
  | debugLockoutWrite (tr v : Nat)
  /-- OWNER_TRANSFER (R638) -/
  | ownerTransfer (tr : Nat) (digest : List Byte) (ref : Nat)
  /-- DEBUG_UNLOCK (R639) -/
  | debugUnlock (tr v ref : Nat)
  /-- TOKEN_STAGE (R608) -/
  | tokenStage (tr : Nat) (piece : List Byte)
  /-- TOKEN_BEGIN (R608) -/
  | tokenBegin (tr : Nat)
  /-- TOKEN_SEAL (R608) -/
  | tokenSeal (tr : Nat)
  /-- TOKEN_VERIFY_COMPLETE (R636) -/
  | tokenVerifyComplete (tr : Nat)
  /-- ILBEN_COMMAND_COMPLETE (R443) -/
  | ilbenCommandComplete (i : Nat)
  /-- REFRESH_INTERVAL_CHANGE (R230) -/
  | refreshIntervalChange (p stack : Nat) (t : Int)
  /-- CAN_BUS_ERROR (R621) -/
  | canBusError (tec rec' : Nat)
  /-- LEDGER_CLEAR (R297) -/
  | ledgerClear
  /-- LFENCE_APPLY (R405) -/
  | lfenceApply
  /-- NEXPORT_WRITE (R433) -/
  | nexportWrite
  /-- NORMS_COMPUTE (R434) -/
  | normsCompute
  /-- UPDATE_DONE (R428) -/
  | updateDone
  /-- TAG_SCRUB (R461) -/
  | tagScrub
  /-- EXCHANGE_CONTRIBUTION (R455) -/
  | exchangeContribution
  /-- EXCH_UP (R453) -/
  | exchUp
  /-- EXCH_TOKEN (R458) -/
  | exchToken
  /-- VOTE_SEND (R456) -/
  | voteSend
  /-- VOTE_UP (R453) -/
  | voteUp
  /-- VOTE_TOKEN (R458) -/
  | voteToken
  /-- ROUND_TIMEOUT (R459) -/
  | roundTimeout
  /-- ABANDON (R460) -/
  | abandon
  /-- ABANDON_UPDATE (R466) -/
  | abandonUpdate
  /-- INJECT (R477) -/
  | inject
  /-- RESTORE (R478) -/
  | restore
  /-- RESEED (R479) -/
  | reseed
  /-- MSEAL (R474) -/
  | mseal
  /-- ATTEMPT_RESET (R481) -/
  | attemptReset
  /-- MOPEN (R472) -/
  | mopen
  /-- MDATA (R472) -/
  | mdata
  /-- MDONE (R471) -/
  | mdone
  /-- MCLOSE (R473) -/
  | mclose
  /-- MACK (R473) -/
  | mack
  /-- MIRROR_RESEND (R473) -/
  | mirrorResend
  /-- MREAD (R478) -/
  | mread
  /-- MRDATA (R478) -/
  | mrdata
  /-- PACKET_DELIVERY (R500) -/
  | packetDelivery
  /-- SNOOP (R550) -/
  | snoop
  /-- NOTIFY_COMPLETE (R549) -/
  | notifyComplete
  /-- IDENTIFY (R551) -/
  | identify
  /-- BACKGROUND_OPERATION_STATUS (R551) -/
  | backgroundOperationStatus
  /-- GET_EVENT_INTERRUPT_POLICY (R551) -/
  | getEventInterruptPolicy
  /-- GET_FW_INFO (R551) -/
  | getFwInfo
  /-- GET_TIMESTAMP (R551) -/
  | getTimestamp
  /-- GET_SUPPORTED_LOGS (R551) -/
  | getSupportedLogs
  /-- PERST_ASSERT (R555) -/
  | perstAssert
  /-- PERST_DEASSERT (R565) -/
  | perstDeassert
  /-- HOT_RESET (R555) -/
  | hotReset
  /-- FLR (R555) -/
  | flr
  /-- CXL_RESET (R555) -/
  | cxlReset
  /-- D3HOT (R555) -/
  | d3hot
  /-- HOST_LINK_DOWN (R554) -/
  | hostLinkDown
  /-- UNDERVOLTAGE_LOCKOUT (R559) -/
  | undervoltageLockout
  /-- REFERENCE_STABLE (R568) -/
  | referenceStable
  /-- WAKE (R564) -/
  | wake
  /-- STANDBY (R566) -/
  | standby
  /-- TOLL (R566) -/
  | toll
  /-- MODULE_RESET (R591) -/
  | moduleReset
  /-- MODULE_RESET_RELEASE (R591) -/
  | moduleResetRelease
  /-- FIRMWARE_VERIFY (R630) -/
  | firmwareVerify
  /-- TRANSFER_TIMEOUT (R617) -/
  | transferTimeout
  /-- HEARTBEAT (R619) -/
  | heartbeat
  /-- BUS_OFF_RECOVERY (R610) -/
  | busOffRecovery
  /-- SENSE_OPEN (R649) -/
  | senseOpen
  /-- SENSE_CLOSE (R649) -/
  | senseClose
  /-- FUSE_PROGRAM_COMPLETE (R606) -/
  | fuseProgramComplete
  /-- D0_ENTRY (R555) -/
  | d0Entry
  /-- CONFIGURATION_REQUEST (R592) -/
  | configurationRequest
  /-- SPDM_RESPONSE_READY (R634) -/
  | spdmResponseReady
  deriving DecidableEq, Repr

end Sys2Proof
end

