-- ==== Sys2Proof/Config.lean ====
section
/-! DEFINITION. What one module or one moment fixes and the manual leaves open: constants with no body, so that no
proof can see their values. -/

namespace Sys2Proof.Config

/-- FREE VALUE number n: a value the manual leaves open, different for each n. [DESIGN CHOICE: log entry 2] -/
opaque freeWord : Nat → BitVec 64

/-- FREE VALUE: the UINT32 that a binary32 value converts to, for which 02 Table 2-4 has no row.
[DESIGN CHOICE: log entry 79] -/
opaque toUint32 : BitVec 32 → BitVec 32

/-- A free string of bytes: random nonces, signatures, key material. [DESIGN CHOICE: log entry 3] -/
opaque freeBytes : Nat → List Byte

/-- SERIAL_NUMBER of the module (Table 0-3: per module). [PRESUMED: log entry 4] -/
opaque serialNumber : BitVec 64

/-- SHA-384 of a byte string (19): 48 bytes. [PRESUMED: log entry 4] -/
opaque sha384 : List Byte → List Byte

/-- The identity digests and certificates of the module (19: per module), by number. [PRESUMED: log entry 4] -/
opaque identity : Nat → List Byte

/-- RSASSA-PSS-3072 verification with SHA-384 (19 R625: an external standard): modulus, exponent, message, signature.
[PRESUMED: log entry 4] -/
opaque rsaVerify : List Byte → List Byte → List Byte → List Byte → Bool

/-- SLH-DSA-SHA2-192s verification (19 R625, FIPS 205): public key, message, signature. [PRESUMED: log entry 4] -/
opaque slhVerify : List Byte → List Byte → List Byte → Bool

/-- Signatures of the module's identity keys (19 R626) over a message, with the randomness of the free value number.
[PRESUMED: log entry 4] -/
opaque rsaSign : Nat → List Byte → List Byte
opaque slhSign : Nat → List Byte → List Byte

/-- The four firmware-authority and the four manufacturing-authority digests in Keystone ROM (19 R629, R636).
[PRESUMED: log entry 4] -/
opaque firmwareAuthority : Nat → List Byte
opaque manufacturingAuthority : Nat → List Byte

/-- Bytes of a CXL mailbox output payload whose layout the CXL specification fixes: opcode, and what it says (16 R551).
[PRESUMED: log entry 7] -/
opaque cxlPayload : Nat → List (List Byte) → List Byte

/-- Bytes of an SPDM message whose layout the SPDM specification fixes: response code, and what it says (19 R633).
[PRESUMED: log entry 8] -/
opaque spdmMessage : Nat → List (List Byte) → List Byte

/-- Request that the bytes of an SPDM message make: number of the request, its numeric fields, its bytes (19 R633).
[PRESUMED: log entry 8] -/
opaque spdmDecode : List Byte → Nat × List Nat × List Byte

/-- Offset in the component registers of the control register of an HDM decoder, whose bit 9 commits it: the CXL
specification's capability walk finds it (16 R532, R541). [PRESUMED: log entry 6] -/
opaque hdmControl : Nat → Nat

end Sys2Proof.Config
end

