-- ==== Sys2Proof/Machine/OdTable.lean ====
section
/-! DEFINITION. The object dictionary: one row for each object of the tables of chapters 00 to 19, as they define it
(00 R12 to R14, 18 R596 to R598). The rows were taken down table by table in index order. -/

namespace Sys2Proof.Machine

/-- Access codes (Table 0-5). -/
inductive Acc where
  | ro | rw | wo | rwc | rws
  deriving DecidableEq, Repr

/-- The part of a write check that a range, a mask and an alignment do not say. -/
inductive OdCheck where
  | bucketCtl
  | gclip
  | girderCtl
  | heartbeat
  | laneSel
  | memSel
  | origin
  | plain
  | portCtl
  | pow2
  | queueSel
  | region0
  | resetCtl
  | skipDecay
  | zeroOnly
  deriving DecidableEq, Repr

/-- One object, or a run of objects of one kind. -/
structure OdRow where
  idxLo : Nat
  idxHi : Nat
  subLo : Nat
  subHi : Nat
  /-- type code of Table 18-1 -/
  ty : Nat
  /-- size in bytes -/
  size : Nat
  acc : Acc
  /-- envelope object (01 R29) -/
  env : Bool
  /-- one value per transport (18 R599) -/
  perTransport : Bool
  /-- default, raw bits -/
  dflt : Option Nat
  lo : Option Int
  hi : Option Int
  /-- bits a write may set; 0 for all of them -/
  mask : Nat
  /-- values are multiples of this -/
  align : Nat
  check : OdCheck
  /-- the unit as its table writes it -/
  unit : String
  deriving DecidableEq, Repr

/-- Objects from 0x1000 on. -/
def odRows0 : List OdRow := [
  ⟨0x1000, 0x1000, 0, 0, 3, 4, .ro, false, false, (some 2144), none, none, 0, 1, .plain, ""⟩,
  ⟨0x1001, 0x1001, 0, 0, 1, 1, .ro, false, false, (some 33), none, none, 0, 1, .plain, ""⟩,
  ⟨0x1002, 0x1002, 0, 0, 4, 8, .ro, false, false, none, none, none, 0, 1, .plain, ""⟩,
  ⟨0x1003, 0x1003, 0, 0, 2, 2, .ro, false, false, (some 3), none, none, 0, 1, .plain, ""⟩,
  ⟨0x1010, 0x1010, 0, 0, 1, 1, .ro, false, false, none, (some (0)), (some 127), 0, 1, .plain, ""⟩,
  ⟨0x1011, 0x1011, 0, 0, 1, 1, .ro, false, false, (some 0), none, none, 0, 1, .plain, ""⟩,
  ⟨0x1012, 0x1012, 0, 0, 2, 2, .rw, false, false, (some 100), (some (0)), (some 10000), 0, 1, .heartbeat, "ms"⟩,
  ⟨0x1013, 0x1013, 1, 2, 2, 2, .ro, false, false, (some 0), none, none, 0, 1, .plain, ""⟩,
  ⟨0x1013, 0x1013, 3, 3, 3, 4, .ro, false, false, (some 0), none, none, 0, 1, .plain, "events"⟩,
  ⟨0x1013, 0x1013, 4, 5, 4, 8, .ro, false, false, (some 0), none, none, 0, 1, .plain, "frames"⟩,
  ⟨0x1013, 0x1013, 6, 6, 3, 4, .ro, false, false, (some 0), none, none, 0, 1, .plain, "requests"⟩,
  ⟨0x1013, 0x1013, 7, 7, 3, 4, .ro, false, false, (some 0), none, none, 0, 1, .plain, "alerts"⟩,
  ⟨0x1020, 0x1020, 0, 0, 3, 4, .rw, false, true, (some 0), none, none, 16777215, 1, .plain, ""⟩,
  ⟨0x1021, 0x1021, 1, 3, 1, 1, .ro, false, false, (some 0), none, none, 0, 1, .plain, ""⟩,
  ⟨0x1021, 0x1021, 4, 4, 3, 4, .ro, false, false, (some 0), none, none, 0, 1, .plain, ""⟩,
  ⟨0x1021, 0x1021, 5, 7, 4, 8, .ro, false, false, (some 0), none, none, 0, 1, .plain, ""⟩,
  ⟨0x1021, 0x1021, 8, 8, 9, 24, .ro, false, false, (some 0), none, none, 0, 1, .plain, ""⟩,
  ⟨0x1030, 0x1030, 0, 0, 3, 4, .ro, false, false, (some 0), none, none, 0, 1, .plain, "alerts"⟩,
  ⟨0x1031, 0x1031, 0, 0, 9, 16, .ro, false, false, (some 0), none, none, 0, 1, .plain, ""⟩,
  ⟨0x1032, 0x1032, 0, 0, 2, 2, .rw, false, false, (some 510), none, none, 510, 1, .plain, ""⟩,
  ⟨0x1040, 0x1040, 0, 0, 1, 1, .ro, false, false, (some 0), (some (0)), (some 153), 0, 1, .plain, "entries"⟩,
  ⟨0x1041, 0x1041, 0, 0, 1, 1, .rw, false, true, (some 0), (some (0)), (some 152), 0, 1, .plain, ""⟩,
  ⟨0x1042, 0x1042, 0, 0, 9, 80, .ro, false, false, (some 0), none, none, 0, 1, .plain, ""⟩,
  ⟨0x1050, 0x1050, 1, 2, 4, 8, .ro, false, false, (some 0), none, none, 0, 1, .plain, "accesses"⟩]

/-- Objects from 0x1050 on. -/
def odRows1 : List OdRow := [
  ⟨0x1050, 0x1050, 3, 3, 4, 8, .ro, false, false, (some 0), none, none, 0, 1, .plain, "accesses"⟩,
  ⟨0x2000, 0x2000, 0, 0, 1, 1, .ro, false, false, (some 0), none, none, 0, 1, .plain, ""⟩,
  ⟨0x2001, 0x2001, 0, 0, 1, 1, .wo, false, false, (some 0), (some (1)), (some 3), 0, 1, .plain, ""⟩,
  ⟨0x2002, 0x2002, 0, 0, 1, 1, .ro, false, false, (some 0), none, none, 0, 1, .plain, ""⟩,
  ⟨0x2003, 0x2003, 0, 0, 2, 2, .wo, false, false, (some 0), none, none, 0, 1, .resetCtl, ""⟩,
  ⟨0x2004, 0x2004, 1, 1, 3, 4, .ro, false, false, (some 0), none, none, 0, 1, .plain, "mV"⟩,
  ⟨0x2004, 0x2004, 2, 2, 3, 4, .ro, false, false, (some 0), none, none, 0, 1, .plain, "mA"⟩,
  ⟨0x2004, 0x2004, 3, 3, 2, 2, .ro, false, false, (some 0), none, none, 0, 1, .plain, "W"⟩,
  ⟨0x2004, 0x2004, 4, 4, 2, 2, .rw, false, false, (some 0), none, none, 0, 1, .zeroOnly, "W"⟩,
  ⟨0x2010, 0x2010, 0, 0, 2, 2, .rw, true, false, (some 2800), (some (500)), (some 2800), 0, 1, .plain, "W"⟩,
  ⟨0x2011, 0x2011, 0, 0, 2, 2, .rw, true, false, (some 50), (some (10)), (some 500), 0, 1, .plain, "W"⟩,
  ⟨0x2012, 0x2012, 0, 0, 5, 1, .rw, true, false, (some 95), (some (70)), (some 100), 0, 1, .plain, "°C"⟩,
  ⟨0x2013, 0x2013, 0, 0, 5, 1, .rw, true, false, (some 95), (some (70)), (some 95), 0, 1, .plain, "°C"⟩,
  ⟨0x2014, 0x2014, 0, 0, 5, 1, .rw, true, false, (some 100), (some (70)), (some 105), 0, 1, .plain, "°C"⟩,
  ⟨0x2015, 0x2015, 0, 0, 1, 1, .ro, false, false, (some 0), none, none, 0, 1, .plain, ""⟩,
  ⟨0x2016, 0x2016, 1, 8, 1, 1, .ro, false, false, (some 0), none, none, 0, 1, .plain, ""⟩,
  ⟨0x2017, 0x2017, 1, 3, 3, 4, .ro, false, false, (some 0), none, none, 0, 1, .plain, "events"⟩,
  ⟨0x2020, 0x2020, 1, 8, 1, 1, .rw, true, false, (some 2), (some (0)), (some 3), 0, 1, .plain, ""⟩,
  ⟨0x2021, 0x2021, 0, 0, 2, 2, .rw, true, false, (some 64), (some (16)), (some 65535), 0, 1, .plain, "cluster cycles"⟩,
  ⟨0x2022, 0x2022, 0, 0, 3, 4, .rw, true, false, (some 100), (some (1)), (some 1000000), 0, 1, .plain, "µs"⟩,
  ⟨0x2023, 0x2023, 0, 0, 3, 4, .rw, true, false, (some 10000), (some (1)), (some 10000000), 0, 1, .plain, "µs"⟩,
  ⟨0x2024, 0x2024, 0, 0, 3, 4, .rw, true, false, (some 1000), (some (1)), (some 3600000), 0, 1, .plain, "ms"⟩,
  ⟨0x2025, 0x2025, 1, 8, 1, 1, .ro, false, false, (some 2), none, none, 0, 1, .plain, ""⟩,
  ⟨0x2030, 0x2030, 0, 0, 1, 1, .rw, false, true, (some 0), (some (0)), (some 67), 0, 1, .plain, ""⟩]

/-- Objects from 0x2031 on. -/
def odRows2 : List OdRow := [
  ⟨0x2031, 0x2031, 0, 0, 6, 2, .ro, false, false, (some 0), none, none, 0, 1, .plain, "1/16 °C"⟩,
  ⟨0x2040, 0x2040, 0, 0, 3, 4, .ro, false, false, (some 0), none, none, 0, 1, .plain, "records"⟩,
  ⟨0x2041, 0x2041, 0, 0, 3, 4, .rw, false, true, (some 0), none, none, 0, 1, .plain, ""⟩,
  ⟨0x2042, 0x2042, 1, 1, 4, 8, .ro, false, false, (some 0), none, none, 0, 1, .plain, ""⟩,
  ⟨0x2042, 0x2042, 2, 2, 2, 2, .ro, false, false, (some 0), none, none, 0, 1, .plain, ""⟩,
  ⟨0x2042, 0x2042, 3, 3, 1, 1, .ro, false, false, (some 0), none, none, 0, 1, .plain, ""⟩,
  ⟨0x2042, 0x2042, 4, 5, 4, 8, .ro, false, false, (some 0), none, none, 0, 1, .plain, ""⟩,
  ⟨0x3000, 0x3000, 0, 0, 2, 2, .rw, false, false, (some 32), (some (1)), (some 800), 0, 1, .plain, "requests"⟩,
  ⟨0x3001, 0x3001, 0, 0, 2, 2, .rw, false, false, (some 256), (some (16)), (some 1024), 0, 1, .plain, "requests"⟩,
  ⟨0x3002, 0x3002, 0, 0, 2, 2, .rw, false, false, (some 24), (some (1)), (some 168), 0, 1, .plain, "hours"⟩,
  ⟨0x3003, 0x3003, 0, 0, 2, 2, .rw, false, false, (some 16), (some (2)), (some 1024), 0, 1, .plain, "granules"⟩,
  ⟨0x3004, 0x3004, 0, 0, 3, 4, .ro, false, false, (some 0), none, none, 0, 1, .plain, ""⟩,
  ⟨0x3008, 0x3008, 0, 0, 2, 2, .rw, false, false, (some 32), (some (0)), (some 128), 0, 1, .plain, "MiB per Pier"⟩,
  ⟨0x3009, 0x3009, 0, 0, 1, 1, .wo, false, false, (some 0), none, none, 0, 1, .girderCtl, ""⟩,
  ⟨0x3010, 0x3010, 0, 0, 1, 1, .rw, false, true, (some 0), none, none, 0, 1, .memSel, ""⟩,
  ⟨0x3011, 0x3011, 1, 1, 4, 8, .ro, false, false, (some 0), none, none, 0, 1, .plain, "errors"⟩,
  ⟨0x3011, 0x3011, 2, 2, 3, 4, .ro, false, false, (some 0), none, none, 0, 1, .plain, "errors"⟩,
  ⟨0x3011, 0x3011, 3, 3, 4, 8, .ro, false, false, (some 0), none, none, 0, 1, .plain, "requests"⟩,
  ⟨0x3011, 0x3011, 4, 4, 2, 2, .rw, false, false, (some 0), none, none, 0, 1, .zeroOnly, "slots"⟩,
  ⟨0x3011, 0x3011, 5, 5, 3, 4, .ro, false, false, (some 0), none, none, 0, 1, .plain, "passes"⟩,
  ⟨0x3011, 0x3011, 6, 6, 4, 8, .ro, false, false, (some 0), none, none, 0, 1, .plain, ""⟩,
  ⟨0x3018, 0x3018, 1, 2, 4, 8, .ro, false, false, (some 0), none, none, 0, 1, .plain, "accesses"⟩,
  ⟨0x3019, 0x3019, 1, 2, 4, 8, .ro, false, false, (some 0), none, none, 0, 1, .plain, "accesses"⟩,
  ⟨0x301A, 0x301A, 1, 2, 4, 8, .ro, false, false, (some 0), none, none, 0, 1, .plain, "lines"⟩]

/-- Objects from 0x301B on. -/
def odRows3 : List OdRow := [
  ⟨0x301B, 0x301B, 1, 2, 3, 4, .ro, false, false, (some 0), none, none, 0, 1, .plain, "lines"⟩,
  ⟨0x301C, 0x301C, 1, 2, 3, 4, .ro, false, false, (some 0), none, none, 0, 1, .plain, "accesses"⟩,
  ⟨0x301D, 0x301D, 1, 2, 4, 8, .ro, false, false, (some 0), none, none, 0, 1, .plain, "lines"⟩,
  ⟨0x3020, 0x3020, 0, 0, 2, 2, .rw, false, true, (some 0), none, none, 511, 1, .plain, ""⟩,
  ⟨0x3021, 0x3021, 1, 1, 4, 8, .rw, false, false, (some 0), (some (0)), (some 515396075519), 0, 2097152, .plain, "bytes"⟩,
  ⟨0x3021, 0x3021, 2, 2, 4, 8, .rw, false, false, (some 0), (some (0)), (some 515396075520), 0, 2097152, .plain, "bytes"⟩,
  ⟨0x3021, 0x3021, 3, 3, 3, 4, .ro, false, false, (some 0), none, none, 0, 1, .plain, "writes"⟩,
  ⟨0x3021, 0x3021, 4, 4, 2, 2, .ro, false, false, (some 0), none, none, 0, 1, .plain, "instructions"⟩,
  ⟨0x3022, 0x3022, 1, 2, 3, 4, .ro, false, false, (some 0), none, none, 0, 1, .plain, "faults"⟩,
  ⟨0x3800, 0x3800, 0, 0, 2, 2, .rw, false, true, (some 0), none, none, 0, 1, .origin, ""⟩,
  ⟨0x3801, 0x3801, 0, 0, 1, 1, .rw, false, false, (some 0), none, none, 3, 1, .plain, ""⟩,
  ⟨0x3802, 0x3802, 0, 0, 1, 1, .rw, false, true, (some 0), (some (0)), (some 5), 0, 1, .plain, ""⟩,
  ⟨0x3803, 0x3803, 0, 0, 1, 1, .ro, false, false, (some 0), none, none, 0, 1, .plain, "originators"⟩,
  ⟨0x3810, 0x3815, 1, 1, 2, 2, .rw, true, false, (some 16), (some (1)), (some 256), 0, 1, .plain, "beats"⟩,
  ⟨0x3810, 0x3815, 2, 2, 2, 2, .rw, false, false, (some 64), (some (32)), (some 4096), 0, 1, .plain, "cycles"⟩,
  ⟨0x3810, 0x3815, 3, 3, 3, 4, .rw, true, false, (some 1024), (some (256)), (some 65536), 0, 1, .pow2, "cycles"⟩,
  ⟨0x3810, 0x3815, 4, 4, 2, 2, .rw, true, false, (some 4), (some (1)), (some 1024), 0, 1, .plain, "grants"⟩,
  ⟨0x3810, 0x3815, 5, 5, 2, 2, .rw, true, false, (some 48), (some (1)), (some 1024), 0, 1, .plain, "grants"⟩,
  ⟨0x3810, 0x3815, 6, 6, 2, 2, .rw, true, false, (some 4), (some (1)), (some 256), 0, 1, .plain, "grants"⟩,
  ⟨0x3810, 0x3815, 7, 7, 2, 2, .rw, true, false, (some 256), (some (16)), (some 4096), 0, 1, .plain, "windows"⟩,
  ⟨0x3810, 0x3815, 8, 8, 3, 4, .rw, true, false, (some 512), (some (16)), (some 65536), 0, 1, .plain, "cycles"⟩,
  ⟨0x3810, 0x3815, 9, 9, 1, 1, .rw, false, false, (some 1), (some (0)), (some 1), 0, 1, .plain, ""⟩,
  ⟨0x3810, 0x3815, 10, 10, 1, 1, .rw, false, false, (some 4), (some (0)), (some 15), 0, 1, .plain, "pre-emptions"⟩,
  ⟨0x3820, 0x3820, 1, 6, 2, 2, .ro, false, false, (some 0), none, none, 0, 1, .plain, "grants"⟩]

/-- Objects from 0x3831 on. -/
def odRows4 : List OdRow := [
  ⟨0x3831, 0x3831, 1, 1, 4, 8, .ro, false, false, (some 0), none, none, 0, 1, .plain, "grants"⟩,
  ⟨0x3831, 0x3831, 2, 2, 4, 8, .ro, false, false, (some 0), none, none, 0, 1, .plain, "beats"⟩,
  ⟨0x3831, 0x3831, 3, 3, 4, 8, .ro, false, false, (some 0), none, none, 0, 1, .plain, "cycles"⟩,
  ⟨0x3831, 0x3831, 4, 4, 3, 4, .ro, false, false, (some 0), none, none, 0, 1, .plain, "ppm"⟩,
  ⟨0x3831, 0x3831, 5, 5, 4, 8, .ro, false, false, (some 0), none, none, 0, 1, .plain, "windows"⟩,
  ⟨0x3831, 0x3831, 6, 6, 4, 8, .ro, false, false, (some 0), none, none, 0, 1, .plain, "pre-emptions"⟩,
  ⟨0x3831, 0x3831, 7, 7, 4, 8, .ro, false, false, (some 0), none, none, 0, 1, .plain, "pre-emptions"⟩,
  ⟨0x3831, 0x3831, 8, 8, 3, 4, .ro, false, false, (some 0), none, none, 0, 1, .plain, "cut-offs"⟩,
  ⟨0x3832, 0x3832, 0, 0, 1, 1, .wo, false, false, (some 0), (some (1)), (some 1), 0, 1, .plain, ""⟩,
  ⟨0x3840, 0x3840, 1, 6, 3, 4, .ro, false, false, (some 0), none, none, 0, 1, .plain, "decisions"⟩,
  ⟨0x3841, 0x3841, 1, 6, 3, 4, .ro, false, false, (some 0), none, none, 0, 1, .plain, "clamps"⟩,
  ⟨0x3850, 0x3850, 0, 0, 2, 2, .ro, false, false, (some 0), none, none, 0, 1, .plain, "records"⟩,
  ⟨0x3851, 0x3851, 0, 0, 2, 2, .rw, false, false, (some 0), (some (0)), (some 4095), 0, 1, .plain, "records"⟩,
  ⟨0x3852, 0x3852, 0, 0, 3, 4, .ro, false, false, (some 0), none, none, 0, 1, .plain, "records"⟩,
  ⟨0x4000, 0x4000, 0, 0, 1, 1, .rw, false, false, (some 1), (some (0)), (some 1), 0, 1, .plain, ""⟩,
  ⟨0x4001, 0x4001, 0, 0, 3, 4, .rw, true, false, (some 999000), (some (900000)), (some 999999), 0, 1, .plain, "ppm"⟩,
  ⟨0x4002, 0x4002, 0, 0, 2, 2, .rw, true, false, (some 64), (some (1)), (some 1000), 0, 1, .plain, "steps"⟩,
  ⟨0x4003, 0x4003, 0, 0, 3, 4, .rw, true, false, (some 10000), (some (1)), (some 1000000), 0, 1, .plain, "ppm"⟩,
  ⟨0x4004, 0x4004, 0, 0, 5, 1, .rw, true, false, (some 232), (some (-128)), (some 96), 0, 1, .plain, "binary exponent"⟩,
  ⟨0x4005, 0x4005, 0, 0, 1, 1, .rw, true, false, (some 8), (some (1)), (some 32), 0, 1, .plain, "binades"⟩,
  ⟨0x4010, 0x4010, 0, 0, 1, 1, .rw, true, false, (some 2), (some (0)), (some 8), 0, 1, .plain, "binary exponent"⟩,
  ⟨0x4011, 0x4011, 0, 0, 1, 1, .rw, true, false, (some 2), (some (1)), (some 8), 0, 1, .plain, "binary exponent"⟩,
  ⟨0x4012, 0x4012, 0, 0, 1, 1, .rw, true, false, (some 16), (some (1)), (some 16), 0, 1, .plain, "committed steps"⟩,
  ⟨0x4013, 0x4013, 0, 0, 1, 1, .rw, true, false, (some 3), (some (1)), (some 8), 0, 1, .plain, "attempts"⟩]

/-- Objects from 0x4014 on. -/
def odRows5 : List OdRow := [
  ⟨0x4014, 0x4014, 0, 0, 5, 1, .rw, true, false, (some 129), (some (-127)), (some 127), 0, 1, .plain, "binary exponent"⟩,
  ⟨0x4015, 0x4015, 0, 0, 5, 1, .rw, true, false, (some 127), (some (-127)), (some 127), 0, 1, .plain, "binary exponent"⟩,
  ⟨0x4020, 0x4020, 1, 2, 2, 2, .ro, false, false, (some 0), none, none, 0, 1, .plain, "records"⟩,
  ⟨0x4021, 0x4021, 1, 2, 2, 2, .rw, false, false, (some 0), (some (0)), (some 4095), 0, 1, .plain, "records"⟩,
  ⟨0x4022, 0x4022, 1, 2, 3, 4, .ro, false, false, (some 0), none, none, 0, 1, .plain, "records"⟩,
  ⟨0x4030, 0x4030, 0, 0, 3, 4, .rw, false, true, (some 0), none, none, 262143, 1, .plain, ""⟩,
  ⟨0x4031, 0x4031, 1, 15, 4, 8, .ro, false, false, (some 0), none, none, 0, 1, .plain, "elements"⟩,
  ⟨0x4031, 0x4031, 16, 16, 2, 2, .ro, false, false, (some 0), none, none, 0, 1, .plain, "steps"⟩,
  ⟨0x4031, 0x4031, 17, 17, 1, 1, .ro, false, false, (some 0), none, none, 0, 1, .plain, ""⟩,
  ⟨0x4040, 0x4040, 1, 10, 3, 4, .ro, false, false, (some 0), none, none, 0, 1, .plain, "events"⟩,
  ⟨0x4041, 0x4041, 1, 10, 3, 4, .ro, false, false, (some 0), none, none, 0, 1, .plain, "events"⟩,
  ⟨0x5000, 0x5000, 1, 2, 4, 8, .rw, false, false, (some 0), none, none, 0, 64, .region0, ""⟩,
  ⟨0x5001, 0x5001, 0, 0, 1, 1, .rw, true, false, (some 1), (some (0)), (some 1), 0, 1, .plain, ""⟩,
  ⟨0x5002, 0x5002, 0, 0, 3, 4, .rw, true, false, (some 4096), (some (0)), (some 1048576), 0, 1, .plain, "2^−24 score"⟩,
  ⟨0x5003, 0x5003, 0, 0, 3, 4, .rw, true, false, (some 1048576), (some (0)), (some 16777216), 0, 1, .plain, "2^−24 score"⟩,
  ⟨0x5004, 0x5004, 0, 0, 2, 2, .rw, true, false, (some 1), (some (1)), (some 1024), 0, 1, .plain, "committed steps"⟩,
  ⟨0x5005, 0x5005, 0, 0, 3, 4, .rw, false, false, (some 1000), (some (1)), (some 1000000), 0, 1, .plain, "µs"⟩,
  ⟨0x5006, 0x5006, 1, 2, 2, 2, .rw, false, false, (some 0), (some (0)), (some 1024), 0, 1, .plain, "entries"⟩,
  ⟨0x5010, 0x5011, 1, 1, 4, 8, .ro, false, false, (some 0), none, none, 0, 1, .plain, "instructions"⟩,
  ⟨0x5010, 0x5011, 2, 2, 4, 8, .ro, false, false, (some 0), none, none, 0, 1, .plain, "tokens"⟩,
  ⟨0x5010, 0x5011, 3, 3, 4, 8, .ro, false, false, (some 0), none, none, 0, 1, .plain, "copies"⟩,
  ⟨0x5010, 0x5011, 4, 4, 4, 8, .ro, false, false, (some 0), none, none, 0, 1, .plain, "copies"⟩,
  ⟨0x5010, 0x5011, 5, 5, 4, 8, .ro, false, false, (some 0), none, none, 0, 1, .plain, "copies"⟩,
  ⟨0x5010, 0x5011, 6, 6, 3, 4, .ro, false, false, (some 0), none, none, 0, 1, .plain, "tokens"⟩]

/-- Objects from 0x5010 on. -/
def odRows6 : List OdRow := [
  ⟨0x5010, 0x5011, 7, 7, 3, 4, .ro, false, false, (some 0), none, none, 0, 1, .plain, "records"⟩,
  ⟨0x5010, 0x5011, 8, 8, 3, 4, .ro, false, false, (some 0), none, none, 0, 1, .plain, "records"⟩,
  ⟨0x5010, 0x5011, 9, 9, 4, 8, .ro, false, false, (some 0), none, none, 0, 1, .plain, "answers"⟩,
  ⟨0x5010, 0x5011, 10, 10, 4, 8, .ro, false, false, (some 0), none, none, 0, 1, .plain, "answers"⟩,
  ⟨0x5010, 0x5011, 11, 11, 4, 8, .ro, false, false, (some 0), none, none, 0, 1, .plain, "instructions"⟩,
  ⟨0x5010, 0x5011, 12, 12, 3, 4, .ro, false, false, (some 0), none, none, 0, 1, .plain, "decisions"⟩,
  ⟨0x5010, 0x5011, 13, 13, 3, 4, .ro, false, false, (some 0), none, none, 0, 1, .plain, "clamps"⟩,
  ⟨0x5020, 0x5020, 1, 2, 2, 2, .ro, false, false, (some 0), none, none, 0, 1, .plain, "records"⟩,
  ⟨0x5021, 0x5021, 1, 2, 2, 2, .rw, false, false, (some 0), (some (0)), (some 4095), 0, 1, .plain, "records"⟩,
  ⟨0x5022, 0x5022, 1, 2, 3, 4, .ro, false, false, (some 0), none, none, 0, 1, .plain, "records"⟩,
  ⟨0x5030, 0x5030, 0, 0, 1, 1, .rw, false, true, (some 0), none, none, 127, 1, .plain, ""⟩,
  ⟨0x5031, 0x5031, 1, 1, 1, 1, .ro, false, false, (some 0), none, none, 0, 1, .plain, ""⟩,
  ⟨0x5031, 0x5031, 2, 2, 2, 2, .ro, false, false, (some 0), none, none, 0, 1, .plain, ""⟩,
  ⟨0x5031, 0x5031, 3, 3, 3, 4, .ro, false, false, (some 0), none, none, 0, 1, .plain, "answers"⟩,
  ⟨0x5031, 0x5031, 4, 4, 3, 4, .ro, false, false, (some 0), none, none, 0, 1, .plain, "answers"⟩,
  ⟨0x5040, 0x5040, 1, 2, 4, 8, .rw, false, false, (some 0), none, none, 0, 64, .region0, ""⟩,
  ⟨0x5041, 0x5041, 0, 0, 1, 1, .rw, true, false, (some 0), none, none, 0, 1, .skipDecay, ""⟩,
  ⟨0x5044, 0x5044, 0, 0, 3, 4, .rw, false, true, (some 0), none, none, 268435455, 1, .plain, ""⟩,
  ⟨0x5045, 0x5045, 1, 1, 4, 8, .ro, false, false, none, none, none, 0, 1, .plain, "step epoch"⟩,
  ⟨0x5045, 0x5045, 2, 2, 3, 4, .ro, false, false, none, none, none, 0, 1, .plain, "steps"⟩,
  ⟨0x5045, 0x5045, 3, 3, 3, 4, .ro, false, false, none, none, none, 0, 1, .plain, "tokens"⟩,
  ⟨0x5045, 0x5045, 4, 4, 4, 8, .ro, false, false, none, none, none, 0, 1, .plain, "tokens"⟩,
  ⟨0x5050, 0x5051, 1, 1, 4, 8, .ro, false, false, (some 0), none, none, 0, 1, .plain, "instructions"⟩,
  ⟨0x5050, 0x5051, 2, 2, 4, 8, .ro, false, false, (some 0), none, none, 0, 1, .plain, "copies"⟩]

/-- Objects from 0x5050 on. -/
def odRows7 : List OdRow := [
  ⟨0x5050, 0x5051, 3, 3, 3, 4, .ro, false, false, (some 0), none, none, 0, 1, .plain, "records"⟩,
  ⟨0x5050, 0x5051, 4, 4, 4, 8, .ro, false, false, (some 0), none, none, 0, 1, .plain, "answers"⟩,
  ⟨0x5050, 0x5051, 5, 5, 4, 8, .ro, false, false, (some 0), none, none, 0, 1, .plain, "slot results with n ≥ 1"⟩,
  ⟨0x5050, 0x5051, 6, 6, 4, 8, .ro, false, false, (some 0), none, none, 0, 1, .plain, "slot results with n = 0"⟩,
  ⟨0x5050, 0x5051, 7, 7, 4, 8, .ro, false, false, (some 0), none, none, 0, 1, .plain, "heads sent"⟩,
  ⟨0x5050, 0x5051, 8, 8, 3, 4, .ro, false, false, (some 0), none, none, 0, 1, .plain, "cancels"⟩,
  ⟨0x5050, 0x5051, 9, 9, 4, 8, .ro, false, false, (some 0), none, none, 0, 1, .plain, "instructions"⟩,
  ⟨0x5800, 0x5800, 1, 2, 4, 8, .rw, false, false, (some 0), none, none, 0, 128, .region0, ""⟩,
  ⟨0x5801, 0x5801, 0, 0, 2, 2, .rw, false, false, (some 0), none, none, 0, 1, .plain, ""⟩,
  ⟨0x5802, 0x5802, 0, 0, 1, 1, .rw, true, false, (some 12), (some (0)), (some 32), 0, 1, .plain, "binary exponent"⟩,
  ⟨0x5803, 0x5803, 0, 0, 1, 1, .rw, true, false, (some 16), (some (1)), (some 16), 0, 1, .plain, "committed steps"⟩,
  ⟨0x5804, 0x5804, 0, 0, 2, 2, .rw, false, false, (some 2000), (some (100)), (some 65535), 0, 1, .plain, "ns"⟩,
  ⟨0x5805, 0x5805, 0, 0, 2, 2, .ro, false, false, (some 0), none, none, 0, 1, .plain, "4 KiB"⟩,
  ⟨0x5806, 0x5806, 0, 0, 2, 2, .wo, false, false, (some 0), none, none, 0, 1, .bucketCtl, ""⟩,
  ⟨0x5807, 0x5807, 1, 2, 2, 2, .rw, false, false, (some 0), (some (0)), (some 4096), 0, 1, .plain, "buckets"⟩,
  ⟨0x5808, 0x5808, 0, 0, 2, 2, .rw, false, true, (some 0), none, none, 8191, 1, .plain, ""⟩,
  ⟨0x5809, 0x5809, 1, 1, 1, 1, .ro, false, false, (some 0), none, none, 0, 1, .plain, ""⟩,
  ⟨0x5809, 0x5809, 2, 2, 3, 4, .ro, false, false, (some 0), none, none, 0, 1, .plain, "tokens"⟩,
  ⟨0x5809, 0x5809, 3, 3, 1, 1, .ro, false, false, (some 0), none, none, 0, 1, .plain, ""⟩,
  ⟨0x5809, 0x5809, 4, 4, 4, 8, .ro, false, false, (some 0), none, none, 0, 1, .plain, "terms"⟩,
  ⟨0x5809, 0x5809, 5, 5, 6, 2, .ro, false, false, (some 0), none, none, 0, 1, .plain, "binary exponent"⟩,
  ⟨0x5810, 0x5811, 1, 1, 4, 8, .ro, false, false, (some 0), none, none, 0, 1, .plain, "instructions"⟩,
  ⟨0x5810, 0x5811, 2, 2, 4, 8, .ro, false, false, (some 0), none, none, 0, 1, .plain, "contributions"⟩,
  ⟨0x5810, 0x5811, 3, 3, 4, 8, .ro, false, false, (some 0), none, none, 0, 1, .plain, "bytes"⟩]

/-- Objects from 0x5810 on. -/
def odRows8 : List OdRow := [
  ⟨0x5810, 0x5811, 4, 4, 4, 8, .ro, false, false, (some 0), none, none, 0, 1, .plain, "contributions"⟩,
  ⟨0x5810, 0x5811, 5, 5, 4, 8, .ro, false, false, (some 0), none, none, 0, 1, .plain, "contributions"⟩,
  ⟨0x5810, 0x5811, 6, 6, 4, 8, .ro, false, false, (some 0), none, none, 0, 1, .plain, "entries"⟩,
  ⟨0x5810, 0x5811, 7, 7, 4, 8, .ro, false, false, (some 0), none, none, 0, 1, .plain, "packets"⟩,
  ⟨0x5810, 0x5811, 8, 8, 3, 4, .ro, false, false, (some 0), none, none, 0, 1, .plain, "packets"⟩,
  ⟨0x5810, 0x5811, 9, 9, 3, 4, .ro, false, false, (some 0), none, none, 0, 1, .plain, "packets"⟩,
  ⟨0x5810, 0x5811, 10, 10, 3, 4, .ro, false, false, (some 0), none, none, 0, 1, .plain, "packets"⟩,
  ⟨0x5810, 0x5811, 11, 11, 3, 4, .ro, false, false, (some 0), none, none, 0, 1, .plain, "buckets"⟩,
  ⟨0x5810, 0x5811, 12, 12, 4, 8, .ro, false, false, (some 0), none, none, 0, 1, .plain, "buckets"⟩,
  ⟨0x5810, 0x5811, 13, 13, 3, 4, .ro, false, false, (some 0), none, none, 0, 1, .plain, "decisions"⟩,
  ⟨0x5810, 0x5811, 14, 14, 3, 4, .ro, false, false, (some 0), none, none, 0, 1, .plain, "clamps"⟩,
  ⟨0x5820, 0x5820, 1, 2, 2, 2, .ro, false, false, (some 0), none, none, 0, 1, .plain, "records"⟩,
  ⟨0x5821, 0x5821, 1, 2, 2, 2, .rw, false, false, (some 0), (some (0)), (some 4095), 0, 1, .plain, "records"⟩,
  ⟨0x5822, 0x5822, 1, 2, 3, 4, .ro, false, false, (some 0), none, none, 0, 1, .plain, "records"⟩,
  ⟨0x6000, 0x6000, 0, 0, 1, 1, .rw, false, false, (some 0), (some (0)), (some 1), 0, 1, .plain, ""⟩,
  ⟨0x6001, 0x6001, 1, 2, 1, 1, .rw, false, false, (some 1), (some (1)), (some 32), 0, 1, .plain, "modules"⟩,
  ⟨0x6001, 0x6001, 3, 3, 1, 1, .rw, false, false, (some 1), (some (1)), (some 16), 0, 1, .plain, "modules"⟩,
  ⟨0x6002, 0x6002, 1, 3, 1, 1, .rw, false, false, (some 0), none, none, 0, 1, .plain, ""⟩,
  ⟨0x6003, 0x6003, 0, 0, 2, 2, .ro, false, false, (some 0), none, none, 0, 1, .plain, ""⟩,
  ⟨0x6004, 0x6004, 0, 0, 1, 1, .rw, false, false, (some 63), none, none, 63, 1, .plain, ""⟩,
  ⟨0x6005, 0x6005, 0, 0, 2, 2, .rw, false, false, (some 10), (some (1)), (some 100), 0, 1, .plain, "µs"⟩,
  ⟨0x6006, 0x6006, 0, 0, 3, 4, .rw, false, false, (some 1000), (some (1)), (some 1000000), 0, 1, .plain, "codewords per second"⟩,
  ⟨0x6007, 0x6007, 0, 0, 1, 1, .rw, false, false, (some 8), (some (1)), (some 32), 0, 1, .plain, "replays"⟩,
  ⟨0x6008, 0x6008, 0, 0, 3, 4, .ro, false, false, (some 0), none, none, 0, 1, .plain, ""⟩]

/-- Objects from 0x6009 on. -/
def odRows9 : List OdRow := [
  ⟨0x6009, 0x6009, 1, 2, 4, 8, .rw, false, false, (some 0), none, none, 0, 128, .region0, ""⟩,
  ⟨0x600A, 0x600A, 0, 0, 4, 8, .rw, false, false, (some 0), none, none, 0, 128, .plain, "bytes"⟩,
  ⟨0x600B, 0x600B, 0, 0, 3, 4, .rw, false, false, (some 256), (some (256)), (some 262272), 0, 128, .plain, "bytes"⟩,
  ⟨0x6010, 0x6010, 0, 0, 1, 1, .rw, false, true, (some 0), (some (0)), (some 5), 0, 1, .plain, ""⟩,
  ⟨0x6011, 0x6011, 1, 1, 1, 1, .ro, false, false, (some 1), none, none, 0, 1, .plain, ""⟩,
  ⟨0x6011, 0x6011, 2, 2, 1, 1, .ro, false, false, (some 0), none, none, 0, 1, .plain, ""⟩,
  ⟨0x6011, 0x6011, 3, 3, 2, 2, .ro, false, false, (some 65535), none, none, 0, 1, .plain, ""⟩,
  ⟨0x6011, 0x6011, 4, 4, 4, 8, .ro, false, false, (some 0), none, none, 0, 1, .plain, "codewords"⟩,
  ⟨0x6011, 0x6011, 5, 5, 4, 8, .ro, false, false, (some 0), none, none, 0, 1, .plain, "codewords"⟩,
  ⟨0x6011, 0x6011, 6, 6, 4, 8, .ro, false, false, (some 0), none, none, 0, 1, .plain, "replays"⟩,
  ⟨0x6011, 0x6011, 7, 7, 3, 4, .ro, false, false, (some 0), none, none, 0, 1, .plain, "packets"⟩,
  ⟨0x6011, 0x6011, 8, 9, 4, 8, .ro, false, false, (some 0), none, none, 0, 1, .plain, "bytes"⟩,
  ⟨0x6011, 0x6011, 10, 10, 3, 4, .ro, false, false, (some 0), none, none, 0, 1, .plain, "trainings"⟩,
  ⟨0x6012, 0x6012, 0, 0, 1, 1, .wo, false, false, (some 0), none, none, 0, 1, .portCtl, ""⟩,
  ⟨0x6013, 0x6013, 0, 0, 1, 1, .rw, false, true, (some 0), none, none, 0, 1, .laneSel, ""⟩,
  ⟨0x6014, 0x6014, 1, 1, 3, 4, .ro, false, false, (some 0), none, none, 0, 1, .plain, "errors per 10^9 symbols"⟩,
  ⟨0x6014, 0x6014, 2, 2, 2, 2, .ro, false, false, (some 0), none, none, 0, 1, .plain, "mV"⟩,
  ⟨0x6020, 0x6020, 1, 1, 4, 8, .ro, false, false, (some 0), none, none, 0, 1, .plain, "packets"⟩,
  ⟨0x6020, 0x6020, 2, 7, 3, 4, .ro, false, false, (some 0), none, none, 0, 1, .plain, "packets"⟩,
  ⟨0x6040, 0x6040, 0, 0, 2, 2, .ro, false, false, (some 0), none, none, 0, 1, .plain, ""⟩,
  ⟨0x6041, 0x6042, 1, 1, 4, 8, .ro, false, false, (some 0), none, none, 0, 1, .plain, "instructions"⟩,
  ⟨0x6041, 0x6042, 2, 2, 4, 8, .ro, false, false, (some 0), none, none, 0, 1, .plain, "instructions"⟩,
  ⟨0x6041, 0x6042, 3, 3, 4, 8, .ro, false, false, (some 0), none, none, 0, 1, .plain, "bytes"⟩,
  ⟨0x6041, 0x6042, 4, 4, 4, 8, .ro, false, false, (some 0), none, none, 0, 1, .plain, "signals"⟩]

/-- Objects from 0x6041 on. -/
def odRows10 : List OdRow := [
  ⟨0x6041, 0x6042, 5, 5, 4, 8, .ro, false, false, (some 0), none, none, 0, 1, .plain, "packets"⟩,
  ⟨0x6041, 0x6042, 6, 6, 3, 4, .ro, false, false, (some 0), none, none, 0, 1, .plain, "responses"⟩,
  ⟨0x6041, 0x6042, 7, 7, 3, 4, .ro, false, false, (some 0), none, none, 0, 1, .plain, "packets"⟩,
  ⟨0x6041, 0x6042, 8, 8, 3, 4, .ro, false, false, (some 0), none, none, 0, 1, .plain, "packets"⟩,
  ⟨0x6041, 0x6042, 9, 9, 3, 4, .ro, false, false, (some 0), none, none, 0, 1, .plain, "packets"⟩,
  ⟨0x7000, 0x7000, 1, 2, 4, 8, .rw, false, false, (some 0), none, none, 0, 2097152, .plain, "bytes"⟩,
  ⟨0x7001, 0x7001, 1, 2, 4, 8, .rw, false, false, (some 0), none, none, 0, 2097152, .plain, "bytes"⟩,
  ⟨0x7002, 0x7002, 1, 2, 4, 8, .rw, false, false, (some 0), none, none, 0, 2097152, .plain, "bytes"⟩,
  ⟨0x7003, 0x7003, 1, 2, 4, 8, .rw, false, false, (some 0), none, none, 0, 2097152, .plain, "bytes"⟩,
  ⟨0x7004, 0x7004, 0, 0, 4, 8, .rw, false, false, (some 0), none, none, 0, 128, .plain, ""⟩,
  ⟨0x7005, 0x7005, 0, 0, 3, 4, .rw, false, false, (some 0), (some (0)), (some 65536), 0, 1, .plain, "tensors"⟩,
  ⟨0x7006, 0x7006, 0, 0, 4, 8, .rw, false, false, (some 0), none, none, 0, 64, .plain, ""⟩,
  ⟨0x7007, 0x7007, 0, 0, 4, 8, .rw, false, false, (some 0), none, none, 0, 64, .region0, ""⟩,
  ⟨0x7008, 0x7008, 0, 0, 2, 2, .rw, false, false, (some 0), none, none, 8191, 1, .plain, ""⟩,
  ⟨0x7009, 0x7009, 0, 0, 3, 4, .rw, false, false, (some 1), (some (1)), (some 65534), 0, 1, .plain, "elements"⟩,
  ⟨0x700A, 0x700A, 0, 0, 3, 4, .rw, false, false, (some 3), (some (3)), (some 65536), 0, 1, .plain, "elements"⟩,
  ⟨0x700B, 0x700B, 1, 2, 4, 8, .rw, false, false, (some 0), none, none, 0, 128, .region0, ""⟩,
  ⟨0x7010, 0x7010, 0, 0, 4, 8, .rw, true, false, (some 0), none, none, 0, 1, .plain, ""⟩,
  ⟨0x7011, 0x7011, 0, 0, 8, 4, .rw, true, false, (some 0), none, none, 0, 1, .gclip, ""⟩,
  ⟨0x7012, 0x7012, 0, 0, 1, 1, .rw, true, false, (some 0), (some (0)), (some 1), 0, 1, .plain, ""⟩,
  ⟨0x7013, 0x7013, 0, 0, 1, 1, .rw, true, false, (some 1), (some (0)), (some 8), 0, 1, .plain, "binary exponent"⟩,
  ⟨0x7014, 0x7014, 0, 0, 1, 1, .rw, false, false, (some 25), (some (0)), (some 75), 0, 1, .plain, "%"⟩,
  ⟨0x7020, 0x7020, 0, 0, 1, 1, .ro, false, false, (some 0), none, none, 0, 1, .plain, ""⟩,
  ⟨0x7021, 0x7021, 1, 1, 3, 4, .ro, false, false, (some 0), none, none, 0, 1, .plain, "attempts"⟩]

/-- Objects from 0x7021 on. -/
def odRows11 : List OdRow := [
  ⟨0x7021, 0x7021, 2, 2, 4, 8, .ro, false, false, (some 0), none, none, 0, 1, .plain, "tensors"⟩,
  ⟨0x7021, 0x7021, 3, 3, 4, 8, .ro, false, false, (some 0), none, none, 0, 1, .plain, "tensors"⟩,
  ⟨0x7021, 0x7021, 4, 4, 4, 8, .ro, false, false, (some 0), none, none, 0, 1, .plain, "tensors"⟩,
  ⟨0x7021, 0x7021, 5, 5, 3, 4, .ro, false, false, (some 0), none, none, 0, 1, .plain, "tensors"⟩,
  ⟨0x7021, 0x7021, 6, 6, 4, 8, .ro, false, false, (some 0), none, none, 0, 1, .plain, "tensors"⟩,
  ⟨0x7021, 0x7021, 7, 7, 4, 8, .ro, false, false, (some 0), none, none, 0, 1, .plain, "elements"⟩,
  ⟨0x7021, 0x7021, 8, 8, 4, 8, .ro, false, false, (some 0), none, none, 0, 1, .plain, "tensors"⟩,
  ⟨0x7021, 0x7021, 9, 9, 3, 4, .ro, false, false, (some 0), none, none, 0, 1, .plain, "attempts"⟩,
  ⟨0x7021, 0x7021, 10, 10, 4, 8, .ro, false, false, (some 0), none, none, 0, 1, .plain, "elements"⟩,
  ⟨0x7022, 0x7022, 1, 1, 4, 8, .ro, false, false, (some 0), none, none, 0, 1, .plain, "errors"⟩,
  ⟨0x7022, 0x7022, 2, 2, 3, 4, .ro, false, false, (some 0), none, none, 0, 1, .plain, "errors"⟩,
  ⟨0x7022, 0x7022, 3, 4, 4, 8, .ro, false, false, (some 0), none, none, 0, 1, .plain, "bytes"⟩,
  ⟨0x7030, 0x7030, 0, 0, 2, 2, .ro, false, false, (some 0), none, none, 0, 1, .plain, "records"⟩,
  ⟨0x7031, 0x7031, 0, 0, 2, 2, .rw, false, false, (some 0), (some (0)), (some 4095), 0, 1, .plain, "records"⟩,
  ⟨0x7032, 0x7032, 0, 0, 3, 4, .ro, false, false, (some 0), none, none, 0, 1, .plain, "records"⟩,
  ⟨0x7800, 0x7800, 1, 1, 4, 8, .ro, false, false, (some 0), none, none, 0, 1, .plain, "step epoch"⟩,
  ⟨0x7800, 0x7800, 2, 2, 1, 1, .ro, false, false, (some 0), none, none, 0, 1, .plain, ""⟩,
  ⟨0x7800, 0x7800, 3, 3, 1, 1, .ro, false, false, (some 6), none, none, 0, 1, .plain, ""⟩,
  ⟨0x7800, 0x7800, 4, 4, 1, 1, .ro, false, false, (some 0), none, none, 0, 1, .plain, ""⟩,
  ⟨0x7801, 0x7801, 0, 0, 2, 2, .rw, false, false, (some 1), (some (1)), (some 16384), 0, 1, .plain, "modules"⟩,
  ⟨0x7802, 0x7802, 0, 0, 2, 2, .rw, false, false, (some 65535), none, none, 0, 1, .plain, ""⟩,
  ⟨0x7803, 0x7803, 0, 0, 1, 1, .rw, false, false, (some 0), (some (0)), (some 6), 0, 1, .plain, "modules"⟩,
  ⟨0x7804, 0x7804, 0, 0, 3, 4, .rw, false, false, (some 1000), (some (1)), (some 60000), 0, 1, .plain, "ms"⟩,
  ⟨0x7805, 0x7805, 1, 1, 2, 2, .rw, false, false, (some 0), none, none, 1023, 1, .plain, ""⟩]

/-- Objects from 0x7805 on. -/
def odRows12 : List OdRow := [
  ⟨0x7805, 0x7805, 2, 2, 3, 4, .rw, false, false, (some 0), none, none, 0, 1, .plain, ""⟩,
  ⟨0x7806, 0x7806, 1, 1, 2, 2, .rw, false, false, (some 0), none, none, 1023, 1, .plain, ""⟩,
  ⟨0x7806, 0x7806, 2, 2, 3, 4, .rw, false, false, (some 0), none, none, 0, 1, .plain, ""⟩,
  ⟨0x7807, 0x7807, 1, 2, 2, 2, .rw, false, false, (some 0), none, none, 1023, 1, .plain, ""⟩,
  ⟨0x7808, 0x7808, 1, 1, 4, 8, .rw, false, false, (some 0), none, none, 0, 4, .region0, ""⟩,
  ⟨0x7808, 0x7808, 2, 2, 2, 2, .rw, false, false, (some 0), none, none, 0, 1, .plain, "entries"⟩,
  ⟨0x7809, 0x7809, 1, 1, 3, 4, .rw, false, false, (some 0), (some (0)), (some 131072), 0, 2, .plain, "entries"⟩,
  ⟨0x7809, 0x7809, 2, 2, 3, 4, .rw, false, false, (some 0), (some (0)), (some 131072), 0, 1, .plain, "entries"⟩,
  ⟨0x780A, 0x780A, 1, 1, 4, 8, .rw, false, false, (some 0), none, none, 0, 2097152, .region0, "bytes"⟩,
  ⟨0x780A, 0x780A, 2, 2, 4, 8, .rw, false, false, (some 0), none, none, 0, 2097152, .plain, "bytes"⟩,
  ⟨0x780B, 0x780B, 0, 0, 2, 2, .rw, false, false, (some 65535), none, none, 0, 1, .plain, ""⟩,
  ⟨0x780C, 0x780C, 0, 0, 1, 1, .rw, true, false, (some 0), (some (0)), (some 1), 0, 1, .plain, ""⟩,
  ⟨0x780D, 0x780D, 1, 1, 4, 8, .rw, false, false, (some 0), none, none, 0, 16, .plain, ""⟩,
  ⟨0x780D, 0x780D, 2, 2, 2, 2, .rw, false, false, (some 0), (some (0)), (some 256), 0, 1, .plain, "entries"⟩,
  ⟨0x780E, 0x780E, 0, 0, 1, 1, .wo, false, false, (some 0), (some (1)), (some 7), 0, 1, .plain, ""⟩,
  ⟨0x780F, 0x780F, 1, 1, 1, 1, .ro, false, false, (some 0), none, none, 0, 1, .plain, ""⟩,
  ⟨0x780F, 0x780F, 2, 3, 4, 8, .ro, false, false, (some 0), none, none, 0, 1, .plain, ""⟩,
  ⟨0x780F, 0x780F, 4, 4, 1, 1, .ro, false, false, (some 0), none, none, 0, 1, .plain, ""⟩,
  ⟨0x780F, 0x780F, 5, 5, 2, 2, .ro, false, false, (some 0), none, none, 0, 1, .plain, ""⟩,
  ⟨0x7810, 0x7810, 1, 9, 4, 8, .ro, false, false, (some 0), none, none, 0, 1, .plain, "events or bytes"⟩,
  ⟨0x7811, 0x7811, 0, 0, 1, 1, .rw, false, false, (some 0), (some (0)), (some 7), 0, 1, .plain, ""⟩,
  ⟨0x7820, 0x7820, 0, 0, 2, 2, .ro, false, false, (some 0), none, none, 0, 1, .plain, "records"⟩,
  ⟨0x7821, 0x7821, 0, 0, 2, 2, .rw, false, false, (some 0), (some (0)), (some 4095), 0, 1, .plain, "records"⟩,
  ⟨0x7822, 0x7822, 0, 0, 3, 4, .ro, false, false, (some 0), none, none, 0, 1, .plain, "records"⟩]

/-- Objects from 0x8000 on. -/
def odRows13 : List OdRow := [
  ⟨0x8000, 0x8000, 0, 0, 2, 2, .ro, false, false, (some 0), none, none, 0, 1, .plain, ""⟩,
  ⟨0x8001, 0x8001, 1, 2, 4, 8, .rw, false, false, (some 0), none, none, 0, 16777216, .region0, ""⟩,
  ⟨0x8002, 0x8002, 0, 0, 4, 8, .rw, false, false, (some 0), none, none, 0, 64, .plain, ""⟩,
  ⟨0x8003, 0x8003, 0, 0, 3, 4, .rw, false, false, (some 1000), (some (0)), (some 1000000), 0, 1, .plain, "ns"⟩,
  ⟨0x8010, 0x8010, 1, 1, 4, 8, .ro, false, false, (some 0), none, none, 0, 1, .plain, "commands"⟩,
  ⟨0x8010, 0x8010, 2, 2, 3, 4, .ro, false, false, (some 0), none, none, 0, 1, .plain, "commands"⟩,
  ⟨0x8010, 0x8010, 3, 3, 3, 4, .ro, false, false, (some 0), none, none, 0, 1, .plain, "writes"⟩,
  ⟨0x8010, 0x8010, 4, 4, 3, 4, .ro, false, false, (some 0), none, none, 0, 1, .plain, "writes"⟩,
  ⟨0x8010, 0x8010, 5, 5, 3, 4, .ro, false, false, (some 0), none, none, 0, 1, .plain, "completions"⟩,
  ⟨0x8010, 0x8010, 6, 6, 4, 8, .ro, false, false, (some 0), none, none, 0, 1, .plain, "snoops"⟩,
  ⟨0x8010, 0x8010, 7, 7, 4, 8, .ro, false, false, (some 0), none, none, 0, 1, .plain, "lines"⟩,
  ⟨0x8010, 0x8010, 8, 8, 3, 4, .ro, false, false, (some 0), none, none, 0, 1, .plain, "lines"⟩,
  ⟨0x8010, 0x8010, 9, 9, 4, 8, .ro, false, false, (some 0), none, none, 0, 1, .plain, "messages"⟩,
  ⟨0x8010, 0x8010, 10, 10, 3, 4, .ro, false, false, (some 0), none, none, 0, 1, .plain, "events"⟩,
  ⟨0xA000, 0xA000, 1, 2, 9, 48, .ro, false, false, none, none, none, 0, 1, .plain, ""⟩,
  ⟨0xA001, 0xA001, 0, 0, 3, 4, .ro, false, false, (some 0), none, none, 0, 1, .plain, ""⟩,
  ⟨0xA002, 0xA002, 1, 2, 3, 4, .ro, false, false, (some 0), none, none, 0, 1, .plain, ""⟩,
  ⟨0xA003, 0xA003, 1, 2, 4, 8, .ro, false, false, (some 0), none, none, 0, 1, .plain, ""⟩,
  ⟨0xA004, 0xA004, 0, 0, 1, 1, .rw, false, true, (some 1), (some (1)), (some 8), 0, 1, .plain, ""⟩,
  ⟨0xA005, 0xA005, 0, 0, 9, 48, .ro, false, false, none, none, none, 0, 1, .plain, ""⟩,
  ⟨0xA010, 0xA010, 0, 0, 9, 48, .rwc, false, false, (some 0), none, none, 0, 1, .plain, ""⟩,
  ⟨0xA011, 0xA011, 0, 0, 3, 4, .rwc, false, false, (some 0), none, none, 0, 1, .plain, ""⟩,
  ⟨0xA012, 0xA012, 0, 0, 4, 8, .rwc, false, false, (some 0), none, none, 0, 1, .plain, ""⟩,
  ⟨0xA013, 0xA013, 0, 0, 1, 1, .rwc, false, false, (some 0), (some (1)), (some 1), 0, 1, .plain, ""⟩]

/-- Objects from 0xA020 on. -/
def odRows14 : List OdRow := [
  ⟨0xA020, 0xA020, 0, 0, 9, 48, .rws, false, false, (some 0), none, none, 0, 1, .plain, ""⟩,
  ⟨0xA021, 0xA021, 0, 0, 1, 1, .rws, false, false, (some 0), (some (1)), (some 1), 0, 1, .plain, ""⟩,
  ⟨0xA022, 0xA022, 0, 0, 1, 1, .ro, false, false, (some 0), none, none, 0, 1, .plain, ""⟩,
  ⟨0xA030, 0xA030, 0, 0, 9, 4096, .wo, false, false, (some 0), none, none, 0, 1, .plain, ""⟩,
  ⟨0xA031, 0xA031, 0, 0, 9, 4096, .ro, false, false, (some 0), none, none, 0, 1, .plain, ""⟩,
  ⟨0xA032, 0xA032, 0, 0, 1, 1, .ro, false, false, (some 0), none, none, 0, 1, .plain, ""⟩,
  ⟨0xA040, 0xA040, 1, 4, 3, 4, .ro, false, false, (some 0), none, none, 0, 1, .plain, "events"⟩,
  ⟨0xA0F0, 0xA0F0, 1, 2, 9, 1024, .wo, false, false, (some 0), none, none, 0, 1, .plain, ""⟩,
  ⟨0xA0F1, 0xA0F1, 1, 2, 1, 1, .wo, false, false, (some 0), (some (1)), (some 2), 0, 1, .plain, ""⟩,
  ⟨0xA0F2, 0xA0F2, 1, 2, 1, 1, .ro, false, false, (some 0), none, none, 0, 1, .plain, ""⟩,
  ⟨0xA0F3, 0xA0F3, 1, 2, 4, 8, .ro, false, false, (some 0), none, none, 0, 1, .plain, ""⟩,
  ⟨0xA0F4, 0xA0F4, 1, 2, 9, 32, .ro, false, false, none, none, none, 0, 1, .plain, ""⟩,
  ⟨0xF100, 0xF100, 0, 0, 1, 1, .rw, false, true, (some 0), none, none, 63, 1, .plain, ""⟩,
  ⟨0xF101, 0xF101, 1, 1, 4, 8, .ro, false, false, (some 0), none, none, 0, 1, .plain, "executions"⟩,
  ⟨0xF101, 0xF101, 2, 2, 4, 8, .ro, false, false, (some 0), none, none, 0, 1, .plain, "instructions"⟩,
  ⟨0xF101, 0xF101, 3, 3, 4, 8, .ro, false, false, (some 0), none, none, 0, 1, .plain, "cycles"⟩,
  ⟨0xF101, 0xF101, 4, 4, 4, 8, .ro, false, false, (some 0), none, none, 0, 1, .plain, "products"⟩,
  ⟨0xF101, 0xF101, 5, 5, 3, 4, .ro, false, false, (some 0), none, none, 0, 1, .plain, "wakes"⟩,
  ⟨0xF101, 0xF101, 6, 6, 3, 4, .ro, false, false, (some 0), none, none, 0, 1, .plain, "wakes"⟩,
  ⟨0xF101, 0xF101, 7, 7, 3, 4, .ro, false, false, (some 0), none, none, 0, 1, .plain, "wakes"⟩,
  ⟨0xF101, 0xF101, 8, 8, 3, 4, .ro, false, false, (some 0), none, none, 0, 1, .plain, "exports"⟩,
  ⟨0xF101, 0xF101, 9, 9, 4, 8, .ro, false, false, (some 0), none, none, 0, 1, .plain, "terms"⟩,
  ⟨0xF101, 0xF101, 10, 10, 3, 4, .ro, false, false, (some 0), none, none, 0, 1, .plain, "faults"⟩,
  ⟨0xF101, 0xF101, 11, 11, 3, 4, .ro, false, false, (some 0), none, none, 0, 1, .plain, "faults"⟩]

/-- Objects from 0xF110 on. -/
def odRows15 : List OdRow := [
  ⟨0xF110, 0xF110, 0, 0, 1, 1, .rw, false, true, (some 0), none, none, 63, 1, .plain, ""⟩,
  ⟨0xF111, 0xF111, 1, 1, 4, 8, .ro, false, false, (some 0), none, none, 0, 1, .plain, "executions"⟩,
  ⟨0xF111, 0xF111, 2, 2, 4, 8, .ro, false, false, (some 0), none, none, 0, 1, .plain, "instructions"⟩,
  ⟨0xF111, 0xF111, 3, 3, 4, 8, .ro, false, false, (some 0), none, none, 0, 1, .plain, "cycles"⟩,
  ⟨0xF111, 0xF111, 4, 4, 4, 8, .ro, false, false, (some 0), none, none, 0, 1, .plain, "instructions"⟩,
  ⟨0xF111, 0xF111, 5, 5, 4, 8, .ro, false, false, (some 0), none, none, 0, 1, .plain, "cycles"⟩,
  ⟨0xF111, 0xF111, 6, 6, 3, 4, .ro, false, false, (some 0), none, none, 0, 1, .plain, "wakes"⟩,
  ⟨0xF111, 0xF111, 7, 7, 3, 4, .ro, false, false, (some 0), none, none, 0, 1, .plain, "faults"⟩,
  ⟨0xF111, 0xF111, 8, 8, 3, 4, .ro, false, false, (some 0), none, none, 0, 1, .plain, "faults"⟩,
  ⟨0xF112, 0xF112, 0, 0, 2, 2, .rw, false, false, (some 16384), (some (128)), (some 16384), 0, 128, .plain, "elements"⟩,
  ⟨0xF120, 0xF120, 0, 0, 1, 1, .rw, false, true, (some 0), none, none, 0, 1, .queueSel, ""⟩,
  ⟨0xF121, 0xF121, 1, 1, 1, 1, .ro, false, false, (some 0), none, none, 0, 1, .plain, ""⟩,
  ⟨0xF121, 0xF121, 2, 2, 3, 4, .ro, false, false, (some 0), none, none, 0, 1, .plain, "instructions"⟩,
  ⟨0xF121, 0xF121, 3, 3, 3, 4, .ro, false, false, (some 0), none, none, 0, 1, .plain, "passes"⟩,
  ⟨0xF121, 0xF121, 4, 4, 3, 4, .ro, false, false, (some 0), none, none, 0, 1, .plain, ""⟩,
  ⟨0xF121, 0xF121, 5, 5, 4, 8, .ro, false, false, (some 0), none, none, 0, 1, .plain, "instructions"⟩,
  ⟨0xF121, 0xF121, 6, 6, 2, 2, .ro, false, false, (some 0), none, none, 0, 1, .plain, "instructions"⟩,
  ⟨0xF121, 0xF121, 7, 7, 4, 8, .ro, false, false, (some 0), none, none, 0, 1, .plain, "cycles"⟩,
  ⟨0xF121, 0xF121, 8, 8, 4, 8, .ro, false, false, (some 0), none, none, 0, 1, .plain, "cycles"⟩,
  ⟨0xF121, 0xF121, 9, 9, 4, 8, .ro, false, false, (some 0), none, none, 0, 1, .plain, "cycles"⟩,
  ⟨0xF122, 0xF122, 0, 0, 3, 4, .rw, false, false, (some 400000000), none, none, 0, 1, .plain, "cycles"⟩,
  ⟨0xF123, 0xF123, 1, 2, 2, 2, .ro, false, false, (some 0), none, none, 0, 1, .plain, "records"⟩,
  ⟨0xF124, 0xF124, 1, 2, 2, 2, .rw, false, false, (some 0), (some (0)), (some 1023), 0, 1, .plain, "records"⟩,
  ⟨0xF125, 0xF125, 1, 2, 3, 4, .ro, false, false, (some 0), none, none, 0, 1, .plain, "records"⟩]

/-- Objects from 0xF126 on. -/
def odRows16 : List OdRow := [
  ⟨0xF126, 0xF126, 1, 2, 2, 2, .ro, false, false, (some 0), none, none, 0, 1, .plain, "entries"⟩,
  ⟨0xF127, 0xF127, 1, 2, 2, 2, .rw, false, false, (some 0), none, none, 0, 1, .zeroOnly, "entries"⟩,
  ⟨0xF128, 0xF128, 0, 0, 2, 2, .rw, false, true, (some 0), none, none, 2047, 1, .plain, ""⟩,
  ⟨0xF129, 0xF129, 0, 0, 3, 4, .rw, false, false, (some 0), none, none, 0, 1, .plain, ""⟩,
  ⟨0xF12A, 0xF12A, 1, 8, 3, 4, .rw, false, false, (some 0), none, none, 0, 1, .plain, ""⟩,
  ⟨0xF12A, 0xF12A, 9, 16, 3, 4, .rw, false, false, (some 0), none, none, 0, 1, .plain, ""⟩,
  ⟨0xF12B, 0xF12B, 1, 2, 3, 4, .ro, false, false, (some 0), none, none, 0, 1, .plain, "events"⟩]

/-- Every object of the dictionary, in index order. -/
def odTable : List OdRow :=
  odRows0 ++ odRows1 ++ odRows2 ++ odRows3 ++ odRows4 ++ odRows5 ++ odRows6 ++ odRows7 ++ odRows8 ++ odRows9 ++ odRows10 ++ odRows11 ++ odRows12 ++ odRows13 ++ odRows14 ++ odRows15 ++ odRows16

/-- The row of an object, if one defines it (00 R13). -/
def odRow (idx sub : Nat) : Option OdRow :=
  odTable.find? (fun r => decide (r.idxLo ≤ idx && idx ≤ r.idxHi && r.subLo ≤ sub && sub ≤ r.subHi))

/-- Highest subindex defined at an index, subindex 0xFF apart (18 R597). -/
def odMaxSub (idx : Nat) : Nat :=
  odTable.foldl (fun m r => if r.idxLo ≤ idx && idx ≤ r.idxHi then max m r.subHi else m) 0

/-- Key of an object's value: the instance a select names, the index, the subindex. -/
def odk (inst idx sub : Nat) : Nat := inst * 2 ^ 24 + idx * 256 + sub

/-- Non-zero defaults of the objects, sorted by key: where every reset puts a value other than 0. -/
def odDefaults : Tab Nat := [
  (0x100000, 2144),
  (0x100100, 33),
  (0x100300, 3),
  (0x101200, 100),
  (0x103200, 510),
  (0x201000, 2800),
  (0x201100, 50),
  (0x201200, 95),
  (0x201300, 95),
  (0x201400, 100),
  (0x202001, 2),
  (0x202002, 2),
  (0x202003, 2),
  (0x202004, 2),
  (0x202005, 2),
  (0x202006, 2),
  (0x202007, 2),
  (0x202008, 2),
  (0x202100, 64),
  (0x202200, 100),
  (0x202300, 10000),
  (0x202400, 1000),
  (0x202501, 2),
  (0x202502, 2),
  (0x202503, 2),
  (0x202504, 2),
  (0x202505, 2),
  (0x202506, 2),
  (0x202507, 2),
  (0x202508, 2),
  (0x300000, 32),
  (0x300100, 256),
  (0x300200, 24),
  (0x300300, 16),
  (0x300800, 32),
  (0x381001, 16),
  (0x381002, 64),
  (0x381003, 1024),
  (0x381004, 4),
  (0x381005, 48),
  (0x381006, 4),
  (0x381007, 256),
  (0x381008, 512),
  (0x381009, 1),
  (0x38100A, 4),
  (0x381101, 16),
  (0x381102, 64),
  (0x381103, 1024),
  (0x381104, 4),
  (0x381105, 48),
  (0x381106, 4),
  (0x381107, 256),
  (0x381108, 512),
  (0x381109, 1),
  (0x38110A, 4),
  (0x381201, 16),
  (0x381202, 64),
  (0x381203, 1024),
  (0x381204, 4),
  (0x381205, 48),
  (0x381206, 4),
  (0x381207, 256),
  (0x381208, 512),
  (0x381209, 1),
  (0x38120A, 4),
  (0x381301, 16),
  (0x381302, 64),
  (0x381303, 1024),
  (0x381304, 4),
  (0x381305, 48),
  (0x381306, 4),
  (0x381307, 256),
  (0x381308, 512),
  (0x381309, 1),
  (0x38130A, 4),
  (0x381401, 16),
  (0x381402, 64),
  (0x381403, 1024),
  (0x381404, 4),
  (0x381405, 48),
  (0x381406, 4),
  (0x381407, 256),
  (0x381408, 512),
  (0x381409, 1),
  (0x38140A, 4),
  (0x381501, 16),
  (0x381502, 64),
  (0x381503, 1024),
  (0x381504, 4),
  (0x381505, 48),
  (0x381506, 4),
  (0x381507, 256),
  (0x381508, 512),
  (0x381509, 1),
  (0x38150A, 4),
  (0x400000, 1),
  (0x400100, 999000),
  (0x400200, 64),
  (0x400300, 10000),
  (0x400400, 232),
  (0x400500, 8),
  (0x401000, 2),
  (0x401100, 2),
  (0x401200, 16),
  (0x401300, 3),
  (0x401400, 129),
  (0x401500, 127),
  (0x500100, 1),
  (0x500200, 4096),
  (0x500300, 1048576),
  (0x500400, 1),
  (0x500500, 1000),
  (0x580200, 12),
  (0x580300, 16),
  (0x580400, 2000),
  (0x600101, 1),
  (0x600102, 1),
  (0x600103, 1),
  (0x600400, 63),
  (0x600500, 10),
  (0x600600, 1000),
  (0x600700, 8),
  (0x600B00, 256),
  (0x601101, 1),
  (0x601103, 65535),
  (0x700900, 1),
  (0x700A00, 3),
  (0x701300, 1),
  (0x701400, 25),
  (0x780003, 6),
  (0x780100, 1),
  (0x780200, 65535),
  (0x780400, 1000),
  (0x780B00, 65535),
  (0x800300, 1000),
  (0xF11200, 16384),
  (0xF12200, 400000000)]

end Sys2Proof.Machine
end

