-- ==== Sys2Proof/Machine/StateSys.lean ====
section
/-! DEFINITION. The parts of the state outside the compute half: arbiters, commit unit, host attachment, power,
management port (chapters 08, 13, 16, 17, 18). -/

namespace Sys2Proof.Machine

/-- A request presented at an arbiter input, or a suspended transfer (08 R277, R289). -/
structure ArbReq where
  origin : Nat
  input : Nat
  len : Nat
  /-- beats of LEN already moved -/
  moved : Nat
  /-- beats moved under the current burst -/
  burst : Nat
  /-- hold count of the cut-off rules -/
  hold : Nat
  /-- pre-emptions of the current burst -/
  preempted : Nat
  /-- age order: lower is older -/
  seq : Nat
  /-- consecutive cycles pending and ungranted -/
  wait : Nat
  /-- priority level at issue (08 R277) -/
  level : Nat
  /-- BURST_LIMIT and GRANT_HOLD_LIMIT that its grant began under, and BASCULE_MAX, 0 where pre-emption was off
  (Table 8-4, 08 R297) -/
  limit : Nat
  holdLimit : Nat
  bascule : Nat
  deriving DecidableEq, Repr

/-- One arbiter instance (08 R274 to R291). -/
structure ArbInst where
  cands : List ArbReq
  owner : Option ArbReq
  /-- suspended by bascule or cut-off, the latest first -/
  suspended : List ArbReq
  /-- last originator granted at each level -/
  pointers : Tab Nat
  /-- grants of each originator in the window -/
  winGrants : Tab Nat
  /-- originators masked by quota, and by cut-off, in the window -/
  quotaMask : List Nat
  cutMask : List Nat
  /-- originators that were masked in the window, and those of them that had a request pending then -/
  wasMasked : List Nat
  maskedPending : List Nat
  nextSeq : Nat
  /-- decisions of ADAPT_CLASS that had been taken when the window began (08 R287) -/
  adapted : Nat
  deriving DecidableEq, Repr

/-- An idle instance. -/
def ArbInst.zero : ArbInst := ⟨[], none, [], [], [], [], [], [], [], 0, 0⟩

/-- A transfer that its originator has issued and no arbiter input has presented: class, instance, ORIGIN, input, beats
(08 R275, R277). -/
structure Traffic where
  cls : Nat
  inst : Nat
  origin : Nat
  input : Nat
  len : Nat
  deriving DecidableEq, Repr

/-- The arbiters (08). Instances are keyed class × 2^16 + number; per-originator tables class × 2^16 + ORIGIN. -/
structure Arb where
  insts : Tab ArbInst
  /-- priority level of each ORIGIN (08 R282) -/
  priority : Tab Nat
  /-- current quota less the class's QUOTA_MAX default where unlisted: see `quotaOf` -/
  quota : Tab Nat
  /-- instance-windows of the period in which an originator received its full quota -/
  filled : Tab Nat
  /-- instance-windows in which it was masked while pending -/
  maskedPending : Tab Nat
  /-- classes with a level-0 request starved in the period -/
  starved : List Nat
  /-- quotas before the last decision of each class, and decisions taken by class (08 R287) -/
  oldQuota : Tab Nat
  decisions : Tab Nat
  /-- transfers issued and not presented, oldest first -/
  coming : List Traffic
  deriving DecidableEq, Repr

/-- Arbiters after a module reset (08 R282, R296). -/
def Arb.zero : Arb := ⟨[], [], [], [], [], [], [], [], []⟩

/-- PSTATE (Table 13-1). -/
inductive PState where
  | idle | running | exchanged | voted | flipped | invalid | empty
  deriving DecidableEq, Repr

/-- Contribution of one sender to a round (Table 13-3), with the step epoch and attempt it names. -/
structure Contrib where
  sender : Nat
  epoch : Nat
  attempt : Nat
  flags : Nat
  count : Nat
  maxs : List Int
  sums : List Nat
  deriving DecidableEq, Repr

/-- The Abutment, the epoch record and the mirror stream (13). -/
structure Commit where
  committed : Nat
  attempt : Nat
  exhausted : Bool
  pstate : PState
  /-- the attempt is marked faulted (06 R225), scale-corrected (03 R100), barred by SATF (11 R381) -/
  faulted : Bool
  scaleCorrected : Bool
  satReplay : Bool
  planFault : Bool
  /-- own contribution sent in each round -/
  exchSent : Bool
  voteSent : Bool
  /-- own contribution to each round -/
  exchOwn : Option Contrib
  voteOwn : Option Contrib
  /-- children's contributions received, oldest first; those of a later attempt wait here for it -/
  exchIn : List Contrib
  voteIn : List Contrib
  /-- children whose contributions the module has combined in each round (13 R458) -/
  exchKids : List Nat
  voteKids : List Nat
  /-- the attempt was entered by ABANDON_UPDATE, and slot 0 serves it (13 R466) -/
  updReplay : Bool
  /-- the up message of each round has left, or the root has decided -/
  exchDone : Bool
  voteDone : Bool
  /-- ROUND_TIMEOUT is recorded for the round -/
  timedOut : Bool
  /-- SCALE_EXP at the attempt's start of slots corrected in it (13 R460): key Pier × 2^14 + slot, value + 128 -/
  scaleSave : Tab Nat
  /-- attempt that the last commit took, for the records of a bank that closes after it (Table 3-5) -/
  closedAttempt : Nat
  /-- SCALE_WINDOW of the step before, where a new one took effect at the last boundary (03 R99) -/
  oldWindow : Option Nat
  /-- RED_WINDOW of the step before, likewise (11 R379) -/
  oldRedWindow : Option Nat
  /-- mirror stream of this module as owner: open for (e_next, attempt) -/
  streamOpen : Bool
  /-- payload bytes since the last marker -/
  streamBytes : Nat
  /-- the MDONE of a step's stream that is not acknowledged: its payload bytes, epoch, attempt; MCLOSE unacknowledged -/
  mdoneWait : Option (Nat × Nat × Nat)
  mcloseWait : Bool
  mdoneAcked : Bool
  /-- payload bytes of the last marker, and the epoch of the last MCLOSE -/
  markBytes : Nat
  closeEpoch : Nat
  closeAttempt : Nat
  closeBytes : Nat
  /-- a reseed is running, and its MDONE has been acknowledged -/
  reseed : Bool
  reseedAcked : Bool
  /-- the MDONE of a reseed that is not acknowledged: its payload bytes, epoch, attempt -/
  reseedWait : Option (Nat × Nat × Nat)
  /-- tensors that a reseed has still to copy, while it copies (13 R479) -/
  reseedLeft : Option (List Nat)
  /-- scrub writes the next stream carries first (13 R461): Pier of the half, offset of the state block -/
  scrubbed : List (Nat × Nat)
  /-- messages of Pier 1's half that wait while that Pier is in reset: destination, body (Table 13-11) -/
  paused : List (Nat × List Byte)
  /-- objects 0x7801 to 0x780D as the last START from IDLE took them (13 R484) -/
  live : Tab Nat
  /-- a restore is running: 1 its mirror header is awaited, 2 the state blocks and tables, 3 the banks; 0 none -/
  restoring : Nat
  /-- bytes still to come: mirror offset and length -/
  restoreWant : List (Nat × Nat)
  /-- bytes that have come, by mirror offset -/
  restoreImage : Tab Byte
  /-- bytes moved by the restore -/
  restoreBytes : Nat
  /-- EPOCH of the stream a holder has open is in the mirror header in the slow tier; MDATA bytes it has written -/
  heldBytes : Nat
  deriving DecidableEq, Repr

/-- The epoch record lost (13 R449: PSTATE EMPTY, every other field zero). [DESIGN CHOICE: log entry 1] -/
def Commit.zero : Commit :=
  { committed := 0, attempt := 0, exhausted := false, pstate := .empty, faulted := false, scaleCorrected := false,
    satReplay := false, planFault := false, exchSent := false, voteSent := false, exchOwn := none, voteOwn := none,
    exchIn := [], voteIn := [], exchKids := [], voteKids := [], updReplay := false,
    exchDone := false, voteDone := false, timedOut := false, scaleSave := [], closedAttempt := 0, oldWindow := none,
    oldRedWindow := none,
    streamOpen := false, streamBytes := 0, mdoneWait := none, mcloseWait := false, mdoneAcked := false, markBytes := 0,
    closeEpoch := 0, closeAttempt := 0, closeBytes := 0,
    reseed := false, reseedAcked := false, reseedWait := none, reseedLeft := none, scrubbed := [], paused := [],
    live := [(0x780100, 1), (0x780200, 65535), (0x780400, 1000), (0x780B00, 65535)],
    restoring := 0, restoreWant := [], restoreImage := [], restoreBytes := 0, heldBytes := 0 }

/-- The update state (Table 12-7). -/
inductive UpdState where
  | idle | opened | exported | normed | closed
  deriving DecidableEq, Repr

/-- What UOPEN latches of the objects of Table 12-13, or WCOPY at its own latch (12 R428, R440, R447). -/
structure UpdCfg where
  table : Nat
  count : Nat
  stateBase : Nat
  stateSize : Nat
  factor : Nat
  normBucket : Nat
  nclip : Nat
  nnorm : Nat
  hs : Nat
  hd : Nat
  seed : Nat
  gclip : Nat
  nonfinite : Nat
  headroom : Nat
  deriving DecidableEq, Repr

/-- A tensor as an Ilben command has latched it: index, entry, committed bank, its state block, factor entry, V of its
bucket. -/
structure UpdTensor where
  ix : Nat
  raw : Nat
  bank : Nat
  block : Nat
  factor : Nat
  v : Nat
  deriving DecidableEq, Repr

/-- An Ilben command in flight: Pier, identity, opcode, ADOPT, its tensors, its configuration, and for a command that waits
the identities of the commands it waits for. -/
structure UpdJob where
  pier : Nat
  ident : Nat
  op : Nat
  adopt : Bool
  cfg : UpdCfg
  tensors : List UpdTensor
  waits : List Nat
  /-- PC of the command, watch bank that it latched -/
  pc : Nat
  gen : Nat
  /-- work items done -/
  did : Nat
  deriving DecidableEq, Repr

/-- Ilben's update engine (12). -/
structure Upd where
  st : UpdState
  eNext : Nat
  cfg : UpdCfg
  /-- group-table entries latched, by group -/
  groups : Tab Nat
  /-- norm accumulators: anchor, words, status records by tile -/
  anchor : Int
  words : Tab Nat
  stats : Tab (Option Nat)
  /-- tensors that a PASS2 of the attempt has named -/
  named : List Nat
  updated : Nat
  skipped : Nat
  jobs : List UpdJob
  deriving DecidableEq, Repr

/-- An update engine with nothing latched. -/
def Upd.zero : Upd :=
  { st := .idle, eNext := 0, cfg := ⟨0, 0, 0, 0, 0, 0, 0, 0, 0, 0, 0, 0, 0, 0⟩, groups := [], anchor := 0, words := [],
    stats := [], named := [], updated := 0, skipped := 0, jobs := [] }

/-- The host attachment (16). -/
structure HostSt where
  linkUp : Bool
  /-- rate code and width of OD 0x8000 -/
  rate : Nat
  width : Nat
  cxlMode : Bool
  d3hot : Bool
  launchMask : Tab Nat
  intCause : Nat
  intMask : Nat
  /-- vectors with an event whose message has not been sent -/
  unsent : Nat
  /-- vectors whose INT_HOLDOFF has not elapsed -/
  holdoff : Nat
  /-- masked MSI-X entries, and the table's other bytes -/
  msixMasked : Nat
  msixTable : Tab Byte
  notifySeq : Nat
  /-- vectors whose messages wait for the notify line's completion; none = no write outstanding -/
  notifyWait : Option (List Nat)
  /-- HDM decoders committed -/
  hdmCommitted : Nat
  /-- lines of the filter of R544, oldest first: slow-tier offset / 64 -/
  filter : List Nat
  /-- a line whose BISnpInv is outstanding, with bytes by physical address that wait to be written; oldest first -/
  snoopWait : List (Nat × List (Nat × Byte))
  /-- a host read that waits for the snoop of a line: the line, and the line it reads (16 R544) -/
  readWait : List (Nat × Nat)
  /-- the timestamp that Set Timestamp gave (18 Table 18-6) -/
  timestamp : Option Nat
  /-- Failure log, oldest first: MEM_STATUS, or FABRIC_STATUS + 2^32 (Table 16-8) -/
  eventLog : List Nat
  /-- event interrupt policy that the host set -/
  eventPolicy : List Nat
  /-- a CXL Reset waits for the filter of R544 to empty -/
  cxlReset : Bool
  deriving DecidableEq, Repr

/-- The host attachment after reset: no link, decoders off, MSI-X entries masked. [DESIGN CHOICE: log entry 1] -/
def HostSt.zero : HostSt :=
  { linkUp := false, rate := 0, width := 0, cxlMode := false, d3hot := false, launchMask := [], intCause := 0,
    intMask := 0, unsent := 0, holdoff := 0, msixMasked := 2 ^ 32 - 1, msixTable := [], notifySeq := 0,
    notifyWait := none, hdmCommitted := 0, filter := [], snoopWait := [], readWait := [], timestamp := none,
    eventLog := [], eventPolicy := [], cxlReset := false }

/-- POWER_STATE (OD 0x2000). -/
inductive PowerState where
  | toll | standby | waking | active | moduleReset
  deriving DecidableEq, Repr

/-- Cluster states (OD 0x2025). -/
inductive ClusterState where
  | run | gated | parked | retain | off | restoring
  deriving DecidableEq, Repr

/-- A record of the power event log (Table 17-9). -/
structure PowerRec where
  epoch : Nat
  key : Nat
  event : Nat
  data0 : Nat
  data1 : Nat
  deriving DecidableEq, Repr

/-- Power, clocks and reset (17). -/
structure Power where
  state : PowerState
  /-- the 48 V input is present and the Tollhouse runs (Table 17-4: no input) -/
  inputPresent : Bool
  /-- 48 V above the lockout is applied at J9, whether or not the sense loops let it in (20 R649) -/
  supply : Bool
  /-- orders of Table 17-2 whose rails are on -/
  railsUp : List Nat
  /-- order whose rails have been started and not reported power-good -/
  railPending : Option Nat
  refStable : Bool
  trained : Bool
  /-- the sequence that runs while WAKING: power-up from TOLL, or exit from STANDBY -/
  fromStandby : Bool
  /-- rails held off until a wake event below 60 V (17 R559) -/
  overvoltage : Bool
  /-- PERST# is asserted -/
  perstAsserted : Bool
  /-- J9 sense loops open (20 R649) -/
  senseOpen : Bool
  /-- straps as the tray ties them: WAKE_MODE, NODE_ID -/
  wakeMode : Bool
  nodeStrap : Nat
  inputLow : Bool
  millivolts : Nat
  milliamps : Nat
  watts : Nat
  pLevel : Nat
  tLevel : Tab Nat
  clusters : Tab ClusterState
  temps : Tab Int
  /-- slot divisors of throttled stacks: 2 or 4, 1 where unlisted -/
  stackDiv : Tab Nat
  /-- stacks that refresh at the interval of above 85 °C -/
  fastRefresh : List Nat
  ilbenHalf : Bool
  /-- LAST_RESET cause of the module reset in progress -/
  resetCause : Nat
  /-- Keystone is released and has not finished its verification (17 Tables 17-12, 17-13) -/
  released : Bool
  log : List PowerRec
  logSeq : Nat
  deriving DecidableEq, Repr

/-- Power in TOLL: input present, the Tollhouse running, every other rail off (Table 17-13, 5 ms).
[DESIGN CHOICE: log entry 1] -/
def Power.zero : Power :=
  { state := .toll, inputPresent := true, supply := true, railsUp := [0], railPending := none, refStable := false, trained := false,
    fromStandby := false, overvoltage := false, perstAsserted := false, senseOpen := false, wakeMode := false, nodeStrap := 1,
    inputLow := false, millivolts := 0, milliamps := 0, watts := 0, pLevel := 0, tLevel := [], clusters := [],
    temps := [], stackDiv := [], fastRefresh := [], ilbenHalf := false, resetCause := 0, released := false, log := [], logSeq := 0 }

/-- CAN_STATE (OD 0x1011). -/
inductive CanMode where
  | errorActive | errorPassive | busOff | listenOnly | silent
  deriving DecidableEq, Repr

/-- A CAN FD frame waiting in the transmit queue (18 R618): class 0 ALERT, 1 RESPONSE, 2 HEARTBEAT. -/
structure CanFrame where
  cls : Nat
  ident : Nat
  data : List Byte
  deriving DecidableEq, Repr

/-- An open segmented write transfer (18 R617). -/
structure CanXfer where
  idx : Nat
  sub : Nat
  tag : Nat
  total : Nat
  next : Nat
  data : List Byte
  deriving DecidableEq, Repr

/-- The CAN FD port (18 R610 to R621). -/
structure Can where
  nodeId : Nat
  mode : CanMode
  txErrors : Nat
  rxErrors : Nat
  xfer : Option CanXfer
  tx : List CanFrame
  lastAlert : List Byte
  deriving DecidableEq, Repr

/-- An entry of the fuse log (Table 18-6). -/
structure FuseEntry where
  complete : Bool
  idx : Nat
  transport : Nat
  remaining : Nat
  committed : Nat
  timestamp : Nat
  value : List Byte
  deriving DecidableEq, Repr

/-- A staging area of one transport (18 R608): TOKEN_STATUS, the bytes staged, TOKEN_REF, TOKEN_NONCE. -/
structure Staging where
  status : Nat
  data : List Byte
  ref : Nat
  nonce : List Byte
  deriving DecidableEq, Repr

/-- An empty staging area. -/
def Staging.zero : Staging := ⟨0, [], 0, List.replicate 32 0⟩

/-- An SPDM request that Keystone has not answered: transport (0 management port, 1 DOE), request by its place in Table
19-3, its numeric fields, its bytes. -/
structure SpdmReq where
  tr : Nat
  op : Nat
  args : List Nat
  data : List Byte
  deriving DecidableEq, Repr

/-- The SPDM responder (19 R633, R634). -/
structure Spdm where
  /-- SPDM_STATUS and SPDM_RX of the management port -/
  status : Nat
  rx : List Byte
  queue : List SpdmReq
  /-- negotiation reached: 0 none, 1 version, 2 capabilities, 3 algorithms -/
  stage : Nat
  /-- 0 none, 1 key exchange done, 2 established -/
  session : Nat
  /-- message that the last RSA signature of the connection covered -/
  signed : Option (List Byte)
  /-- ResponseNotReady has been sent for the request at the front -/
  deferred : Bool
  /-- chunks of a large request received, and the large response that CHUNK_GET reads -/
  chunks : List Byte
  large : List Byte
  deriving DecidableEq, Repr

/-- A responder with no connection. -/
def Spdm.zero : Spdm := ⟨0, [], [], 0, 0, none, false, [], []⟩

/-- Keystone (19). -/
structure Sec where
  /-- images of slots 0 and 1 that passed R629; [] = empty -/
  image0 : List Byte
  image1 : List Byte
  /-- slot marked for boot, slot running, and whether one runs -/
  boot : Nat
  running : Nat
  booted : Bool
  fallback : Bool
  recovery : Bool
  activate : Bool
  /-- firmware transfer in progress: slot and the bytes received -/
  xfer : Option (Nat × List Byte)
  /-- measurements 2 and 3, fixed at release -/
  meas2 : List Byte
  meas3 : List Byte
  stage0 : Staging
  stage1 : Staging
  debugOpen : Bool
  spdm : Spdm
  deriving DecidableEq, Repr

/-- Keystone with empty slots (Table 19-4: FW_SVN 0). [DESIGN CHOICE: log entry 1] -/
def Sec.zero : Sec :=
  { image0 := [], image1 := [], boot := 0, running := 0, booted := false, fallback := false, recovery := false,
    activate := false, xfer := none, meas2 := [], meas3 := [], stage0 := Staging.zero, stage1 := Staging.zero,
    debugOpen := false, spdm := Spdm.zero }

/-- Who is told the outcome of an access: nobody, the mailbox, or the CAN FD client (CMD, TAG, SEQ of the response). -/
inductive Reply where
  | none
  | mailbox
  | can (cmd tag seq : Nat)
  deriving DecidableEq, Repr

/-- A dictionary access (18 R601): transport 0 CAN FD, 1 mailbox; OFFSET and LENGTH; the data of a write; TOKEN_REF. -/
structure Access where
  tr : Nat
  write : Bool
  idx : Nat
  sub : Nat
  off : Nat
  len : Nat
  data : List Byte
  ref : Nat
  reply : Reply
  deriving DecidableEq, Repr

/-- The dictionary engine: the count-limited write in service, and the accesses that wait behind it (18 R601, R606). -/
structure Dict where
  busy : Option Access
  queue : List Access
  deriving DecidableEq, Repr

end Sys2Proof.Machine
end

