-- ==== Sys2Proof/Machine/State.lean ====
section
/-! DEFINITION. The state of the module as plain data, its fault and refusal reasons, and its value after reset. -/

namespace Sys2Proof.Machine

/-- Reasons for which the block stops. No command of the table stops it: see NOTES.md, Stops. -/
inductive Fault where
  /-- Raised by nothing at present; kept so that a stop would have a name. Safe: a stop claims nothing. -/
  | stopped
  deriving DecidableEq, Repr

/-- Reasons for which a command has no meaning. -/
inductive Refusal where
  /-- Raised by a dispatch arm of a command that is not modelled yet. Safe: nothing is claimed of it. -/
  | notModelled (mnemonic : String)
  deriving DecidableEq, Repr

/-- One Pier (01 R18). -/
structure Pier where
  /-- the 82 queues (Table 6-1) -/
  queues : Tab Queue
  /-- the 32 Span/Deck pairs -/
  pairs : Tab Pair
  /-- OWNER of each 1 KiB region: pair × 4,096 + region (06 R215) -/
  owner : Tab Nat
  counters : Tab Nat
  /-- the 256 flags, and the mirror of the other Pier's, as bit masks (06 R196) -/
  flags : Nat
  mirror : Nat
  /-- flag changes of the other Pier not yet visible here, oldest first (06 R197) -/
  mirrorQ : List (Nat × Bool)
  /-- the queue of the Trestle and Ilben pair that last received a tracker entry (06 R214) -/
  lastPool : Nat
  /-- a Pier reset is in progress (17 R588) -/
  inReset : Bool
  /-- generation of the watch's OPEN bank, and the banks before it that wait to close, oldest first (03 R89, R90) -/
  watchGen : Nat
  watchClosing : List WatchClose
  /-- Girder lines: set number × 16 + way, sets numbered slice × 2,048 + set (07 R242) -/
  girder : Tab Line
  /-- requests admitted or held (07 R238) and banks under refresh (07 R231) -/
  reqs : List MemReq
  refreshing : List Nat
  /-- instruction whose request each source issued last (07 R260), by source -/
  lastAsk : Tab Nat
  /-- the live-batch table (09 R319) -/
  live : Tab LiveEntry
  /-- REDUCEs in flight -/
  reds : List Red
  deriving DecidableEq, Repr

/-- A Pier after reset. [DESIGN CHOICE: log entry 1] -/
def Pier.zero : Pier :=
  { queues := [], pairs := [], owner := [], counters := [], flags := 0, mirror := 0, mirrorQ := [], lastPool := 80,
    inReset := false, watchGen := 0, watchClosing := [], girder := [], reqs := [], refreshing := [],
    lastAsk := [],
    live := [], reds := [] }

/-- What leaves the block: answers and packets, in the order in which they leave. -/
inductive Out where
  /-- a codeword or control slots sent on a port (14 R489 to R491): port, number, header, data -/
  | codeword (port : Nat) (cw : Codeword)
  | hostData (poisoned : Bool) (bytes : List Byte)
  | canFrame (ident : Nat) (bytes : List Byte)
  | msix (vector : Nat)
  | notifyLine (addr : Nat) (bytes : List Byte)
  | mailbox (code : Nat) (bytes : List Byte)
  /-- a DOE response object -/
  | doe (bytes : List Byte)
  | line (poisoned : Bool) (bytes : List Byte)
  /-- completion of a configuration request; `retry` with Configuration Request Retry Status (17 R592) -/
  | config (retry : Bool)
  /-- BISnpInv of a slow-tier line (16 R544) -/
  | backInvalidate (line : Nat)
  /-- answer to a host snoop (16 R550) -/
  | snoopAnswer
  deriving DecidableEq, Repr

/-- The whole module, and the queue of commands that wait. -/
structure State where
  /-- every byte store: space × 2^44 + offset (spaces: `spFast` and following) -/
  mem : Tab Byte
  /-- errors held in granules, by granule address (07 R267, 12 R418) -/
  errs : Tab CellErr
  /-- values of the dictionary's numeric objects by `odk`, in effect; unlisted objects are 0 -/
  od : Tab Nat
  /-- accepted envelope values not yet in effect (01 R29) -/
  env : Tab (Option Nat)
  /-- values of the select objects: transport × 2^24 + index × 256 + subindex (18 R599) -/
  sel : Tab Nat
  /-- watch counters: ((bank × 2 + Pier) × 65,536 + set) × 16 + counter; banks 0 LAST, 1 SILENT states, 2 + g the bank of
  generation g -/
  watch : Tab Nat
  /-- marks of what has been recorded once in the attempt -/
  once : Tab Nat
  /-- next sequence number of each event ring -/
  seqs : Tab Nat
  p0 : Pier
  p1 : Pier
  arb : Arb
  fab : Fab
  commit : Commit
  upd : Upd
  /-- the persistent memory fault is one of the slow tier (12 R419, 13 R482) -/
  slowFailed : Bool
  /-- MDATA that a holder dropped (13 R472) -/
  mirrorDropped : Nat
  host : HostSt
  power : Power
  can : Can
  sec : Sec
  dict : Dict
  fuses : List FuseEntry
  /-- the MODEL's own field: how many free values have been taken -/
  free : Nat
  /-- corrected-error positions met (07 R270), by `ceMark`: the hour of the last meeting + 1 -/
  ceMarks : Tab Nat
  /-- hours that the SCRUB_PASS rows have brought -/
  hours : Nat
  out : List Out
  pending : List Instr
  deriving DecidableEq, Repr

/-- The module when its Tollhouse has started on a fresh input (17 Table 17-13, 5 ms): POWER_STATE TOLL, PSTATE EMPTY, every
dictionary object at its default, every port DOWN, nothing in any store, no command waiting. Values that the manual does
not give for this moment are 0 (log entry 1). [DESIGN CHOICE: log entry 1] -/
def State.reset : State :=
  { mem := [], errs := [], od := odDefaults, env := [], sel := [], watch := [], once := [], seqs := [], p0 := Pier.zero,
    p1 := Pier.zero, arb := Arb.zero, fab := Fab.zero, commit := Commit.zero, upd := Upd.zero, slowFailed := false,
    mirrorDropped := 0, host := HostSt.zero, power := Power.zero,
    can := ⟨Power.zero.nodeStrap, .errorActive, 0, 0, none, [], []⟩, sec := Sec.zero, dict := ⟨none, []⟩, fuses := [],
    free := 0, ceMarks := [], hours := 0, out := [], pending := [] }

end Sys2Proof.Machine
end

