-- ==== Sys2Proof/Machine/Ops.lean ====
section
/-! DEFINITION. The named operations over the state: memory, dictionary values, events and rings, interrupts, fault
records, signals. -/

namespace Sys2Proof.Machine

/-! ## Address spaces (Table 6-9) -/

/-- Space number of Pier p's fast tier. -/
def spFast (p : Nat) : Nat := p
/-- Space number of Pier p's tile register files. -/
def spTrf (p : Nat) : Nat := 2 + p
/-- Space number of the slow tier. -/
def spSlow : Nat := 4
/-- Space number of Pier p's control space. -/
def spCtl (p : Nat) : Nat := 5 + p
/-- Space number of the router's reduce buffer (11). -/
def spRouter : Nat := 7

/-- Bytes of a fast tier: 480 GiB. -/
def fastSize : Nat := 480 * 2 ^ 30
/-- Bytes of a Pier's tile register files: 128 MiB. -/
def trfSize : Nat := 2 ^ 27
/-- Bytes of the slow tier: 4 TiB. -/
def slowSize : Nat := 2 ^ 42
/-- Bytes of a control space: 4 MiB. -/
def ctlSize : Nat := 2 ^ 22

/-- Physical address: space and offset. -/
def pkey (sp off : Nat) : Nat := sp * 2 ^ 44 + off
/-- Space of a physical address. -/
def pspace (k : Nat) : Nat := k / 2 ^ 44
/-- Offset of a physical address. -/
def poff (k : Nat) : Nat := k % 2 ^ 44

/-- The other Pier. -/
def other (p : Nat) : Nat := 1 - p

/-- Where an address of Table 6-9 leads from Pier p; none beyond its region (06 R204). -/
def physOf (p : Nat) (a : Int) : Option Nat :=
  if a < 0 then none else
  let o := a.toNat % 2 ^ 44
  match a.toNat / 2 ^ 44 with
  | 0 => if o < fastSize then some (pkey (spFast p) o) else none
  | 1 => if o < fastSize then some (pkey (spFast (other p)) o) else none
  | 2 => if o < trfSize then some (pkey (spTrf p) o) else none
  | 3 => if o < slowSize then some (pkey spSlow o) else none
  | 4 => if o < ctlSize then some (pkey (spCtl p) o) else none
  | 5 => if o < ctlSize then some (pkey (spCtl (other p)) o) else none
  | _ => none

/-! ## Parts of the state -/

/-- Pier p. -/
def State.pier (s : State) (p : Nat) : Pier := if p = 0 then s.p0 else s.p1

/-- Change Pier p. -/
def State.modPier (s : State) (p : Nat) (f : Pier → Pier) : State :=
  if p = 0 then { s with p0 := f s.p0 } else { s with p1 := f s.p1 }

/-- Queue q of Pier p. -/
def State.queue (s : State) (p q : Nat) : Queue := Tab.get Queue.zero (s.pier p).queues q

/-- Replace queue q of Pier p. -/
def State.setQueue (s : State) (p q : Nat) (v : Queue) : State :=
  s.modPier p (fun r => { r with queues := Tab.set Queue.zero r.queues q v })

/-- A pair as reset leaves it: the value an unlisted pair has. [DESIGN CHOICE: log entry 1] -/
def Pair.zero : Pair := Pair.restored 16384

/-- Pair i of Pier p. -/
def State.pair (s : State) (p i : Nat) : Pair := Tab.get Pair.zero (s.pier p).pairs i

/-- Replace pair i of Pier p. -/
def State.setPair (s : State) (p i : Nat) (v : Pair) : State :=
  s.modPier p (fun r => { r with pairs := Tab.set Pair.zero r.pairs i v })

/-- A byte of a store, with no effect of the read. [DESIGN CHOICE: log entry 1] -/
def State.byte (s : State) (k : Nat) : Byte := Tab.get 0 s.mem k

/-- Set a byte of a store. -/
def State.setByte (s : State) (k : Nat) (b : Byte) : State := { s with mem := Tab.set 0 s.mem k b }

/-- The canonical form of the memory: addresses strictly rising, no byte that an unlisted address reads as.
[DESIGN CHOICE: log entry 1] -/
def Memory.wf (m : Tab Byte) : Bool := Tab.wf 0 m

/-- `n` bytes from k on. -/
def State.bytes (s : State) (k n : Nat) : List Byte := (List.range n).map (fun i => s.byte (k + i))

/-- Write bytes from k on. -/
def State.setBytes (s : State) (k : Nat) : List Byte → State
  | [] => s
  | b :: t => (s.setByte k b).setBytes (k + 1) t

/-- A little-endian number of n bytes (00 R7). -/
def State.num (s : State) (k n : Nat) : Nat := ofBytes (s.bytes k n)

/-- Write a little-endian number of n bytes. -/
def State.setNum (s : State) (k n v : Nat) : State := s.setBytes k (toBytes n v)

/-- Value in effect of a dictionary object. -/
def State.odv (s : State) (inst idx sub : Nat) : Nat := Tab.get 0 s.od (odk inst idx sub)

/-- Set a dictionary value. -/
def State.setOd (s : State) (inst idx sub v : Nat) : State := { s with od := Tab.set 0 s.od (odk inst idx sub) v }

/-- Add to a 64-bit counter that saturates. -/
def State.bump64 (s : State) (inst idx sub n : Nat) : State := s.setOd inst idx sub (sat64 (s.odv inst idx sub + n))

/-- Add to a 32-bit counter that wraps. -/
def State.bump32 (s : State) (inst idx sub n : Nat) : State := s.setOd inst idx sub (wrap32 (s.odv inst idx sub + n))

/-- The last value accepted for an object (18 R600). -/
def State.accepted (s : State) (inst idx sub : Nat) : Nat :=
  match Tab.get none s.env (odk inst idx sub) with
  | some v => v
  | none => s.odv inst idx sub

/-- Value of a select object on a transport: 0 CAN FD, 1 mailbox (18 R599). -/
def State.selv (s : State) (tr idx : Nat) : Nat := Tab.get 0 s.sel (tr * 2 ^ 24 + idx * 256)

/-- Append to what leaves the block. -/
def State.emit (s : State) (o : Out) : State := { s with out := s.out ++ [o] }

/-- Take one free value of w bits. [DESIGN CHOICE: log entry 2] -/
def State.takeFree (s : State) (w : Nat) : Nat × State :=
  ((Config.freeWord s.free).toNat % 2 ^ w, { s with free := s.free + 1 })

/-- STEP_EPOCH of a record made during an attempt (Table 3-5). -/
def State.recEpoch (s : State) : Nat := (s.commit.committed + 1) % 2 ^ 64

/-- Step the module is running (13 R450). -/
def State.eNext (s : State) : Nat := (s.commit.committed + 1) % 2 ^ 64

/-- First time in the attempt for mark (kind, id)? -/
def State.isFirst (s : State) (kind ident : Nat) : Bool := decide (Tab.get 0 s.once (kind * 2 ^ 40 + ident) = 0)

/-- Set the mark. -/
def State.setOnce (s : State) (kind ident : Nat) : State := { s with once := Tab.set 0 s.once (kind * 2 ^ 40 + ident) 1 }

/-- An attempt is running (Table 13-2). -/
def Commit.inAttempt (c : Commit) : Bool :=
  match c.pstate with
  | .running => true | .exchanged => true | .voted => true | _ => false

/-- Mark the running attempt faulted (06 R225). -/
def State.markFaulted (s : State) : State :=
  if s.commit.inAttempt then { s with commit := { s.commit with faulted := true } } else s

/-- A persistent memory fault stands (07 R270). -/
def State.memFailed (s : State) : Bool := bit 0 (s.odv 0 0x3004 0)

/-- A persistent fabric fault stands (14 R508). -/
def State.fabFailed (s : State) : Bool := bit 0 (s.odv 0 0x6008 0)

/-- The attempt counts as faulted (06 R225, 13 R482, 14 R508). -/
def State.attemptFaulted (s : State) : Bool := s.commit.faulted || s.memFailed || s.fabFailed

/-! ## Interrupts (16 R548, R549) -/

/-- Heads in the order of Table 16-7. -/
def ringHeads (s : State) : List Nat :=
  [s.odv 0 0x4020 1, s.odv 0 0x4020 2, s.odv 0 0xF123 1, s.odv 0 0xF123 2, s.odv 0 0x5020 1, s.odv 0 0x5020 2,
   s.odv 0 0x5820 1, s.odv 0 0x5820 2, s.odv 0 0x3850 0, s.odv 0 0x7030 0, s.odv 0 0x7820 0]

/-- PSTATE as Table 13-1 numbers it. -/
def PState.code : PState → Nat
  | .idle => 0 | .running => 1 | .exchanged => 2 | .voted => 3 | .flipped => 4 | .invalid => 5 | .empty => 6

/-- The notify line (Table 16-7). -/
def notifyBytes (s : State) : List Byte :=
  toBytes 8 s.host.notifySeq ++ toBytes 4 s.host.intCause ++ toBytes 4 0
    ++ (ringHeads s).flatMap (toBytes 2) ++ toBytes 2 0
    ++ toBytes 8 s.commit.pstate.code ++ toBytes 8 s.commit.committed ++ toBytes 8 0

/-- Write the notify line and count it (16 R549). [DEDUCED: log entry 51] -/
def State.writeNotify (s : State) : State :=
  let s := { s with host := { s.host with notifySeq := (s.host.notifySeq + 1) % 2 ^ 64 } }
  (s.emit (.notifyLine (s.odv 0 0x8002 0) (notifyBytes s))).bump64 0 0x8010 7 1

/-- Send the MSI-X message of a vector and start its holdoff. -/
def State.sendMsix (s : State) (v : Nat) : State :=
  let s := (s.emit (.msix v)).bump64 0 0x8010 9 1
  if s.odv 0 0x8003 0 = 0 then s
  else { s with host := { s.host with holdoff := setBit v true s.host.holdoff } }

/-- The conditions of R548 hold for a vector with an unsent event. [DEDUCED: log entry 51] -/
def HostSt.mayNotify (h : HostSt) (v : Nat) : Bool :=
  bit v h.unsent && bit v h.intCause && !bit v h.intMask && !bit v h.msixMasked && !bit v h.holdoff
    && h.linkUp && !h.d3hot

/-- Send the messages of vectors. -/
def State.sendAll (s : State) (vs : List Nat) : State := vs.foldl (fun s v => s.sendMsix v) s

/-- Start the messages of those vectors whose conditions hold: at once, or once the notify line that is written first has
completed; while one is being written they wait for the next (16 R548, R549). [DEDUCED: log entry 51] -/
def State.notifyAll (s : State) (vs : List Nat) : State :=
  let vs := vs.filter s.host.mayNotify
  let line := decide (s.odv 0 0x8002 0 ≠ 0) && s.host.cxlMode
  if vs.isEmpty || (line && s.host.notifyWait.isSome) then s else
  let s := { s with host := { s.host with unsent := vs.foldl (fun n v => setBit v false n) s.host.unsent } }
  if line then
    let t := s.writeNotify
    { t with host := { t.host with notifyWait := some vs } }
  else s.sendAll vs

/-- INTERRUPT_EVENT: a source event of a vector (16 R548). [DEDUCED: log entry 51] -/
def State.raise (s : State) (v : Nat) : State :=
  { s with host := { s.host with intCause := setBit v true s.host.intCause,
                                 unsent := setBit v true s.host.unsent } }.notifyAll [v]

/-! ## CAN FD frames and alerts (18 R616 to R620) -/

/-- Smallest CAN FD length that holds n bytes (18 R616). -/
def canLen (n : Nat) : Nat :=
  if n ≤ 8 then n else if n ≤ 12 then 12 else if n ≤ 16 then 16 else if n ≤ 20 then 20
  else if n ≤ 24 then 24 else if n ≤ 32 then 32 else if n ≤ 48 then 48 else 64

/-- Pad a payload with zero bytes. -/
def padTo (n : Nat) (l : List Byte) : List Byte := l ++ List.replicate (n - l.length) 0

/-- Put a frame in a full-length transmit queue by class; at 8 frames the last of the lowest class gives way. -/
def canEnqueue (f : CanFrame) (tx : List CanFrame) : List CanFrame :=
  let a := tx.filter (fun g => g.cls ≤ f.cls)
  let b := tx.filter (fun g => f.cls < g.cls)
  (a ++ [f] ++ b).take 8

/-- Send a frame of the port, or keep it while bus-off lasts (18 R612, R613, R618, R622). [DESIGN CHOICE: log entry 55] -/
def State.canSend (s : State) (cls ident : Nat) (data : List Byte) : State :=
  let d := padTo (canLen data.length) data
  match s.can.mode with
  | .listenOnly => s
  | .silent => s
  | .busOff =>
    if cls = 2 then s
    else { s with can := { s.can with tx := canEnqueue ⟨cls, ident, d⟩ s.can.tx } }
  | _ => (s.emit (.canFrame ident d)).bump64 0 0x1013 5 1

/-- ALERT: an alert event (18 R620). -/
def State.alert (s : State) (code key data : Nat) : State :=
  let s := s.bump32 0 0x1030 0 1
  let r := toBytes 1 code ++ toBytes 1 0 ++ toBytes 2 (s.odv 0 0x1030 0) ++ toBytes 2 key ++ toBytes 2 0 ++ toBytes 8 data
  let s := { s with can := { s.can with lastAlert := r } }
  if bit code (s.odv 0 0x1032 0) then
    if s.can.mode = .busOff && 8 ≤ (s.can.tx.filter (fun f => f.cls = 0)).length then s.bump32 0 0x1013 7 1
    else s.canSend 0 (0x080 + s.can.nodeId) r
  else s

/-! ## Traffic toward the arbiters (08 R275 to R277) -/

/-- The next number upward from a pointer among those listed, wrapping through 0 (08 R278). -/
def rotate (ptr : Nat) (os : List Nat) : Option Nat :=
  let up := os.filter (fun o => decide (ptr < o))
  let least (l : List Nat) : Option Nat := match l with
    | [] => none
    | x :: t => some (t.foldl min x)
  match least up with
  | some o => some o
  | none => least os

/-- A transfer of `len` beats is issued toward instance n of class c, in requests of at most 4,096 beats; its ORIGIN is set
here (08 R275). [DESIGN CHOICE: log entry 23] -/
def State.present (s : State) (c n : Nat) (k : Asker) (len : Nat) : State :=
  let ls := List.replicate (len / 4096) 4096 ++ (if len % 4096 = 0 then [] else [len % 4096])
  { s with arb := { s.arb with coming := s.arb.coming ++ ls.map (fun l => ⟨c, n, k.origin, k.source, l⟩) } }

/-- Discard the suspended transfers of some originators, with no further beat (08 R290, R296). -/
def State.arbDiscard (s : State) (f : Nat → Bool) : State :=
  { s with arb := { s.arb with insts := s.arb.insts.filterMap (fun e =>
      let a := { e.2 with suspended := e.2.suspended.filter (fun r => !f r.origin) }
      if a = ArbInst.zero then none else some (e.1, a)) } }

/-- The maintenance agents: patrol scrub, GIRDER_CONTROL, the event rings. -/
def Asker.maintenance (p : Nat) : Asker := ⟨p, 18, 0x10B, 0⟩
/-- The host, by the Pier it addresses. -/
def Asker.host (p : Nat) : Asker := ⟨p, 18, 0x108, 0⟩
/-- Packets of a traffic class that arrive from the fabric. -/
def Asker.fabric (p tc : Nat) : Asker := ⟨p, 20, 0x100 + tc, 0⟩
/-- The mirror and restore traffic of a Pier's half. -/
def Asker.mirror (p : Nat) : Asker := ⟨p, 17, 0x109 + p, 0⟩
/-- The Abutment's round messages. -/
def Asker.abutment (p : Nat) : Asker := ⟨p, 18, 0x10D, 0⟩
/-- Instruction fetch, charged to the fetching queue. -/
def Asker.fetch (p q : Nat) : Asker := ⟨p, 21, q + 128 * p, 0⟩
/-- Instruction `ident` of queue q of Pier p: a copy engine, the Trestle or the Ilben link end. -/
def Asker.queue (p q ident : Nat) : Asker := ⟨p, q - 64, q + 128 * p, ident⟩

/-! ## Fast-tier location (07 R229, R232) -/

/-- A granule's place: stack, channel, bank, row, column, with q. -/
structure Loc where
  stack : Nat
  channel : Nat
  bank : Nat
  row : Nat
  column : Nat
  q : Nat
  deriving DecidableEq, Repr

/-- Procedure `locate` (07 R232). -/
def locate (off : Nat) : Loc :=
  let g := off / 128
  let q := g / 640
  let r := g % 640
  let f := (bits 9 0 q ^^^ bits 19 10 q) ^^^ bits 22 20 q
  let c := (r + f) % 640
  { stack := c / 64, channel := c % 64,
    bank := ((((bits 3 0 q ^^^ bits 7 4 q) ^^^ bits 11 8 q) ^^^ bits 15 12 q) ^^^ bits 19 16 q) ^^^ bits 22 20 q,
    row := q / 256, column := q / 16 % 16, q := q }

/-- Number of a bank within its Pier. -/
def bankNo (l : Loc) : Nat := (l.stack * 64 + l.channel) * 16 + l.bank

/-! ## Granule requests (07 R235, R238 to R241, R248, R260) -/

/-- Request slots of a stack. -/
def stackSlots : Nat := 6400

/-- The request is admitted. -/
def MemReq.isIn (q : MemReq) : Bool := decide (q.stage = .admitted)

/-- Admitted requests of a bank. -/
def Pier.bankUse (r : Pier) (bank : Nat) : Nat := (r.reqs.filter (fun q => q.isIn && q.bank = bank)).length

/-- Slots of a stack in use. -/
def Pier.stackUse (r : Pier) (stack : Nat) : Nat := (r.reqs.filter (fun q => q.isIn && q.bank / 1024 = stack)).length

/-- A request of a bank may be admitted now (07 R231, R239). [DESIGN CHOICE: log entry 19] -/
def State.mayAdmit (s : State) (p bank : Nat) : Bool :=
  let r := s.pier p
  decide (r.bankUse bank < s.odv 0 0x3000 0) && decide (r.stackUse (bank / 1024) < stackSlots) && !r.refreshing.contains bank

/-- Note the largest use of a stack's slots. [DESIGN CHOICE: log entry 19] -/
def State.notePeak (s : State) (p stack : Nat) : State :=
  let inst := p * 16 + stack
  let n := (s.pier p).stackUse stack
  if s.odv inst 0x3011 4 < n then s.setOd inst 0x3011 4 n else s

/-- Give request j of the list a stage. -/
def Pier.setStage (r : Pier) (j : Nat) (st : ReqStage) : Pier :=
  { r with reqs := (List.range r.reqs.length).filterMap (fun i =>
      (r.reqs[i]?).map (fun q => if i = j then { q with stage := st } else q)) }

/-- Request j is admitted, and its channel's arbiter gets its beat; one of no instruction is served within its command.
[DESIGN CHOICE: log entry 19] -/
def State.letIn (s : State) (p j : Nat) : State :=
  match (s.pier p).reqs[j]? with
  | none => s
  | some q =>
    let s := (s.modPier p (fun r => r.setStage j .admitted)).notePeak p (q.bank / 1024)
    let s := s.present 2 (p * 640 + q.bank / 16) q.who 1
    if q.who.ident = 0 then s.modPier p (fun r => { r with reqs := r.reqs.eraseIdx j }) else s

/-- Requests that a source of Pier p holds (07 R240). -/
def State.heldBy (s : State) (p source : Nat) : Nat :=
  ((s.pier p).reqs.filter (fun q => decide (q.stage = .held) && decide (q.source = source))).length

/-- Requests of copy engine e of Pier p that are outstanding (07 R260). -/
def State.outstanding (s : State) (p e : Nat) : Nat :=
  ((s.p0.reqs ++ s.p1.reqs).filter (fun q => decide (q.stage ≠ .waiting) && decide (q.who.pier = p) && decide (q.who.source = e))).length

/-- The oldest admitted request for which `f` holds, in no bank under refresh, is served and leaves its slot (07 R231, R235). -/
def State.serveFirst (s : State) (p : Nat) (f : MemReq → Bool) : State :=
  s.modPier p (fun r => { r with reqs := r.reqs.eraseP (fun q => q.isIn && f q && !r.refreshing.contains q.bank) })

/-- The request that a source issues next: of its instructions in rotation, each in its own order (07 R260). -/
def Pier.nextAsk (r : Pier) (source : Nat) : Option Nat :=
  let mine (q : MemReq) : Bool := decide (q.stage = .waiting) && decide (q.source = source)
  match rotate (Tab.get 0 r.lastAsk source) ((r.reqs.filter mine).map (fun q => q.who.ident)).eraseDups with
  | none => none
  | some i => r.reqs.findIdx? (fun q => mine q && decide (q.who.ident = i))

/-- Request j of Pier p is issued: admitted, or held at its source and counted (07 R239). -/
def State.issueReq (s : State) (p j : Nat) : State :=
  match (s.pier p).reqs[j]? with
  | none => s
  | some q =>
    let s := s.modPier p (fun r => { r with lastAsk := Tab.set 0 r.lastAsk q.source q.who.ident })
    if s.mayAdmit p q.bank then s.letIn p j
    else (s.modPier p (fun r => r.setStage j .held)).bump64 (p * 16 + q.bank / 1024) 0x3011 3 1

/-- A source issues what it has, until it holds HOLD_LIMIT requests (07 R240). A copy engine with 4,096 outstanding waits for
one of them to be served (R260). [DESIGN CHOICE: log entry 19] -/
def State.issueAll (s : State) (p source : Nat) : Nat → State
  | 0 => s
  | fuel + 1 =>
    if s.odv 0 0x3001 0 ≤ s.heldBy p source then s else
    match (s.pier p).nextAsk source with
    | none => s
    | some j =>
      match (s.pier p).reqs[j]? with
      | none => s
      | some q =>
        if q.who.source < 16 && decide (4096 ≤ s.outstanding q.who.pier q.who.source) then
          let mine (x : MemReq) : Bool := decide (x.who.pier = q.who.pier) && decide (x.who.source = q.who.source)
          let t := (s.serveFirst 0 mine).serveFirst 1 mine
          if 4096 ≤ t.outstanding q.who.pier q.who.source then s else t.issueAll p source fuel
        else (s.issueReq p j).issueAll p source fuel

/-- Every waiting request that may now be issued on Pier p. -/
def State.issueOn (s : State) (p : Nat) : State :=
  (((s.pier p).reqs.filter (fun q => decide (q.stage = .waiting))).map (fun q => q.source)).eraseDups.foldl
    (fun s source => s.issueAll p source (2 * (s.pier p).reqs.length)) s

/-- One granule request of Pier p's fast tier; one from the other Pier comes from its Causeway end (07 R241).
[DESIGN CHOICE: log entry 19] -/
def State.request (s : State) (p : Nat) (k : Asker) (granule : Nat) (fill : Bool) : State :=
  let source := if k.pier = p then k.source else 19
  (s.modPier p (fun r => { r with reqs := r.reqs ++
    [⟨bankNo (locate (granule * 128)), granule, source, k, fill, .waiting⟩] })).issueAll p source 2

/-- Requests of an instruction still wait, are held, or stand in a bank under refresh (07 R231, R239). -/
def State.asking (s : State) (ident : Nat) : Bool :=
  let on (r : Pier) : Bool := r.reqs.any (fun q => decide (q.who.ident = ident) && (!q.isIn || r.refreshing.contains q.bank))
  on s.p0 || on s.p1

/-- Number of the queue of an identity: Pier × 128 + queue. -/
def ownerQueue (i : Nat) : Nat := i / 2 ^ 64

/-- The requests of the instructions that `f` names leave, but for those admitted to a bank under refresh: these keep their slots
until it ends (07 R231). [DESIGN CHOICE: log entry 19] -/
def Pier.endReqs (r : Pier) (f : Nat → Bool) : Pier :=
  { r with reqs := r.reqs.filter (fun q =>
      q.who.ident = 0 || !f q.who.ident || (q.isIn && r.refreshing.contains q.bank)) }

/-- The requests of the instructions that `f` names are served, or end with them, and their sources issue what waited behind. -/
def State.endReqs (s : State) (f : Nat → Bool) : State :=
  (((s.modPier 0 (fun r => r.endReqs f)).modPier 1 (fun r => r.endReqs f)).issueOn 0).issueOn 1

/-- The requests of an instruction are served, or end with it. -/
def State.dropReqs (s : State) (ident : Nat) : State := s.endReqs (fun i => decide (i = ident))

/-! ## Girder tags (07 R242) -/

/-- First line of a granule's set (07 R242). -/
def setBase (off : Nat) : Nat :=
  let l := locate off
  (l.channel * 2048 + ((l.q % 2048) ^^^ (l.stack * 0x0CD))) * 16

/-- An empty way. -/
def Line.none : Line := ⟨0, false, false, 8, 0⟩

/-- Line k of Pier p; age 8 marks an invalid way. -/
def State.lineAt (s : State) (p k : Nat) : Line := Tab.get Line.none (s.pier p).girder k

/-- Put a line. -/
def State.setLine (s : State) (p k : Nat) (l : Line) : State :=
  s.modPier p (fun r => { r with girder := Tab.set Line.none r.girder k l })

/-- Valid line. -/
def Line.valid (l : Line) : Bool := decide (l.age ≤ 7)

/-- Pinned lines of Pier p. -/
def State.pinnedLines (s : State) (p : Nat) : Nat := ((s.pier p).girder.filter (fun e => e.2.pinned)).length

/-- The way of a granule in its set, if cached. -/
def State.findLine (s : State) (p off : Nat) : Option Nat :=
  ((List.range 16).map (setBase off + ·)).find? (fun k =>
    (s.lineAt p k).valid && decide ((s.lineAt p k).granule = off / 128))

/-! ## Errors of the fast tier (07 R267 to R272) -/

/-- PERSISTENT_MEMORY_FAULT (07 R270, R271). [DESIGN CHOICE: log entry 76] -/
def State.persistentMem (s : State) (p stack channel cause : Nat) : State :=
  if s.memFailed then s.markFaulted else
  let v := 1 + p * 2 + stack * 4 + channel * 64 + cause * 4096
  let s := s.setOd 0 0x3004 0 v
  let s := { s with host := { s.host with eventLog := s.host.eventLog ++ [v] } }
  ((s.raise 5).alert 1 0 v).markFaulted

/-- A codeword with more than one symbol in error is not corrected (07 R267). [DESIGN CHOICE: log entry 18] -/
def CellErr.bad (e : CellErr) : Bool := decide (2 ≤ e.low.length) || decide (2 ≤ e.high.length)

/-- The lower-numbered codeword that is not corrected. -/
def CellErr.badWord (e : CellErr) : Nat := if 2 ≤ e.low.length then 0 else 1

/-- The errors that are corrected, as (codeword, symbol), the higher-numbered codeword first. -/
def CellErr.corrections (e : CellErr) : List (Nat × Nat) := e.high.map (fun x => (1, x)) ++ e.low.map (fun x => (0, x))

/-- LAST_ERROR (Table 7-11): uncorrectable errors locate no symbol. -/
def lastError (off : Nat) (bad : Bool) (codeword symbol : Nat) : Nat :=
  off / 128 * 128 + b2n bad * 2 ^ 44 + (if bad then 63 else symbol) * 2 ^ 45 + codeword * 2 ^ 51

/-- Key of the mark of one corrected error position: channel of the Pier, symbol, granule (07 R270).
[DESIGN CHOICE: log entry 18] -/
def ceMark (p : Nat) (l : Loc) (sym g : Nat) : Nat := (((p * 640 + l.stack * 64 + l.channel) * 64 + sym) * 2 ^ 33) + g

/-- The granule's error goes, unless the cells themselves fail. -/
def State.cureCells (s : State) (p off : Nat) : State :=
  { s with errs := s.errs.filter (fun m => !(decide (m.1 = pkey (spFast p) off / 128) && !m.2.hard)) }

/-- CORRECTED_ERROR of one codeword (07 R268), and the CE_LIMIT rule of R270: granules of one channel and symbol within 24
hours. [DESIGN CHOICE: log entry 18] -/
def State.correctOne (s : State) (p off : Nat) (c : Nat × Nat) : State :=
  let l := locate off
  let inst := p * 16 + l.stack
  let s := (s.bump64 inst 0x3011 1 1).setOd inst 0x3011 6 (lastError off false c.1 c.2)
  let mark := ceMark p l c.2 (off / 128)
  let s := { s with ceMarks := Tab.set 0 s.ceMarks mark (s.hours + 1) }
  let n : Nat := (s.ceMarks.filter (fun m => decide (m.1 / 2 ^ 33 = mark / 2 ^ 33) && decide (s.hours + 1 ≤ m.2 + 24))).length
  if s.odv 0 0x3003 0 ≤ n then s.persistentMem p l.stack l.channel 2 else s

/-- UNCORRECTABLE_ERROR (07 R269): counted, the attempt does not commit, the granule is rewritten with the reader's
pattern and read once more. `kept`: a Girder line holds the granule's data. [DESIGN CHOICE: log entry 18] -/
def State.uncorrectable (s : State) (p off : Nat) (e : CellErr) (pattern : List Byte) (kept : Bool) : State :=
  let l := locate off
  let inst := p * 16 + l.stack
  let s := (s.bump32 inst 0x3011 2 1).setOd inst 0x3011 6 (lastError off true e.badWord 0)
  let s := (s.raise 5).markFaulted
  let s := if kept then s else s.setBytes (pkey (spFast p) (off / 128 * 128)) pattern
  if e.hard then s.persistentMem p l.stack l.channel 1 else s.cureCells p (off / 128 * 128)

/-- A read of a granule's cells meets the error it holds (07 R267 to R269). [DESIGN CHOICE: log entry 18] -/
def State.meetGranule (s : State) (p off : Nat) (pattern : List Byte) (kept : Bool) : State :=
  let e := Tab.get CellErr.none s.errs (pkey (spFast p) off / 128)
  if e = CellErr.none then s
  else if e.bad then s.uncorrectable p off e pattern kept
  else (e.corrections.foldl (fun s c => s.correctOne p off c) s).cureCells p (off / 128 * 128)

/-- A granule filled with copies of one element. -/
def patternOf (elem : List Byte) : List Byte := (List.replicate (128 / elem.length) elem).flatten

/-- The pattern of a reader without a format: 0xFF. -/
def ffPattern : List Byte := List.replicate 128 0xFF

/-- A read of a granule from its bank: its request, and the error it meets. -/
def State.bankRead (s : State) (p off : Nat) (k : Asker) (fill : Bool) (pattern : List Byte) : State :=
  (s.meetGranule p off pattern false).request p k (off / 128) fill

/-- A write of a whole granule to its bank: both codewords are written anew (07 R267). -/
def State.bankWrite (s : State) (p off : Nat) (k : Asker) : State :=
  (s.cureCells p off).request p k (off / 128) false

/-! ## The Girder cache (07 R242 to R248, R253, R272) -/

/-- May a line of this set become pinned (07 R247)? -/
def State.mayPin (s : State) (p off : Nat) : Bool :=
  decide (s.pinnedLines p < s.odv 0 0x3008 0 * 8192)
    && decide (((List.range 16).filter (fun w => (s.lineAt p (setBase off + w)).pinned)).length < 12)

/-- Write back a dirty line, charged to k (08 R276). [DESIGN CHOICE: log entry 17] -/
def State.writeBack (s : State) (p j : Nat) (k : Asker) : State :=
  let l := s.lineAt p j
  if l.dirty then
    ((s.bump64 0 0x301A (p + 1) 1).setLine p j { l with dirty := false }).bankWrite p (l.granule * 128) k
  else s

/-- Victim of a fill (07 R246): the state with the ages raised, and the way. [DESIGN CHOICE: log entry 17] -/
def State.victim (s : State) (p off : Nat) : State × Nat :=
  let ways := (List.range 16).map (setBase off + ·)
  match ways.find? (fun k => !(s.lineAt p k).valid) with
  | some k => (s, k)
  | none =>
    let free := ways.filter (fun k => !(s.lineAt p k).pinned)
    let top := free.foldl (fun m k => max m (s.lineAt p k).age) 0
    let s := free.foldl (fun s k => s.setLine p k { s.lineAt p k with age := (s.lineAt p k).age + (7 - top) }) s
    match free.find? (fun k => decide ((s.lineAt p k).age = 7)) with
    | some k => (s, k)
    | none => (s, setBase off)

/-- GIRDER_FILL with an age, pinned where asked and allowed (07 R245 to R247). [DESIGN CHOICE: log entry 17] -/
def State.girderFill (s : State) (p off age : Nat) (pin dirty : Bool) (k : Asker) : State :=
  let ok := pin && s.mayPin p off
  let s := if pin && !ok then s.bump32 0 0x301C (p + 1) 1 else s
  let v := s.victim p off
  (v.1.writeBack p v.2 k).setLine p v.2 ⟨off / 128, dirty, ok, age, 0⟩

/-- What SEC-DED finds in a line that is read (07 R272): an uncorrectable error of a clean line fetches the granule anew, one
of a dirty line is handled as R269 says. [DESIGN CHOICE: log entry 18] -/
def State.lineFlaw (s : State) (p off j : Nat) (k : Asker) (pattern : List Byte) : State :=
  let l := s.lineAt p j
  if l.flaw = 0 then s else
  let s := s.setLine p j { l with flaw := 0 }
  if l.flaw = 1 then s
  else if l.dirty then s.uncorrectable p off ⟨[0, 1], [], false⟩ pattern false
  else s.bankRead p off k true pattern

/-- A fill of the granule is in flight: an access that misses joins it (07 R248). -/
def State.filling (s : State) (p off : Nat) : Bool :=
  (s.pier p).reqs.any (fun q => q.fill && decide (q.granule = off / 128))

/-- One access to a granule of Pier p's fast tier through its Girder (07 R245, Table 7-6): `wr` a write, `whole` of
the whole granule, under a hint, for k. [DESIGN CHOICE: log entry 17] -/
def State.girder (s : State) (p off : Nat) (wr whole : Bool) (hint : Nat) (k : Asker) (pattern : List Byte) : State :=
  let s := s.present 1 (p * 64 + (locate off).channel) k 1
  let s := if k.pier = p then s else s.present 3 (if wr then k.pier else p) k 1
  match s.findLine p off with
  | some j =>
    let s := s.bump64 0 (if s.filling p off then 0x3019 else 0x3018) (p + 1) 1
    if wr && whole && hint = 2 then (s.setLine p j Line.none).bankWrite p off k
    else
      let s := if wr && whole then s else s.lineFlaw p off j k pattern
      let l := s.lineAt p j
      let l := { l with dirty := l.dirty || wr, flaw := 0 }
      match hint with
      | 0 => s.setLine p j { l with age := 0 }
      | 1 => s.setLine p j { l with age := 2 }
      | 2 => s.setLine p j { l with age := 7 }
      | _ =>
        if l.pinned || s.mayPin p off then s.setLine p j { l with pinned := true }
        else (s.bump32 0 0x301C (p + 1) 1).setLine p j { l with age := 0 }
  | none =>
    let s := s.bump64 0 0x3019 (p + 1) 1
    if wr && whole then
      match hint with
      | 0 => s.girderFill p off 0 false true k
      | 1 => s.girderFill p off 3 false true k
      | 2 => s.bankWrite p off k
      | _ => s.girderFill p off 0 true true k
    else
      let s := s.bankRead p off k (wr || decide (hint ≠ 2)) pattern
      match hint with
      | 0 => s.girderFill p off 0 false wr k
      | 1 => s.girderFill p off 3 false wr k
      | 2 => if wr then s.girderFill p off 7 false true k else s
      | _ => s.girderFill p off 0 true wr k

/-- ADDER_OPERATION on a granule (07 R253, 08 R276): the home slice writes a cached copy back and invalidates it; the channel
controller reads the granule and writes it. [DESIGN CHOICE: log entry 17] -/
def State.adderEvict (s : State) (p off : Nat) (k : Asker) (pattern : List Byte) : State :=
  let s := match s.findLine p off with
    | some j => ((s.writeBack p j k).setLine p j Line.none).bump64 0 0x301D (p + 1) 1
    | none => s
  let s := s.present 1 (p * 64 + (locate off).channel) k 1
  let s := if k.pier = p then s else s.present 3 k.pier k 1
  s.bankRead p off k false pattern

/-- Granule accesses of a run of bytes through the Girder. [DESIGN CHOICE: log entry 17] -/
def State.girderRun (s : State) (p off n : Nat) (wr : Bool) (hint : Nat) (k : Asker) (pattern : List Byte) : State :=
  (List.range ((off + n + 127) / 128 - off / 128)).foldl (fun s i =>
    let g := off / 128 + i
    s.girder p (g * 128) wr (decide (off ≤ g * 128 && g * 128 + 128 ≤ off + n)) hint k pattern) s

/-! ## Event rings (03 R107 to R109 and the rings managed like it; 16 Table 16-4) -/

/-- The rings. -/
inductive Ring where
  | watch (p : Nat) | fault (p : Nat) | trestle (p : Nat) | red (p : Nat) | arb | ilben | commit
  deriving DecidableEq, Repr

/-- Pier whose fast tier holds the ring. -/
def Ring.pier : Ring → Nat
  | .watch p => p | .fault p => p | .trestle p => p | .red p => p | _ => 0

/-- Offset in the ring area (Table 16-4). -/
def Ring.off : Ring → Nat
  | .watch _ => 0 | .fault _ => 0x20000 | .trestle _ => 0x40000 | .red _ => 0x60000
  | .arb => 0x80000 | .ilben => 0xA0000 | .commit => 0xC0000

/-- Records. -/
def Ring.size : Ring → Nat
  | .fault _ => 1024 | _ => 4096

/-- Index of HEAD; TAIL and LOST follow it. -/
def Ring.idx : Ring → Nat
  | .watch _ => 0x4020 | .fault _ => 0xF123 | .trestle _ => 0x5020 | .red _ => 0x5820
  | .arb => 0x3850 | .ilben => 0x7030 | .commit => 0x7820

/-- Subindex of its objects. -/
def Ring.sub : Ring → Nat
  | .watch p => p + 1 | .fault p => p + 1 | .trestle p => p + 1 | .red p => p + 1 | _ => 0

/-- MSI-X vector (Table 16-6). -/
def Ring.vector : Ring → Nat
  | .watch p => 6 + p | .fault p => 3 + p | .trestle p => 9 + p | .red p => 11 + p
  | .arb => 8 | .ilben => 13 | .commit => 14

/-- Key of its sequence number. -/
def Ring.seqKey (r : Ring) : Nat := r.idx * 256 + r.sub

/-- Bits [95:88] of a record of the ring for the attempt given (Tables 3-5, 8-5, 13-12 and the like). -/
def Ring.mid (r : Ring) (attempt : Nat) : Nat :=
  match r with
  | .watch p => p + attempt * 2
  | .trestle p => p + attempt * 2
  | .red p => p + attempt * 2
  | .arb => attempt * 8
  | _ => attempt

/-- A 32-byte event record. -/
def eventRec (epoch key event mid seq d0 d1 : Nat) : Nat :=
  epoch % 2 ^ 64 + (key % 2 ^ 16) * 2 ^ 64 + (event % 256) * 2 ^ 80 + (mid % 256) * 2 ^ 88
    + (seq % 2 ^ 32) * 2 ^ 96 + (d0 % 2 ^ 64) * 2 ^ 128 + (d1 % 2 ^ 64) * 2 ^ 192

/-- Next sequence number of a ring. -/
def State.seq (s : State) (r : Ring) : Nat := Tab.get 0 s.seqs r.seqKey

/-- Advance it; the fault ring has none (06 R227). -/
def State.advSeq (s : State) (r : Ring) : State :=
  { s with seqs := Tab.set 0 s.seqs r.seqKey (wrap32 (s.seq r + 1)) }

/-- The ring is full (03 R109). -/
def State.ringFull (s : State) (r : Ring) : Bool :=
  decide ((s.odv 0 r.idx r.sub + 1) % r.size = s.odv 0 (r.idx + 1) r.sub)

/-- Write a record at HEAD and advance it (03 R108). -/
def State.ringWrite (s : State) (r : Ring) (record : Nat) : State :=
  let h := s.odv 0 r.idx r.sub
  let base := poff (s.odv 0 0x8001 (r.pier + 1))
  let s := s.girderRun r.pier (base + r.off + 32 * h) 32 true 0 (Asker.maintenance r.pier) ffPattern
  let s := s.setNum (pkey (spFast r.pier) (base + r.off + 32 * h)) 32 record
  (s.setOd 0 r.idx r.sub ((h + 1) % r.size)).raise r.vector

/-- Make a record: written, or discarded and counted while the ring is full (03 R109). -/
def State.ringPut (s : State) (r : Ring) (record : Nat → Nat) : State :=
  let q := s.seq r
  let s := s.advSeq r
  if s.ringFull r then s.bump32 0 (r.idx + 2) r.sub 1 else s.ringWrite r (record q)

/-- A LOST record: 0xFF with the count; the fault ring's count lies in [191:128] too, and it has no SEQ. -/
def lostRec (s : State) (r : Ring) (q : Nat) : Nat :=
  match r with
  | .fault _ => eventRec s.recEpoch 0 0xFF s.commit.attempt 0 (s.odv 0 (r.idx + 2) r.sub) 0
  | _ => eventRec s.recEpoch 0 0xFF (r.mid s.commit.attempt) q (s.odv 0 (r.idx + 2) r.sub) 0

/-- RING_TAIL_WRITE: the tail moves, and a LOST record follows once there is space (03 R109). -/
def State.ringTail (s : State) (r : Ring) (t : Nat) : State :=
  let s := s.setOd 0 (r.idx + 1) r.sub t
  if s.odv 0 (r.idx + 2) r.sub ≠ 0 && !s.ringFull r then
    let rec' := lostRec s r (s.seq r)
    ((s.advSeq r).ringWrite r rec').setOd 0 (r.idx + 2) r.sub 0
  else s

/-! ## Fault records (06 R224 to R227) -/

/-- A stream fault record (Table 6-15). [DEDUCED: log entry 21] -/
def faultRec (s : State) (p q code pc sc1 exec addr owner operand : Nat) : Nat :=
  s.recEpoch + (q + 128 * p) * 2 ^ 64 + code * 2 ^ 80 + s.commit.attempt * 2 ^ 88 + (pc % 2 ^ 32) * 2 ^ 96
    + (sc1 % 2 ^ 32) * 2 ^ 128 + (exec % 2 ^ 32) * 2 ^ 160 + (addr % 2 ^ 48) * 2 ^ 192 + owner * 2 ^ 240 + operand * 2 ^ 242

/-- Write a fault record; every code but WAIT_TIMEOUT marks the attempt faulted (Table 6-14). -/
def State.streamFault (s : State) (p q code pc sc1 exec addr owner operand : Nat) : State :=
  let s := s.ringPut (.fault p) (fun _ => faultRec s p q code pc sc1 exec addr owner operand)
  if code = 6 then s else s.markFaulted

/-- QUEUE_FAULT: the queue enters FAULT at the faulting instruction (06 R656, Table 6-3). -/
def State.queueFault (s : State) (p q pc sc1 sc2 : Nat) : State :=
  let u := s.queue p q
  if u.st = .run then
    s.setQueue p q { u with st := .fault, ended := false, pc := pc, sc1 := sc1, sc2 := sc2, timedOut := false, head := none,
                            met := false }
  else s

/-! ## Counters, flags and signals (06 R196 to R200) -/

/-- Value of counter c of Pier p. -/
def State.counter (s : State) (p c : Nat) : Nat := Tab.get 0 (s.pier p).counters c

/-- Threshold of a counter wait (06 R192). -/
def threshold (u : Queue) (w : Nat) : Nat :=
  wrap32 (bits 93 78 w + (if bit 76 w then u.sc1 * u.mul1 else 0) + (if bit 77 w then u.sc2 * u.mul2 else 0))

/-- `counter_met` (06 R192). -/
def counterMet (c th : Nat) : Bool := decide ((c + 2 ^ 32 - th % 2 ^ 32) % 2 ^ 32 < 2 ^ 31)

/-- The condition of the wait of word w at the head of queue u of Pier p holds (Table 6-5). -/
def State.waitMet (s : State) (p : Nat) (u : Queue) (w : Nat) : Bool :=
  let ident := bits 75 66 w
  let flag := bit (ident % 256) (if bits 8 8 ident = p then (s.pier p).flags else (s.pier p).mirror)
  match bits 65 64 w with
  | 0 => true
  | 1 => counterMet (s.counter p ident) (threshold u w)
  | 2 => flag
  | _ => !flag

/-- A word that met an uncorrectable error in its fetch. -/
def badWord : Nat := 2 ^ 128

/-- Offset of the word at the head (06 R186). -/
def Queue.wordOff (u : Queue) : Nat := u.qbase + 16 * u.pc

/-- The word at the head of queue q: of the buffer, or as its fetch found it. -/
def State.wordOf (s : State) (p q : Nat) (u : Queue) : Nat :=
  if q < 64 then Tab.get 0 u.buf u.pc
  else match u.head with
    | some w => w
    | none => s.num (pkey (spFast p) u.wordOff) 16

/-- Every head of Pier p whose wait holds now has met it (06 R194). [DEDUCED: log entry 12] -/
def State.noteWaits (s : State) (p : Nat) : State :=
  s.modPier p (fun r => { r with queues := r.queues.map (fun e =>
    let w := s.wordOf p e.1 e.2
    if e.2.st = .run && !e.2.ended && !e.2.loading && decide (bits 65 64 w ≠ 0) && s.waitMet p e.2 w then
      (e.1, { e.2 with met := true })
    else e) })

/-- Set counter c of Pier p. -/
def State.setCounter (s : State) (p c v : Nat) : State :=
  (s.modPier p (fun r => { r with counters := Tab.set 0 r.counters c (v % 2 ^ 32) })).noteWaits p

/-- Add to a counter as a signal does. -/
def State.addCounter (s : State) (p c n : Nat) : State := s.setCounter p c (s.counter p c + n)

/-- Set or clear flag f of Pier p; the change goes to the other Pier's mirror in order (06 R197). -/
def State.setFlag (s : State) (p f : Nat) (b : Bool) : State :=
  if bit f (s.pier p).flags = b then s
  else
    ((s.modPier p (fun r => { r with flags := setBit f b r.flags })).modPier (other p)
      (fun r => { r with mirrorQ := r.mirrorQ ++ [(f, b)] })).noteWaits p

/-- SIGNAL_POST: the signal of an instruction word, and its IRQ (06 Table 6-6, R191). -/
def State.postSignal (s : State) (p w : Nat) : State :=
  let ident := bits 105 96 w
  let s := match bits 95 94 w with
    | 1 => s.addCounter p ident (bits 107 106 w + 1)
    | 2 => s.setFlag p (ident % 256) true
    | 3 => s.setFlag p (ident % 256) false
    | _ => s
  if bit 119 w then s.raise (1 + p) else s

/-! ## Guard regions (07 R262, R263) -/

/-- WCOUNT and WACTIVE of region r (key Pier × 256 + region) for the first write of an instruction there.
[DEDUCED: log entry 20] -/
def State.guardBegin (s : State) (r : Nat) : State :=
  (s.bump32 r 0x3021 3 1).setOd r 0x3021 4 (s.odv r 0x3021 4 + 1)

/-- WACTIVE falls when the instruction ends. [DEDUCED: log entry 20] -/
def State.guardEnd (s : State) (r : Nat) : State := s.setOd r 0x3021 4 (s.odv r 0x3021 4 - 1)

/-! ## Control space (Table 6-11) -/

/-- STATE as Table 6-2 numbers it; a queue that drains reads HALT (Table 6-3). -/
def Queue.stateCode (u : Queue) : Nat :=
  match u.st with
  | .idle => 0 | .load => 1 | .run => 2 | .halt => 3 | .fault => 4 | .done => 5

/-- A control block as 64 bytes (Table 6-2). -/
def Queue.image (u : Queue) : List Byte :=
  toBytes 8 u.qbase ++ toBytes 4 u.qlen ++ toBytes 4 u.passLimit ++ toBytes 2 u.mul1 ++ toBytes 2 u.mul2
    ++ toBytes 1 0 ++ toBytes 1 u.stateCode ++ toBytes 2 0 ++ toBytes 4 u.pc ++ toBytes 4 u.sc1 ++ toBytes 4 u.sc2
    ++ toBytes 28 0

/-- A byte of Pier p's control space (Table 6-11). -/
def State.ctlByte (s : State) (p off : Nat) : Byte :=
  if off < 0x100000 || (0x200000 ≤ off && off < 0x300000) then s.byte (pkey (spCtl p) off)
  else if off < 0x110000 then
    if off < 0x100040 then (if off = 0x100000 || off = 0x10000C then 1 else 0) else s.byte (pkey (spCtl p) off)
  else if off < 0x111000 then BitVec.ofNat 8 (s.counter p ((off - 0x110000) / 4) / 256 ^ (off % 4))
  else if off < 0x111020 then BitVec.ofNat 8 ((s.pier p).flags / 256 ^ (off - 0x111000))
  else if off < 0x111040 then BitVec.ofNat 8 ((s.pier p).mirror / 256 ^ (off - 0x111020))
  else if 0x120000 ≤ off && off < 0x121480 then
    (s.queue p ((off - 0x120000) / 64)).image.getD (off % 64) 0
  else 0

/-- A physical address lies in the fast tier or the control space of a Pier that is in reset (17 R588). -/
def State.downAt (s : State) (k : Nat) : Bool :=
  ((pspace k = spFast 0 || pspace k = spCtl 0) && s.p0.inReset) || ((pspace k = spFast 1 || pspace k = spCtl 1) && s.p1.inReset)

/-- A byte of any store as a reader finds it. -/
def State.read (s : State) (k : Nat) : Byte :=
  if pspace k = spCtl 0 then s.ctlByte 0 (poff k)
  else if pspace k = spCtl 1 then s.ctlByte 1 (poff k)
  else s.byte k

/-- A START may be accepted at all: ACTIVE, no persistent fault, PSTATE (17 R564, 07 R271, 14 R508, Table 13-2).
[DEDUCED: log entry 36] -/
def State.startAllowed (s : State) (p : Nat) : Bool :=
  decide (s.power.state = .active) && !s.memFailed && !s.fabFailed && !(s.pier p).inReset && !s.commit.exhausted
    && (match s.commit.pstate with
        | .idle => true | .running => true | .exchanged => true | .voted => true | _ => false)

/-- Objects 0x7801 to 0x780D but MIRROR_POLICY as the dictionary holds them (13 R484). -/
def State.commitObjects (s : State) : Tab Nat :=
  s.od.filter (fun e => decide (0x780100 ≤ e.1) && decide (e.1 < 0x780E00) && decide (e.1 / 256 ≠ 0x780C))

/-- A commit object in effect: as the last START from IDLE took it (13 R484). [DEDUCED: log entry 36] -/
def State.eff (s : State) (idx sub : Nat) : Nat := Tab.get 0 s.commit.live (odk 0 idx sub)

/-- The first START of an attempt (Table 13-2): IDLE to RUNNING, and the commit objects take effect (R484). What the attempt has
marked once, and a scale correction made in it, stand since ATTEMPT or COMMITTED last changed. [DEDUCED: log entry 36] -/
def State.beginAttempt (s : State) : State :=
  if s.commit.pstate = .idle then
    { s with commit := { s.commit with pstate := .running, faulted := false, live := s.commitObjects,
                                       satReplay := false, planFault := false, exchSent := false, voteSent := false,
                                       exchDone := false, voteDone := false, timedOut := false } }
  else s

/-- Module cluster of a pair (17 R570). -/
def clusterOf (p i : Nat) : Nat := p * 4 + i / 8

/-- State of module cluster c: PARKED where unlisted (OD 0x2025). -/
def State.cluster (s : State) (c : Nat) : ClusterState := Tab.get .parked s.power.clusters c

/-- Set it. -/
def State.setCluster (s : State) (c : Nat) (v : ClusterState) : State :=
  { s with power := { s.power with clusters := Tab.set .parked s.power.clusters c v } }

/-! ## Instruction fetch (06 R188, R189) -/

/-- A read of the granule of an offset would meet an uncorrectable error: in its Girder line, or in its cells. -/
def State.granuleBad (s : State) (p off : Nat) : Bool :=
  let cells := (Tab.get CellErr.none s.errs (pkey (spFast p) off / 128)).bad
  match s.findLine p off with
  | some j => decide ((s.lineAt p j).flaw = 2) && ((s.lineAt p j).dirty || cells)
  | none => cells

/-- Effects of an instruction fetch of n bytes, charged to the queue: errors met, the Girder (07 R244, R269, 08 R276). -/
def State.fetch (s : State) (p q off n : Nat) : State := s.girderRun p off n false 0 (Asker.fetch p q) ffPattern

/-- The instruction at PC reaches the head of queue q: a queue without a buffer has read its word by then, and its wait is
evaluated (06 R188, R194). [DEDUCED: log entry 12] -/
def State.takeHead (s : State) (p q : Nat) : State :=
  let u := s.queue p q
  let s := if q < 64 || u.ended then s
    else
      let w := if s.granuleBad p u.wordOff then badWord else s.num (pkey (spFast p) u.wordOff) 16
      (s.fetch p q u.wordOff 16).setQueue p q { u with head := some w }
  s.noteWaits p

/-- Apply a queue command (Table 6-3): the state, and whether it was accepted. [DEDUCED: log entries 9, 12] -/
def State.queueCommand (s : State) (p q code : Nat) : State × Bool :=
  let u := s.queue p q
  match code with
  | 1 =>
    if (u.st = .idle || u.st = .done) && u.qlen ≠ 0 && u.passLimit ≠ 0 && s.startAllowed p then
      let s := s.beginAttempt
      let s := s.setQueue p q { u with st := (if q < 64 then .load else .run), pc := 0, sc1 := 0, sc2 := 0,
                                       ended := false, timedOut := false, loading := decide (q < 64), met := false }
      let s := if q < 64 then s else s.takeHead p q
      (if q < 64 && s.cluster (clusterOf p (q % 32)) = .off then s.setCluster (clusterOf p (q % 32)) .restoring
       else s, true)
    else (s, false)
  | 2 =>
    if u.st = .load || u.st = .run then (s.setQueue p q { u with st := .halt }, true) else (s, false)
  | 3 =>
    if u.st = .halt && !u.draining then (s.setQueue p q { u with st := .run }, true)
    else if u.st = .fault then
      let s := s.setQueue p q { u with st := (if q < 64 then .load else .run), timedOut := false, loading := decide (q < 64),
                                       met := false }
      (if q < 64 then s else s.takeHead p q, true)
    else (s, false)
  | 4 =>
    if u.st = .load || u.st = .run || u.st = .halt || u.st = .fault then
      ((s.setQueue p q { u with st := .halt, draining := true }).arbDiscard (fun o => decide (o = q + 128 * p)), true)
    else (s, false)
  | _ => (s, false)

/-- Overlay bytes from position `lo` on. -/
def overlay (old : List Byte) (lo : Nat) (bs : List Byte) : List Byte :=
  (List.range old.length).map (fun i => if lo ≤ i && i < lo + bs.length then bs.getD (i - lo) 0 else old.getD i 0)

/-- A run of bytes [lo, lo+n) meets a field [f, f+m). -/
def meets (lo n f m : Nat) : Bool := decide (lo < f + m && f < lo + n)

/-- A write of bytes from `lo` on of queue q's control block (06 R187). -/
def State.writeBlock (s : State) (p q lo : Nat) (bs : List Byte) : State :=
  let u := s.queue p q
  let n := overlay u.image lo bs
  let f (a k : Nat) : Nat := ofBytes ((n.drop a).take k)
  let free := decide (u.st = .idle || u.st = .done)
  let maxLen := if q < 64 then 4096 else 65536
  let bad :=
    (meets lo bs.length 0 8 && (decide (2 ^ 44 ≤ f 0 8) || decide (f 0 8 % 16 ≠ 0)))
      || (meets lo bs.length 8 4 && (decide (f 8 4 = 0) || decide (maxLen < f 8 4)))
      || (meets lo bs.length 12 4 && decide (f 12 4 = 0))
  if free && bad then s else
  let s := if free then
      s.setQueue p q { u with qbase := f 0 8, qlen := f 8 4, passLimit := f 12 4, mul1 := f 16 2, mul2 := f 18 2 }
    else s
  if meets lo bs.length 20 1 then (s.queueCommand p q (f 20 1)).1 else s

/-- A write of bytes from `off` on of a control space, within one area of Table 6-11. -/
def State.ctlWriteArea (s : State) (p off : Nat) (bs : List Byte) : State :=
  if off < 0x100000 || (0x200000 ≤ off && off < 0x300000) || (0x100040 ≤ off && off < 0x110000) then
    s.setBytes (pkey (spCtl p) off) bs
  else if 0x110000 ≤ off && off < 0x111000 then
    let c := (off - 0x110000) / 4
    s.setCounter p c (ofBytes (overlay (toBytes 4 (s.counter p c)) (off % 4) bs))
  else if 0x111000 ≤ off && off < 0x111020 then
    let v := ofBytes (overlay (toBytes 32 (s.pier p).flags) (off - 0x111000) bs)
    (List.range 256).foldl (fun s i => s.setFlag p i (bit i v)) s
  else if 0x120000 ≤ off && off < 0x121480 then
    s.writeBlock p ((off - 0x120000) / 64) (off % 64) bs
  else s

/-- End of the unit that holds a control-space offset: a counter, the flags, or an aligned 64-byte entry. -/
def ctlUnitEnd (off : Nat) : Nat :=
  if 0x110000 ≤ off && off < 0x111000 then off / 4 * 4 + 4
  else if 0x111000 ≤ off && off < 0x111040 then off / 32 * 32 + 32
  else off / 64 * 64 + 64

/-- A write of a run of bytes of a control space, unit by unit. -/
def State.ctlWrite (s : State) (p : Nat) : Nat → Nat → List Byte → State
  | 0, _, _ => s
  | fuel + 1, off, bs =>
    if bs.isEmpty then s else
    let n := ctlUnitEnd off - off
    (s.ctlWriteArea p off (bs.take n)).ctlWrite p fuel (off + n) (bs.drop n)

/-- Line of the slow tier that holds a physical address. -/
def slowLine (k : Nat) : Nat := poff k / 64

/-- BISnpInv for a tracked line, which leaves the filter (16 R544). -/
def State.snoopLine (s : State) (l : Nat) : State :=
  let s := (s.emit (.backInvalidate l)).bump64 0 0x8010 6 1
  { s with host := { s.host with filter := s.host.filter.filter (fun x => !decide (x = l)) } }

/-- A write within one slow-tier line: where the host holds the line, BISnpInv goes out and the write waits for the
response; a later write of that line waits behind it (16 R544). With no CXL.mem link there is nobody to ask. -/
def State.slowLineWrite (s : State) (k : Nat) (bs : List Byte) : State :=
  let l := slowLine k
  if s.host.snoopWait.any (fun w => w.1 = l) then
    { s with host := { s.host with snoopWait := s.host.snoopWait ++ [(l, (List.range bs.length).zip bs |>.map (fun b => (k + b.1, b.2)))] } }
  else if s.host.filter.contains l then
    if s.host.linkUp && s.host.cxlMode then
      let s := s.snoopLine l
      { s with host := { s.host with
          snoopWait := s.host.snoopWait ++ [(l, (List.range bs.length).zip bs |>.map (fun b => (k + b.1, b.2)))] } }
    else { s with host := { s.host with filter := s.host.filter.filter (fun x => !decide (x = l)) } }.setBytes k bs
  else s.setBytes k bs

/-- Put bytes at physical addresses. -/
def State.putBytes (s : State) (l : List (Nat × Byte)) : State := l.foldl (fun s b => s.setBytes b.1 [b.2]) s

/-- Make every write that waits for a snoop: no answer is to come. Host reads that wait are discarded.
[DEDUCED: log entry 50] -/
def State.settleSnoops (s : State) : State :=
  let w := s.host.snoopWait
  { s with host := { s.host with snoopWait := [], readWait := [] } }.putBytes (w.flatMap (fun (x : Nat × List (Nat × Byte)) => x.2))

/-- A write of a run of bytes of the slow tier, line by line. [DEDUCED: log entry 50] -/
def State.slowWrite (s : State) : Nat → Nat → List Byte → State
  | 0, _, _ => s
  | fuel + 1, k, bs =>
    if bs.isEmpty then s else
    let n := 64 - poff k % 64
    (s.slowLineWrite k (bs.take n)).slowWrite fuel (k + n) (bs.drop n)

/-- A write of a run of bytes of any store; a write to a Pier in reset is discarded, and faults the attempt (17 R588). -/
def State.write (s : State) (k : Nat) (bs : List Byte) : State :=
  if s.downAt k then s.markFaulted
  else if pspace k = spSlow && !(s.host.filter.isEmpty && s.host.snoopWait.isEmpty) then s.slowWrite (bs.length + 1) k bs
  else if pspace k = spCtl 0 then s.ctlWrite 0 (bs.length + 1) (poff k) bs
  else if pspace k = spCtl 1 then s.ctlWrite 1 (bs.length + 1) (poff k) bs
  else s.setBytes k bs

end Sys2Proof.Machine
end

