-- ==== Sys2Proof/Machine/Arbiter.lean ====
section
/-! DEFINITION. The arbiters (08). The elapsed cycles of an instance, and the beats its owner moved in them, are
operands of the rows: the model has no clock. -/

namespace Sys2Proof.Machine

/-- Arbiter classes (Table 8-1). -/
def arbClasses : Nat := 6

/-- Instances of a class (Table 8-1). -/
def arbInstances (c : Nat) : Nat :=
  match c with
  | 0 => 16 | 1 => 128 | 2 => 1280 | 3 => 2 | 4 => 10 | 5 => 4 | _ => 0

/-- An ORIGIN that Table 8-2 defines. -/
def originOk (o : Nat) : Bool :=
  (decide (o < 0x100) && decide (o % 128 < 82)) || (decide (0x100 ≤ o) && decide (o ≤ 0x10D))

/-- Key of instance n of class c. -/
def arbKey (c n : Nat) : Nat := c * 2 ^ 16 + n

/-- Instance n of class c. -/
def State.arbInst (s : State) (c n : Nat) : ArbInst := Tab.get ArbInst.zero s.arb.insts (arbKey c n)

/-- Replace it. -/
def State.setArbInst (s : State) (c n : Nat) (v : ArbInst) : State :=
  { s with arb := { s.arb with insts := Tab.set ArbInst.zero s.arb.insts (arbKey c n) v } }

/-- Priority level of an originator (08 R282). -/
def State.level (s : State) (o : Nat) : Nat := Tab.get 0 s.arb.priority o

/-- Current quota of an originator in a class: 0 at level 0. -/
def State.quotaOf (s : State) (c o : Nat) : Nat := Tab.get 0 s.arb.quota (arbKey c o)

/-- Quota that governs a window of an instance: that of the last decision, or the one before it where the window began
before the decision (08 R287). -/
def State.windowQuota (s : State) (c : Nat) (a : ArbInst) (o : Nat) : Nat :=
  if a.adapted = Tab.get 0 s.arb.decisions c then s.quotaOf c o else Tab.get 0 s.arb.oldQuota (arbKey c o)

/-- An arbiter object of class c, by subindex (Table 8-6). -/
def State.arbOd (s : State) (c sub : Nat) : Nat := s.odv 0 (0x3810 + c) sub

/-- Instance of the ledger objects: class × 512 + ORIGIN. -/
def ledgerInst (c o : Nat) : Nat := c * 512 + o

/-- Add to a 64-bit ledger counter (Table 8-6). -/
def State.ledger (s : State) (c o sub n : Nat) : State := s.bump64 (ledgerInst c o) 0x3831 sub n

/-- The originator is masked at the instance: by quota at a high level, or by cut-off (08 R286, R291). -/
def State.masked (s : State) (a : ArbInst) (o : Nat) : Bool :=
  (a.quotaMask.contains o && decide (s.level o ≠ 0)) || a.cutMask.contains o

/-- Heads: for each input and originator the oldest request, the 16 oldest originators of each input (08 R277). -/
def ArbInst.heads (a : ArbInst) : List ArbReq :=
  let hs := a.cands.filter (fun r => !a.cands.any (fun t => t.input = r.input && t.origin = r.origin && decide (t.seq < r.seq)))
  hs.filter (fun r => decide ((hs.filter (fun t => t.input = r.input && decide (t.seq < r.seq))).length < 16))

/-- The oldest of a list of requests, the lowest input on a tie. -/
def oldest : List ArbReq → Option ArbReq
  | [] => none
  | x :: t => match oldest t with
    | none => some x
    | some y => some (if decide (x.seq < y.seq) || (x.seq = y.seq && decide (x.input ≤ y.input)) then x else y)

/-- What the selection of R278 chooses: a suspended transfer, or a candidate. -/
inductive Pick where
  | resume (r : ArbReq)
  | fresh (r : ArbReq)
  deriving DecidableEq, Repr

/-- The request chosen. -/
def Pick.req : Pick → ArbReq
  | .resume r => r
  | .fresh r => r

/-- Selection (08 R278). -/
def State.arbSelect (s : State) (a : ArbInst) : Option Pick :=
  let open' (r : ArbReq) : Bool := !s.masked a r.origin
  let sus := a.suspended.filter open'
  let cs := a.heads.filter open'
  let top := (sus ++ cs).foldl (fun m r => max m (s.level r.origin)) 0
  match sus.find? (fun r => s.level r.origin = top) with
  | some r => some (.resume r)
  | none =>
    let cs := cs.filter (fun r => s.level r.origin = top)
    match rotate (Tab.get 0 a.pointers top) (cs.map (fun r => r.origin)) with
    | some o => match oldest (cs.filter (fun r => r.origin = o)) with
      | some r => some (.fresh r)
      | none => none
    | none => none

/-- Cycles pass at an instance: its owner holds and moves at most one beat in each, everything else waits (08 R274, R287,
R291, R293). -/
def State.arbElapse (s : State) (c n cycles beats : Nat) : State :=
  let a := s.arbInst c n
  let beats := min beats cycles
  let wait (r : ArbReq) : ArbReq := { r with wait := r.wait + cycles }
  let a' := { a with
    owner := a.owner.map (fun r => { r with hold := r.hold + cycles, moved := r.moved + beats, burst := r.burst + beats }),
    cands := a.cands.map wait, suspended := a.suspended.map wait,
    maskedPending := (a.maskedPending ++ ((a.cands ++ a.suspended).map (fun r => r.origin)).filter (s.masked a)).eraseDups }
  let starved := (a'.cands ++ a'.suspended).any (fun r => s.level r.origin = 0 && decide (s.arbOd c 8 ≤ r.wait))
  let holder := (a.owner.map (fun r => r.origin)).getD 512
  let os := (((a.cands ++ a.suspended).map (fun r => r.origin)).eraseDups).filter (fun o => o ≠ holder)
  let s := os.foldl (fun s o => s.ledger c o 3 cycles) s
  let s := match a.owner with
    | some r => s.ledger c r.origin 2 beats
    | none => s
  let s := s.setArbInst c n a'
  if starved && !s.arb.starved.contains c then { s with arb := { s.arb with starved := s.arb.starved ++ [c] } } else s

/-- Mask an originator by quota until the window ends (08 R286). -/
def ArbInst.maskQuota (a : ArbInst) (o : Nat) : ArbInst :=
  { a with quotaMask := if a.quotaMask.contains o then a.quotaMask else a.quotaMask ++ [o],
           wasMasked := if a.wasMasked.contains o then a.wasMasked else a.wasMasked ++ [o] }

/-- A new grant to a candidate: pointer, counts, quota mask; it keeps the limits it begins under (08 R278, R285, R286, R297). -/
def State.arbGrantNew (s : State) (c n : Nat) (r : ArbReq) : State :=
  let a := s.arbInst c n
  let g := Tab.get 0 a.winGrants r.origin + 1
  let full := decide (s.level r.origin ≠ 0) && decide (s.windowQuota c a r.origin ≤ g)
  let a := { a with
    cands := a.cands.filter (fun t => !decide (t = r)),
    owner := some { r with burst := 0, hold := 0, preempted := 0, wait := 0, limit := s.arbOd c 1, holdLimit := s.arbOd c 2,
                           bascule := if s.arbOd c 9 = 1 then s.arbOd c 10 else 0 },
    pointers := Tab.set 0 a.pointers (s.level r.origin) r.origin,
    winGrants := Tab.set 0 a.winGrants r.origin g }
  (s.setArbInst c n (if full then a.maskQuota r.origin else a)).ledger c r.origin 1 1

/-- A resumption of a suspended transfer: no grant (08 R289). -/
def State.arbResume (s : State) (c n : Nat) (r : ArbReq) : State :=
  let a := s.arbInst c n
  s.setArbInst c n { a with suspended := a.suspended.filter (fun t => !decide (t = r)), owner := some { r with wait := 0 } }

/-- A winner takes the instance. -/
def State.arbTake (s : State) (c n : Nat) : Pick → State
  | .fresh r => s.arbGrantNew c n r
  | .resume r => s.arbResume c n r

/-- Beats that the owner may still move under its grant. -/
def ArbReq.left (r : ArbReq) : Nat := min (r.len - r.moved) (r.limit - r.burst)

/-- The transfer that a command presents: the oldest one its originator has issued toward that input, else traffic that the
model does not follow. -/
def State.comingLen (s : State) (c n origin input len : Nat) : Nat × List Traffic :=
  match s.arb.coming.findIdx? (fun t => decide (t.cls = c) && decide (t.inst = n) && decide (t.origin = origin) && decide (t.input = input)) with
  | some k => ((s.arb.coming[k]?.map (fun t => t.len)).getD len, s.arb.coming.eraseIdx k)
  | none => (len, s.arb.coming)

/-- ARBITER_REQUEST (08 R277) after cycles in which the owner moved beats: LEN is 1 to 4,096 and the originator one of Table
8-2. A transfer that has been issued is presented with its own LEN. [DESIGN CHOICE: log entry 23] -/
def State.arbRequest (s : State) (c n cycles beats origin input len : Nat) : State :=
  let m := s.comingLen c n origin input len
  if decide (n < arbInstances c) && originOk origin && decide (1 ≤ m.1) && decide (m.1 ≤ 4096) then
    let left := ((s.arbInst c n).owner.map ArbReq.left).getD 0
    let s := s.arbElapse c n cycles (min beats left)
    let a := s.arbInst c n
    let s := s.setArbInst c n { a with
      cands := a.cands ++ [{ origin := origin, input := input, len := m.1, moved := 0, burst := 0, hold := 0, preempted := 0,
                             seq := a.nextSeq, wait := 0, level := s.level origin, limit := 0, holdLimit := 0, bascule := 0 }],
      nextSeq := a.nextSeq + 1 }
    { s with arb := { s.arb with coming := m.2 } }
  else s

/-- ARBITER_REQUEST. -/
def execArbiterRequest (c n : Nat) (past : Elapsed) (who : Requester) (len : Nat) (s : State) : Host.Outcome State Fault Refusal :=
  .next (s.arbRequest c n past.cycles past.beats who.origin who.input len)

/-- A winner pre-empts the owner o, which has moved `beats` since: strictly above it, the burst not ending, pre-emptions left,
and room among the three suspended transfers, from which a resumed winner leaves (08 R288, R290, R292). -/
def State.mayPreempt (s : State) (a : ArbInst) (o : ArbReq) (w : Pick) (beats : Nat) : Bool :=
  decide (s.level o.origin < s.level w.req.origin) && decide (o.preempted < o.bascule) && decide (beats < o.left)
    && decide (a.suspended.length < (match w with | .resume _ => 4 | .fresh _ => 3))

/-- The owner has held its grant for longer than GRANT_HOLD_LIMIT: it has been cut off before (08 R291). -/
def ArbReq.overdue (o : ArbReq) (cycles : Nat) : Bool := decide (o.holdLimit < o.hold + cycles)

/-- ARBITER_GRANT (08 R278, R279, R288): a winner takes an idle instance, or pre-empts the owner.
[DESIGN CHOICE: log entry 23] -/
def State.arbGrant (s : State) (c n cycles beats : Nat) : State :=
  let a := s.arbInst c n
  let aged (w : Pick) : Pick := match w with
    | .fresh r => .fresh { r with wait := r.wait + cycles }
    | .resume r => .resume { r with wait := r.wait + cycles }
  match a.owner, s.arbSelect a with
  | none, some w => (s.arbElapse c n cycles 0).arbTake c n (aged w)
  | some o, some w =>
    if s.mayPreempt a o w beats && !o.overdue cycles then
      let s := s.arbElapse c n cycles beats
      let a := s.arbInst c n
      let s := match a.owner with
        | some o => s.setArbInst c n { a with owner := none, suspended := { o with preempted := o.preempted + 1 } :: a.suspended }
        | none => s
      let s := (s.ledger c w.req.origin 6 1).ledger c o.origin 7 1
      s.arbTake c n (aged w)
    else s
  | _, _ => s

/-- ARBITER_GRANT. -/
def execArbiterGrant (c n cycles beats : Nat) (s : State) : Host.Outcome State Fault Refusal :=
  .next (s.arbGrant c n cycles beats)

/-- A memory channel moved its owner's granule: the oldest request of that originator that it holds is served (07 R230, R235). -/
def State.channelServed (s : State) (c n origin : Nat) : State :=
  if c = 2 then s.serveFirst (n / 640) (fun q => decide (q.bank / 16 = n % 640) && decide (q.who.origin = origin)) else s

/-- GRANT_END (08 R280): the owner has moved its beats and its grant ends; beats that remain stay a candidate.
[DESIGN CHOICE: log entry 23] -/
def State.arbEnd (s : State) (c n cycles beats : Nat) : State :=
  match (s.arbInst c n).owner with
  | none => s
  | some o =>
    if o.overdue cycles then s else
    let s := s.arbElapse c n cycles (min beats o.left)
    let a := s.arbInst c n
    match a.owner with
    | none => s
    | some o =>
      if o.len ≤ o.moved then (s.setArbInst c n { a with owner := none }).channelServed c n o.origin
      else s.setArbInst c n { a with owner := none, cands := a.cands ++ [{ o with burst := 0, hold := 0, preempted := 0, wait := 0 }] }

/-- GRANT_END. -/
def execGrantEnd (c n cycles beats : Nat) (s : State) : Host.Outcome State Fault Refusal := .next (s.arbEnd c n cycles beats)

/-- A record of the arbiter event ring (Table 8-5). -/
def State.arbEvent (s : State) (c code origin d0 d1 : Nat) : State :=
  s.ringPut .arb (fun q => eventRec s.recEpoch origin code (c + Ring.arb.mid s.commit.attempt) q d0 d1)

/-- CUTOFF (08 R291): an owner that has held for GRANT_HOLD_LIMIT cycles without ending its grant is cut off, saved, masked
and counted. [DESIGN CHOICE: log entry 23] -/
def State.arbCutoff (s : State) (c n cycles beats : Nat) : State :=
  match (s.arbInst c n).owner with
  | none => s
  | some o =>
    if o.hold + cycles < o.holdLimit || o.left ≤ min beats cycles then s else
    let s := s.arbElapse c n cycles beats
    let a := s.arbInst c n
    match a.owner with
    | none => s
    | some o =>
      let s := s.setArbInst c n { a with
        owner := none,
        cands := a.cands ++ [{ o with burst := 0, hold := 0, preempted := 0, wait := 0 }],
        cutMask := if a.cutMask.contains o.origin then a.cutMask else a.cutMask ++ [o.origin],
        wasMasked := if a.wasMasked.contains o.origin then a.wasMasked else a.wasMasked ++ [o.origin] }
      let s := s.bump32 (ledgerInst c o.origin) 0x3831 8 1
      if s.isFirst 5 (ledgerInst c o.origin) then
        (s.setOnce 5 (ledgerInst c o.origin)).arbEvent c 2 o.origin n o.moved
      else s

/-- CUTOFF. -/
def execCutoff (c n cycles beats : Nat) (s : State) : Host.Outcome State Fault Refusal := .next (s.arbCutoff c n cycles beats)

/-- Add one to a per-originator table of the period. -/
def tally (c : Nat) (t : Tab Nat) (os : List Nat) : Tab Nat :=
  os.foldl (fun t o => Tab.set 0 t (arbKey c o) (Tab.get 0 t (arbKey c o) + 1)) t

/-- QUOTA_WINDOW_END (08 R285 to R287): the window's masks and counts go, having been tallied.
[DESIGN CHOICE: log entry 23] -/
def State.arbWindow (s : State) (c n : Nat) : State :=
  let a := s.arbInst c n
  let full := (a.winGrants.map (fun e => e.1)).filter (fun o =>
    decide (s.level o ≠ 0) && decide (s.windowQuota c a o ≤ Tab.get 0 a.winGrants o))
  let pend := (a.maskedPending ++ ((a.cands ++ a.suspended).map (fun r => r.origin)).filter (s.masked a)).eraseDups
  let s := a.wasMasked.foldl (fun s o => s.ledger c o 5 1) s
  let s := { s with arb := { s.arb with filled := tally c s.arb.filled full,
                                        maskedPending := tally c s.arb.maskedPending pend } }
  s.setArbInst c n { a with winGrants := [], quotaMask := [], cutMask := [], wasMasked := [], maskedPending := [],
                            adapted := Tab.get 0 s.arb.decisions c }

/-- QUOTA_WINDOW_END. -/
def execQuotaWindowEnd (c n : Nat) (s : State) : Host.Outcome State Fault Refusal := .next (s.arbWindow c n)

/-- `adapt_class` for one originator (08 R287). -/
def State.adaptOne (s : State) (c : Nat) (starved : Bool) (o : Nat) : State :=
  let k := arbKey c o
  let q := s.quotaOf c o
  let step := s.arbOd c 6
  let want : Int :=
    if starved && decide (0 < Tab.get 0 s.arb.filled k) then (q : Int) - step
    else if !starved && decide (0 < Tab.get 0 s.arb.maskedPending k) then (q : Int) + step
    else q
  let new : Nat := (min (max want (s.arbOd c 4 : Int)) (s.arbOd c 5 : Int)).toNat
  let s := if (new : Int) = want then s else s.bump32 0 0x3841 (c + 1) 1
  let s := if new = q then s else (s.bump32 0 0x3840 (c + 1) 1).arbEvent c 1 o q new
  { s with arb := { s.arb with quota := Tab.set 0 s.arb.quota k new, oldQuota := Tab.set 0 s.arb.oldQuota k q,
                               filled := Tab.set 0 s.arb.filled k 0, maskedPending := Tab.set 0 s.arb.maskedPending k 0 } }

/-- ADAPT_CLASS (08 R287). [DESIGN CHOICE: log entry 23] -/
def State.adaptClass (s : State) (c : Nat) : State :=
  let s' := (s.arb.priority.map (fun e => e.1)).foldl (fun t o => t.adaptOne c (s.arb.starved.contains c) o) s
  { s' with arb := { s'.arb with starved := s'.arb.starved.filter (fun x => !decide (x = c)),
                                 decisions := Tab.set 0 s'.arb.decisions c (Tab.get 0 s'.arb.decisions c + 1) } }

/-- ADAPT_CLASS. -/
def execAdaptClass (c : Nat) (s : State) : Host.Outcome State Fault Refusal := .next (s.adaptClass c)

/-- Originators at a high level (08 R282). -/
def State.highCount (s : State) : Nat := s.arb.priority.length

/-- Change every instance of the arbiters that is listed. -/
def State.mapInsts (s : State) (f : Nat → ArbInst → ArbInst) : State :=
  { s with arb := { s.arb with insts := s.arb.insts.filterMap (fun e =>
      let a := f (e.1 / 2 ^ 16) e.2
      if a = ArbInst.zero then none else some (e.1, a)) } }

/-- Level 0 to a high one: every quota is QUOTA_MAX, and where the window's grants have reached it the mask applies from the
next sample (08 R284, R286). -/
def State.arbRaise (s : State) (o : Nat) : State :=
  let s := (List.range arbClasses).foldl (fun t c => { t with arb := { t.arb with
    quota := Tab.set 0 t.arb.quota (arbKey c o) (t.arbOd c 5),
    oldQuota := Tab.set 0 t.arb.oldQuota (arbKey c o) (t.arbOd c 5) } }) s
  s.mapInsts (fun c a => if s.arbOd c 5 ≤ Tab.get 0 a.winGrants o then a.maskQuota o else a)

/-- Down to level 0: no quota, and the quota mask goes at once (08 R284). -/
def State.arbLower (s : State) (o : Nat) : State :=
  let s := (List.range arbClasses).foldl (fun t c => { t with arb := { t.arb with
    quota := Tab.set 0 t.arb.quota (arbKey c o) 0, oldQuota := Tab.set 0 t.arb.oldQuota (arbKey c o) 0 } }) s
  s.mapInsts (fun _ a => { a with quotaMask := a.quotaMask.filter (fun x => !decide (x = o)) })

/-- A write of PRIORITY: the result code of R603, and the state (08 R282 to R284). [DESIGN CHOICE: log entry 74] -/
def State.priorityWrite (s : State) (o v : Nat) : Nat × State :=
  if 3 < v || !originOk o then (3, s)
  else if s.level o = 0 && v ≠ 0 && decide (32 ≤ s.highCount) then (3, s)
  else
    let t := { s with arb := { s.arb with priority := Tab.set 0 s.arb.priority o v } }
    let t := if v = 0 then t.arbLower o else if s.level o = 0 then t.arbRaise o else t
    (0, t.setOd 0 0x3803 0 t.highCount)

/-- PRIORITY_WRITE for an originator. -/
def execPriorityWrite (o v : Nat) (s : State) : Host.Outcome State Fault Refusal := .next (s.priorityWrite o v).2

/-- Every ledger counter at zero (08 R297). -/
def State.ledgerClear (s : State) : State :=
  { s with od := s.od.filter (fun e => !decide (e.1 / 256 % 65536 = 0x3831)) }

/-- LEDGER_CLEAR. -/
def execLedgerClear (s : State) : Host.Outcome State Fault Refusal := .next s.ledgerClear

/-- Sum of GRANTS of a class (08 R294). -/
def State.classGrants (s : State) (c : Nat) : Nat :=
  sumNat ((s.od.filter (fun e => decide (e.1 % 2 ^ 24 = 0x3831 * 256 + 1) && decide (e.1 / 2 ^ 24 / 512 = c))).map (fun e => e.2))

/-- SHARE_PPM (08 R294). -/
def State.sharePpm (s : State) (c o : Nat) : Nat :=
  let t := s.classGrants c
  if t = 0 then 0 else s.odv (ledgerInst c o) 0x3831 1 * 1000000 / t

end Sys2Proof.Machine
end

