-- ==== Sys2Proof/Machine/Operands.lean ====
section
/-! DEFINITION. Operands: descriptors, loop nests, element addresses, element reads and writes (06 R201 to R212,
R217, R218; 02 R39 to R48). -/

namespace Sys2Proof.Machine

/-- n bytes of a raw entry from byte b. -/
def rawField (raw b n : Nat) : Nat := (raw / 256 ^ b) % 256 ^ n

/-- Entry h of Pier p's descriptor table, raw. -/
def State.rawDesc (s : State) (p h : Nat) : Nat := s.num (pkey (spCtl p) (h * 64)) 64

/-- A descriptor from its 64 bytes (Table 6-8). -/
def parseDesc (raw : Nat) : Desc :=
  { base := rawField raw 0 6, fmt := rawField raw 6 1 % 16,
    watchEn := bit 0 (rawField raw 7 1), hint := bits 2 1 (rawField raw 7 1), guard := bits 4 3 (rawField raw 7 1),
    ext := [rawField raw 8 4, rawField raw 12 4, rawField raw 16 4, rawField raw 20 4, rawField raw 24 4],
    stride := [toSigned 40 (rawField raw 28 5), toSigned 40 (rawField raw 33 5), toSigned 40 (rawField raw 38 5),
      toSigned 40 (rawField raw 43 5)],
    scaleH := rawField raw 48 2, watchId := rawField raw 50 2, layout := rawField raw 52 2,
    guardSnap := rawField raw 56 4 }

/-- No reserved bit and no reserved encoding in a descriptor (00 R11, Table 6-8, Table 6-9, 06 R202). -/
def descOk (raw : Nat) : Bool :=
  decide (rawField raw 6 1 < 10) && decide (rawField raw 7 1 < 32) && decide (bits 4 3 (rawField raw 7 1) ≠ 3)
    && decide (rawField raw 0 6 / 2 ^ 44 < 6)
    && decide (rawField raw 48 2 < 2 ^ 14) && decide (rawField raw 54 2 = 0) && decide (rawField raw 60 4 = 0)
    && (decide (rawField raw 6 1 < 4) || decide (rawField raw 48 2 = 0))

/-- Storage of one element (Table 2-1). -/
def elemSize (fmt : Nat) : Nat :=
  match fmt with
  | 4 => 2 | 5 => 2 | 6 => 4 | 7 => 8 | 8 => 16 | 9 => 4 | _ => 1

/-- An MX format. -/
def isMx (fmt : Nat) : Bool := decide (fmt = 2 || fmt = 3)

/-- The floating format that an element's bytes are read in. -/
def floatOf (fmt : Nat) : FFmt :=
  match fmt with
  | 0 => .e4m3 | 1 => .e5m2 | 2 => .e4m3 | 3 => .e5m2 | 4 => .b16 | 5 => .bf16 | _ => .b32

/-- Elements of a descriptor. -/
def Desc.count (d : Desc) : Nat := d.ext.foldl (· * ·) 1

/-- Extent of a dimension. -/
def Desc.extent (d : Desc) (k : Nat) : Nat := d.ext.getD k 1

/-- Coordinates of flat element i, dimension 0 innermost. -/
def coordsOf : List Nat → Nat → List Nat
  | [], _ => []
  | e :: t, i => (i % e) :: coordsOf t (i / e)

/-- Σ coordinate × stride over the outer dimensions. -/
def outerOff : List Nat → List Int → Int
  | c :: cs, w :: ws => (c : Int) * w + outerOff cs ws
  | _, _ => 0

/-- Address of flat element i. -/
def Desc.addr (d : Desc) (i : Nat) : Int :=
  let c := coordsOf d.ext i
  d.base + (c.headD 0 * elemSize d.fmt : Nat) + outerOff c.tail d.stride

/-- Address of the scale byte of flat element i of an MX tensor `d` with scale plane `pl` (02 R40). -/
def scaleAddr (d pl : Desc) (i : Nat) : Int :=
  let c := coordsOf d.ext i
  pl.base + (c.headD 0 / 32 : Nat) + outerOff c.tail pl.stride

/-- Lowest and one past the highest byte address a descriptor spans. -/
def Desc.span (d : Desc) : Int × Int :=
  let o := (d.ext.tail.zip d.stride).map (fun x => ((x.1 : Int) - 1) * x.2)
  (d.base + o.foldl (fun a x => a + min 0 x) 0,
   d.base + (d.extent 0 * elemSize d.fmt : Nat) + o.foldl (fun a x => a + max 0 x) 0)

/-- Every element lies inside the region of its address (06 R204). -/
def Desc.inRegion (p : Nat) (d : Desc) : Bool :=
  if d.count = 0 then true else
  let r := d.span
  match physOf p r.1, physOf p (r.2 - 1) with
  | some a, some b => decide (pspace a = pspace b)
  | _, _ => false

/-- Every element lies in the tile register file of pair i (Tables 4-6, 5-9); BASE too where there is no element (K = 0).
[DESIGN CHOICE: log entry 78] -/
def Desc.inPair (i : Nat) (d : Desc) : Bool :=
  if d.count = 0 then decide (d.base / 2 ^ 44 = 2 && d.base % 2 ^ 44 / 2 ^ 22 = (i : Int)) else
  let lo : Int := 2 * 2 ^ 44 + (i * 2 ^ 22 : Nat)
  decide (lo ≤ d.span.1 && d.span.2 ≤ lo + 2 ^ 22)

/-- SCALE_EXP of a slot of Pier p's scale table (Table 3-3). -/
def State.scaleExp (s : State) (p slot : Nat) : Int := toSigned 8 (s.num (pkey (spCtl p) (0x200000 + slot * 64)) 1)

/-- Latch the operand of a handle (06 R206); none for a reserved encoding (00 R11). A scale plane whose FORMAT is not that of its
tensor breaks 06 R202, which gives no outcome: the model takes it as a reserved encoding. [DESIGN CHOICE: log entry 78] -/
def State.latch (s : State) (p h : Nat) : Option Held :=
  let raw := s.rawDesc p h
  if !descOk raw then none else
  let d := parseDesc raw
  let x := if d.fmt < 2 then s.scaleExp p d.scaleH else 0
  if isMx d.fmt then
    let pr := s.rawDesc p d.scaleH
    if descOk pr && decide ((parseDesc pr).fmt = d.fmt) then some ⟨h, d, x, some (parseDesc pr), false⟩ else none
  else some ⟨h, d, x, none, false⟩

/-- Latch several operands. -/
def State.latchAll (s : State) (p : Nat) : List Nat → Option (List Held)
  | [] => some []
  | h :: t =>
    match s.latch p h, s.latchAll p t with
    | some l, some ls => some (l :: ls)
    | _, _ => none

/-! ## Loop nests (06 R207 to R212) -/

/-- The nest of one execution. -/
def Nest.one : Nest := ⟨[1, 1, 1, 1], List.replicate 4 [0, 0, 0]⟩

/-- Entry k of Pier p's loop-nest table, raw; entry 0 is one level of one trip. -/
def State.rawNest (s : State) (p k : Nat) : Nat := ofBytes ((List.range 64).map (fun i => s.ctlByte p (0x100000 + k * 64 + i)))

/-- Trip count of level l. -/
def rawTrip (raw l : Nat) : Nat := rawField raw (3 * l) 3

/-- Increment of level l for position j. -/
def rawInc (raw l j : Nat) : Int := toSigned 32 (rawField raw (16 + 12 * l + 4 * j) 4)

/-- No reserved encoding in an entry (06 R208, Table 6-12); `used j` says which positions take increments (R209). -/
def nestOk (raw : Nat) (used : List Bool) : Bool :=
  let depth := rawField raw 12 1
  decide (1 ≤ depth && depth ≤ 4) && decide (rawField raw 13 3 = 0)
    && (List.range 4).all (fun l =>
        (decide (l < depth) || decide (rawTrip raw l = 0))
          && (List.range 3).all (fun j =>
              (decide (l < depth) && used.getD j false) || decide (rawInc raw l j = 0)))

/-- The nest as latched: a level at or above DEPTH counts as one iteration. -/
def parseNest (raw : Nat) : Nest :=
  let depth := rawField raw 12 1
  { trips := (List.range 4).map (fun l => if l < depth then rawTrip raw l else 1),
    incs := (List.range 4).map (fun l => (List.range 3).map (rawInc raw l)) }

/-- Executions of a nest. -/
def Nest.total (n : Nest) : Nat := n.trips.foldl (· * ·) 1

/-- Σ iₗ × INC[l][j] from the level given on, for execution x. -/
def nestOff (j : Nat) : List Nat → List (List Int) → Nat → Int
  | t :: ts, w :: ws, x => (x % t : Nat) * w.getD j 0 + nestOff j ts ws (x / t)
  | _, _, _ => 0

/-- Byte offset of position j at execution x. -/
def Nest.off (n : Nest) (x j : Nat) : Int := nestOff j n.trips n.incs x

/-- An operand stepped to an execution (06 R209). -/
def Held.step (l : Held) (off : Int) : Held :=
  { l with d := { l.d with base := l.d.base + off },
           plane := l.plane.map (fun q => { q with base := q.base + off / 32 }) }

/-- The increments of a position that execution x uses, those of the levels whose index is not 0, are multiples of 32.
[DEDUCED: log entry 15] -/
def nestMx (j : Nat) : List Nat → List (List Int) → Nat → Bool
  | t :: ts, w :: ws, x => (decide (x % t = 0) || decide (w.getD j 0 % 32 = 0)) && nestMx j ts ws (x / t)
  | _, _, _ => true

/-- Every increment that an MX operand takes at execution x is a multiple of 32 (06 R210). [DEDUCED: log entry 15] -/
def Nest.mxOk (n : Nest) (x j : Nat) : Bool := nestMx j n.trips n.incs x

/-! ## Ownership of tile-register-file regions (06 R215 to R219) -/

/-- OWNER of the region that holds a physical address; none outside the tile register files. -/
def State.ownerAt (s : State) (k : Nat) : Nat :=
  if pspace k = spTrf 0 then Tab.get 0 s.p0.owner (poff k / 1024)
  else if pspace k = spTrf 1 then Tab.get 0 s.p1.owner (poff k / 1024)
  else 0

/-- Another engine owns the region of an address. -/
def State.foreign (s : State) (self k : Nat) : Bool := decide (s.ownerAt k ≠ 0 && s.ownerAt k ≠ self)

/-- An element of n bytes at an address meets another engine's region. -/
def State.foreignElem (s : State) (p self : Nat) (a : Int) (n : Nat) : Bool :=
  ([physOf p a, physOf p (a + n - 1)].filterMap id).any (s.foreign self)

/-- Region keys (space × 2^44 / 1024 dropped: Pier × 2^17 + offset / 1024) that a run of bytes touches. -/
def regionsOf (k n : Nat) : List Nat :=
  if n = 0 || !(pspace k = spTrf 0 || pspace k = spTrf 1) then [] else
  let p := pspace k - 2
  (List.range ((poff k + n + 1023) / 1024 - poff k / 1024)).map (fun i => p * 2 ^ 17 + poff k / 1024 + i)

/-- Runs of bytes of a tensor: one for each row of dimension 0. -/
def Desc.rows (d : Desc) : List (Int × Nat) :=
  if d.count = 0 then [] else
  (List.range (d.count / d.extent 0)).map (fun r => (d.addr (r * d.extent 0), d.extent 0 * elemSize d.fmt))

/-- Rows of a scale plane as `d` uses it. -/
def planeRows (d pl : Desc) : List (Int × Nat) :=
  if d.count = 0 then [] else
  (List.range (d.count / d.extent 0)).map (fun r => (scaleAddr d pl (r * d.extent 0), (d.extent 0 + 31) / 32))

/-- Every run of bytes an operand touches, scale bytes included. -/
def Held.runs (l : Held) : List (Int × Nat) :=
  l.d.rows ++ (match l.plane with | some pl => planeRows l.d pl | none => [])

/-- Regions that runs of bytes touch, in their order. -/
def runRegions (p : Nat) (rs : List (Int × Nat)) : List Nat :=
  (rs.flatMap (fun r => match physOf p r.1 with | some k => regionsOf k r.2 | none => [])).eraseDups

/-- Regions an operand touches. -/
def Held.regions (p : Nat) (l : Held) : List Nat := runRegions p l.runs

/-- Runs of the scale plane an operand uses; none without one. -/
def Held.planeRows (l : Held) : List (Int × Nat) :=
  match l.plane with
  | some pl => Machine.planeRows l.d pl
  | none => []

/-- Owner of region key r. [DEDUCED: log entry 13] -/
def State.regionOwner (s : State) (r : Nat) : Nat := Tab.get 0 (s.pier (r / 2 ^ 17)).owner (r % 2 ^ 17)

/-- Set it. -/
def State.setRegionOwner (s : State) (r o : Nat) : State :=
  s.modPier (r / 2 ^ 17) (fun q => { q with owner := Tab.set 0 q.owner (r % 2 ^ 17) o })

/-- Claim regions for an engine: those claimed, and the first one refused (06 R216, R218). [DEDUCED: log entry 13] -/
def State.claim (s : State) (self : Nat) (rs : List Nat) : State × List Nat × Option Nat :=
  let good := rs.filter (fun r => s.regionOwner r = 0 || s.regionOwner r = self)
  (good.foldl (fun s r => s.setRegionOwner r self) s, good,
   rs.find? (fun r => !(s.regionOwner r = 0 || s.regionOwner r = self)))

/-- Release regions (06 R219). [DEDUCED: log entry 13] -/
def State.release (s : State) (self : Nat) (rs : List Nat) : State :=
  rs.foldl (fun s r => if s.regionOwner r = self then s.setRegionOwner r 0 else s) s

/-- Address of a region for a fault record (Table 6-15), as the queue's Pier p writes it. [DEDUCED: log entry 21] -/
def regionAddr (r : Nat) : Nat := 2 * 2 ^ 44 + r % 2 ^ 17 * 1024

/-! ## Element reads -/

/-- Code of an element as a Pier in reset delivers it: the pattern of 07 R269 (17 R588). -/
def downCode (fmt : Nat) : Nat :=
  match fmt with
  | 9 => 2 ^ 32 - 1
  | 8 => 2 ^ 127
  | f => (floatOf f).nanCode

/-- Raw code of flat element i. -/
def State.readRaw (s : State) (p : Nat) (d : Desc) (i : Nat) : Nat :=
  match physOf p (d.addr i) with
  | some k => if s.downAt k then downCode d.fmt else ofBytes ((List.range (elemSize d.fmt)).map (fun b => s.read (k + b)))
  | none => 0

/-- Scale byte of flat element i of an MX operand. -/
def State.readScale (s : State) (p : Nat) (l : Held) (i : Nat) : Nat :=
  match l.plane with
  | some pl => match physOf p (scaleAddr l.d pl i) with
    | some k => if s.downAt k then 255 else (s.read k).toNat
    | none => 0
  | none => 127

/-- Value of a code under a scale: per tensor, or the block's scale byte (02 R39, R42, R48). -/
def valueOf (fmt : Nat) (x : Int) (sb code : Nat) : Val :=
  match fmt with
  | 9 => .fin false code 0
  | 7 => decode .b32 (code % 2 ^ 32)
  | 2 => if sb = 0xFF then .nan else (decode .e4m3 code).scale ((sb : Int) - 127)
  | 3 => if sb = 0xFF then .nan else (decode .e5m2 code).scale ((sb : Int) - 127)
  | f => if f < 2 then (decode (floatOf f) code).scale x else decode (floatOf f) code

/-- Element i meets a region of another engine, in its bytes or its scale byte (06 R217). -/
def State.elemForeign (s : State) (p self : Nat) (l : Held) (i : Nat) : Bool :=
  s.foreignElem p self (l.d.addr i) (elemSize l.d.fmt)
    || (match l.plane with | some pl => s.foreignElem p self (scaleAddr l.d pl i) 1 | none => false)

/-- Value of element i as engine `self` reads it: poison of a stale guarded use or of a foreign region. -/
def State.readVal (s : State) (p self : Nat) (l : Held) (i : Nat) : Val :=
  if l.stale || s.elemForeign p self l i then .poison
  else valueOf l.d.fmt l.scaleX (s.readScale p l i) (s.readRaw p l.d i)

/-- UINT32 element i: 0xFFFF_FFFF for poison (06 R217). -/
def State.readU32 (s : State) (p self : Nat) (l : Held) (i : Nat) : Nat :=
  if l.stale || s.elemForeign p self l i then 0xFFFFFFFF else s.readRaw p l.d i

/-! ## Element writes -/

/-- What an engine writes to one element. -/
inductive EVal where
  | f (v : Val)
  | u (n : Nat)
  | pair (hi lo : Nat)
  | xa (word : Nat) (anchor : Int)
  deriving DecidableEq, Repr

/-- The value behind it, before any scale: for an XA128 word or a pair, as export_b32 gives it (03 R85). -/
def EVal.val : EVal → Val
  | .f v => v
  | .u n => .fin false n 0
  | .pair hi _ => decode .b32 hi
  | .xa w a => decode .b32 (exportB32 a (xaOfWord w))

/-- Encoding in a format that has no blocks: the code and SAT (02 R45, R48). Table 2-4 gives no conversion of a floating-point
value to UINT32: that code is a free value. [DESIGN CHOICE: log entry 79] -/
def encodeElem (fmt : Nat) (x : Int) (e : EVal) : Nat × Bool :=
  match fmt, e with
  | 9, .u n => (n % 2 ^ 32, false)
  | 9, e => ((Config.toUint32 (BitVec.ofNat 32 (convert .b32 e.val).1)).toNat, false)
  | 7, .pair hi lo => (hi + lo * 2 ^ 32, false)
  | 7, e => let q := pairOf e.val; (q.1 + q.2 * 2 ^ 32, false)
  | 8, .xa w _ => (w % 2 ^ 128, false)
  | 8, _ => (0, false)
  | f, e => if f < 2 then convert (floatOf f) (e.val.scale (-x)) else convert (floatOf f) e.val

/-- `write_mx_block` (02 R43): the scale byte, and a code with SAT for each element. -/
def mxBlock (f : FFmt) (xs : List Val) : Nat × List (Nat × Bool) :=
  if xs.any (fun v => decide (v = .poison)) then (0xFF, xs.map (fun _ => (f.poisonCode, false)))
  else if xs.any Val.isNan then (0xFF, xs.map (fun _ => (f.nanCode, false)))
  else
    let emax : Int := if f = .e4m3 then 8 else 15
    let x : Int := match maxInt? (xs.filterMap Val.ilog2) with
      | none => -127
      | some a => clampInt (-127) 127 (a - emax)
    ((x + 127).toNat, xs.map (fun v => convert f (v.scale (-x))))

/-- A written element as the watch sees it: its index, its code, SAT, the source value, the stored value. -/
structure Wrote where
  idx : Nat
  code : Nat
  sat : Bool
  src : Val
  stored : Val
  deriving DecidableEq, Repr

/-- A write of n bytes at an address is discarded: it meets another engine's region, or one of the regions `dn` whose claim
failed (06 R218). -/
def State.barred (s : State) (p self : Nat) (dn : List Nat) (a : Int) (n : Nat) : Bool :=
  s.foreignElem p self a n || (!dn.isEmpty && (runRegions p [(a, n)]).any (fun r => dn.contains r))

/-- Write one element's bytes where regions `dn` are denied. -/
def State.putElemBut (s : State) (p self : Nat) (dn : List Nat) (a : Int) (n code : Nat) : State :=
  match physOf p a with
  | some k => if s.barred p self dn a n then s else s.write k (toBytes n code)
  | none => s

/-- Write one element's bytes; a region of another engine discards them (06 R218). -/
def State.putElem (s : State) (p self : Nat) (a : Int) (n code : Nat) : State := s.putElemBut p self [] a n code

/-- First flat index of the block of element i, and its length. -/
def blockOf (d : Desc) (i : Nat) : Nat × Nat :=
  let e := d.extent 0
  let c := i % e
  (i - c + c / 32 * 32, min 32 (e - c / 32 * 32))

/-- Write one MX block: the new values by index, the others kept (02 R43). An element byte and the scale byte are each discarded
by the region they lie in. -/
def State.writeBlockMx (s : State) (p self : Nat) (dn : List Nat) (l : Held) (ws : List (Nat × EVal)) (b n : Nat) : State × List Wrote :=
  let f := floatOf l.d.fmt
  let src (i : Nat) : Val := match ws.find? (fun w => w.1 = i) with
    | some w => w.2.val
    | none => valueOf l.d.fmt 0 (s.readScale p l i) (s.readRaw p l.d i)
  let is := (List.range n).map (b + ·)
  let r := mxBlock f (is.map src)
  let s' := (is.zip r.2).foldl (fun s w => s.putElemBut p self dn (l.d.addr w.1) 1 w.2.1) s
  let s' := match l.plane with
    | some pl => s'.putElemBut p self dn (scaleAddr l.d pl b) 1 r.1
    | none => s'
  (s', (is.zip r.2).filterMap (fun w =>
    if ws.any (fun v => v.1 = w.1) && !s.barred p self dn (l.d.addr w.1) 1 then
      some ⟨w.1, w.2.1, w.2.2, src w.1, valueOf l.d.fmt 0 r.1 w.2.1⟩
    else none))

/-- Write elements of a tensor, by index, where regions `dn` are denied: the state, and what was written. -/
def State.writeElemsBut (s : State) (p self : Nat) (dn : List Nat) (l : Held) (ws : List (Nat × EVal)) : State × List Wrote :=
  if isMx l.d.fmt then
    ((ws.map (fun w => blockOf l.d w.1)).eraseDups).foldl
      (fun (a : State × List Wrote) b =>
        let r := a.1.writeBlockMx p self dn l ws b.1 b.2
        (r.1, a.2 ++ r.2)) (s, [])
  else
    ws.foldl (fun (a : State × List Wrote) w =>
      let c := encodeElem l.d.fmt l.scaleX w.2
      let n := elemSize l.d.fmt
      if a.1.barred p self dn (l.d.addr w.1) n then a
      else (a.1.putElemBut p self dn (l.d.addr w.1) n c.1,
            a.2 ++ [⟨w.1, c.1, c.2, w.2.val, valueOf l.d.fmt l.scaleX 0
              (match w.2 with | .xa x an => exportB32 an (xaOfWord x) | _ => c.1)⟩])) (s, [])

/-- Write elements of a tensor, by index: the state, and what was written. -/
def State.writeElems (s : State) (p self : Nat) (l : Held) (ws : List (Nat × EVal)) : State × List Wrote :=
  s.writeElemsBut p self [] l ws

end Sys2Proof.Machine
end

