-- ==== Sys2Proof/Machine/Flags.lean ====
section
/-! DEFINITION. What a written element sets besides its bytes: the numeric watch's counters and events, per-tensor
scale tracking and overflow correction (03), and DECK_STATUS (05 R170). -/

namespace Sys2Proof.Machine

/-! ## Watch counters (03 R85 to R90) -/

/-- Counter numbers in the order of Table 3-1. -/
inductive WCtr where
  | writes | zeros | subnormal | sat | nan | inf | wspill | hist (b : Nat)
  deriving DecidableEq, Repr

/-- Position of a counter in its set. -/
def WCtr.ix : WCtr → Nat
  | .writes => 0 | .zeros => 1 | .subnormal => 2 | .sat => 3 | .nan => 4 | .inf => 5 | .wspill => 6 | .hist b => 7 + b

/-- First key of a bank of Pier p. -/
def watchBank (p bank : Nat) : Nat := (bank * 2 + p) * 2 ^ 20

/-- The LAST banks. -/
def wbLast : Nat := 0
/-- The SILENT states. -/
def wbSilent : Nat := 1
/-- The bank of a generation: OPEN where it is the Pier's, else one that waits to close (03 R89). -/
def wbGen (gen : Nat) : Nat := 2 + gen

/-- Key of counter c of a set. -/
def watchKey (p bank set c : Nat) : Nat := watchBank p bank + set * 16 + c

/-- A counter's value. -/
def State.watchGet (s : State) (p bank set c : Nat) : Nat := Tab.get 0 s.watch (watchKey p bank set c)

/-- Set it. -/
def State.watchSet (s : State) (p bank set c v : Nat) : State :=
  { s with watch := Tab.set 0 s.watch (watchKey p bank set c) v }

/-- Count in the bank that an instruction latched; counters saturate (03 R86, R89). -/
def State.watchCount (s : State) (p gen set : Nat) (c : WCtr) (n : Nat) : State :=
  s.watchSet p (wbGen gen) set c.ix (sat64 (s.watchGet p (wbGen gen) set c.ix + n))

/-- An envelope of the step that a generation counts: that of the bank that waits, else the one in effect.
[DESIGN CHOICE: log entry 77] -/
def State.watchLimit (s : State) (p gen k idx : Nat) : Nat :=
  match (s.pier p).watchClosing.find? (fun c => c.gen = gen) with
  | some c => c.limits.getD k 0
  | none => s.odv 0 idx 0

/-- A watch event: its decision count and its record (03 R104, Table 3-5). -/
def State.watchEventAt (s : State) (epoch attempt p code key d0 d1 : Nat) : State :=
  (s.bump32 0 (0x4040 + p) code 1).ringPut (.watch p)
    (fun q => eventRec epoch key code ((Ring.watch p).mid attempt) q d0 d1)

/-- A watch event of the running attempt. -/
def State.watchEvent (s : State) (p code key d0 d1 : Nat) : State :=
  s.watchEventAt s.recEpoch s.commit.attempt p code key d0 d1

/-- WATCH_ENABLE. -/
def State.watchOn (s : State) : Bool := decide (s.odv 0 0x4000 0 = 1)

/-- Once-per-attempt alarm of a tensor: marks 1 NAN_SEEN, 2 INF_SEEN, 3 SATF_SEEN (Table 3-4). The first write of the attempt
spends it, also where WATCH_ENABLE is 0 and no event is raised. [DESIGN CHOICE: log entry 77] -/
def State.watchFirst (s : State) (p kind code set d0 d1 : Nat) : State :=
  if s.isFirst kind (p * 65536 + set) then
    let s := s.setOnce kind (p * 65536 + set)
    if s.watchOn then s.watchEvent p code set d0 d1 else s
  else s

/-- Histogram bin of exponent e (Table 3-2). -/
def histBin (b : Int) (d : Nat) (e : Int) : Nat :=
  if e < b then 0 else min 7 (((e - b).toNat / d) + 1)

/-- Stored exponent field of a code. -/
def FFmt.expField (f : FFmt) (c : Nat) : Nat := (c / 2 ^ f.mant) % 2 ^ f.expo

/-- Who writes: the instruction's stream, PC, and the bank it latched. -/
structure Writer where
  stream : Nat
  pc : Nat
  gen : Nat
  deriving DecidableEq, Repr

/-- DATA0 of NAN_SEEN, INF_SEEN and SATF_SEEN (Table 3-4). -/
def Writer.data0 (w : Writer) : Nat := w.stream % 65536 + (w.pc % 2 ^ 32) * 65536

/-- The code by which an element is classified, and its format (03 R85). -/
def watchCode (fmt : Nat) (w : Wrote) : FFmt × Nat :=
  match fmt with
  | 7 => (.b32, w.code % 2 ^ 32)
  | 8 => (.b32, (convert .b32 w.stored).1)
  | f => (floatOf f, w.code)

/-- Class of an element: the counters it advances besides WRITES and SAT (Table 3-1). -/
def watchClass (base : Int) (width : Nat) (fmt : Nat) (w : Wrote) : List WCtr :=
  if fmt = 9 then [] else
  let c := watchCode fmt w
  let v := decode c.1 c.2
  match v with
  | .poison => [.nan]
  | .nan => [.nan]
  | .inf _ => [.inf]
  | .fin _ 0 _ => [.zeros]
  | .fin _ _ _ =>
    (if c.1.expField c.2 = 0 then [.subnormal] else [])
      ++ (match (if fmt = 7 || fmt = 8 then v else w.stored).ilog2 with
          | some e => [.hist (histBin base width e)]
          | none => [])

/-- Count one written element of a watched tensor, with NAN_SEEN and INF_SEEN (03 R84, R85, R104). -/
def State.watchElem (s : State) (p : Nat) (wr : Writer) (fmt set : Nat) (w : Wrote) : State :=
  let s := s.watchCount p wr.gen set .writes 1
  let s := if w.sat then s.watchCount p wr.gen set .sat 1 else s
  let cs := watchClass (toSigned 8 (s.watchLimit p wr.gen 3 0x4004)) (s.watchLimit p wr.gen 4 0x4005) fmt w
  cs.foldl (fun s c =>
    let s := s.watchCount p wr.gen set c 1
    match c with
    | .nan => s.watchFirst p 1 3 set wr.data0 (s.watchGet p (wbGen wr.gen) set 4)
    | .inf => s.watchFirst p 2 4 set wr.data0 (s.watchGet p (wbGen wr.gen) set 5)
    | _ => s) s

/-! ## Scale table (03 R93 to R103) -/

/-- Address of a scale-table slot. -/
def slotAddr (p slot : Nat) : Nat := pkey (spCtl p) (0x200000 + slot * 64)

/-- A tensor-table entry names the slot as a working copy's scale (03 R95, Table 12-2). -/
def State.workingSlot (s : State) (p slot : Nat) : Bool :=
  (List.range (s.odv 0 0x7005 0)).any (fun t =>
    let a := pkey spSlow (s.odv 0 0x7004 0 + t * 128)
    bit 2 (s.num (a + 17) 1) && decide (s.num (a + 18) 1 < 2) && decide (s.num (a + 52) 2 % 2 ^ 15 = p * 2 ^ 14 + slot))

/-- The tracker maintains the slot: TRACK, and no working copy (03 R95). -/
def State.tracked (s : State) (p slot : Nat) : Bool :=
  bit 0 (s.num (slotAddr p slot + 1) 1) && !s.workingSlot p slot

/-- ATT_AMAX of a slot. -/
def State.attAmax (s : State) (p slot : Nat) : Int := toSigned 16 (s.num (slotAddr p slot + 4) 2)

/-- Set SCALE_EXP of a slot. -/
def State.setScaleExp (s : State) (p slot : Nat) (x : Int) : State := s.setNum (slotAddr p slot) 1 (ofSigned 8 x)

/-- Keep SCALE_EXP as it stood at the attempt's start (13 R460). -/
def State.saveScale (s : State) (p slot : Nat) : State :=
  if Tab.get 0 s.commit.scaleSave (p * 2 ^ 14 + slot) = 0 then
    let t := Tab.set 0 s.commit.scaleSave (p * 2 ^ 14 + slot) (s.scaleExp p slot + 128).toNat
    { s with commit := { s.commit with scaleSave := t } }
  else s

/-- Mark the attempt of the step scale-corrected (03 R100), be it running or still to START; a correction after the exchange
contribution marks it faulted too (13 R455). -/
def State.markCorrected (s : State) : State :=
  { s with commit := { s.commit with scaleCorrected := true,
                                     faulted := s.commit.faulted || (s.commit.inAttempt && s.commit.exchSent) } }

/-- SAT in a tracked tensor: the overflow correction, or SCALE_FROZEN (03 R100, R103). -/
def State.overflow (s : State) (p slot : Nat) : State :=
  let x := s.scaleExp p slot
  if s.odv 0 0x4013 0 ≤ s.commit.attempt + 1 then
    if s.isFirst 4 (p * 2 ^ 14 + slot) then
      (s.setOnce 4 (p * 2 ^ 14 + slot)).watchEvent p 0x0A slot (ofSigned 64 x) s.commit.attempt
    else s
  else if bit 1 (s.num (slotAddr p slot + 1) 1) then s
  else
    let want := x + s.odv 0 0x4011 0
    let y := min want (toSigned 8 (s.odv 0 0x4015 0))
    let s := (s.saveScale p slot).setScaleExp p slot y
    let s := s.setNum (slotAddr p slot + 1) 1 (setBit 1 true (s.num (slotAddr p slot + 1) 1))
    let s := s.watchEvent p 0x08 slot (ofSigned 64 x) (ofSigned 64 y)
    let s := if y ≠ want then s.watchEvent p 0x09 slot (ofSigned 64 want) (ofSigned 64 y) else s
    s.markCorrected

/-- ATT_AMAX of a tracked slot rises to the exponent of a source value (03 R96). -/
def State.measure (s : State) (p slot : Nat) (v : Val) : State :=
  match v.ilog2 with
  | some e => if s.attAmax p slot < e then s.setNum (slotAddr p slot + 4) 2 (ofSigned 16 e) else s
  | none => s

/-- Scale tracking of one written element (03 R96, R100). -/
def State.trackElem (s : State) (p slot : Nat) (w : Wrote) : State :=
  if s.tracked p slot then
    let s := s.measure p slot w.src
    if w.sat then s.overflow p slot else s
  else s

/-- Scale tracking of elements that a copy writes unchanged: each is measured, none converts (03 R96, R100). -/
def State.trackCopied (s : State) (p : Nat) (d : Desc) (vs : List Val) : State :=
  if decide (d.fmt < 2) && s.tracked p d.scaleH then vs.foldl (fun s v => s.measure p d.scaleH v) s else s

/-- Everything the watch does for the elements an engine wrote into an operand (03 R84, R96). -/
def State.watchWrites (s : State) (p : Nat) (wr : Writer) (d : Desc) (ws : List Wrote) : State :=
  ws.foldl (fun s w =>
    let s := if d.watchEn then s.watchElem p wr d.fmt d.watchId w else s
    if d.fmt < 2 then s.trackElem p d.scaleH w else s) s

/-- WSPILL of an exported target, and SATF_SEEN (02 R63, Table 3-4). -/
def State.watchExport (s : State) (p : Nat) (wr : Writer) (d : Desc) (spill : Nat) (st : XaStat) : State :=
  if d.watchEn then
    let s := s.watchCount p wr.gen d.watchId .wspill spill
    if st.satf then s.watchFirst p 3 5 d.watchId wr.data0 st.toNat else s
  else s

/-! ## Bank close (03 R90 to R92, R105, R111) -/

/-- Sets with a counter in a bank. -/
def State.bankSets (s : State) (p bank : Nat) : List Nat :=
  ((Tab.within (watchBank p bank) (2 ^ 20) s.watch).map (fun e => (e.1 - watchBank p bank) / 16)).eraseDups

/-- The record of a LAST set in the host window (03 R111, Table 16-4). -/
def State.lastImage (s : State) (p set : Nat) : State :=
  let base := poff (s.odv 0 0x8001 (p + 1)) + 0x800000 + set * 128
  let s := s.girderRun p base 128 true 0 (Asker.maintenance p) ffPattern
  (List.range 15).foldl (fun s c => s.setNum (pkey (spFast p) (base + 8 * c)) 8 (s.watchGet p wbLast set c)) s

/-- The records of some sets in the window follow their LAST banks. -/
def State.lastImages (s : State) (p : Nat) (sets : List Nat) : State := sets.foldl (fun s k => s.lastImage p k) s

/-- SILENT_TENSOR and SILENT_CLEAR of a closed set (03 R105). [DEDUCED: log entry 16] -/
def State.silentCheck (s : State) (p : Nat) (c : WatchClose) (set : Nat) : State :=
  let writes := s.watchGet p wbLast set 0
  let zeros := s.watchGet p wbLast set 1
  if writes = 0 || !s.watchOn then s else
  let share := zeros * 1000000 / writes
  let run := s.watchGet p wbSilent set 0
  let raised := s.watchGet p wbSilent set 1
  if c.limits.getD 0 0 * writes ≤ zeros * 1000000 then
    let run := min (run + 1) 65535
    let s := s.watchSet p wbSilent set 0 run
    if c.limits.getD 1 0 ≤ run && raised = 0 then
      (s.watchSet p wbSilent set 1 1).watchEventAt c.epoch c.attempt p 1 set share run
    else s
  else
    let s := if raised = 1 then s.watchEventAt c.epoch c.attempt p 2 set share run else s
    (s.watchSet p wbSilent set 0 0).watchSet p wbSilent set 1 0

/-- SPILL_RATE of a closed set (Table 3-4). [DEDUCED: log entry 16] -/
def State.spillCheck (s : State) (p : Nat) (c : WatchClose) (set : Nat) : State :=
  let writes := s.watchGet p wbLast set 0
  let spill := s.watchGet p wbLast set 6
  if s.watchOn && 0 < spill && c.limits.getD 2 0 * writes ≤ spill * 1000000 then
    s.watchEventAt c.epoch c.attempt p 6 set spill writes
  else s

/-- The oldest bank that waits becomes LAST, its alarms are evaluated, and its counters go (03 R90).
[DEDUCED: log entry 16] -/
def State.bankClose (s : State) (p : Nat) : State :=
  match (s.pier p).watchClosing with
  | [] => s
  | c :: rest =>
    let old := s.bankSets p wbLast
    let s := { s with watch := Tab.move 0 (watchBank p (wbGen c.gen)) (2 ^ 20) (watchBank p wbLast) s.watch }
    let s := s.modPier p (fun r => { r with watchClosing := rest })
    let sets := s.bankSets p wbLast
    let s := s.lastImages p (old ++ sets).eraseDups
    sets.foldl (fun s k => (s.silentCheck p c k).spillCheck p c k) s

/-- The epoch flips to E, committed by attempt a: the OPEN bank waits to close under the envelopes of its step, and a new one
opens (03 R89, R90). [DEDUCED: log entry 16; DESIGN CHOICE: log entry 77] -/
def State.bankFlip (s : State) (p epoch attempt : Nat) : State :=
  s.modPier p (fun r => { r with
    watchGen := r.watchGen + 1,
    watchClosing := r.watchClosing ++ [⟨r.watchGen,
      [s.odv 0 0x4001 0, s.odv 0 0x4002 0, s.odv 0 0x4003 0, s.odv 0 0x4004 0, s.odv 0 0x4005 0], epoch, attempt⟩] })

/-- The OPEN bank is cleared without a copy: the attempt is abandoned (03 R91). -/
def State.dropOpen (s : State) (p : Nat) : State :=
  { s with watch := Tab.without (watchBank p (wbGen (s.pier p).watchGen)) (2 ^ 20) s.watch }

/-- A reset clears every bank and SILENT state of a Pier, and with the LAST banks their records in the window (03 R92, R111).
[DEDUCED: log entry 70] -/
def State.watchReset (s : State) (p : Nat) : State :=
  let sets := s.bankSets p wbLast
  let s := { s with watch := s.watch.filter (fun e => !decide (e.1 / 2 ^ 20 % 2 = p)) }
  (s.modPier p (fun r => { r with watchClosing := [] })).lastImages p sets

/-- An instruction that latched the oldest bank that waits on Pier p is in flight, on either Pier (03 R90).
[DEDUCED: log entry 16] -/
def State.bankInUse (s : State) (p : Nat) : Bool :=
  match (s.pier p).watchClosing with
  | [] => false
  | c :: _ => (s.p0.queues ++ s.p1.queues).any (fun q => q.2.flights.any (fun f => decide (f.gen ≤ c.gen)))

/-! ## DECK_STATUS (05 R170) -/

/-- Flags that an operation raises in DECK_STATUS. -/
def Pair.raise (d : Pair) (fl : Nat) : Pair := { d with dstat := d.dstat ||| fl }

end Sys2Proof.Machine
end

