-- ==== Sys2Proof/Machine/Streams.lean ====
section
/-! DEFINITION. Instruction streams: what stands at the head of a queue, its wait, its encoding, its latch and its
completion (06), and the queue rows of the table. -/

namespace Sys2Proof.Machine

/-! ## Instances of the per-queue and per-engine objects -/

/-- Instance of the objects of OD 0xF121: QUEUE_SELECT. -/
def qInst (p q : Nat) : Nat := p * 128 + q

/-- Instance of the objects of a Span or Deck: SPAN_SELECT, DECK_SELECT. -/
def eInst (p i : Nat) : Nat := p * 32 + i

/-- STREAM value of a queue (Table 6-1). -/
def streamOf (p q : Nat) : Nat := q + 128 * p

/-! ## The head of a queue -/

/-- The clock of a queue's engine runs (17: level 7 stops it). [DEDUCED: log entry 68] -/
def State.clockRuns (s : State) (p q : Nat) : Bool :=
  decide (64 ≤ q) ||
    (decide (s.power.pLevel < 7) && decide (Tab.get 0 s.power.tLevel (clusterOf p (q % 32)) < 7))

/-- Entries of the shared pool in use (Table 6-13). -/
def State.poolUse (s : State) (p : Nat) : Nat := (s.queue p 80).flights.length + (s.queue p 81).flights.length

/-- Most instructions in flight on a queue (Table 6-13). -/
def flightLimit (q : Nat) : Nat := if q < 32 then 1 else if q < 64 then 16 else if q < 80 then 256 else 1024

/-- An instruction stands at the head of the queue: RUN, its window loaded, not at its last instruction's end, its clock
running (06 R188, R190). -/
def State.standing (s : State) (p q : Nat) : Bool :=
  let u := s.queue p q
  decide (u.st = .run) && !u.loading && !u.ended && s.clockRuns p q && !(s.pier p).inReset

/-- The queue issues: an instruction stands at its head, and it is below its limit (06 R214). -/
def State.issues (s : State) (p q : Nat) : Bool :=
  s.standing p q && decide ((s.queue p q).flights.length < flightLimit q)

/-- The word at the head. -/
def State.headWord (s : State) (p q : Nat) : Nat := s.wordOf p q (s.queue p q)

/-- The head's fetch is a FETCH_FAULT (06 Table 6-14). -/
def State.headBad (s : State) (p q : Nat) : Bool :=
  let u := s.queue p q
  if q < 64 then decide (Tab.get 0 u.buf u.pc = badWord)
  else match u.head with
    | some w => decide (w = badWord)
    | none => s.granuleBad p u.wordOff

/-- Granules from one to another. -/
def granIn (lo hi g : Nat) : Bool := decide (lo ≤ g && g ≤ hi)

/-- The state once the head's word has been fetched. -/
def State.headFetch (s : State) (p q : Nat) : State :=
  if q < 64 || (s.queue p q).head.isSome then s else s.fetch p q (s.queue p q).wordOff 16

/-- The head may latch but for its tracker entry: the queue issues and its wait is met. -/
def State.headMet (s : State) (p q : Nat) : Bool :=
  s.issues p q && (s.headBad p q || (s.queue p q).met || s.waitMet p (s.queue p q) (s.headWord p q))

/-- A tracker entry is at hand (06 R214). -/
def State.entryFree (s : State) (p q : Nat) : Bool :=
  if q < 80 then true else
  decide (s.poolUse p < 1503)
    || (decide (s.poolUse p = 1503) && (decide ((s.pier p).lastPool ≠ q) || !s.headMet p (161 - q)))

/-- The head latches now. [DESIGN CHOICE: log entry 10] -/
def State.ready (s : State) (p q : Nat) : Bool := s.headMet p q && s.entryFree p q

/-! ## Encodings (00 R11, Tables 6-4, 4-4, 5-1, 7-7) -/

/-- No reserved bit or condition in the common control part (Table 6-4). [DEDUCED: log entry 12] -/
def commonOk (w : Nat) : Bool :=
  let wk := bits 65 64 w
  let sk := bits 95 94 w
  decide (bits 127 120 w = 0)
    && (wk = 1 || (decide (bits 77 76 w = 0) && decide (bits 93 78 w = 0)))
    && (decide (wk < 2) || !bit 75 w)
    && (sk = 1 || decide (bits 107 106 w = 0))
    && (decide (sk < 2) || decide (bits 105 104 w = 0))

/-- Opcode of a word. -/
def opOf (w : Nat) : Nat := bits 7 0 w

/-- LOOP_ID of a word. -/
def loopOf (w : Nat) : Nat := bits 117 108 w

/-! ## Latch -/

/-- Move the queue past its head (06 R190, R193): SCINC, the pass wrap, ISSUED.
[DEDUCED: log entry 12; DESIGN CHOICE: log entry 5] -/
def State.advance (s : State) (p q w : Nat) : State :=
  let u := s.queue p q
  let sc2 := if bit 118 w then wrap32 (u.sc2 + 1) else u.sc2
  let u :=
    if u.pc + 1 = u.qlen then
      if u.sc1 + 1 < u.passLimit then { u with sc1 := u.sc1 + 1, pc := 0 } else { u with ended := true }
    else { u with pc := u.pc + 1 }
  ((s.setQueue p q { u with sc2 := sc2, timedOut := false, head := none, met := false }).takeHead p q).bump64 (qInst p q) 0xF121 5 1

/-- Tracker entries in use (Table 6-16). -/
def State.trackerUse (s : State) (p : Nat) : Nat :=
  sumNat (((s.pier p).queues.filter (fun e => e.1 < 64 || 80 ≤ e.1)).map (fun e => e.2.flights.length))

/-- Put an instruction in flight. -/
def State.pushFlight (s : State) (p q : Nat) (f : Flight) : State :=
  let u := s.queue p q
  let s := s.setQueue p q { u with flights := u.flights ++ [f] }
  let s := if 80 ≤ q then s.modPier p (fun r => { r with lastPool := q }) else s
  if s.odv 0 0xF127 (p + 1) < s.trackerUse p then s.setOd 0 0xF127 (p + 1) (s.trackerUse p) else s

/-- A flight for the head of the queue, as its latch makes it. -/
def State.newFlight (s : State) (p q w : Nat) (ops : List Held) (nest : Nest) (null : Bool) : Flight :=
  let u := s.queue p q
  { word := w, pc := u.pc, sc1 := u.sc1, sc2 := u.sc2, ops := ops, nest := nest, begun := 0, total := nest.total,
    null := null, running := false, owned := [], denied := [], ownedAbr := none, guards := [], gen := (s.pier p).watchGen,
    args := [], cycles := 0, timedOut := u.timedOut, adds := [], seen := [] }

/-- ENC_FAULT or FETCH_FAULT of the head: it does not execute and posts no signal (Table 6-14).
[DEDUCED: log entry 12; DESIGN CHOICE: log entry 10] -/
def State.headFault (s : State) (p q code : Nat) : State :=
  let u := s.queue p q
  (s.streamFault p q code u.pc u.sc1 0 0 0 7).queueFault p q u.pc u.sc1 u.sc2

/-- ENC_FAULT of the head for what one of its descriptors holds: OPERAND is the position of the first handle whose latch meets
a reserved encoding (06 Table 6-15). [DEDUCED: log entry 21] -/
def State.descFault (s : State) (p q : Nat) (hs : List Nat) (pos : Nat → Nat) : State :=
  let u := s.queue p q
  let k := (hs.findIdx? (fun h => (s.latch p h).isNone)).getD 0
  (s.streamFault p q 1 u.pc u.sc1 0 0 0 (pos k)).queueFault p q u.pc u.sc1 u.sc2

/-- OPERAND_FAULT of an instruction (04 R135): the record, the queue's FAULT, the flight gone without its signal.
[DEDUCED: log entry 21] -/
def State.operandFault (s : State) (p q : Nat) (f : Flight) (exec operand : Nat) (addr : Int) : State :=
  (s.streamFault p q 2 f.pc f.sc1 exec (ofSigned 48 addr) 0 operand).queueFault p q f.pc f.sc1 f.sc2

/-- SCHED_FAULT of an instruction (Table 6-14). -/
def State.schedFault (s : State) (p q : Nat) (f : Flight) (exec addr owner operand : Nat) : State :=
  s.streamFault p q 3 f.pc f.sc1 exec addr owner operand

/-- Replace the flights of a queue. -/
def State.setFlights (s : State) (p q : Nat) (fs : List Flight) : State :=
  s.setQueue p q { s.queue p q with flights := fs }

/-- Issue of the head of queue q by the row of opcode `op`: nothing where the head cannot latch or holds another
valid opcode; ENC_FAULT where it is reserved (00 R11); else the engine's own latch. [DESIGN CHOICE: log entry 10] -/
def State.issue (s : State) (p q op : Nat) (encOk : Nat → Bool) (go : State → Nat → State) : State :=
  if !s.ready p q then s
  else if s.headBad p q then (s.headFetch p q).headFault p q 5
  else
    let w := s.headWord p q
    if !(encOk w && commonOk w) then (s.headFetch p q).headFault p q 1
    else if opOf w ≠ op then s
    else go (s.headFetch p q) w

/-! ## Guarded uses and guarded writes (07 R263 to R265) -/

/-- The guarded use of an operand fails (07 R265). [DEDUCED: log entry 20] -/
def State.guardFails (s : State) (d : Desc) : Bool :=
  d.guard = 2 &&
    (let r := bits 8 8 d.guardSnap * 256 + bits 7 0 d.guardSnap
     !(bit 31 d.guardSnap && decide (s.odv r 0x3021 4 = 0)
        && decide (s.odv r 0x3021 3 % 2 ^ 22 = bits 30 9 d.guardSnap)))

/-- Check the source operands of an instruction at its latch: positions, state with COPY_STALE raised once.
[DEDUCED: log entry 20] -/
def State.guardCheck (s : State) (p q : Nat) (f : Flight) (src : List Nat) : State × Flight :=
  let bad := src.filter (fun j => match f.ops[j]? with | some l => s.guardFails l.d | none => false)
  if bad.isEmpty then (s, f) else
  let f := { f with ops := (List.range f.ops.length).filterMap (fun j =>
      (f.ops[j]?).map (fun l => if bad.contains j then { l with stale := true } else l)) }
  ((s.bump32 0 0x3022 (p + 1) 1).streamFault p q 4 f.pc f.sc1 0 0 0 (bad.headD 0), f)

/-- Enabled guard regions, Pier × 256 + region, that a run of bytes at a physical address touches. -/
def State.guardsAt (s : State) (k n : Nat) : List Nat :=
  if n = 0 || 2 ≤ pspace k then [] else
  ((List.range 256).map (pspace k * 256 + ·)).filter (fun r =>
    let b := s.odv r 0x3021 1
    let z := s.odv r 0x3021 2
    decide (z ≠ 0 && poff k < b + z && b < poff k + n))

/-- One write operation of a source other than an instruction: one count in each guard region that it touches (07 R263).
[DEDUCED: log entry 20] -/
def State.guardOnce (s : State) (runs : List (Nat × Nat)) : State :=
  ((runs.flatMap (fun r => s.guardsAt r.1 r.2)).eraseDups).foldl (fun s r => s.bump32 r 0x3021 3 1) s

/-- First writes of an instruction within guard regions. [DEDUCED: log entry 20] -/
def State.guardRuns (s : State) (gs : List Nat) (runs : List (Nat × Nat)) : State × List Nat :=
  let new := ((runs.flatMap (fun r => s.guardsAt r.1 r.2)).eraseDups).filter (fun r => !gs.contains r)
  (new.foldl (fun s r => s.guardBegin r) s, gs ++ new)

/-- Physical runs of a list of addressed runs. -/
def physRuns (p : Nat) (rs : List (Int × Nat)) : List (Nat × Nat) :=
  rs.filterMap (fun r => (physOf p r.1).map (fun k => (k, r.2)))

/-! ## Completion -/

/-- An instruction completes: its guard regions, its claims, its signal (06 R195, R219). -/
def State.finish (s : State) (p self : Nat) (f : Flight) : State :=
  let s := f.guards.foldl (fun s r => s.guardEnd r) s
  let s := s.release self f.owned
  s.postSignal p f.word

/-- A null completion of the head (04 R142): its wait honoured, its entry taken (06 R213), its signal posted. Behind
instructions in flight the signal keeps its order: the instruction completes after them. -/
def State.nullHead (s : State) (p q w : Nat) : State :=
  let f := s.newFlight p q w [] Nest.one true
  let t := (s.advance p q w).pushFlight p q f
  if (s.queue p q).flights.isEmpty then (t.setFlights p q []).postSignal p w else t

/-! ## Queue rows (06 R187 to R200, R224, R227) -/

/-- QUEUE_START (Table 6-3). -/
def execQueueStart (p q : Nat) (s : State) : Host.Outcome State Fault Refusal := .next (s.queueCommand p q 1).1

/-- QUEUE_HALT (Table 6-3). -/
def execQueueHalt (p q : Nat) (s : State) : Host.Outcome State Fault Refusal := .next (s.queueCommand p q 2).1

/-- QUEUE_RESUME (Table 6-3, 06 R656). -/
def execQueueResume (p q : Nat) (s : State) : Host.Outcome State Fault Refusal := .next (s.queueCommand p q 3).1

/-- QUEUE_RESET (Table 6-3). -/
def execQueueReset (p q : Nat) (s : State) : Host.Outcome State Fault Refusal := .next (s.queueCommand p q 4).1

/-- The window copied into the buffer: word i, or the bad word where its granule holds an uncorrectable error. -/
def State.windowBuf (s : State) (p : Nat) (u : Queue) : Tab Nat :=
  (List.range u.qlen).foldl (fun t i =>
    let off := u.qbase + 16 * i
    Tab.set 0 t i (if s.granuleBad p off then badWord else s.num (pkey (spFast p) off) 16)) []

/-- WINDOW_LOADED (06 R188): the buffer holds the window, and LOAD becomes RUN, once the cluster's restore is complete. A
queue halted or resumed during its copy keeps its state. [DEDUCED: log entry 12] -/
def State.windowLoaded (s : State) (p q : Nat) : State :=
  let u := s.queue p q
  if (u.st = .load || (u.loading && (u.st = .run || u.st = .halt))) && decide (q < 64)
      && !decide (s.cluster (clusterOf p (q % 32)) = .restoring) then
    let b := s.windowBuf p u
    let s := s.fetch p q u.qbase (16 * u.qlen)
    (s.setQueue p q { u with st := (if u.st = .load then .run else u.st), loading := false, buf := b }).takeHead p q
  else s

/-- WINDOW_LOADED (06 R188). -/
def execWindowLoaded (p q : Nat) (s : State) : Host.Outcome State Fault Refusal := .next (s.windowLoaded p q)

/-- QUEUE_DONE (Table 6-3). -/
def State.queueDone (s : State) (p q : Nat) : State :=
  let u := s.queue p q
  if u.st = .run && u.ended && u.flights.isEmpty then s.setQueue p q { u with st := .done, ended := false } else s

/-- QUEUE_DONE (Table 6-3). -/
def execQueueDone (p q : Nat) (s : State) : Host.Outcome State Fault Refusal := .next (s.queueDone p q)

/-- QUEUE_DRAINED (Table 6-3). [DEDUCED: log entry 12] -/
def State.queueDrained (s : State) (p q : Nat) : State :=
  let u := s.queue p q
  if u.draining && u.flights.isEmpty then
    s.setQueue p q { u with st := .idle, draining := false, ended := false, timedOut := false, loading := false, head := none,
                            met := false }
  else s

/-- QUEUE_DRAINED (Table 6-3). -/
def execQueueDrained (p q : Nat) (s : State) : Host.Outcome State Fault Refusal := .next (s.queueDrained p q)

/-- WAIT_TIMEOUT (Table 6-14): a head whose wait stands unmet is recorded, once per instruction. -/
def State.waitTimeout (s : State) (p q : Nat) : State :=
  let u := s.queue p q
  if s.odv 0 0xF122 0 ≠ 0 && s.standing p q && !u.timedOut && !s.headBad p q && !u.met
      && !s.waitMet p u (s.headWord p q) then
    (s.streamFault p q 6 u.pc u.sc1 0 0 0 7).setQueue p q { u with timedOut := true }
  else s

/-- FLAG_MIRROR_UPDATE (06 R197): the oldest flag change of the other Pier becomes visible on Pier p. -/
def State.mirrorUpdate (s : State) (p : Nat) : State :=
  match (s.pier p).mirrorQ with
  | [] => s
  | (f, b) :: t => (s.modPier p (fun r => { r with mirror := setBit f b r.mirror, mirrorQ := t })).noteWaits p

/-- FLAG_MIRROR_UPDATE (06 R197). -/
def execFlagMirrorUpdate (p : Nat) (s : State) : Host.Outcome State Fault Refusal := .next (s.mirrorUpdate p)

/-- The ring that a tail object names. -/
def ringOf (n p : Nat) : Ring :=
  match n with
  | 0 => .watch p | 1 => .fault p | 2 => .trestle p | 3 => .red p | 4 => .arb | 5 => .ilben | _ => .commit

/-- RING_TAIL_WRITE (03 R109): the dictionary write of a tail, refused outside the ring. -/
def execRingTailWrite (n p t : Nat) (s : State) : Host.Outcome State Fault Refusal :=
  .next (if t < (ringOf n p).size then s.ringTail (ringOf n p) t else s)

/-- WATCH_BANK_CLOSE (03 R90). -/
def execWatchBankClose (p : Nat) (s : State) : Host.Outcome State Fault Refusal :=
  .next (if s.bankInUse p then s else s.bankClose p)

end Sys2Proof.Machine
end

