-- ==== Sys2Proof/Machine/Access.lean ====
section
/-! DEFINITION. What an access of an engine to the fast and slow tiers does besides moving bytes: errors met, the
Girder cache, the transfers its arbiters see, Ilben's event records (07, 08 R275, 12 R416 to R419). -/

namespace Sys2Proof.Machine

/-- A record of the Ilben event ring (Table 12-12). -/
def State.ilbenEvent (s : State) (code key d0 d1 : Nat) : State :=
  s.ringPut .ilben (fun q => eventRec s.recEpoch key code (Ring.ilben.mid s.commit.attempt) q d0 d1)

/-- `slow_locate`: the channel of a slow-tier offset (12 R416). -/
def slowChannel (off : Nat) : Nat :=
  let g := off / 256
  let q := g / 64
  let f := (((bits 5 0 q ^^^ bits 11 6 q) ^^^ bits 17 12 q) ^^^ bits 23 18 q) ^^^ bits 27 24 q
  (g % 64 + f) % 64

/-- A slow-tier granule with more than three symbols in error is not corrected (12 R418). -/
def CellErr.slowBad (e : CellErr) : Bool := decide (3 < e.low.length + e.high.length)

/-- One error of a slow-tier granule met by a read (12 R418, R419). [DESIGN CHOICE: log entry 18] -/
def State.meetSlow (s : State) (off : Nat) (e : CellErr) (pattern : List Byte) : State :=
  let k := pkey spSlow (off / 256 * 256)
  let clear (t : State) : State := { t with errs := t.errs.filter (fun m => !decide (m.1 = k / 128)) }
  if !e.slowBad then
    let s := s.bump64 0 0x7022 1 1
    if e.hard then s else clear s
  else
    let s := ((s.bump32 0 0x7022 2 1).ilbenEvent 4 0 off (slowChannel off)).raise 5
    let s := s.markFaulted.setBytes k (pattern ++ pattern)
    if e.hard then { s with slowFailed := true }.persistentMem 0 0 (slowChannel off) 1 else clear s

/-- Errors met by a read of the slow-tier granules of [off, off + n). -/
def State.meetSlowRun (s : State) (off n : Nat) (pattern : List Byte) : State :=
  (s.errs.filter (fun m => decide (pspace (m.1 * 128) = spSlow)
      && granIn (off / 256) ((off + n - 1) / 256) (poff (m.1 * 128) / 256))).foldl
    (fun s m => s.meetSlow (poff (m.1 * 128)) m.2 pattern) s

/-- The transfers of a run of bytes outside its fast tier's slices: the leaf of the cluster whose tile registers it touches, and
the Ilben link, over which Ilben reaches the fast tier and everyone else the slow tier (08 Table 8-1).
[DESIGN CHOICE: log entry 23] -/
def State.presentRun (s : State) (who : Asker) (wr : Bool) (r : Nat × Nat) : State :=
  let sp := pspace r.1
  if sp = spTrf 0 || sp = spTrf 1 then
    s.present 0 (2 * clusterOf (sp - 2) (poff r.1 / 2 ^ 22) + b2n wr) who (ceilDiv r.2 3200)
  else if (sp = spSlow) != (who.source = 17 && (sp < 2 || sp = spSlow)) then
    s.present 5 (2 * who.pier + b2n (wr == decide (who.source = 17))) who (ceilDiv r.2 128)
  else s

/-- A read of one run of bytes at a physical address. -/
def State.touchReadRun (s : State) (who : Asker) (hint : Nat) (pattern : List Byte) (r : Nat × Nat) : State :=
  if r.2 = 0 then s
  else if s.downAt r.1 then s.markFaulted
  else
    let s := s.presentRun who false r
    if pspace r.1 < 2 then s.girderRun (pspace r.1) (poff r.1) r.2 false hint who pattern
    else if pspace r.1 = spSlow then (s.meetSlowRun (poff r.1) r.2 pattern).bump64 0 0x7022 3 r.2
    else s

/-- A read of runs of bytes. -/
def State.touchRead (s : State) (who : Asker) (hint : Nat) (pattern : List Byte) (rs : List (Nat × Nat)) : State :=
  rs.foldl (fun s r => s.touchReadRun who hint pattern r) s

/-- A write of one run: granules written in part are read first; a whole write of a slow-tier granule ends an error stored in
it (07 R267). -/
def State.touchWriteRun (s : State) (who : Asker) (hint : Nat) (pattern : List Byte) (r : Nat × Nat) : State :=
  if r.2 = 0 then s
  else if s.downAt r.1 then s.markFaulted
  else
    let s := s.presentRun who true r
    let o := poff r.1
    if pspace r.1 < 2 then s.girderRun (pspace r.1) o r.2 true hint who pattern
    else if pspace r.1 = spSlow then
      let part (g : Nat) : Bool := granIn (o / 256) ((o + r.2 - 1) / 256) g
        && !(decide (o ≤ g * 256) && decide (g * 256 + 256 ≤ o + r.2))
      let whole (m : Nat × CellErr) : Bool :=
        decide (pspace (m.1 * 128) = spSlow) && granIn (o / 256) ((o + r.2 - 1) / 256) (poff (m.1 * 128) / 256)
          && !part (poff (m.1 * 128) / 256) && !m.2.hard
      let s := (s.errs.filter (fun m => decide (pspace (m.1 * 128) = spSlow) && part (poff (m.1 * 128) / 256))).foldl
        (fun s m => s.meetSlow (poff (m.1 * 128)) m.2 pattern) s
      { s with errs := s.errs.filter (fun m => !whole m) }.bump64 0 0x7022 4 r.2
    else s

/-- A write of runs of bytes. -/
def State.touchWrite (s : State) (who : Asker) (hint : Nat) (pattern : List Byte) (rs : List (Nat × Nat)) : State :=
  rs.foldl (fun s r => s.touchWriteRun who hint pattern r) s

/-- The pattern that an uncorrectable error delivers to a reader of a format (07 R269). [DESIGN CHOICE: log entry 18] -/
def uePattern (fmt : Nat) : List Byte :=
  match fmt with
  | 9 => ffPattern
  | 8 => patternOf (toBytes 16 (2 ^ 127))
  | f => patternOf (toBytes (floatOf f).bytes (floatOf f).nanCode)

/-- Reads of some rows of an operand, and of the rows of its scale plane, whose bytes deliver 0xFF. -/
def State.readRows (s : State) (p : Nat) (who : Asker) (l : Held) (rs ps : List (Int × Nat)) : State :=
  let s := s.touchRead who l.d.hint (uePattern l.d.fmt) (physRuns p rs)
  match l.plane with
  | some pl => s.touchRead who pl.hint ffPattern (physRuns p ps)
  | none => s

/-- Writes of some rows of an operand, and of the rows of its scale plane. -/
def State.writeRows (s : State) (p : Nat) (who : Asker) (l : Held) (rs ps : List (Int × Nat)) : State :=
  let s := s.touchWrite who l.d.hint (uePattern l.d.fmt) (physRuns p rs)
  match l.plane with
  | some pl => s.touchWrite who pl.hint ffPattern (physRuns p ps)
  | none => s

/-- Reads of an operand. -/
def State.readOperand (s : State) (p : Nat) (who : Asker) (l : Held) : State := s.readRows p who l l.d.rows l.planeRows

/-- Writes of an operand. -/
def State.writeOperand (s : State) (p : Nat) (who : Asker) (l : Held) : State := s.writeRows p who l l.d.rows l.planeRows

/-- A plain read of n bytes at a physical address, with the effects of the access. -/
def State.loadRun (s : State) (who : Asker) (k n : Nat) : State × List Byte :=
  let t := s.touchReadRun who 0 ffPattern (k, n)
  (t, if t.downAt k then List.replicate n 0xFF else (List.range n).map (fun i => t.read (k + i)))

/-- A plain write at a physical address under a hint, with the effects of the access. -/
def State.storeRun (s : State) (who : Asker) (hint k : Nat) (bs : List Byte) : State :=
  (s.touchWriteRun who hint ffPattern (k, bs.length)).write k bs

end Sys2Proof.Machine
end

