-- ==== Sys2Proof/Machine/Memory.lean ====
section
/-! DEFINITION. Fast-tier requests, refresh, scrubbing, Girder control and guard regions (07). -/

namespace Sys2Proof.Machine

/-! ## Requests (07 R231, R235, R238 to R241, 08 R281) -/

/-- The bank's refresh begins or ends. [DESIGN CHOICE: log entry 19] -/
def Pier.refresh (r : Pier) (bank : Nat) (on : Bool) : Pier :=
  let others := r.refreshing.filter (fun b => !decide (b = bank))
  { r with refreshing := if on then others ++ [bank] else others }

/-- A held request as a candidate of its channel's arbiter: its place in the list is its age. -/
def MemReq.asCandidate (q : MemReq) (age : Nat) : ArbReq :=
  { origin := q.who.origin, input := q.source, len := 1, moved := 0, burst := 0, hold := 0, preempted := 0, seq := age, wait := 0,
    level := 0, limit := 0, holdLimit := 0, bascule := 0 }

/-- The held request of a bank that the memory-channel arbiter chooses, by its place in the list: masks, levels and rotation of
R278 over the bank's held requests; an admission is no grant, and moves no pointer (08 R281). [DESIGN CHOICE: log entry 19] -/
def State.chooseHeld (s : State) (p bank : Nat) : Option Nat :=
  let r := s.pier p
  let held := (List.range r.reqs.length).filterMap (fun j =>
    (r.reqs[j]?).bind (fun q => if q.stage = .held && q.bank = bank then some (q.asCandidate j) else none))
  (s.arbSelect { s.arbInst 2 (p * 640 + bank / 16) with cands := held, suspended := [] }).map (fun w => w.req.seq)

/-- REQUEST_ADMIT (07 R239): where the bank's cap or its stack leaves no room, or where the bank holds none, bank `served` serves
its oldest admitted request, whose slot comes free; the held request that the arbiter chooses is admitted, and its source goes
on issuing (R240). [DESIGN CHOICE: log entry 19] -/
def State.requestAdmit (s : State) (p bank served : Nat) : State :=
  if (s.pier p).refreshing.contains bank then s else
  match s.chooseHeld p bank with
  | none => (s.serveFirst p (fun q => q.bank = served)).issueOn p
  | some _ =>
    let s := if s.mayAdmit p bank then s else s.serveFirst p (fun q => q.bank = served)
    if !s.mayAdmit p bank then s else
    match s.chooseHeld p bank with
    | some j => (s.letIn p j).issueOn p
    | none => s

/-- REQUEST_ADMIT. -/
def execRequestAdmit (p bank served : Nat) (s : State) : Host.Outcome State Fault Refusal :=
  .next (s.requestAdmit p bank served)

/-- BANK_REFRESH (07 R231): a refresh begins, or ends. -/
def execBankRefresh (p bank : Nat) (on : Bool) (s : State) : Host.Outcome State Fault Refusal :=
  .next (s.modPier p (fun r => r.refresh bank on))

/-! ## Scrubbing (07 R268) -/

/-- Every error stored in Pier p's fast tier is met by the patrol scrubber; the stacks count a pass each. A granule that a
Girder line holds keeps what the line holds. [DESIGN CHOICE: log entries 18, 75] -/
def State.scrub (s : State) (p : Nat) : State :=
  let s := (s.errs.filter (fun m => decide (pspace (m.1 * 128) = spFast p))).foldl (fun s m =>
    s.meetGranule p (poff (m.1 * 128)) ffPattern (s.findLine p (poff (m.1 * 128))).isSome) s
  (List.range 10).foldl (fun s k => s.bump32 (p * 16 + k) 0x3011 5 1) s

/-- Errors that have arisen: in granules of Pier p's fast tier and of the slow tier, by granule number, in Girder lines of
Pier p that are valid, and in 32-byte blocks of the reduce buffer. [DESIGN CHOICE: log entry 18] -/
def State.newErrors (s : State) (p : Nat) (x : FreshErrors) : State :=
  let s := { s with fab := { s.fab with bufBad := (s.fab.bufBad ++ x.buffer).eraseDups } }
  let s := { s with errs := x.fast.foldl (fun (t : Tab CellErr) (e : Nat × CellErr) => Tab.set CellErr.none t (pkey (spFast p) (e.1 * 128) / 128) e.2) s.errs }
  let s := { s with errs := x.slow.foldl (fun (t : Tab CellErr) (e : Nat × CellErr) => Tab.set CellErr.none t (pkey spSlow (e.1 * 256) / 128) e.2) s.errs }
  x.lines.foldl (fun s e => if (s.lineAt p e.1).valid then s.setLine p e.1 { s.lineAt p e.1 with flaw := e.2 } else s) s

/-- SCRUB_PASS: one pass of Pier p, `hours` after the last row of its kind, then the errors that have arisen since: errors are
inputs of the block. Marks of more than 24 hours ago go (07 R270). -/
def execScrubPass (p : Nat) (fresh : FreshErrors) (hours : Nat) (s : State) : Host.Outcome State Fault Refusal :=
  let now := s.hours + hours
  let s := { s with hours := now, ceMarks := s.ceMarks.filter (fun m => decide (now + 1 ≤ m.2 + 24)) }
  .next ((s.scrub p).newErrors p fresh)

/-! ## Girder control (07 R249) -/

/-- UNPIN: no PINNED bit stands in Pier p. -/
def State.unpin (s : State) (p : Nat) : State :=
  (s.pier p).girder.foldl (fun s e => s.setLine p e.1 { s.lineAt p e.1 with pinned := false }) s

/-- WRITE_BACK_INVALIDATE: every line of Pier p is written back and leaves. -/
def State.writeBackAll (s : State) (p : Nat) : State :=
  (s.pier p).girder.foldl (fun s e => (s.writeBack p e.1 (Asker.maintenance p)).setLine p e.1 Line.none) s

/-- UNPIN. -/
def execUnpin (p : Nat) (s : State) : Host.Outcome State Fault Refusal := .next (s.unpin p)

/-- WRITE_BACK_INVALIDATE. -/
def execWriteBackInvalidate (p : Nat) (s : State) : Host.Outcome State Fault Refusal := .next (s.writeBackAll p)

/-! ## Guard regions (07 R262) -/

/-- Region r with base b and size z lies inside the tier and meets no other enabled region of its Pier. -/
def State.guardFits (s : State) (r b z : Nat) : Bool :=
  decide (b + z ≤ fastSize) && (z = 0 ||
    ((List.range 256).map (r / 256 * 256 + ·)).all (fun o =>
      o = r || s.odv o 0x3021 2 = 0 || decide (s.odv o 0x3021 1 + s.odv o 0x3021 2 ≤ b)
        || decide (b + z ≤ s.odv o 0x3021 1)))

/-- The write of a guard object: the result code of R603, and the state. [DESIGN CHOICE: log entry 74] -/
def State.guardWrite (s : State) (r sub v : Nat) : Nat × State :=
  if v % 2 ^ 21 ≠ 0 || (sub = 1 && decide (fastSize ≤ v)) then (3, s) else
  let b := if sub = 1 then v else s.odv r 0x3021 1
  let z := if sub = 1 then s.odv r 0x3021 2 else v
  if s.guardFits r b z then (0, (s.setOd r 0x3021 sub v).bump32 r 0x3021 3 1) else (3, s)

/-- GUARD_BASE_WRITE of region r (Pier × 256 + region). -/
def execGuardBaseWrite (r v : Nat) (s : State) : Host.Outcome State Fault Refusal := .next (s.guardWrite r 1 v).2

/-- GUARD_SIZE_WRITE. -/
def execGuardSizeWrite (r v : Nat) (s : State) : Host.Outcome State Fault Refusal := .next (s.guardWrite r 2 v).2

end Sys2Proof.Machine
end

