-- ==== Sys2Proof/Machine/Span.lean ====
section
/-! DEFINITION. The Span matrix engine (04). -/

namespace Sys2Proof.Machine

/-! ## Fields (Tables 4-1, 4-4, 4-5) -/

/-- SHAPE. -/
def spShape (w : Nat) : Nat := bits 10 8 w
/-- ACC. -/
def spAcc (w : Nat) : Nat := bits 54 53 w
/-- ANCHOR_MODE. -/
def spMode (w : Nat) : Nat := bits 56 55 w
/-- K_LOG. -/
def spKlog (w : Nat) : Nat := bits 61 57 w
/-- WARM. -/
def spWarm (w : Nat) : Bool := bit 63 w

/-- The opcode performs START. -/
def spStart (op : Nat) : Bool := op = 0x41 || op = 0x43
/-- The opcode adds terms. -/
def spTerms (op : Nat) : Bool := decide (0x40 ≤ op && op ≤ 0x43)
/-- The opcode exports a slot. -/
def spExport (op : Nat) : Bool := op = 0x42 || op = 0x43 || op = 0x44
/-- The opcode has a destination. -/
def spDest (op : Nat) : Bool := spExport op || op = 0x45

/-- No reserved opcode, encoding or bit in a Span word (Tables 4-1, 4-3, 4-4, 4-5; 04 R133). -/
def spanOk (w : Nat) : Bool :=
  let op := opOf w
  decide (0x40 ≤ op && op ≤ 0x46) && !bit 62 w
    && (if spTerms op then decide (spShape w < 5) else decide (bits 38 8 w = 0))
    && (spDest op || decide (bits 52 39 w = 0))
    && (if spStart op then decide (spMode w ≠ 3) else decide (bits 61 55 w = 0))
    && (op ≠ 0x46 || decide (bits 63 8 w = 0))

/-- Rows R of a shape (Table 4-1). -/
def shapeRows (sh : Nat) : Nat := 128 / 2 ^ sh
/-- Depth D of a shape. -/
def shapeDepth (sh : Nat) : Nat := 128 * 2 ^ sh

/-- Width class of a format: 1 FP8, 2 16-bit, 8 binary32; 0 none (Table 4-2). -/
def widthClass (fmt : Nat) : Nat :=
  if fmt < 4 then 1 else if fmt < 6 then 2 else if fmt = 6 then 8 else 0

/-- Handles an opcode uses, by operand position: A and B, then C; C alone for XPORT and ASTAT. -/
def spanHandles (w : Nat) : List Nat :=
  let op := opOf w
  (if spTerms op then [bits 24 11 w, bits 38 25 w] else []) ++ (if spDest op then [bits 52 39 w] else [])

/-- Nest positions that an opcode takes increments for (06 R209). -/
def spanUsed (op : Nat) : List Bool := [spTerms op, spTerms op, spDest op]

/-- Position in the nest of the k-th latched operand. -/
def spanPos (op k : Nat) : Nat := if spTerms op then k else 2

/-- A dummy operand, never read. -/
def Held.none : Held := ⟨0, parseDesc 0, 0, Option.none, false⟩

/-- The destination among latched operands. -/
def spanC (op : Nat) (ops : List Held) : Held := ops.getD (if spTerms op then 2 else 0) Held.none

/-- Operands as stepped for execution x. -/
def Flight.stepped (f : Flight) (pos : Nat → Nat) (x : Nat) : List Held :=
  (List.range f.ops.length).map (fun k => (f.ops.getD k Held.none).step (f.nest.off x (pos k)))

/-! ## Checks (Table 4-6) -/

/-- Dimensions 2 to 4 have extent 1. -/
def Desc.flat2 (d : Desc) : Bool := decide (d.extent 2 = 1) && decide (d.extent 3 = 1) && decide (d.extent 4 = 1)

/-- First operand position at fault, if any check of Table 4-6 fails for these operands. [DEDUCED: log entry 15] -/
def spanFault (i w x : Nat) (slot : Slot) (ops : List Held) (nest : Nest) : Option Nat :=
  let op := opOf w
  let a := (ops.getD 0 Held.none).d
  let b := (ops.getD 1 Held.none).d
  let c := (spanC op ops).d
  let inTrf (l : Held) : Bool := l.d.inPair i && (match l.plane with
    | some pl => (planeRows l.d pl).all (fun r =>
        decide ((2 * 2 ^ 44 + i * 2 ^ 22 : Nat) ≤ r.1) && decide (r.1 + r.2 ≤ (2 * 2 ^ 44 + i * 2 ^ 22 + 2 ^ 22 : Nat)))
    | none => true)
  let place := (List.range ops.length).find? (fun k => !inTrf (ops.getD k Held.none))
  match place with
  | some k => some (spanPos op k)
  | none =>
    let terms := spTerms op
    let sh := if terms then spShape w else slot.shape
    let m := a.extent 1
    let n := b.extent 1
    let mode := spMode w
    let modeBars (d : Desc) : Bool := terms && spStart op && ((mode = 0 && decide (2 ≤ d.fmt)) || (mode = 1 && decide (4 ≤ d.fmt)))
    if terms && (widthClass a.fmt = 0 || modeBars a) then some 0
    else if terms && (widthClass b.fmt ≠ widthClass a.fmt || modeBars b) then some 1
    else if spExport op && !(c.fmt = 6 || c.fmt = 7 || c.fmt = 8) then some 2
    else if op = 0x45 && !(c.fmt = 9 && decide (c.extent 0 = 2) && decide (c.extent 1 = 1)) then some 2
    else if terms && !(a.flat2 && decide (m ≤ shapeRows sh)) then some 0
    else if terms && !(b.flat2 && decide (n ≤ 16384 / shapeRows sh) && decide (a.extent 0 = b.extent 0)) then some 1
    else if terms && spDest op && !(decide (c.extent 0 = n) && decide (c.extent 1 = m)) then some 2
    else if spDest op && !c.flat2 then some 2
    else if terms && !spStart op && decide (spShape w ≠ slot.shape) then some 7
    else if op = 0x44 && !(decide (c.extent 1 ≤ shapeRows sh) && decide (c.extent 0 ≤ 16384 / shapeRows sh)) then some 2
    else if terms && ((isMx a.fmt && !nest.mxOk x 0)) then some 0
    else if terms && ((isMx b.fmt && !nest.mxOk x 1)) then some 1
    else none

/-! ## The anchor (Table 4-3, 04 R125 to R130) -/

/-- l of Table 4-3. -/
def fp8Low (fmt : Nat) : Int := if floatOf fmt = .e4m3 then -9 else -16
/-- emax (02 R43). -/
def fp8Emax (fmt : Nat) : Int := if floatOf fmt = .e4m3 then 8 else 15

/-- Scale byte that the BLOCK scan takes for element e: 0xFF where its region is foreign (04 R136), and of a stale guarded use,
whose scale bytes 07 R265 does not speak of. [DESIGN CHOICE: log entry 78] -/
def State.scanByte (s : State) (p self : Nat) (l : Held) (e : Nat) : Nat :=
  match l.plane with
  | some pl => if l.stale || s.foreignElem p self (scaleAddr l.d pl e) 1 then 0xFF else s.readScale p l e
  | none => 0xFF

/-- BLOCK ceiling of an operand; none where undefined. -/
def State.ceiling (s : State) (p self : Nat) (l : Held) : Option Int :=
  if isMx l.d.fmt then
    let firsts := (List.range l.d.count).filter (fun e => (e % l.d.extent 0) % 32 = 0)
    match maxInt? ((firsts.map (s.scanByte p self l)).filterMap (fun (b : Nat) => if b = 0xFF then none else some ((b : Int) - 127))) with
    | some x => some (x + fp8Emax l.d.fmt)
    | none => none
  else some (l.scaleX + fp8Emax l.d.fmt)

/-- The anchor that a START chooses; `abr` holds the two registers as latched. -/
def State.anchorOf (s : State) (p self w : Nat) (a b : Held) (abr : Int × Int) : Int :=
  let k := (spKlog w : Int)
  let raw : Int := match spMode w with
    | 0 => a.scaleX + b.scaleX + 103 + fp8Low a.d.fmt + fp8Low b.d.fmt
    | 1 => match s.ceiling p self a, s.ceiling p self b with
      | some x, some y => x + y + k - 21
      | _, _ => 0
    | _ => if abr.1 = -32768 || abr.2 = -32768 then 0 else abr.1 + abr.2 + k - 21
  clampInt (-32768) 32767 raw

/-! ## Terms (04 R115, R117 to R119) -/

/-- Row sum of one pass so far: the exact sum of leaves, and the merged special kind. -/
structure RowSum where
  g : Int
  kind : Option XaVal
  any : Bool
  deriving DecidableEq, Repr

/-- One leaf: rounded to units, clamped (04 R118), and its flags. -/
def leaf (anchor : Int) (v : Val) (r : RowSum) (st : XaStat) : RowSum × XaStat :=
  match v with
  | .fin neg m e =>
    let u := roundUnits neg m e (anchor - 103)
    let c := clampInt boundLo boundHi u.1
    let st := if u.2 then st else st.spill 1
    let st := if c = u.1 then st else { st with satf := true }
    ({ r with g := r.g + c, any := true }, st)
  | v =>
    match v.kind? with
    | some k => ({ r with kind := some (match r.kind with | some j => xaMerge j k | none => k), any := true }, st.special k)
    | none => (r, st)

/-- Add a row sum to a word (04 R119). -/
def addRow (r : RowSum) (w : XaVal) (st : XaStat) : XaVal × XaStat :=
  let st := if r.any then { st with empty := false } else st
  match r.kind with
  | some k => (xaMerge w k, st)
  | none => xaAddUnits r.g w st

/-- One pass of one word: depth positions lo ≤ k < hi. -/
def passWord (as bs : Nat → Val) (lo hi : Nat) (w : XaVal) (st : XaStat) : XaVal × XaStat :=
  let r := (List.range (hi - lo)).foldl (fun (a : RowSum × XaStat) j => leaf st.anchor ((as (lo + j)).mul (bs (lo + j))) a.1 a.2)
    (⟨0, none, false⟩, st)
  addRow r.1 w r.2

/-- All passes of one word over K elements at depth D. -/
def wordTerms (as bs : Nat → Val) (kk dd : Nat) (w : XaVal) (st : XaStat) : XaVal × XaStat :=
  (List.range (ceilDiv kk dd)).foldl (fun (a : XaVal × XaStat) q =>
    passWord as bs (q * dd) (min ((q + 1) * dd) kk) a.1 a.2) (w, st)

/-- START of a slot (04 R122); `poisoned` is the case of R130. -/
def Slot.started (anchor : Int) (shape : Nat) (poisoned : Bool) : Slot :=
  if poisoned then
    { words := (List.range 16384).map (fun i => (i, wordOfXa .poison)), stat := { XaStat.start 0 with poisonf := true },
      shape := shape, reported := 0 }
  else { words := [], stat := .start anchor, shape := shape, reported := 0 }

/-- Slot k of a pair. -/
def Pair.slot (d : Pair) (k : Nat) : Slot := Tab.get Slot.zero d.slots k

/-- Set it. -/
def Pair.setSlot (d : Pair) (k : Nat) (v : Slot) : Pair := { d with slots := Tab.set Slot.zero d.slots k v }

/-- Add the products of A and B into a slot. -/
def State.spanTerms (s : State) (p self : Nat) (a b : Held) (slot : Slot) : Slot :=
  let m := a.d.extent 1
  let n := b.d.extent 1
  let kk := a.d.extent 0
  let cols := 16384 / shapeRows slot.shape
  let av := (List.range (m * kk)).map (s.readVal p self a)
  let bv := (List.range (n * kk)).map (s.readVal p self b)
  (List.range (m * n)).foldl (fun sl j =>
    let r := j / n
    let c := j % n
    let ix := r * cols + c
    let o := wordTerms (fun k => av.getD (r * kk + k) .nan) (fun k => bv.getD (c * kk + k) .nan) kk (shapeDepth sl.shape)
      (xaOfWord (Tab.get 0 sl.words ix)) sl.stat
    { sl with words := Tab.set 0 sl.words ix (wordOfXa o.1), stat := o.2 }) slot

/-! ## Export (04 R120, R124, R134) -/

/-- The exported value of a word in a form. -/
def exportVal (fmt : Nat) (anchor : Int) (word : Nat) : EVal :=
  match fmt with
  | 7 => .pair (exportPair anchor (xaOfWord word)).1 (exportPair anchor (xaOfWord word)).2
  | 8 => .xa word anchor
  | _ => .f (xaValue anchor (xaOfWord word))

/-- The elements that an export writes to C: rows m, columns n. -/
def exportElems (slot : Slot) (c : Desc) : List (Nat × EVal) :=
  let n := c.extent 0
  let cols := 16384 / shapeRows slot.shape
  (List.range (c.extent 1 * n)).map (fun j =>
    (j, exportVal c.fmt slot.stat.anchor (Tab.get 0 slot.words (j / n * cols + j % n))))

/-- Export a slot to C, with the watch. -/
def State.spanExport (s : State) (p i : Nat) (wr : Writer) (k : Nat) (c : Held) : State :=
  let slot := (s.pair p i).slot k
  let o := s.writeElems p 1 c (exportElems slot c.d)
  let s := (o.1.watchWrites p wr c.d o.2).watchExport p wr c.d (slot.stat.wspill - slot.reported) slot.stat
  let s := if slot.stat.satf then s.bump32 (eInst p i) 0xF101 8 1 else s
  if c.d.watchEn then s.setPair p i ((s.pair p i).setSlot k { slot with reported := slot.stat.wspill }) else s

/-! ## Executions (04 R135, R138, Table 4-8) -/

/-- First foreign region among regions, each with the position of its operand. -/
def State.firstForeignOf (s : State) (self : Nat) (rs : List (Nat × Nat)) : Option (Nat × Nat) :=
  rs.find? (fun x => s.regionOwner x.2 ≠ 0 && s.regionOwner x.2 ≠ self)

/-- First foreign region that the operands meet, with its position. -/
def State.firstForeign (s : State) (p self : Nat) (ops : List (Nat × Held)) : Option (Nat × Nat) :=
  s.firstForeignOf self (ops.flatMap (fun o => (o.2.regions p).map (fun r => (o.1, r))))

/-- The regions that an execution reads, in the order of Table 4-8: the scale scan of a BLOCK START reads the planes of A and B
first. [DEDUCED: log entry 15] -/
def spanReads (p w : Nat) (a b : Held) : List (Nat × Nat) :=
  let at' (k : Nat) (rs : List Nat) : List (Nat × Nat) := rs.map (fun r => (k, r))
  if !spTerms (opOf w) then []
  else if spStart (opOf w) && spMode w = 1 then
    at' 0 (runRegions p a.planeRows) ++ at' 1 (runRegions p b.planeRows) ++ at' 0 (runRegions p a.d.rows) ++ at' 1 (runRegions p b.d.rows)
  else at' 0 (a.regions p) ++ at' 1 (b.regions p)

/-- Pass cycles of an execution: L_0, and Σ max(N × c, L_{p+1}) (Table 4-8). -/
def spanPasses (sh m n kk ba cls : Nat) : Nat × Nat :=
  let dd := shapeDepth sh
  let pp := ceilDiv kk dd
  let l (q : Nat) : Nat := if q < pp then ceilDiv (m * min dd (kk - q * dd) * ba) 512 else 0
  (l 0, sumNat ((List.range pp).map (fun q => max (n * cls) (l (q + 1)))))

/-- T of Table 4-8, and the pass cycles in it. -/
def spanCycles (w : Nat) (slot : Slot) (a b c : Desc) : Nat × Nat :=
  let op := opOf w
  let m := a.extent 1
  let n := b.extent 1
  let kk := a.extent 0
  let scan := if spStart op && spMode w = 1 then
      ceilDiv ((if isMx a.fmt then m * ceilDiv kk 32 else 0) + (if isMx b.fmt then n * ceilDiv kk 32 else 0)) 512
    else 0
  let ps := if spTerms op then spanPasses slot.shape m n kk (elemSize a.fmt) (widthClass a.fmt) else (0, 0)
  let drain := if spTerms op && 0 < kk then 20 else 0
  let tx := if spExport op then ceilDiv (c.count * elemSize c.fmt) 1024 else if op = 0x45 then 1 else 0
  (scan + ps.1 + ps.2 + drain + tx + 2, ps.2)

/-- Run execution x of a Span instruction whose checks pass: claim, START, terms, export. A failed claim, an owned ABR and a
foreign source of one execution make one SCHED_FAULT record, of the first of them in that order; the ABR's ownership bit is
tested when the START runs, its value having been latched before (04 R130, R137, R140).
[DEDUCED: log entry 15; DESIGN CHOICE: log entry 78] -/
def State.spanRun (s : State) (p i : Nat) (f : Flight) (x : Nat) (ops : List Held) : State × Flight :=
  let w := f.word
  let op := opOf w
  let k := spAcc w
  let a := ops.getD 0 Held.none
  let b := ops.getD 1 Held.none
  let c := spanC op ops
  let wr : Writer := ⟨streamOf p i, f.pc, f.gen⟩
  let cl := if spDest op then s.claim 1 (c.regions p) else (s, [], none)
  let abrHit := spStart op && spMode w = 2 && (bit (2 * k) (s.pair p i).abrOwn || bit (2 * k + 1) (s.pair p i).abrOwn)
  let bad : Option (Nat × Nat × Nat) :=
    match cl.2.2 with
    | some r => some (regionAddr r, s.regionOwner r, 2)
    | none => if abrHit then some (0, 2, 7) else
      match s.firstForeignOf 1 (spanReads p w a b) with
      | some r => some (regionAddr r.2, s.regionOwner r.2, r.1)
      | none => none
  let s := cl.1
  let s := match bad with
    | some e => (s.schedFault p i f x e.1 e.2.1 e.2.2).bump32 (eInst p i) 0xF101 10 1
    | none => s
  let abr : Int × Int := ((f.args.getD 0 0 : Int) - 32768, (f.args.getD 1 0 : Int) - 32768)
  let s := if spStart op then
      s.setPair p i ((s.pair p i).setSlot k (Slot.started (s.anchorOf p 1 w a b abr) (spShape w) abrHit))
    else s
  let s := if spTerms op then
      let old := (s.pair p i).slot k
      let new := s.spanTerms p 1 a b { old with stat := { old.stat with wspill := 0 } }
      let spilled := new.stat.wspill
      let s := s.setPair p i ((s.pair p i).setSlot k { new with stat := { new.stat with wspill := old.stat.wspill }.spill spilled })
      let s := s.bump64 (eInst p i) 0xF101 9 spilled
      s.bump64 (eInst p i) 0xF101 4 (a.d.extent 1 * b.d.extent 1 * a.d.extent 0)
    else s
  let s := if spExport op then s.spanExport p i wr k c else s
  let s := if op = 0x45 then
      let st := ((s.pair p i).slot k).stat.toNat
      let o := s.writeElems p 1 c [(0, .u (st % 2 ^ 32)), (1, .u (st / 2 ^ 32))]
      o.1.watchWrites p wr c.d o.2
    else s
  let cyc := spanCycles w ((s.pair p i).slot k) a.d b.d c.d
  let s := (s.bump64 (eInst p i) 0xF101 1 1).bump64 (eInst p i) 0xF101 3 cyc.2
  (s, { f with begun := x + 1, running := true, owned := cl.2.1, cycles := cyc.1 })

/-- Issue the next execution of the instruction in flight on Span i, or raise OPERAND_FAULT (04 R135).
[DESIGN CHOICE: log entry 11] -/
def State.spanExec (s : State) (p i : Nat) (f : Flight) : State :=
  let ops := f.stepped (spanPos (opOf f.word)) f.begun
  match spanFault i f.word f.begun ((s.pair p i).slot (spAcc f.word)) ops f.nest with
  | some j =>
    let at' := match j with | 7 => 0 | j => (ops.getD (if spTerms (opOf f.word) then j else 0) Held.none).d.base
    (((s.setFlights p i []).operandFault p i f f.begun j at').bump32 (eInst p i) 0xF101 11 1)
  | none =>
    let r := s.spanRun p i f f.begun ops
    r.1.setFlights p i [r.2]

/-- Put an engine's state: Span where `deck` is false. -/
def State.setEngine (s : State) (p i : Nat) (deck : Bool) (e : EngState) : State :=
  let d := s.pair p i
  s.setPair p i (if deck then { d with deckSt := e } else { d with spanSt := e })

/-- State of an engine. -/
def State.engine (s : State) (p i : Nat) (deck : Bool) : EngState :=
  if deck then (s.pair p i).deckSt else (s.pair p i).spanSt

/-- The engine is in RUN (04 R137): not while level 7 stops its clock (R145). -/
def State.inRun (s : State) (p i : Nat) (deck : Bool) : Bool :=
  decide (s.engine p i deck = .run) && (s.cluster (clusterOf p i) = .run || s.cluster (clusterOf p i) = .gated) && s.clockRuns p i

/-- Begin the wake of an engine, counted by the state it leaves (04 R143, Table 4-12). -/
def State.beginWake (s : State) (p i : Nat) (deck : Bool) : State :=
  let k := match s.cluster (clusterOf p i) with
    | .parked => 1 | .retain => 2 | _ => 0
  let s := if deck then (if k = 0 then s.bump32 (eInst p i) 0xF111 6 1 else s) else s.bump32 (eInst p i) 0xF101 (5 + k) 1
  s.setEngine p i deck .waking

/-- Empty work (04 R142). -/
def spanEmpty (op : Nat) (ops : List Held) (nest : Nest) : Bool :=
  op = 0x46 || decide (nest.total = 0)
    || (if spTerms op then decide ((ops.getD 0 Held.none).d.extent 1 = 0) || decide ((ops.getD 1 Held.none).d.extent 1 = 0)
        else decide ((spanC op ops).d.count = 0))

/-- ABR k of a pair: −32,768 where never written (04 R129). -/
def Pair.abrAt (d : Pair) (k : Nat) : Int := Tab.get (-32768) d.abr k

/-- Latch of a Span instruction (04 R137, R142, R143). -/
def State.spanLatch (s : State) (p i w : Nat) : State :=
  let op := opOf w
  let raw := s.rawNest p (loopOf w)
  match s.latchAll p (spanHandles w) with
  | none => s.descFault p i (spanHandles w) (spanPos op)
  | some ops =>
    if !nestOk raw (spanUsed op) then s.headFault p i 1 else
    let nest := parseNest raw
    let d := s.pair p i
    if spanEmpty op ops nest then
      ((s.setPair p i { d with spanWarm := false }).bump64 (eInst p i) 0xF101 2 1).nullHead p i w
    else
      let f := s.newFlight p i w ops nest false
      let f := { f with args := [(d.abrAt (2 * spAcc w) + 32768).toNat, (d.abrAt (2 * spAcc w + 1) + 32768).toNat] }
      let g := s.guardCheck p i f (if spTerms op then [0, 1] else [])
      let t := (g.1.advance p i w).pushFlight p i g.2
      let t := t.setPair p i { t.pair p i with spanWarm := false }
      if t.inRun p i false then t.spanExec p i g.2 else t.beginWake p i false

/-- The row of a Span opcode. -/
def State.spanIssue (s : State) (p i op : Nat) : State := s.issue p i op spanOk (fun t w => t.spanLatch p i w)

/-- MMA. -/
def execMma (p i : Nat) (s : State) : Host.Outcome State Fault Refusal := .next (s.spanIssue p i 0x40)
/-- MMA_S. -/
def execMmaS (p i : Nat) (s : State) : Host.Outcome State Fault Refusal := .next (s.spanIssue p i 0x41)
/-- MMA_E. -/
def execMmaE (p i : Nat) (s : State) : Host.Outcome State Fault Refusal := .next (s.spanIssue p i 0x42)
/-- MMA_SE. -/
def execMmaSe (p i : Nat) (s : State) : Host.Outcome State Fault Refusal := .next (s.spanIssue p i 0x43)
/-- XPORT. -/
def execXport (p i : Nat) (s : State) : Host.Outcome State Fault Refusal := .next (s.spanIssue p i 0x44)
/-- ASTAT. -/
def execAstat (p i : Nat) (s : State) : Host.Outcome State Fault Refusal := .next (s.spanIssue p i 0x45)
/-- SNOP. -/
def execSnop (p i : Nat) (s : State) : Host.Outcome State Fault Refusal := .next (s.spanIssue p i 0x46)

/-- SPAN_EXECUTION_COMPLETE (04 R138, R139, R145): the claims go; the next execution issues, or the signal posts.
[DESIGN CHOICE: log entry 11] -/
def State.spanComplete (s : State) (p i : Nat) : State :=
  match (s.queue p i).flights with
  | [] => s
  | f :: _ =>
    if !f.running || !s.clockRuns p i then s else
    let s := s.release 1 f.owned
    let f := { f with running := false, owned := [] }
    if f.begun < f.total then s.spanExec p i f
    else
      let s := (s.setFlights p i []).finish p 1 f
      s.setPair p i { s.pair p i with spanWarm := spWarm f.word }

/-- SPAN_EXECUTION_COMPLETE. -/
def execSpanExecutionComplete (p i : Nat) (s : State) : Host.Outcome State Fault Refusal := .next (s.spanComplete p i)

end Sys2Proof.Machine
end

