-- ==== Sys2Proof/Machine/Copy.lean ====
section
/-! DEFINITION. The copy engines: CNOP, COPY, GATHER, SCATTER, FILL, and what every opcode of a copy queue shares
(07 R254 to R265). -/

namespace Sys2Proof.Machine

/-- HD of a copy word. -/
def cpHd (w : Nat) : Nat := bits 21 8 w
/-- HS. -/
def cpHs (w : Nat) : Nat := bits 35 22 w
/-- HI. -/
def cpHi (w : Nat) : Nat := bits 49 36 w
/-- IMM of FILL. -/
def cpImm (w : Nat) : Nat := bits 53 22 w

/-- No reserved opcode or bit in a copy word (Tables 7-7, 7-8, 11-2, 15-3; 11 R382, 15 R516). -/
def copyOk (w : Nat) : Bool :=
  match opOf w with
  | 0x00 => decide (bits 63 8 w = 0)
  | 0x10 => decide (bits 63 36 w = 0)
  | 0x11 => decide (bits 63 50 w = 0)
  | 0x12 => decide (bits 63 50 w = 0)
  | 0x13 => decide (bits 63 54 w = 0)
  | 0x20 => decide (bits 63 48 w = 0) && decide (loopOf w = 0)
  | 0x21 => decide (bits 63 36 w = 0)
  | 0x22 => decide (bits 63 24 w = 0) && decide (loopOf w = 0)
  | 0x28 => !bit 63 w
  | 0x29 => decide (bits 63 36 w = 0) && decide (loopOf w = 0)
  | _ => false

/-- Handles of an opcode, by operand position: HD, then HS, then HI. -/
def copyHandles (w : Nat) : List Nat :=
  match opOf w with
  | 0x00 => []
  | 0x13 => [cpHd w]
  | 0x11 => [cpHd w, cpHs w, cpHi w]
  | 0x12 => [cpHd w, cpHs w, cpHi w]
  | _ => [cpHd w, cpHs w]

/-- Schedule poison as raw bytes of a format (06 R217). -/
def poisonRaw (fmt : Nat) : Nat :=
  match fmt with
  | 9 => 0xFFFFFFFF
  | 8 => 2 ^ 127 + 3
  | 7 => FFmt.b32.poisonCode + FFmt.b32.poisonCode * 2 ^ 32
  | f => (floatOf f).poisonCode

/-- The copy converts (07 R256). -/
def copyConverts (d s : Held) : Bool :=
  !(decide (d.d.fmt = s.d.fmt) && (decide (2 ≤ d.d.fmt) || decide (d.scaleX = s.scaleX))
    && (!isMx d.d.fmt || decide (d.d.extent 0 = s.d.extent 0)))

/-- A format pair that R256 permits. -/
def copyFormats (d s : Nat) : Bool := (decide (d ≤ 6) && decide (s ≤ 6)) || d = s

/-- Raw element as a copy engine reads it: poison of a stale use or of a region of a Span or Deck. -/
def State.copyRaw (s : State) (p : Nat) (l : Held) (i : Nat) : Nat :=
  if l.stale || s.elemForeign p 3 l i then poisonRaw l.d.fmt else s.readRaw p l.d i

/-- Copy bytes unchanged: elements by (destination, source) index, then scale bytes by block (07 R256). -/
def State.copyBytes (s : State) (p : Nat) (d src : Held) (prs : List (Nat × Nat)) : State :=
  let t := prs.foldl (fun (t : State) x => t.putElem p 3 (d.d.addr x.1) (elemSize d.d.fmt) (s.copyRaw p src x.2)) s
  match d.plane with
  | none => t
  | some pl =>
    let firsts := prs.filter (fun x => (x.1 % d.d.extent 0) % 32 = 0)
    firsts.foldl (fun (t : State) x =>
      let n := (blockOf d.d x.1).2
      let bad := src.stale || (List.range n).any (fun j => s.elemForeign p 3 src (x.2 + j))
      t.putElem p 3 (scaleAddr d.d pl x.1) 1 (if bad then 0xFF else s.readScale p src x.2)) t

/-- Move elements by (destination, source) index, converting where R256 says, counted by the watch then (R84); elements copied
unchanged are still measured for a tracked slot (03 R96). [DEDUCED: log entry 22] -/
def State.copyMove (s : State) (p : Nat) (wr : Writer) (d src : Held) (prs : List (Nat × Nat)) : State :=
  if copyConverts d src then
    let o := s.writeElems p 3 d (prs.map (fun x => (x.1, .f (s.readVal p 3 src x.2))))
    o.1.watchWrites p wr d.d o.2
  else
    let kept := prs.filter (fun x => !s.barred p 3 [] (d.d.addr x.1) (elemSize d.d.fmt))
    (s.copyBytes p d src prs).trackCopied p d.d (kept.map (fun x => s.readVal p 3 src x.2))

/-- IMM as FILL writes it to a format (Table 7-8). -/
def fillVal (fmt imm : Nat) : EVal :=
  match fmt with
  | 9 => .u imm
  | 8 => .xa 0 0
  | 7 => .pair imm 0
  | _ => .f (decode .b32 imm)

/-- FILL: a conversion is counted by the watch (07 R256). -/
def State.copyFill (s : State) (p : Nat) (wr : Writer) (d : Held) (imm : Nat) : State :=
  let o := s.writeElems p 3 d ((List.range d.d.count).map (fun i => (i, fillVal d.d.fmt imm)))
  if decide (d.d.fmt < 6) then o.1.watchWrites p wr d.d o.2 else o.1

/-- Rows of GATHER and SCATTER as (destination row, source row), skipped rows left out (07 R257). [DEDUCED: log entry 22] -/
def copyRows (op : Nat) (idx : List Nat) : List (Nat × Nat) :=
  ((List.range idx.length).zip idx).filterMap (fun x =>
    if x.2 = 0xFFFFFFFF then none else some (if op = 0x11 then (x.1, x.2) else (x.2, x.1)))

/-- Element pairs of one row. -/
def rowPairs (e : Nat) (r : Nat × Nat) : List (Nat × Nat) := (List.range e).map (fun j => (r.1 * e + j, r.2 * e + j))

/-- The runs of some rows of an operand. -/
def pickRows (rs : List (Int × Nat)) (ks : List Nat) : List (Int × Nat) := ks.filterMap (fun k => rs[k]?)

/-- Indices as read. [DEDUCED: log entry 22] -/
def State.copyIndex (s : State) (p : Nat) (h : Held) : List Nat := (List.range h.d.count).map (s.readU32 p 3 h)

/-! ## Checks (Table 7-9) -/

/-- Physical span of a descriptor. -/
def Desc.phys (p : Nat) (d : Desc) : Option (Nat × Nat) :=
  if d.count = 0 then none else
  match physOf p d.span.1, physOf p (d.span.2 - 1) with
  | some a, some b => some (a, b + 1)
  | _, _ => none

/-- The byte ranges spanned overlap. -/
def spansMeet (p : Nat) (a b : Desc) : Bool :=
  match a.phys p, b.phys p with
  | some x, some y => decide (x.1 < y.2) && decide (y.1 < x.2)
  | _, _ => false

/-- The guard region, Pier × 256 + region, that a guarded source lies in wholly. -/
def State.guardHome (s : State) (p : Nat) (d : Desc) : Option Nat :=
  match d.phys p with
  | some x =>
    if 2 ≤ pspace x.1 then none else
    ((List.range 256).map (pspace x.1 * 256 + ·)).find? (fun r =>
      decide (s.odv r 0x3021 2 ≠ 0) && decide (s.odv r 0x3021 1 ≤ poff x.1)
        && decide (poff x.1 + (x.2 - x.1) ≤ s.odv r 0x3021 1 + s.odv r 0x3021 2))
  | none => none

/-- A scale plane lies in its region. -/
def planeIn (p : Nat) (l : Held) : Bool :=
  match l.plane with
  | some pl => (planeRows l.d pl).all (fun r => (physOf p r.1).isSome && (physOf p (r.1 + r.2 - 1)).isSome)
  | none => true

/-- First operand position at fault (Table 7-9, 06 R210). [DEDUCED: log entry 22] -/
def State.copyFault (s : State) (p w x : Nat) (ops : List Held) (nest : Nest) : Option Nat :=
  let op := opOf w
  let d := ops.getD 0 Held.none
  let src := ops.getD 1 Held.none
  let h := ops.getD 2 Held.none
  let place := (List.range ops.length).find? (fun k =>
    let l := ops.getD k Held.none
    !(l.d.inRegion p && planeIn p l) || (isMx l.d.fmt && !nest.mxOk x k))
  match place with
  | some k => some k
  | none =>
    if op = 0x13 then
      if d.d.fmt = 8 && !(cpImm w = 0 || cpImm w = 0x80000000) then some 0 else none
    else if !copyFormats d.d.fmt src.d.fmt then some 1
    else if op = 0x10 && decide (d.d.count ≠ src.d.count) then some 1
    else if op ≠ 0x10 && decide (d.d.extent 0 ≠ src.d.extent 0) then some 1
    else if op ≠ 0x10 && !(h.d.fmt = 9 && decide (h.d.count = if op = 0x11 then d.d.extent 1 else src.d.extent 1)) then some 2
    else if op ≠ 0x10 && (s.copyIndex p h).any (fun x =>
        x ≠ 0xFFFFFFFF && decide ((if op = 0x11 then src.d.extent 1 else d.d.extent 1) ≤ x)) then some 2
    else if spansMeet p d.d src.d then some 0
    else if src.d.guard = 1 && (s.guardHome p src.d).isNone then some 1
    else none

/-! ## Executions -/

/-- The index operand is read, before the checks that judge its values (07 R257, R269). -/
def State.copyIndexRead (s : State) (p q : Nat) (f : Flight) (ops : List Held) : State :=
  if opOf f.word = 0x11 || opOf f.word = 0x12 then
    s.readOperand p (Asker.queue p q (f.args.getD 0 0)) (ops.getD 2 Held.none)
  else s

/-- Rows that an execution moves, as (destination row, source row); none: every row. -/
def State.copyPick (s : State) (p w : Nat) (ops : List Held) : Option (List (Nat × Nat)) :=
  if opOf w = 0x11 || opOf w = 0x12 then some (copyRows (opOf w) (s.copyIndex p (ops.getD 2 Held.none))) else none

/-- Runs of rows: those picked, or all. -/
def pickOf (rs : List (Int × Nat)) : Option (List Nat) → List (Int × Nat)
  | some ks => pickRows rs ks
  | none => rs

/-- One execution whose checks pass: the claims of the one before it go, its own are made, then it reads and writes; rows that
are not selected are neither read nor written (07 R257 to R259). [DESIGN CHOICE: log entry 11] -/
def State.copyRun (s : State) (p q : Nat) (f : Flight) (x : Nat) (ops : List Held) : State × Flight :=
  let w := f.word
  let op := opOf w
  let d := ops.getD 0 Held.none
  let src := ops.getD 1 Held.none
  let wr : Writer := ⟨streamOf p q, f.pc, f.gen⟩
  let ident := f.args.getD 0 0
  let who := Asker.queue p q ident
  let cl := (s.release 3 f.owned).claim 3 (d.regions p)
  let s := match cl.2.2 with
    | some r => cl.1.schedFault p q f x (regionAddr r) (cl.1.regionOwner r) 0
    | none => cl.1
  let srcs := (ops.drop 1).filter (fun l => !l.stale)
  let rd := if f.args.getD 1 0 = 0 then s.firstForeign p 3 (srcs.map (fun l => (if l.handle = src.handle then 1 else 2, l))) else none
  let s := match rd with
    | some r => s.schedFault p q f x (regionAddr r.2) (s.regionOwner r.2) r.1
    | none => s
  let f := if rd.isSome then { f with args := [ident, 1] } else f
  let rows := s.copyPick p w ops
  let ds := rows.map (fun l => l.map (fun r => r.1))
  let ss := rows.map (fun l => l.map (fun r => r.2))
  let s := if op = 0x13 then s else s.readRows p who src (pickOf src.d.rows ss) (pickOf src.planeRows ss)
  let g := s.guardRuns f.guards (physRuns p (pickOf d.d.rows ds ++ pickOf d.planeRows ds))
  let s := g.1.writeRows p who d (pickOf d.d.rows ds) (pickOf d.planeRows ds)
  let s := match rows with
    | some l => l.foldl (fun s r => s.copyMove p wr d src (rowPairs (d.d.extent 0) r)) s
    | none => if op = 0x13 then s.copyFill p wr d (cpImm w)
      else s.copyMove p wr d src ((List.range d.d.count).map (fun i => (i, i)))
  (s, { f with begun := x + 1, running := true, guards := g.2, owned := cl.2.1 })

/-- Executions from x on, `fuel` of them; a check that fails ends them with OPERAND_FAULT (07 R261).
[DESIGN CHOICE: log entry 11] -/
def State.copyAll (s : State) (p q : Nat) (f : Flight) : Nat → Nat → State × Option Flight
  | 0, _ => (s, some f)
  | fuel + 1, x =>
    let ops := f.stepped (fun k => k) x
    let s := s.copyIndexRead p q f ops
    match s.copyFault p f.word x ops f.nest with
    | some j =>
      let s := f.guards.foldl (fun s r => s.guardEnd r) (s.release 3 f.owned)
      ((s.dropReqs (f.args.getD 0 0)).operandFault p q f x j ((ops.getD j Held.none).d.base), none)
    | none =>
      let r := s.copyRun p q f x ops
      r.1.copyAll p q r.2 fuel (x + 1)

/-- GUARD_SNAP of a guarded copy (Table 7-10). -/
def State.guardSnap (s : State) (p : Nat) (src : Desc) : Nat :=
  match s.guardHome p src with
  | some r => r % 256 + r / 256 * 256 + (s.odv r 0x3021 3 % 2 ^ 22) * 2 ^ 9 + b2n (s.odv r 0x3021 4 = 0) * 2 ^ 31
  | none => 0

/-- GUARD_SNAP written at the latch (07 R264). -/
def State.writeSnap (s : State) (p : Nat) (d src : Held) : State :=
  if d.d.guard = 2 then
    s.setNum (pkey (spCtl p) (d.handle * 64 + 56)) 4 (if src.d.guard = 1 then s.guardSnap p src.d else 0)
  else s

/-- Positions that take increments (07 R254, 11 R382, 15 R516). -/
def copyUsed (op : Nat) : List Bool :=
  match op with
  | 0x00 => [false, false, false]
  | 0x13 => [true, false, false]
  | 0x11 => [true, true, true]
  | 0x12 => [true, true, true]
  | _ => [true, true, false]

/-- A copy of no element (06 R203, R211). -/
def copyNull (op : Nat) (ops : List Held) (nest : Nest) : Bool :=
  let d := (ops.getD 0 Held.none).d
  let src := (ops.getD 1 Held.none).d
  op = 0x00 || decide (nest.total = 0)
    || decide ((if op = 0x12 then src.count else d.count) = 0)

/-- An identity for the requests of the instruction at the head. -/
def State.reqIdent (s : State) (p q : Nat) : Nat := qInst p q * 2 ^ 64 + s.odv (qInst p q) 0xF121 5 + 1

/-- Latch of a copy instruction; its executions issue in order (07 R260). -/
def State.copyLatch (s : State) (p q w : Nat) : State :=
  let op := opOf w
  let raw := s.rawNest p (loopOf w)
  match s.latchAll p (copyHandles w) with
  | none => s.descFault p q (copyHandles w) (fun k => k)
  | some ops =>
    if !nestOk raw (copyUsed op) then s.headFault p q 1 else
    let nest := parseNest raw
    if copyNull op ops nest then s.nullHead p q w
    else
      let f := { s.newFlight p q w ops nest false with args := [s.reqIdent p q, 0] }
      let g := s.guardCheck p q f ((List.range ops.length).drop 1)
      let s := if op = 0x13 then g.1 else g.1.writeSnap p (ops.getD 0 Held.none) (ops.getD 1 Held.none)
      let s := s.advance p q w
      let r := s.copyAll p q g.2 nest.total 0
      match r.2 with
      | some f => r.1.pushFlight p q f
      | none => r.1

/-- The row of a copy opcode on engine e. -/
def State.copyIssue (s : State) (p e op : Nat) : State := s.issue p (64 + e) op copyOk (fun t w => t.copyLatch p (64 + e) w)

/-- CNOP. -/
def execCnop (p e : Nat) (s : State) : Host.Outcome State Fault Refusal := .next (s.copyIssue p e 0x00)
/-- COPY. -/
def execCopy (p e : Nat) (s : State) : Host.Outcome State Fault Refusal := .next (s.copyIssue p e 0x10)
/-- GATHER. -/
def execGather (p e : Nat) (s : State) : Host.Outcome State Fault Refusal := .next (s.copyIssue p e 0x11)
/-- SCATTER. -/
def execScatter (p e : Nat) (s : State) : Host.Outcome State Fault Refusal := .next (s.copyIssue p e 0x12)
/-- FILL. -/
def execFill (p e : Nat) (s : State) : Host.Outcome State Fault Refusal := .next (s.copyIssue p e 0x13)

/-- A copy opcode whose completion is COPY_COMPLETE; the remote opcodes complete on their own rows. -/
def localCopy (w : Nat) : Bool := decide (opOf w ≤ 0x13) || opOf w = 0x21

/-- COPY_COMPLETE (07 R252, R260): the oldest instruction of engine e completes once none of its requests waits or is held and
none of its slow-tier writes waits for the host. [DESIGN CHOICE: log entry 11] -/
def State.copyComplete (s : State) (p e : Nat) : State :=
  let q := 64 + e
  match (s.queue p q).flights with
  | [] => s
  | f :: t =>
    if f.null then (s.setFlights p q t).finish p 3 f
    else if localCopy f.word && !s.asking (f.args.getD 0 0) && s.host.snoopWait.isEmpty then
      ((s.dropReqs (f.args.getD 0 0)).setFlights p q t).finish p 3 f
    else s

end Sys2Proof.Machine
end

