-- ==== Sys2Proof/Machine/MathFns.lean ====
section
/-! DEFINITION. EXP, LOG, TANH and SIGM of the Deck (05 R163, Table 5-4), by integer series with 320 fraction bits
and one rounding at the end. -/

namespace Sys2Proof.Machine

/-- floor (ln 2 × 2^320). -/
def lnTwo : Nat := 0xb17217f7d1cf79abc9e3b39803f2f6af40f343267298b62d8a0d175b8baafa2be7b876206debac98

/-- Σ r^j / j! from the term `t` = r^(j)/j! on, `fuel` further terms; r and t in units of 2^−320. -/
def expSeries (r : Nat) : Nat → Nat → Nat → Nat
  | 0, _, t => t
  | fuel + 1, j, t => t + expSeries r fuel (j + 1) (t * r / ((j + 1) * 2 ^ fracBits))

/-- e^x for x in units of 2^−320: (n, k) with e^x = n × 2^(k − 320). -/
def expFix (x : Int) : Nat × Int :=
  let k := x / (lnTwo : Int)
  let r := (x - k * lnTwo).toNat
  (expSeries r 100 0 (2 ^ fracBits), k)

/-- A finite value in units of 2^−320. -/
def fixOf (s : Bool) (m : Nat) (e : Int) : Int :=
  let n : Int := (shiftNat m (e + fracBits) : Nat)
  if s then -n else n

/-- EXP (Table 5-4). -/
def Val.exp : Val → Val
  | .poison => .poison
  | .nan => .nan
  | .inf s => if s then .zero else .inf false
  | .fin s m e =>
    if m = 0 then .fin false 1 0
    else if 8 ≤ Nat.log2 m + e then (if s then .zero else .inf false)
    else
      let r := expFix (fixOf s m e)
      rnd .b32 false r.1 (r.2 - (fracBits : Nat)) true

/-- Σ z^(2j+1) / (2j+1) from the power `p` = z^(2j+1) on. -/
def atanhSeries (z2 : Nat) : Nat → Nat → Nat → Nat
  | 0, _, _ => 0
  | fuel + 1, j, p => p / (2 * j + 1) + atanhSeries z2 fuel (j + 1) (p * z2 / 2 ^ fracBits)

/-- LOG (Table 5-4). -/
def Val.log : Val → Val
  | .poison => .poison
  | .nan => .nan
  | .inf s => if s then .nan else .inf false
  | .fin s m e =>
    if m = 0 then .inf true
    else if s then .nan
    else
      let l := Nat.log2 m
      let l' := if 2 ^ (2 * l + 1) ≤ m * m then l + 1 else l
      let one := 2 ^ l'
      let neg := decide (m < one)
      let z := (if m < one then one - m else m - one) * 2 ^ fracBits / (m + one)
      let a : Int := (2 * atanhSeries (z * z / 2 ^ fracBits) 80 0 z : Nat)
      let t : Int := (e + l') * lnTwo + (if neg then -a else a)
      if t = 0 then .zero else rnd .b32 (decide (t < 0)) t.natAbs (-(fracBits : Int)) true

/-- TANH (Table 5-4): below 2^−40 the result rounds to the input, from 2^5 on to ±1. -/
def Val.tanh : Val → Val
  | .poison => .poison
  | .nan => .nan
  | .inf s => .fin s 1 0
  | .fin s m e =>
    if m = 0 then .fin s 0 0
    else if 5 ≤ Nat.log2 m + e then .fin s 1 0
    else if Nat.log2 m + e < -40 then .fin s m e
    else
      let r := expFix (fixOf false m (e + 1))
      let one := shiftNat 1 ((fracBits : Int) - r.2)
      rndRatio .b32 s (r.1 - one) (r.1 + one) 0

/-- SIGM (Table 5-4). -/
def Val.sigm : Val → Val
  | .poison => .poison
  | .nan => .nan
  | .inf s => if s then .zero else .fin false 1 0
  | .fin s m e =>
    if m ≠ 0 && 7 ≤ Nat.log2 m + e then (if s then .zero else .fin false 1 0)
    else
      let r := expFix (fixOf s m e)
      rndRatio .b32 false r.1 (r.1 + shiftNat 1 ((fracBits : Int) - r.2)) 0

end Sys2Proof.Machine
end

