-- ==== Sys2Proof/Machine/DeckMath.lean ====
section
/-! DEFINITION. Arithmetic of the Deck's opcodes: element operations, reductions, exact accumulators (05 R162 to
R169). -/

namespace Sys2Proof.Machine

/-- MIN of R164 with the zero that a tie takes. -/
def Val.minmax (max : Bool) (a b : Val) : Val :=
  match a, b with
  | .poison, _ => .poison
  | _, .poison => .poison
  | .nan, _ => .nan
  | _, .nan => .nan
  | a, b =>
    let c := a.cmp b
    if c = 0 then (if a.isZero then .fin (if max then a.sign && b.sign else a.sign || b.sign) 0 0 else a)
    else if decide (c < 0) = max then b else a

/-- ADD, rounded once. -/
def Val.addR (f : FFmt) (a b : Val) : Val := (a.add b).round f
/-- SUB. -/
def Val.subR (f : FFmt) (a b : Val) : Val := (a.add b.negate).round f
/-- MUL. -/
def Val.mulR (f : FFmt) (a b : Val) : Val := (a.mul b).round f
/-- FMA: a × b + c, one rounding. -/
def Val.fmaR (f : FFmt) (a b c : Val) : Val := ((a.mul b).add c).round f

/-- Compare opcodes 0x22 to 0x25 (05 R164). -/
def Val.compare (op : Nat) (a b : Val) : Bool :=
  if a.isNanP || b.isNanP then decide (op = 0x25) else
  let c := a.cmp b
  match op with
  | 0x22 => decide (c < 0)
  | 0x23 => decide (c ≤ 0)
  | 0x24 => decide (c = 0)
  | _ => decide (c ≠ 0)

/-- Unary element-wise opcodes 0x17 to 0x20. -/
def deckUnary (op : Nat) (a : Val) : Val :=
  match op with
  | 0x17 => a.abs
  | 0x18 => a.negate
  | 0x19 => a.sqrt .b32
  | 0x1A => a.rsqrt .b32
  | 0x1B => a.rcp .b32
  | 0x1C => a.exp
  | 0x1D => a.log
  | 0x1E => a.tanh.round .b32
  | 0x1F => a.sigm
  | _ => a.round .b32

/-- Binary element-wise opcodes: operands S1, S2, and the destination's previous value. -/
def deckBinary (op : Nat) (a b c : Val) : Val :=
  match op with
  | 0x10 => a.addR .b32 b
  | 0x11 => a.subR .b32 b
  | 0x12 => a.mulR .b32 b
  | 0x13 => a.fmaR .b32 b c
  | 0x14 => a.div .b32 b
  | 0x15 => (a.minmax false b).round .b32
  | 0x16 => (a.minmax true b).round .b32
  | 0x50 => a.addR .bf16 b
  | 0x51 => a.subR .bf16 b
  | 0x52 => a.mulR .bf16 b
  | 0x53 => a.fmaR .bf16 b c
  | 0x54 => (a.minmax false b).round .bf16
  | _ => (a.minmax true b).round .bf16

/-- Integer element-wise opcodes 0x26 to 0x28: the result, and whether it wrapped. -/
def deckInt (op a b : Nat) : Nat × Bool :=
  match op with
  | 0x26 => ((a + b) % 2 ^ 32, decide (2 ^ 32 ≤ a + b))
  | 0x27 => (min a b, false)
  | _ => (max a b, false)

/-- Exact sum of a list; an empty list is +0. -/
def exactSum : List Val → Val
  | [] => .zero
  | v :: t => t.foldl Val.add v

/-- An exact value divided by n, rounded, with the rounded remainder (05 Table 5-6, 02 R64). -/
def meanPair (v : Val) (n : Nat) : Nat × Nat :=
  match v with
  | .fin s m e =>
    let hi := rndRatio .b32 s m n e
    let lo : Val := match hi, (v.add ((hi.mul (.fin false n 0)).negate)) with
      | .fin _ _ _, .fin t k x => rndRatio .b32 t k n x
      | _, _ => .zero
    ((convert .b32 hi).1, (convert .b32 (if lo.isZero then .zero else lo)).1)
  | v => ((convert .b32 v).1, 0)

/-- sqrt (v) − hi rounded: the root as `sqrtCut` gives it. -/
def rootRest (r : Nat) (k : Int) (inexact : Bool) (hi : Val) : Val :=
  match hi with
  | .fin _ m e =>
    let h := shiftNat m (e - k)
    if h ≤ r then (if r = h && !inexact then .zero else rnd .b32 false (r - h) k inexact)
    else rnd .b32 true (h - r - b2n inexact) k inexact
  | _ => .zero

/-- Square root of an exact value, rounded, with the rounded remainder (RNORM, EANORM). -/
def rootPair (v : Val) : Nat × Nat :=
  let hi := v.sqrt .b32
  match v with
  | .fin false m e =>
    if m = 0 then (0, 0) else
    let c := sqrtCut m e
    ((convert .b32 hi).1, (convert .b32 (rootRest c.1 c.2.1 c.2.2 hi)).1)
  | _ => ((convert .b32 hi).1, 0)

/-- Largest or smallest of a non-empty list by R164. -/
def extreme (max : Bool) : List Val → Val
  | [] => .inf max
  | v :: t => t.foldl (Val.minmax max) v

/-- RARGMAX and RARGMIN over (index, value) pairs. -/
def argExtreme (max : Bool) (vs : List (Nat × Val)) : Nat :=
  let r := extreme max (vs.map (fun x => x.2))
  let hit (x : Nat × Val) : Bool := if r.isNanP then x.2.isNanP else x.2.compare 0x24 r
  match vs.find? hit with
  | some x => x.1
  | none => 0xFFFFFFFF

/-- What a reduction writes for one segment: a UINT32 or a pair (hi, lo), the EMPTY and OVF flags (Table 5-6). -/
structure RedOut where
  int : Bool
  hi : Nat
  lo : Nat
  empty : Bool
  ovf : Bool
  deriving DecidableEq, Repr

/-- Value v alone as a reduction result. -/
def RedOut.val (v : Val) (empty : Bool) : RedOut := ⟨false, (convert .b32 v).1, 0, empty, false⟩

/-- One segment of reduction `op`: its active elements by index within the segment, and as UINT32. -/
def reduce (op : Nat) (vs : List (Nat × Val)) (us : List Nat) : RedOut :=
  let xs := vs.map (fun x => x.2)
  let none := vs.isEmpty
  match op with
  | 0x38 => let q := (exactSum xs); ⟨false, (convert .b32 q).1,
      (match q, decode .b32 (convert .b32 q).1 with
        | .fin _ _ _, .fin s m e => remainderOf q (.fin s m e)
        | _, _ => 0), none, false⟩
  | 0x39 => .val (xs.foldl (fun a v => a.mulR .b32 v) (.fin false 1 0)) none
  | 0x3A => .val ((extreme true xs).round .b32) none
  | 0x3B => .val ((extreme false xs).round .b32) none
  | 0x3C => ⟨true, if none then 0xFFFFFFFF else argExtreme true vs, 0, none, false⟩
  | 0x3D => ⟨true, if none then 0xFFFFFFFF else argExtreme false vs, 0, none, false⟩
  | 0x3E => ⟨true, vs.length, 0, none, false⟩
  | 0x3F => let q := rootPair (exactSum (xs.map (fun v => v.mul v))); ⟨false, q.1, q.2, none, false⟩
  | 0x40 => if none then .val .nan true else let q := meanPair (exactSum xs) vs.length; ⟨false, q.1, q.2, false, false⟩
  | 0x41 => let q := exactSum (xs.map (fun v => v.mul v)); ⟨false, (convert .b32 q).1,
      (match q, decode .b32 (convert .b32 q).1 with
        | .fin _ _ _, .fin s m e => remainderOf q (.fin s m e)
        | _, _ => 0), none, false⟩
  | _ => let t := sumNat us; ⟨true, t % 2 ^ 32, 0, none, decide (2 ^ 32 ≤ t)⟩
where
  /-- a − b rounded to binary32. -/
  remainderOf (a b : Val) : Nat := (convert .b32 (a.add b.negate)).1

/-- Units 2^−298 of a finite value. -/
def exUnits (v : Val) : Int := v.units (-298)

/-- Add one element, or its square, to an exact accumulator; none where it holds 2^40 terms (05 R169). -/
def ExSum.add (sq : Bool) (a : ExSum) (v : Val) : Option ExSum :=
  if 2 ^ 40 ≤ a.cnt then none else
  let w := if sq then v.mul v else v
  match w.kind? with
  | some k => some { a with kind := (match a.kind with | .fin _ => k | j => xaMerge j k), cnt := a.cnt + 1 }
  | none => some { a with sum := a.sum + exUnits w, cnt := a.cnt + 1,
                          allNegZero := a.allNegZero && !sq && w.isZero && w.sign }

/-- The value an exact accumulator holds. -/
def ExSum.value (a : ExSum) : Val :=
  match a.kind with
  | .fin _ => valOfInt (a.allNegZero && decide (a.cnt ≠ 0)) a.sum (-298)
  | .posInf => .inf false
  | .negInf => .inf true
  | .nan => .nan
  | .poison => .poison

/-- EAOUT (0x4A), EANORM (0x4B), EAMEAN (0x4C): hi, lo and EMPTY. -/
def ExSum.out (op : Nat) (a : ExSum) : Nat × Nat × Bool :=
  if a.cnt = 0 then (if op = 0x4C then (convert .b32 .nan).1 else 0, 0, true) else
  let q := match op with
    | 0x4A => pairOf a.value
    | 0x4B => rootPair a.value
    | _ => meanPair a.value a.cnt
  (q.1, q.2, false)

end Sys2Proof.Machine
end

