-- ==== Sys2Proof/Machine/Packet.lean ====
section
/-! DEFINITION. Fabric packets: their header, their CRC, their way from this module's router, and their sending on a
port (14 R489 to R502). -/

namespace Sys2Proof.Machine

/-! ## Header (Table 14-5) -/

/-- DEST. -/
def Packet.dest (k : Packet) : Nat := bits 15 0 k.hdr
/-- SRC. -/
def Packet.src (k : Packet) : Nat := bits 31 16 k.hdr
/-- DEST_PIER. -/
def Packet.destPier (k : Packet) : Nat := bits 32 32 k.hdr
/-- SRC_PIER. -/
def Packet.srcPier (k : Packet) : Nat := bits 33 33 k.hdr
/-- TC. -/
def Packet.tc (k : Packet) : Nat := bits 36 34 k.hdr
/-- DL. -/
def Packet.dl (k : Packet) : Nat := bits 37 37 k.hdr
/-- PROTO. -/
def Packet.proto (k : Packet) : Nat := bits 41 38 k.hdr
/-- HOPS. -/
def Packet.hops (k : Packet) : Nat := bits 47 42 k.hdr
/-- LENGTH. -/
def Packet.len (k : Packet) : Nat := bits 60 48 k.hdr
/-- SEG. -/
def Packet.seg (k : Packet) : Nat := bits 79 64 k.hdr
/-- NSEG. -/
def Packet.nseg (k : Packet) : Nat := bits 95 80 k.hdr
/-- ADDRESS. -/
def Packet.addr (k : Packet) : Nat := bits 143 96 k.hdr
/-- TAG. -/
def Packet.tag (k : Packet) : Nat := bits 191 160 k.hdr
/-- CRC. -/
def Packet.crc (k : Packet) : Nat := bits 223 192 k.hdr
/-- VC on which the packet travels (14 R496). -/
def Packet.vc (k : Packet) : Nat := 2 * k.tc + k.dl

/-! ## CRC-32C (Table 14-5) -/

/-- One bit of the division by the Castagnoli polynomial, bits reflected. -/
def crcBit (c : Nat) : Nat := if c % 2 = 1 then (c / 2) ^^^ 0x82F63B78 else c / 2

/-- One byte. -/
def crcByte (c : Nat) (b : Byte) : Nat :=
  crcBit (crcBit (crcBit (crcBit (crcBit (crcBit (crcBit (crcBit (c ^^^ b.toNat))))))))

/-- CRC-32C of bytes. [PRESUMED: log entry 42] -/
def crc32c (l : List Byte) : Nat := (l.foldl crcByte 0xFFFFFFFF) ^^^ 0xFFFFFFFF

/-- CRC of a packet: its header with the field zero, and its body. [DEDUCED: log entry 46] -/
def packetCrc (hdr : Nat) (body : List Byte) : Nat := crc32c (toBytes 32 (setBits 223 192 0 hdr) ++ body)

/-- The packet passes its check (14 R500). -/
def Packet.good (k : Packet) : Bool := decide (k.crc = packetCrc k.hdr k.body)

/-- A packet as its source writes it: DL and HOPS zero. -/
def mkPacket (dest src destPier srcPier tc proto seg nseg addr tag : Nat) (body : List Byte) : Packet :=
  let h := dest % 2 ^ 16 + (src % 2 ^ 16) * 2 ^ 16 + (destPier % 2) * 2 ^ 32 + (srcPier % 2) * 2 ^ 33 + (tc % 8) * 2 ^ 34
    + (proto % 16) * 2 ^ 38 + (body.length % 2 ^ 13) * 2 ^ 48 + (seg % 2 ^ 16) * 2 ^ 64 + (nseg % 2 ^ 16) * 2 ^ 80
    + (addr % 2 ^ 48) * 2 ^ 96 + (tag % 2 ^ 32) * 2 ^ 160
  ⟨h + packetCrc h body * 2 ^ 192, body⟩

/-- A router's change of header bits: the CRC changes by what the change contributes, so that an error stays one.
[DEDUCED: log entry 46] -/
def Packet.change (k : Packet) (hdr : Nat) : Packet :=
  ⟨setBits 223 192 ((k.crc ^^^ packetCrc k.hdr k.body) ^^^ packetCrc hdr k.body) hdr, k.body⟩

/-- A packet as bytes, padded to a multiple of 64 (14 R495). -/
def Packet.bytes (k : Packet) : List Byte :=
  let l := toBytes 32 k.hdr ++ k.body
  padTo (alignUp l.length 64) l

/-- Cut into slots of 64 bytes. -/
def slotsOf : Nat → List Byte → List (List Byte)
  | 0, _ => []
  | n + 1, l => l.take 64 :: slotsOf n (l.drop 64)

/-- Slots of a packet. -/
def Packet.slots (k : Packet) : List (List Byte) := slotsOf (k.bytes.length / 64) k.bytes

/-- Its slots as they wait for transmission. -/
def Packet.txSlots (k : Packet) : List TxSlot :=
  let l := k.slots
  ((List.range l.length).zip l).map (fun x => (⟨k.vc, decide (x.1 = 0), l.length - 1 - x.1, x.2⟩ : TxSlot))

/-! ## Topology (14 R485, R501) -/

/-- GROUP7. -/
def State.group7 (s : State) : Bool := decide (s.odv 0 0x6000 0 = 1)
/-- DIM of dimension d: 0 X, 1 Y, 2 Z. -/
def State.dim (s : State) (d : Nat) : Nat := s.odv 0 0x6001 (d + 1)
/-- Own coordinate. -/
def State.my (s : State) (d : Nat) : Nat := s.odv 0 0x6002 (d + 1)

/-- MODULE_ID (14 R501). -/
def State.moduleId (s : State) : Nat :=
  if s.group7 then s.my 0 else s.my 0 + s.dim 0 * (s.my 1 + s.dim 1 * s.my 2)

/-- Modules of the topology. -/
def State.moduleCount (s : State) : Nat := if s.group7 then 7 else s.dim 0 * s.dim 1 * s.dim 2

/-- Coordinate d of a module of the torus. -/
def State.coordOf (s : State) (m d : Nat) : Nat :=
  match d with
  | 0 => m % s.dim 0
  | 1 => m / s.dim 0 % s.dim 1
  | _ => m / (s.dim 0 * s.dim 1)

/-- Port toward coordinate c in dimension d: the shorter way, + when both are equally long. -/
def State.portToward (s : State) (d c : Nat) : Nat :=
  if 2 * ((c + s.dim d - s.my d) % s.dim d) ≤ s.dim d then 2 * d else 2 * d + 1

/-- Next port of a packet for another module of the topology (14 R501). -/
def State.nextPort (s : State) (dest : Nat) : Nat :=
  if s.group7 then (dest + 6 - s.my 0) % 7
  else
    match (List.range 3).find? (fun d => s.coordOf dest d ≠ s.my d) with
    | some d => s.portToward d (s.coordOf dest d)
    | none => 0

/-- The link of a port crosses the dateline of its dimension. -/
def State.wraps (s : State) (port : Nat) : Bool :=
  if port % 2 = 0 then decide (s.my (port / 2) + 1 = s.dim (port / 2)) else decide (s.my (port / 2) = 0)

/-- Most links a packet may cross (14 R502). [DEDUCED: log entry 45] -/
def State.hopLimit (s : State) : Nat := if s.group7 then 1 else s.dim 0 / 2 + s.dim 1 / 2 + s.dim 2 / 2

/-! ## Ports -/

/-- Port k. -/
def State.port (s : State) (k : Nat) : Port := Tab.get Port.zero s.fab.ports k

/-- Replace port k. -/
def State.setPort (s : State) (k : Nat) (v : Port) : State :=
  { s with fab := { s.fab with ports := Tab.set Port.zero s.fab.ports k v } }

/-- Slots of receive buffer for each VC (14 R494). -/
def creditsPerVc : Nat := 4096
/-- Codewords of the replay buffer (14 R492). -/
def replaySize : Nat := 8192

/-- A VC has a credit. -/
def Port.hasCredit (q : Port) (vc : Nat) : Bool := decide (Tab.get 0 q.spent vc < creditsPerVc)

/-- The first data slot that may leave, and the slots without it. -/
def Port.takeSlot (q : Port) : Option (TxSlot × Port) :=
  match q.txWait.findIdx? (fun w => q.hasCredit w.vc) with
  | some i =>
    match q.txWait[i]? with
    | some w => some (w, { q with txWait := q.txWait.eraseIdx i, spent := Tab.set 0 q.spent w.vc (Tab.get 0 q.spent w.vc + 1) })
    | none => none
  | none => none

/-- Up to n data slots that may leave. -/
def Port.takeSlots (q : Port) : Nat → List TxSlot × Port
  | 0 => ([], q)
  | n + 1 =>
    match q.takeSlot with
    | none => ([], q)
    | some r => let t := r.2.takeSlots n; (r.1 :: t.1, t.2)

/-- Codeword header of data slots in order from slot 0, the others control slots (Table 14-3). -/
def cwHeader (vcs : List Nat) : Nat :=
  (31 - (2 ^ vcs.length - 1)) + sumNat ((List.range vcs.length).map (fun i => vcs.getD i 0 * 2 ^ (5 + 4 * i)))

/-- The codeword of some data slots and some control words. -/
def mkCodeword (num : Nat) (ds : List TxSlot) (ctl : List Nat) : Codeword :=
  ⟨num, cwHeader (ds.map (·.vc)), padTo 320 (ds.flatMap (·.data) ++ ctl.flatMap (toBytes 8))⟩

/-- Send a codeword: numbered, kept for replay. -/
def State.sendCodeword (s : State) (k : Nat) (ds : List TxSlot) (ctl : List Nat) : State :=
  let q := s.port k
  let c := mkCodeword q.txNext ds ctl
  let s := s.setPort k { q with txNext := (q.txNext + 1) % 2 ^ 32, replay := q.replay ++ [c] }
  (s.emit (.codeword k c)).bump64 k 0x6011 8 (64 * ds.length)

/-- Send what waits at port k: data slots as credits allow, control words in the slots that are left.
[DESIGN CHOICE: log entry 43] -/
def State.pump (s : State) (k : Nat) : Nat → State
  | 0 => s
  | fuel + 1 =>
    let q := s.port k
    if q.st ≠ .active || decide (replaySize ≤ q.replay.length) then s else
    let t := q.takeSlots 5
    let n := 8 * (5 - t.1.length)
    let ctl := t.2.txCtl.take n
    if t.1.isEmpty && ctl.isEmpty then s
    else ((s.setPort k { t.2 with txCtl := t.2.txCtl.drop n }).sendCodeword k t.1 ctl).pump k fuel

/-- Send what waits at port k. -/
def State.pumpAll (s : State) (k : Nat) : State := s.pump k ((s.port k).txWait.length + (s.port k).txCtl.length + 1)

/-- Send a control word (Table 14-4). [DESIGN CHOICE: log entry 43] -/
def State.sendControl (s : State) (k w : Nat) : State :=
  (s.setPort k { s.port k with txCtl := (s.port k).txCtl ++ [w] }).pumpAll k

/-- Queue of an instruction's identity. -/
def identQueue (ident : Nat) : Nat := ident / 2 ^ 64 % 128

/-- The originator of a packet (14 R504): transit and incoming traffic by its class; this module's own by the instruction that
made the request, the mirror's Pier half or the Abutment, and a RESPONSE by its class. [DESIGN CHOICE: log entry 23] -/
def State.packetAsker (s : State) (pk : Packet) : Asker :=
  let p := pk.srcPier
  if pk.src ≠ s.moduleId then Asker.fabric pk.destPier pk.tc
  else match pk.proto with
  | 4 => Asker.fabric p 0
  | 5 => Asker.abutment p
  | 6 => Asker.mirror p
  | _ => match s.fab.reqs.find? (fun r => r.tag = pk.tag) with
    | some r => Asker.queue p (identQueue r.ident) 0
    | none => Asker.queue p 80 0

/-- Beats of a packet at an egress of a width. -/
def Packet.beats (k : Packet) (width : Nat) : Nat := ceilDiv (alignUp (32 + k.body.length) 64) width

/-- Send a packet on an ACTIVE port: its beats are presented at the port's egress (14 R504). -/
def State.transmit (s : State) (k : Nat) (pk : Packet) : State :=
  ((s.present 4 k (s.packetAsker pk) (pk.beats 256)).setPort k { s.port k with txWait := (s.port k).txWait ++ pk.txSlots }).pumpAll k

/-! ## Routing (14 R496, R497, R501, R502) -/

/-- A packet discarded by the router, counted at the subindex of OD 0x6020 given; the attempt is marked faulted. -/
def State.dropPacket (s : State) (sub : Nat) : State := (s.bump32 0 0x6020 sub 1).markFaulted

/-- Traffic class that Table 14-6 gives a protocol. [DEDUCED: log entry 45] -/
def protoTc (proto tc : Nat) : Bool :=
  match proto with
  | 1 => tc = 2 | 2 => tc = 2 | 3 => tc = 3 || tc = 4 | 4 => tc = 0 | 5 => tc = 1 | 6 => tc = 5 | 7 => tc = 6 | _ => false

/-- A reserved PROTO, TC or LENGTH, or a TC that is not the protocol's (14 R497). -/
def Packet.malformed (k : Packet) : Bool := !protoTc k.proto k.tc || decide (4128 < k.len)

/-- The packet with DL as this router sets it on the way out of `port`; `inp` is the port it came in by. -/
def State.withDateline (s : State) (pk : Packet) (inp : Option Nat) (port : Nat) : Packet :=
  if s.group7 then pk else
  let same := match inp with | some i => decide (i / 2 = port / 2) | none => true
  let dl := if s.wraps port then 1 else if same then pk.dl else 0
  if dl = pk.dl then pk else pk.change (setBits 37 37 dl pk.hdr)

/-- Route a packet: checks (a malformed one is discarded, counted and faults the attempt, 14 R497), delivery, or the next port.
[DEDUCED: log entry 45] -/
def State.routePacket (s : State) (pk : Packet) (inp : Option Nat) : State :=
  if pk.malformed then s.dropPacket 4
  else if s.hopLimit < pk.hops then s.dropPacket 7
  else if pk.dest = s.moduleId then
    { s.present 4 (7 + 2 * pk.destPier) (s.packetAsker pk) (pk.beats 768) with
      fab := { s.fab with eject := s.fab.eject ++ [(inp.getD 6, pk)] } }
  else if s.moduleCount ≤ pk.dest then s.dropPacket 3
  else
    let k := s.nextPort pk.dest
    let pk := s.withDateline pk inp k
    match (s.port k).st with
    | .active => s.transmit k pk
    | .training => { s with fab := { s.fab with held := s.fab.held ++ [(k, pk)] } }
    | _ => s.dropPacket 3

/-! ## Requests and responses (14 R496) -/

/-- A packet leaves its Pier over the attachment to the router. -/
def State.toRouter (s : State) (pk : Packet) : State :=
  (s.present 4 (6 + 2 * pk.srcPier) (s.packetAsker pk) (pk.beats 768)).routePacket pk none

/-- Send a packet from Pier p that asks for no response. -/
def State.sendPacket (s : State) (p dest destPier tc proto seg nseg tag : Nat) (body : List Byte) : State :=
  s.toRouter (mkPacket dest s.moduleId destPier p tc proto seg nseg 0 tag body)

/-- Send a request: a fresh TAG, kept until its RESPONSE (14 R496). [DESIGN CHOICE: log entry 41] -/
def State.sendReq (s : State) (kind : ReqKind) (ident group : Nat) (pk : Nat → Packet) : State :=
  let tag := s.fab.nextTag
  let k := pk tag
  let r : Req := ⟨tag, kind, ident, group, k, false⟩
  { s with fab := { s.fab with nextTag := wrap32 (tag + 1), reqs := s.fab.reqs ++ [r] } }.toRouter k

/-- Answer a request packet with a RESPONSE of a code. -/
def State.respond (s : State) (pk : Packet) (code : Nat) : State :=
  s.toRouter (mkPacket pk.src s.moduleId pk.srcPier pk.destPier 0 4 0 1 0 pk.tag (toBytes 8 (pk.tag + code * 2 ^ 32)))

/-- WRITE packets of bytes to a region-0x0 address of another module's Pier, 4,096 bytes each. -/
def State.sendWrites (s : State) (p dest destPier : Nat) (kind : ReqKind) (ident group : Nat) : Nat → Nat → List Byte → State
  | 0, _, _ => s
  | fuel + 1, a, bs =>
    if bs.isEmpty then s else
    (s.sendReq kind ident group (fun tag => mkPacket dest s.moduleId destPier p 2 1 0 1 a tag (bs.take 4096))).sendWrites
      p dest destPier kind ident group fuel (a + 4096) (bs.drop 4096)

/-- The oldest delivered packet of a traffic class for Pier p. [DEDUCED: log entry 25] -/
def State.inboxOf (s : State) (p tc : Nat) : Option Packet :=
  (if p = 0 then s.fab.inbox0 else s.fab.inbox1).find? (fun k => k.tc = tc)

/-- Without that packet. -/
def State.takeInbox (s : State) (p tc : Nat) : State :=
  let f (l : List Packet) : List Packet :=
    match l.findIdx? (fun k => k.tc = tc) with
    | some i => l.eraseIdx i
    | none => l
  if p = 0 then { s with fab := { s.fab with inbox0 := f s.fab.inbox0 } }
  else { s with fab := { s.fab with inbox1 := f s.fab.inbox1 } }

end Sys2Proof.Machine
end

