-- ==== Sys2Proof/Machine/Trestle.lean ====
section
/-! DEFINITION. The Trestle's forward half: layer tables, routing, inboxes, answers and combine (09). -/

namespace Sys2Proof.Machine

/-! ## Instruction fields (Tables 9-2, 10-2) -/

/-- First handle. -/
def trH0 (w : Nat) : Nat := bits 21 8 w
/-- Second handle. -/
def trH1 (w : Nat) : Nat := bits 35 22 w
/-- LTE. -/
def trLte (w : Nat) : Nat := bits 45 36 w
/-- LIVE. -/
def trLive (w : Nat) : Nat := bits 53 48 w
/-- SLOTIX (Table 9-2). -/
def trSlot (w : Nat) : Nat := bits 55 46 w

/-- No reserved opcode or bit in a Trestle word (Tables 9-1, 9-2, 10-2; 09 R299). -/
def trOk (w : Nat) : Bool :=
  decide (loopOf w = 0) &&
  (match opOf w with
   | 0x00 => decide (bits 63 8 w = 0)
   | 0x10 => decide (bits 63 54 w = 0)
   | 0x11 => decide (bits 47 8 w = 0) && decide (bits 63 54 w = 0)
   | 0x12 => decide (bits 47 46 w = 0) && decide (bits 63 54 w = 0)
   | 0x13 => decide (bits 35 20 w = 0) && decide (bits 63 46 w = 0)
   | 0x14 => decide (bits 35 34 w = 0) && decide (bits 63 56 w = 0)
   | 0x15 => decide (bits 47 22 w = 0) && decide (bits 63 54 w = 0)
   | 0x30 => decide (bits 47 46 w = 0) && decide (bits 63 54 w = 0)
   | 0x31 => decide (bits 35 20 w = 0) && decide (bits 63 46 w = 0)
   | 0x32 => decide (bits 63 58 w = 0)
   | 0x33 => decide (bits 47 46 w = 0) && decide (bits 63 54 w = 0)
   | 0x34 => decide (bits 35 8 w = 0) && decide (bits 63 46 w = 0)
   | _ => false)

/-! ## Layer table (Table 9-3) -/

/-- A layer-table entry. -/
structure Layer where
  e : Nat
  k : Nat
  spill : Bool
  norm : Bool
  depth : Nat
  srcCap : Nat
  nsrc : Nat
  mySrc : Nat
  fmt : Nat
  yceil : Int
  ident : Nat
  banks : Nat
  h : Nat
  stride : Nat
  mapBase : Nat
  biasBase : Nat
  loadBase : Nat
  slotBase : Nat
  inboxBase : Nat
  nslot : Nat
  deriving DecidableEq, Repr

/-- An entry from its 64 bytes. -/
def parseLayer (r : Nat) : Layer :=
  { e := rawField r 0 2, k := bits 3 0 (rawField r 2 1), spill := bits 5 4 (rawField r 2 1) = 1, norm := bit 6 (rawField r 2 1),
    depth := rawField r 3 1, srcCap := rawField r 4 2, nsrc := rawField r 6 2, mySrc := rawField r 8 2,
    fmt := rawField r 10 1, yceil := toSigned 8 (rawField r 11 1), ident := rawField r 12 2, banks := rawField r 14 1,
    h := rawField r 16 4, stride := rawField r 20 4, mapBase := rawField r 24 6, biasBase := rawField r 30 6,
    loadBase := rawField r 36 6, slotBase := rawField r 42 6, inboxBase := rawField r 48 6, nslot := rawField r 54 2 }

/-- Layout of an inbox bank (Table 9-8): offsets of metadata, payload and scale plane, size, bytes of a row. -/
structure InboxLay where
  om : Nat
  op : Nat
  os : Nat
  size : Nat
  row : Nat
  mx : Bool
  deriving DecidableEq, Repr

/-- The layout for rows of h elements of a format. -/
def inboxLay (nsrc srcCap h fmt : Nat) : InboxLay :=
  let q := nsrc * srcCap
  let om := alignUp (nsrc * 8) 128
  let op := om + alignUp (q * 16) 128
  let os := op + alignUp (q * h * elemSize fmt) 128
  { om := om, op := op, os := os, size := os + (if isMx fmt then alignUp (q * h / 32) 128 else 0),
    row := h * elemSize fmt, mx := isMx fmt }

/-- The forward inbox layout. -/
def Layer.lay (l : Layer) : InboxLay := inboxLay l.nsrc l.srcCap l.h l.fmt

/-- Offset of the inbox bank of a slot for a generation (09 R315, 10 R341). -/
def bankOff (base banks stride slot gen : Nat) : Nat := base + (slot * banks + gen % banks) * stride

/-- A region-0x0 address with its alignment. -/
def addrOk (a m : Nat) : Bool := decide (a < fastSize) && decide (a % m = 0)

/-- No reserved value in a layer-table entry (Table 9-3). -/
def layerOk (r : Nat) : Bool :=
  let l := parseLayer r
  let cfg := rawField r 2 1
  decide (1 ≤ l.e && l.e ≤ 4096) && decide (1 ≤ l.k && l.k ≤ 8 && l.k ≤ l.e) && decide (bits 5 4 cfg < 2) && !bit 7 cfg
    && decide (l.depth ≤ (if l.spill then 7 else 0)) && decide (l.srcCap ≠ 0) && decide (1 ≤ l.nsrc && l.nsrc ≤ 4096)
    && decide (l.mySrc < l.nsrc) && decide (l.fmt < 6) && decide (1 ≤ l.banks && l.banks ≤ 4) && decide (rawField r 15 1 = 0)
    && decide (1 ≤ l.h && l.h ≤ 65536) && (!isMx l.fmt || decide (l.h % 32 = 0))
    && decide (l.stride % 128 = 0) && decide (l.lay.size ≤ l.stride)
    && addrOk l.mapBase 8 && addrOk l.biasBase 16 && addrOk l.loadBase 32 && addrOk l.slotBase 64
    && decide (l.inboxBase < fastSize) && decide (l.nslot ≤ 1024) && decide (rawField r 56 8 = 0)

/-- The Trestle of Pier p as it reads its tables at a latch, or works outside an instruction. -/
def Asker.trestle (p : Nat) : Asker := Asker.queue p 80 0

/-- The Trestle reads n bytes of Pier p's fast tier from an offset on, without a descriptor (07 R244, R250, R269). -/
def State.readTable (s : State) (p off n : Nat) : State := s.touchReadRun (Asker.trestle p) 0 ffPattern (pkey (spFast p) off, n)

/-- Offset of layer-table entry LTE of Pier p. -/
def State.layerOff (s : State) (p lte : Nat) : Nat := s.odv 0 0x5000 (p + 1) + lte * 64

/-- Entry LTE of Pier p, raw (09 R301). -/
def State.rawLayer (s : State) (p lte : Nat) : Nat := s.num (pkey (spFast p) (s.layerOff p lte)) 64

/-- LTE names an entry in use. -/
def State.lteUsed (s : State) (p lte : Nat) : Bool := decide (lte < s.odv 0 0x5006 (p + 1))

/-- Entry e of the expert map, raw (Table 9-4). -/
def State.mapEntry (s : State) (p : Nat) (l : Layer) (e : Nat) : Nat := s.num (pkey (spFast p) (l.mapBase + 8 * e)) 8

/-- Holder of a map entry: module, Pier, slot. -/
def holderOf (m : Nat) : Nat × Nat × Nat := (bits 15 0 m, bits 16 16 m, bits 26 17 m)

/-- BIAS of expert e (09 R308). -/
def State.bias (s : State) (p : Nat) (l : Layer) (e : Nat) : Int :=
  toSigned 32 (s.num (pkey (spFast p) (l.biasBase + 16 * e)) 4)

/-! ## Slot table (Tables 9-5, 9-6) -/

/-- Entry i of a slot table, raw. -/
def State.rawSlot (s : State) (p base i : Nat) : Nat := s.num (pkey (spFast p) (base + 64 * i)) 64

/-- EXPERT of a slot entry. -/
def slotExpert (r : Nat) : Nat := rawField r 0 2
/-- SLOT. -/
def slotNo (r : Nat) : Nat := rawField r 2 2
/-- IDX. -/
def slotIdx (r : Nat) : Nat := rawField r 4 2
/-- Patch words. -/
def slotPatches (r : Nat) : List Nat := (List.range 14).map (fun i => rawField r (8 + 4 * i) 4)

/-- No reserved encoding in a patch word (09 R303, Table 9-6). [DEDUCED: log entry 24] -/
def patchOk (w : Nat) : Bool :=
  match bits 15 14 w with
  | 0 => decide (w = 0)
  | 1 => decide (bits 31 16 w = 0)
  | 2 => decide (bits 13 0 w < 1024) && decide (bits 22 18 w ≤ 16) && decide (bits 31 23 w = 0)
  | _ => false

/-- No reserved encoding in a slot entry. -/
def slotOk (r : Nat) : Bool :=
  decide (slotExpert r < 4096) && decide (slotNo r < 1024) && decide (slotIdx r < 2 ^ 14) && decide (rawField r 6 2 = 0)
    && (slotPatches r).all patchOk

/-- A patch TARGET that Table 9-14 forbids: loop-nest entry 0. [DEDUCED: log entry 24] -/
def patchFault (w : Nat) : Bool := decide (bits 15 14 w = 2) && decide (bits 13 0 w = 0)

/-- The IDX check of Table 9-14. -/
def idxOk (p : Nat) (l : Layer) (d : Desc) : Bool :=
  decide (d.fmt = 9) &&
    (match physOf p d.base, physOf p (d.base + (4 * l.nsrc * l.srcCap : Nat) - 1) with
     | some a, some b => decide (pspace a = pspace b)
     | _, _ => false)

/-! ## Latch and completion on queue 80 (09 R299, R300) -/

/-- OPERAND_FAULT of the instruction at the head, which has latched. [DEDUCED: log entry 24] -/
def State.trFault (s : State) (p w operand : Nat) (addr : Int) : State :=
  let f := s.newFlight p 80 w [] Nest.one false
  (s.advance p 80 w).operandFault p 80 f 0 operand addr

/-- A null completion, counted (OD 0x5010.0B). -/
def State.trNull (s : State) (p w : Nat) : State := (s.bump64 0 (0x5010 + p) 11 1).nullHead p 80 w

/-- Instructions whose work is done leave in queue order, each posting its signal (09 R300). -/
def State.retire (s : State) (p q : Nat) : Nat → State
  | 0 => s
  | n + 1 =>
    match (s.queue p q).flights with
    | [] => s
    | f :: t => if f.null then ((s.setFlights p q t).finish p 0 f).retire p q n else s

/-- Flight k of a queue. -/
def State.flight (s : State) (p q k : Nat) : Option Flight := (s.queue p q).flights[k]?

/-- Replace flight k. -/
def State.putFlight (s : State) (p q k : Nat) (f : Flight) : State :=
  s.setFlights p q ((s.queue p q).flights.set k f)

/-- The work of flight k is done: its regions end, and it leaves once those before it have (09 R300). -/
def State.workDone (s : State) (p q k : Nat) : State :=
  match s.flight p q k with
  | none => s
  | some f =>
    let s := f.guards.foldl (fun s r => s.guardEnd r) s
    let s := (s.dropReqs (f.args.getD 0 0)).putFlight p q k { f with guards := [], null := true }
    s.retire p q ((s.queue p q).flights.length)

/-- The flight of an instruction by its identity. -/
def State.flightOf (s : State) (p q ident : Nat) : Option Nat :=
  (s.queue p q).flights.findIdx? (fun f => !f.null && decide (f.args.getD 0 0 = ident))

/-- A Trestle event record (Table 9-15). -/
def State.trEvent (s : State) (p code key d0 d1 : Nat) : State :=
  s.ringPut (.trestle p) (fun q => eventRec s.recEpoch key code ((Ring.trestle p).mid s.commit.attempt) q d0 d1)

/-- An event recorded once in the attempt: marks 6 OVERFLOW, 7 NAN_TOKEN by layer, 8 STALE_ANSWER by entry. -/
def State.trOnce (s : State) (p kind ident code key d0 d1 : Nat) : State :=
  if s.isFirst kind (p * 65536 + ident) then (s.setOnce kind (p * 65536 + ident)).trEvent p code key d0 d1 else s

/-! ## Live entries (Table 9-11) -/

/-- Live entry i. -/
def State.liveAt (s : State) (p i : Nat) : LiveEntry := Tab.get LiveEntry.zero (s.pier p).live i

/-- Replace it. -/
def State.setLive (s : State) (p i : Nat) (e : LiveEntry) : State :=
  s.modPier p (fun r => { r with live := Tab.set LiveEntry.zero r.live i e })

/-- Every write of instruction `ident` is globally visible: no packet of it is unanswered, no request of it waits, no slow-tier
write waits for the host (07 R252). -/
def State.allVisible (s : State) (ident : Nat) : Bool :=
  !(s.fab.reqs.any (fun r => r.ident = ident)) && !(s.fab.after.any (fun r => r.ident = ident)) && !s.asking ident
    && s.host.snoopWait.isEmpty

/-- Flight k, its writes made, completes once they are visible (07 R252). -/
def State.whenVisible (s : State) (p k : Nat) : State :=
  match s.flight p 80 k with
  | some f => if s.allVisible (f.args.getD 0 0) then s.workDone p 80 k else s
  | none => s

/-- A flight that waits on live entry i: CEXPORT or GGRAD. -/
def Flight.onLive (f : Flight) (i : Nat) : Bool :=
  !f.null && !f.running && (opOf f.word = 0x15 || opOf f.word = 0x33) && decide (trLive f.word = i)

/-- Instructions that wait on an entry that has left LIVE complete as null completions (09 R329, 10 R353). -/
def State.dropWaits (s : State) (p i : Nat) : State :=
  let n := ((s.queue p 80).flights.filter (fun f => f.onLive i)).length
  let s := s.bump64 0 (0x5010 + p) 11 n
  let s := s.setFlights p 80 ((s.queue p 80).flights.map (fun f => if f.onLive i then { f with null := true } else f))
  s.retire p 80 ((s.queue p 80).flights.length)

/-- LIVE to QUIET. [DEDUCED: log entry 25] -/
def State.quiet (s : State) (p i : Nat) : State :=
  let e := s.liveAt p i
  if e.st = .live then (s.setLive p i { e with st := .quiet }).dropWaits p i else s

/-- GOPEN's checks of HC and HR (09 R320). -/
def gopenFault (p : Nat) (hc hr : Desc) : Option Nat :=
  let t := hc.extent 1
  let h := hc.extent 0
  if !(decide (hc.fmt = 8) && decide (hc.base / 2 ^ 44 = 0) && hc.flat2 && decide (hc.stride.getD 0 0 = (h * 16 : Nat))
      && hc.inRegion p && decide (hc.base.toNat + t * h * 16 + 8 * t ≤ fastSize)) then some 0
  else if !(decide (hr.fmt = 9) && hr.inRegion p) then some 1
  else none

/-- Latch of GOPEN. -/
def State.gopen (s : State) (p w : Nat) : State :=
  let i := trLive w
  let e := s.liveAt p i
  match s.latchAll p [trH0 w, trH1 w] with
  | none => s.descFault p 80 [trH0 w, trH1 w] (fun k => k)
  | some ops =>
    let hc := (ops.getD 0 Held.none).d
    let hr := (ops.getD 1 Held.none).d
    if e.st = .quiet then s
    else
      match gopenFault p hc hr with
      | some k => s.trFault p w k (if k = 0 then hc.base else hr.base)
      | none =>
        if e.st = .live then s.trFault p w 7 0
        else (s.setLive p i { LiveEntry.zero with st := .live, gen := bits 47 36 w, hc := hc, hr := hr }).nullHead p 80 w

/-- Latch of GCANCEL: the cancel of a backward entry faults the attempt (10 R366). -/
def State.gcancel (s : State) (p w : Nat) : State :=
  let i := trLive w
  let e := s.liveAt p i
  let s := s.nullHead p 80 w
  if e.st = .live then
    let s := s.quiet p i
    if e.backward then (s.bump32 0 (0x5050 + p) 8 1).markFaulted else s
  else s

/-- GEN_QUIET_EXPIRY. [DEDUCED: log entry 25] -/
def State.genQuiet (s : State) (p i : Nat) : State :=
  if (s.liveAt p i).st = .quiet then s.setLive p i LiveEntry.zero else s

/-! ## Selection (09 R305 to R313) -/

/-- Insert an expert by descending biased score, ties by ascending index. -/
def insertScore (b : Nat → Val) (e : Nat) : List Nat → List Nat
  | [] => [e]
  | x :: t => if 0 < (b e).cmp (b x) then e :: x :: t else x :: insertScore b e t

/-- `order[t]`: experts by descending biased score. -/
def scoreOrder (n : Nat) (b : Nat → Val) : List Nat := (List.range n).foldl (fun l e => insertScore b e l) []

/-- The biased score (09 R307). -/
def biased (v : Val) (bias : Int) : Val := (v.add (valOfInt false bias (-24))).round .b32

/-- A copy of a token for an expert. -/
structure RCopy where
  t : Nat
  r : Nat
  e : Nat
  row : Nat
  state : Nat
  gate : Nat
  deriving DecidableEq, Repr

/-- What `route` knows of a token: its scores, their order, D; the kind of a token that is not routed. -/
structure Token where
  scores : List Val
  order : List Nat
  denom : Val
  bad : Option XaVal
  deriving DecidableEq, Repr

/-- A token from its score row and the latched bias. -/
def mkToken (k : Nat) (norm : Bool) (row : List Val) (bias : List Int) : Token :=
  let bad := if row.any (fun v => decide (v = .poison)) then some XaVal.poison
    else if row.any Val.isNan then some XaVal.nan else none
  let b := (row.zip bias).map (fun x => biased x.1 x.2)
  let o := if bad.isSome then [] else scoreOrder row.length (fun e => b.getD e .nan)
  { scores := row, order := o, bad := bad,
    denom := if norm then exactSum ((o.take k).map (fun e => row.getD e .nan)) else .fin false 1 0 }

/-- The gate of a copy. -/
def Token.gate (t : Token) (e : Nat) : Nat := (convert .b32 ((t.scores.getD e .nan).div .b32 t.denom)).1

/-- One placement round: rows in use, copies placed, copies that overflow. -/
def placeRound (cap round : Nat) (tok : Nat → Token) : List RCopy → Tab Nat → Tab Nat × List RCopy × List RCopy
  | [], used => (used, [], [])
  | c :: t, used =>
    let n := Tab.get 0 used c.e
    if n < cap then
      let r := placeRound cap round tok t (Tab.set 0 used c.e (n + 1))
      (r.1, { c with row := n, state := min round 1, gate := (tok c.t).gate c.e } :: r.2.1, r.2.2)
    else
      let r := placeRound cap round tok t used
      (r.1, r.2.1, c :: r.2.2)

/-- Next choices of the overflowing copies, by token; those with no expert left are dropped. [DEDUCED: log entry 24] -/
def nextChoices (tok : Nat → Token) : List RCopy → Tab Nat → Tab Nat × List RCopy × List RCopy
  | [], nxt => (nxt, [], [])
  | c :: t, nxt =>
    let n := Tab.get 0 nxt c.t
    match (tok c.t).order[n]? with
    | some e =>
      let r := nextChoices tok t (Tab.set 0 nxt c.t (n + 1))
      (r.1, { c with e := e } :: r.2.1, r.2.2)
    | none =>
      let r := nextChoices tok t nxt
      (r.1, r.2.1, c :: r.2.2)

/-- A dropped copy (STATE 0x2). [DEDUCED: log entry 24] -/
def RCopy.dropped (tok : Nat → Token) (c : RCopy) : RCopy := { c with row := 0, state := 2, gate := (tok c.t).gate c.e }

/-- Placement rounds from `round` on (09 R311). -/
def placeAll (l : Layer) (tok : Nat → Token) : Nat → Nat → List RCopy → Tab Nat → Tab Nat → List RCopy
  | 0, _, pending, _, _ => pending.map (RCopy.dropped tok)
  | fuel + 1, round, pending, used, nxt =>
    let r := placeRound l.srcCap round tok pending used
    if r.2.2.isEmpty then r.2.1
    else if !l.spill || round = l.depth then r.2.1 ++ r.2.2.map (RCopy.dropped tok)
    else
      let n := nextChoices tok r.2.2 nxt
      r.2.1 ++ n.2.2.map (RCopy.dropped tok) ++ placeAll l tok fuel (round + 1) n.2.1 r.1 n.1

/-- The first choices, in (token, rank) order. -/
def firstCopies (l : Layer) (ts : List Token) : List RCopy :=
  ((List.range ts.length).zip ts).flatMap (fun x =>
    if x.2.bad.isSome then []
    else ((List.range l.k).zip (x.2.order.take l.k)).map (fun y => (⟨x.1, y.1, y.2, 0, 0, 0⟩ : RCopy)))

/-- `route` (09 R311): every copy with its place. -/
def routeCopies (l : Layer) (ts : List Token) : List RCopy :=
  let tok (t : Nat) : Token := ts.getD t ⟨[], [], .nan, none⟩
  let first := firstCopies l ts
  placeAll l tok (l.depth + 1) 0 first [] (((List.range ts.length).map (fun t => (t, l.k))))

/-! ## Combine rows (09 R320, R322, R324, R327) -/

/-- Physical offset of the status record of row t of HC. -/
def combStat (hc : Desc) (t : Nat) : Nat := hc.base.toNat + hc.extent 1 * hc.extent 0 * 16 + 8 * t

/-- Physical offset of word j of row t of HC. -/
def combWord (hc : Desc) (t j : Nat) : Nat := hc.base.toNat + (t * hc.extent 0 + j) * 16

/-- Combine anchor (09 R322). -/
def combAnchor (yceil : Int) (gates : List Nat) : Int :=
  match maxInt? (gates.filterMap (fun g => (decode .b32 g).ilog2)) with
  | some g => clampInt (-32768) 32767 (g + yceil - 18)
  | none => 0

/-- Adder operations on the granules of a run, for k (07 R253, R269). -/
def State.adderTouch (s : State) (p off n : Nat) (k : Asker) (pattern : List Byte) : State :=
  (List.range ((off + n + 127) / 128 - off / 128)).foldl (fun s i => s.adderEvict p ((off / 128 + i) * 128) k pattern) s

/-- Add a row of terms to combine row t, words and status record (07 R253, 09 R327, 10 R352). -/
def State.combineRow (s : State) (p : Nat) (k : Asker) (hc : Desc) (t : Nat) (ys : List Val) : State :=
  let s := (s.adderTouch p (combWord hc t 0) (16 * ys.length) k (uePattern 8)).adderTouch p (combStat hc t) 8 k ffPattern
  let st := XaStat.ofNat (s.num (pkey (spFast p) (combStat hc t)) 8)
  let r := ((List.range ys.length).zip ys).foldl (fun (a : State × XaStat) y =>
    let k := pkey (spFast p) (combWord hc t y.1)
    let o := addTerm y.2 (if st.empty then .fin 0 else xaOfWord (a.1.num k 16)) a.2
    (a.1.setNum k 16 (wordOfXa o.1), o.2)) (s, st)
  r.1.setNum (pkey (spFast p) (combStat hc t)) 8 r.2.toNat

/-- An answer as the home takes it. -/
structure Answer where
  live : Nat
  tok : Nat
  rank : Nat
  gen : Nat
  back : Bool
  /-- GATE, or P -/
  word : Nat
  ys : List Val
  deriving DecidableEq, Repr

/-- Where a backward answer's P goes: its HG element (10 R352). -/
def LiveEntry.hgAt (e : LiveEntry) (p : Nat) (a : Answer) : Option Nat := physOf p (e.hg.addr (a.tok * e.k + a.rank))

/-- HG element of a backward answer (10 R352). -/
def State.storeP (s : State) (p : Nat) (k : Asker) (e : LiveEntry) (a : Answer) : State :=
  match e.hgAt p a with
  | some x => s.storeRun k e.hg.hint x (toBytes 4 a.word)
  | none => s

end Sys2Proof.Machine
end

