-- ==== Sys2Proof/Machine/Route.lean ====
section
/-! DEFINITION. The Trestle's movements: scatter, inboxes, answers, and the forward rows of the table (09). -/

namespace Sys2Proof.Machine

/-! ## Local writes of an instruction -/

/-- The Trestle of Pier p for a flight, named by its identity. -/
def Flight.trestle (f : Flight) (p : Nat) : Asker := Asker.queue p 80 (f.args.getD 0 0)

/-- A write by an instruction of Pier p at a physical address, under a hint: guard regions, the access, the bytes. -/
def State.writeBy (s : State) (p : Nat) (f : Flight) (hint k : Nat) (bs : List Byte) : State × Flight :=
  let g := s.guardRuns f.guards [(k, bs.length)]
  (g.1.storeRun (f.trestle p) hint k bs, { f with guards := g.2 })

/-- Several writes. -/
def State.writesBy (s : State) (p : Nat) (f : Flight) (hint : Nat) (l : List (Nat × List Byte)) : State × Flight :=
  l.foldl (fun a x => a.1.writeBy p a.2 hint x.1 x.2) (s, f)

/-- An instruction adds to an UNSIGNED32 word of a fast tier: address, amount. -/
def State.addWord (s : State) (p : Nat) (f : Flight) (x : Nat × Nat) : State × Flight :=
  let g := s.guardRuns f.guards [(x.1, 4)]
  let s := g.1.touchWriteRun (f.trestle p) 0 ffPattern (x.1, 4)
  (s.setNum x.1 4 (wrap32 (s.num x.1 4 + x.2)), { f with guards := g.2 })

/-- Several additions. -/
def State.addWords (s : State) (p : Nat) (f : Flight) (l : List (Nat × Nat)) : State × Flight :=
  l.foldl (fun a x => a.1.addWord p a.2 x) (s, f)

/-- A write to offset `off` of the fast tier of a Pier of a module: at once here, by WRITE packets elsewhere. -/
def State.writeTo (s : State) (p : Nat) (f : Flight) (kind : ReqKind) (ident group m mp off : Nat) (bs : List Byte) :
    State × Flight :=
  if m = s.moduleId then s.writeBy p f 0 (pkey (spFast mp) off) bs
  else (s.sendWrites p m mp kind ident group (bs.length + 1) off bs, f)

/-! ## Scatter (09 R316, 10 R343, R345) -/

/-- A row to scatter: its slot group, its place in this source's part, payload, scale bytes, metadata. -/
structure SRow where
  group : Nat × Nat × Nat
  row : Nat
  data : List Byte
  scales : List Byte
  md : List Byte
  deriving DecidableEq, Repr

/-- Metadata row (Table 9-9). -/
def metaRow (m p r live t gen gate : Nat) : List Byte :=
  toBytes 16 (m % 2 ^ 16 + p * 2 ^ 16 + (r % 8) * 2 ^ 17 + (live % 64) * 2 ^ 24 + (t % 2 ^ 16) * 2 ^ 32 + (gen % 2 ^ 12) * 2 ^ 48
    + (gate % 2 ^ 32) * 2 ^ 64)

/-- Arrival record (Table 9-10). -/
def arrivalRec (count gen : Nat) : List Byte := toBytes 8 (count % 2 ^ 32 + (gen % 2 ^ 12) * 2 ^ 32 + 2 ^ 48)

/-- Scatter one row into its bank. -/
def State.scatterRow (s : State) (p : Nat) (f : Flight) (ident gi : Nat) (lay : InboxLay) (bank q : Nat) (r : SRow) :
    State × Flight :=
  let h := r.group
  let a := s.writeTo p f .row ident gi h.1 h.2.1 (bank + lay.op + q * lay.row) r.data
  let a := a.1.writeTo p a.2 .row ident gi h.1 h.2.1 (bank + lay.om + q * 16) r.md
  if lay.mx then a.1.writeTo p a.2 .row ident gi h.1 h.2.1 (bank + lay.os + q * r.scales.length) r.scales else a

/-- The arrival record of a group: at once where none of its rows is outstanding, else after them. -/
def State.scatterRecord (s : State) (p : Nat) (f : Flight) (ident gi : Nat) (h : Nat × Nat × Nat) (off : Nat) (bs : List Byte) :
    State × Flight :=
  if h.1 = s.moduleId then s.writeBy p f 0 (pkey (spFast h.2.1) off) bs
  else if s.fab.reqs.any (fun r => decide (r.ident = ident) && decide (r.group = gi) && decide (r.kind = .row)) then
    let k := mkPacket h.1 s.moduleId h.2.1 p 2 1 0 1 off 0 bs
    ({ s with fab := { s.fab with after := s.fab.after ++ [⟨ident, gi, k⟩] } }, f)
  else (s.sendWrites p h.1 h.2.1 .arrival ident gi 2 off bs, f)

/-- Scatter the rows and write the arrival record of every group, in one step: the rotation of R300 between instructions only
orders packets of different instructions. `bank` gives a slot's bank. [DESIGN CHOICE: log entry 80] -/
def State.scatter (s : State) (p : Nat) (f : Flight) (ident : Nat) (lay : InboxLay) (l : Layer) (gen : Nat) (bank : Nat → Nat)
    (groups : List (Nat × Nat × Nat)) (rows : List SRow) : State × Flight :=
  let gi (h : Nat × Nat × Nat) : Nat := (groups.findIdx? (fun g => decide (g = h))).getD 0
  let a := rows.foldl (fun (a : State × Flight) r =>
    a.1.scatterRow p a.2 ident (gi r.group) lay (bank r.group.2.2) (l.mySrc * l.srcCap + r.row) r) (s, f)
  groups.foldl (fun (a : State × Flight) h =>
    let n := (rows.filter (fun r => decide (r.group = h))).length
    a.1.scatterRecord p a.2 ident (gi h) h (bank h.2.2 + 8 * l.mySrc) (arrivalRec n gen)) a

/-- The rows of a group have become visible: its arrival record is sent. -/
def State.rowsVisible (s : State) (ident gi : Nat) : State :=
  if s.fab.reqs.any (fun r => decide (r.ident = ident) && decide (r.group = gi) && decide (r.kind = .row)) then s else
  match s.fab.after.find? (fun a => decide (a.ident = ident) && decide (a.group = gi)) with
  | none => s
  | some a =>
    let s := { s with fab := { s.fab with after := s.fab.after.filter (fun x => !(decide (x.ident = ident) && decide (x.group = gi))) } }
    s.sendReq .arrival ident gi (fun tag => mkPacket a.pkt.dest s.moduleId a.pkt.destPier a.pkt.srcPier 2 1 0 1 a.pkt.addr tag a.pkt.body)

/-! ## Source rows -/

/-- Poison as the Trestle reads it: a stale use, or a region that any engine owns. -/
def State.trRaw (s : State) (p : Nat) (l : Held) (i : Nat) : Nat :=
  if l.stale || s.elemForeign p 0 l i then poisonRaw l.d.fmt else s.readRaw p l.d i

/-- The bytes of row t, and its scale bytes. -/
def State.trRow (s : State) (p : Nat) (l : Held) (t : Nat) : List Byte × List Byte :=
  let n := l.d.extent 0
  let is := (List.range n).map (t * n + ·)
  (is.flatMap (fun i => toBytes (elemSize l.d.fmt) (s.trRaw p l i)),
   if isMx l.d.fmt then
     (is.filter (fun i => i % n % 32 = 0)).map (fun i =>
       if l.stale || (List.range 32).any (fun j => s.elemForeign p 0 l (i + j)) then 0xFF else BitVec.ofNat 8 (s.readScale p l i))
   else [])

/-- SCHED_FAULT of a Trestle instruction, once, for the first foreign region of its sources. -/
def State.trSched (s : State) (p : Nat) (f : Flight) (ops : List (Nat × Held)) : State :=
  match s.firstForeign p 0 (ops.filter (fun o => !o.2.stale)) with
  | some r => s.schedFault p 80 f 0 (regionAddr r.2) (s.regionOwner r.2) r.1
  | none => s

/-- Operands fail their placement: outside a region, or an MX plane outside it. -/
def badPlace (p : Nat) (l : Held) : Bool := !(l.d.inRegion p && planeIn p l)

/-! ## ROUTE (09 R305 to R316, R320, R322) -/

/-- First check of ROUTE that fails: operand position, or 7 (Tables 9-11, 9-14). -/
def State.routeFault (s : State) (p w : Nat) (l : Layer) (ops : List Held) : Option Nat :=
  let e := s.liveAt p (trLive w)
  let hs := ops.getD 0 Held.none
  let hx := ops.getD 1 Held.none
  let t := hs.d.extent 1
  let maps := (List.range l.e).map (s.mapEntry p l)
  if e.st ≠ .live || e.routed then some 7
  else if !(decide (hs.d.fmt = 6) && decide (hs.d.extent 0 = l.e) && hs.d.flat2) || badPlace p hs then some 0
  else if !(decide (hx.d.fmt = l.fmt) && decide (hx.d.extent 0 = l.h) && decide (hx.d.extent 1 = t) && hx.d.flat2) || badPlace p hx then some 1
  else if !(decide (e.hc.extent 0 = l.h) && decide (e.hc.extent 1 = t)) || decide (e.hr.count < 2 * t * l.k) then some 7
  else if maps.any (fun m => !bit 27 m
      || decide (fastSize < bankOff l.inboxBase l.banks l.stride (holderOf m).2.2 e.gen + l.lay.size)) then some 7
  else none

/-- Tokens of a score tensor. -/
def State.tokens (s : State) (p : Nat) (l : Layer) (hs : Held) : List Token :=
  let bias := (List.range l.e).map (s.bias p l)
  (List.range (hs.d.extent 1)).map (fun t =>
    mkToken l.k l.norm ((List.range l.e).map (fun e => s.readVal p 0 hs (t * l.e + e))) bias)

/-- A route-record entry (Table 9-7). -/
def routeEntry (c : RCopy) : List Byte := toBytes 8 (c.e % 2 ^ 12 + c.state * 2 ^ 12 + (c.row % 2 ^ 16) * 2 ^ 16 + c.gate * 2 ^ 32)

/-- Entries of token t in rank order; STATE 0x3 for a token that is not routed. -/
def tokenCopies (l : Layer) (cs : List RCopy) (t : Nat) (bad : Bool) : List RCopy :=
  (List.range l.k).map (fun r =>
    if bad then ⟨t, r, 0, 0, 3, 0⟩
    else (cs.find? (fun c => c.t = t && c.r = r)).getD ⟨t, r, 0, 0, 2, 0⟩)

/-- Combine row of token t as ROUTE starts it: every word of a token that is not routed, and the status record. -/
def combStart (hc : Desc) (t : Nat) (bad : Option XaVal) (anchor : Int) : List (Nat × List Byte) :=
  match bad with
  | none => [(combStat hc t, toBytes 8 (XaStat.start anchor).toNat)]
  | some k =>
    (List.range (hc.extent 0)).map (fun j => (combWord hc t j, toBytes 16 (wordOfXa k)))
      ++ [(combStat hc t, toBytes 8 ({ XaStat.start 0 with empty := false, nanf := decide (k = .nan), poisonf := decide (k = .poison) } : XaStat).toNat)]

/-- Holders of a layer's experts, each once. -/
def State.holders (s : State) (p : Nat) (l : Layer) : List (Nat × Nat × Nat) :=
  ((List.range l.e).map (fun e => holderOf (s.mapEntry p l e))).eraseDups

/-- ATT_DEMAND of the first choices (09 R308), as additions. -/
def demandAdds (p : Nat) (l : Layer) (cs : List RCopy) : List (Nat × Nat) :=
  cs.map (fun c => (pkey (spFast p) (l.biasBase + 16 * c.e + 4), 1))

/-- Counter additions of a ROUTE at LOAD_BASE (09 R333). -/
def loadAdds (p : Nat) (l : Layer) (first cs : List RCopy) : List (Nat × Nat) :=
  let at_ (e b : Nat) : Nat × Nat := (pkey (spFast p) (l.loadBase + 32 * e + b), 1)
  first.map (fun c => at_ c.e 0) ++ (cs.filter (fun c => c.state < 2)).map (fun c => at_ c.e 4)
    ++ (cs.filter (fun c => c.state = 1)).map (fun c => at_ c.e 8) ++ (cs.filter (fun c => c.state = 2)).map (fun c => at_ c.e 12)

/-- Events of a ROUTE: NAN_TOKEN, OVERFLOW. -/
def State.routeEvents (s : State) (p : Nat) (l : Layer) (ts : List Token) (spilled dropped : Nat) : State :=
  let bad := (List.range ts.length).filter (fun t => match ts[t]? with | some x => x.bad.isSome | none => false)
  let s := s.bump32 0 (0x5010 + p) 6 bad.length
  let s := match bad with
    | [] => s
    | t :: _ => s.trOnce p 7 l.ident 3 l.ident t bad.length
  if spilled + dropped = 0 then s else s.trOnce p 6 l.ident 2 l.ident spilled dropped

/-- ROUTE, its checks passed. -/
def State.routeRun (s : State) (p w : Nat) (l : Layer) (ops : List Held) : State :=
  let i := trLive w
  let e := s.liveAt p i
  let ident := s.reqIdent p 80
  let g := s.guardCheck p 80 { s.newFlight p 80 w ops Nest.one false with args := [ident] } [0, 1]
  let hs := g.2.ops.getD 0 Held.none
  let hx := g.2.ops.getD 1 Held.none
  let s := (g.1.trSched p g.2 [(0, hs), (1, hx)]).advance p 80 w
  let s := (s.readOperand p (g.2.trestle p) hs).readOperand p (g.2.trestle p) hx
  let ts := s.tokens p l hs
  let first := firstCopies l ts
  let cs := routeCopies l ts
  let placed := cs.filter (fun c => c.state < 2)
  let spilled := (cs.filter (fun c => c.state = 1)).length
  let dropped := (cs.filter (fun c => c.state = 2)).length
  let a := s.addWords p g.2 (demandAdds p l first)
  let s := a.1.routeEvents p l ts spilled dropped
  let s := s.setLive p i { e with routed := true, k := l.k }
  let tn := (List.range ts.length).zip ts
  let hr := match physOf p e.hr.base with
    | some k => tn.map (fun x => (k + x.1 * l.k * 8, (tokenCopies l cs x.1 x.2.bad.isSome).flatMap routeEntry))
    | none => []
  let comb := tn.flatMap (fun x =>
    combStart e.hc x.1 x.2.bad (combAnchor l.yceil ((placed.filter (fun c => c.t = x.1)).map (·.gate))))
  let a := s.writesBy p a.2 e.hr.hint hr
  let a := a.1.writesBy p a.2 0 (comb.map (fun x => (pkey (spFast p) x.1, x.2)))
  let rows := placed.map (fun c =>
    let b := s.trRow p hx c.t
    (⟨holderOf (s.mapEntry p l c.e), c.row, b.1, b.2, metaRow s.moduleId p c.r i c.t e.gen c.gate⟩ : SRow))
  let a := a.1.scatter p a.2 ident l.lay l e.gen (fun slot => bankOff l.inboxBase l.banks l.stride slot e.gen)
    (s.holders p l) rows
  a.1.pushFlight p 80 { a.2 with
    args := [ident, e.gen, ts.length - (ts.filter (fun t => t.bad.isSome)).length, placed.length, spilled, dropped],
    adds := loadAdds p l first cs }

/-- The layer-table entry that LTE names is read. -/
def State.readLayer (s : State) (p w : Nat) : State := s.readTable p (s.layerOff p (trLte w)) 64

/-- A latched layer, or what its latch raises: ENC_FAULT of the entry, OPERAND_FAULT of the LTE (09 R301). -/
def State.withLayer (s : State) (p w : Nat) (go : State → Layer → State) : State :=
  if !s.lteUsed p (trLte w) then s.trFault p w 7 0
  else
    let s := s.readLayer p w
    if !layerOk (s.rawLayer p (trLte w)) then s.headFault p 80 1
    else go s (parseLayer (s.rawLayer p (trLte w)))

/-- Latched operands, or ENC_FAULT of the descriptor of a handle: the instruction's own at its position, an IDX handle of a slot
entry as 7. [DEDUCED: log entry 21] -/
def State.withOps (s : State) (p : Nat) (hs : List Nat) (own : Nat) (go : List Held → State) : State :=
  match s.latchAll p hs with
  | none => s.descFault p 80 hs (fun k => if k < own then k else 7)
  | some ops => go ops

/-- The expert map and the bias array of a layer are read. -/
def State.readMap (s : State) (p : Nat) (l : Layer) : State :=
  (s.readTable p l.mapBase (8 * l.e)).readTable p l.biasBase (16 * l.e)

/-- OPERAND_FAULT with the operand at a position, 7 for none. -/
def State.trFaultAt (s : State) (p w k : Nat) (ops : List Held) : State :=
  s.trFault p w k (if k < 7 then (ops.getD k Held.none).d.base else 0)

/-- Latch of ROUTE. -/
def State.route (s : State) (p w : Nat) : State :=
  s.withOps p [trH0 w, trH1 w] 2 (fun ops => s.withLayer p w (fun s l =>
    let s := s.readMap p l
    if ((List.range l.e).map (s.mapEntry p l)).any (fun m => decide (m / 2 ^ 28 ≠ 0)) then s.headFault p 80 1
    else match s.routeFault p w l ops with
      | some k => s.trFaultAt p w k ops
      | none => s.routeRun p w l ops))

/-- ROUTE_COMPLETE of flight k (Table 9-11, 09 R333). -/
def State.routeComplete (s : State) (p k : Nat) : State :=
  match s.flight p 80 k with
  | none => s
  | some f =>
    if f.null || opOf f.word ≠ 0x12 || !s.allVisible (f.args.getD 0 0) then s else
    let n (j : Nat) : Nat := f.args.getD j 0
    let e := s.liveAt p (trLive f.word)
    let s := if e.st = .live && decide (e.gen = n 1) then s.setLive p (trLive f.word) { e with expected := n 3, sent := true } else s
    let a := s.addWords p f f.adds
    let s := a.1.putFlight p 80 k a.2
    let s := (((s.bump64 0 (0x5010 + p) 1 1).bump64 0 (0x5010 + p) 2 (n 2)).bump64 0 (0x5010 + p) 3 (n 3)).bump64 0 (0x5010 + p) 4 (n 4)
    (s.bump64 0 (0x5010 + p) 5 (n 5)).workDone p 80 k

/-! ## INBOX (09 R317, R318) -/

/-- What an inbox instruction latched. -/
structure InboxJob where
  l : Layer
  gen : Nat
  /-- base, banks and stride of its inbox area -/
  base : Nat
  banks : Nat
  stride : Nat
  slots : List Nat
  idx : List Held
  deriving DecidableEq, Repr

/-- The job of an INBOX or GINBOX in flight: args are identity, GEN, layer, backward extension, slots. -/
def inboxJob (f : Flight) : InboxJob :=
  let l := parseLayer (f.args.getD 2 0)
  let x := f.args.getD 3 0
  let back := decide (opOf f.word = 0x31)
  { l := l, gen := f.args.getD 1 0,
    base := if back then rawField x 16 6 else l.inboxBase,
    banks := if back then rawField x 2 1 else l.banks,
    stride := if back then rawField x 8 4 else l.stride, slots := f.args.drop 4, idx := f.ops }

/-- Bank of a slot. -/
def InboxJob.bank (j : InboxJob) (slot : Nat) : Nat := bankOff j.base j.banks j.stride slot j.gen

/-- The arrival records of every slot are read. -/
def State.readArrivals (s : State) (p : Nat) (j : InboxJob) : State :=
  j.slots.foldl (fun s r => s.readTable p (j.bank (slotNo r)) (8 * j.l.nsrc)) s

/-- Arrival record of a source in a slot's bank, raw. -/
def State.arrival (s : State) (p : Nat) (j : InboxJob) (slot src : Nat) : Nat :=
  s.num (pkey (spFast p) (j.bank slot + 8 * src)) 8

/-- Every record is valid with the instruction's GEN. -/
def State.inboxReady (s : State) (p : Nat) (j : InboxJob) : Bool :=
  j.slots.all (fun r => (List.range j.l.nsrc).all (fun src =>
    let a := s.arrival p j (slotNo r) src
    bit 48 a && decide (bits 43 32 a = j.gen)))

/-- Stale records not yet counted by the instruction (09 R318). -/
def State.staleRecords (s : State) (p : Nat) (j : InboxJob) (seen : List Nat) : List Nat :=
  (j.slots.flatMap (fun r => (List.range j.l.nsrc).filterMap (fun src =>
    let a := s.arrival p j (slotNo r) src
    if bit 48 a && decide (bits 43 32 a ≠ j.gen) then some (slotNo r * 4096 + src) else none))).filter (fun x => !seen.contains x)

/-- The test of flight k: stale records are counted once (INBOX_STALE, GINBOX_STALE). -/
def State.inboxTest (s : State) (p k : Nat) : State :=
  match s.flight p 80 k with
  | none => s
  | some f =>
    if f.null || !(opOf f.word = 0x13 || opOf f.word = 0x31) then s else
    let new := s.staleRecords p (inboxJob f) f.seen
    let s := if opOf f.word = 0x13 then s.bump32 0 (0x5010 + p) 8 new.length else s.bump32 0 (0x5050 + p) 3 new.length
    s.putFlight p 80 k { f with seen := f.seen ++ new }

/-- Every waiting INBOX and GINBOX of Pier p tests its records. -/
def State.inboxTests (s : State) (p : Nat) : State :=
  (List.range (s.queue p 80).flights.length).foldl (fun s k => s.inboxTest p k) s

/-- Apply a patch word with n (Table 9-6). [DEDUCED: log entry 24] -/
def State.patch (s : State) (p n w : Nat) : State :=
  match bits 15 14 w with
  | 1 => s.write (pkey (spCtl p) (bits 13 0 w * 64 + 12)) (toBytes 4 n)
  | 2 => s.write (pkey (spCtl p) (0x100000 + bits 13 0 w * 64 + 3 * bits 17 16 w)) (toBytes 3 (ceilDiv n (2 ^ bits 22 18 w)))
  | _ => s

/-- One slot (09 R317): the index list, the extent, the patches; answers n. -/
def State.inboxSlot (s : State) (p : Nat) (f : Flight) (j : InboxJob) (r : Nat) (idx : Held) : State × Flight × Nat :=
  let cs := (List.range j.l.nsrc).map (fun src => (src, s.arrival p j (slotNo r) src % 2 ^ 32))
  let s := cs.foldl (fun s c =>
    if j.l.srcCap < c.2 then
      (s.bump32 0 (0x5010 + p) 7 1).trEvent p 5 j.l.ident (slotNo r + c.1 * 2 ^ 16) c.2
    else s) s
  let list := cs.flatMap (fun c => (List.range (min c.2 j.l.srcCap)).map (fun i => c.1 * j.l.srcCap + i))
  let a := match physOf p idx.d.base with
    | some k => s.writeBy p f idx.d.hint k (list.flatMap (toBytes 4))
    | none => (s, f)
  let a := a.1.writesBy p a.2 0 (cs.map (fun c => (pkey (spFast p) (j.bank (slotNo r) + 8 * c.1 + 6), [(0 : Byte)])))
  let s := a.1.write (pkey (spCtl p) (idx.handle * 64 + 8)) (toBytes 4 list.length)
  ((slotPatches r).foldl (fun s w => s.patch p list.length w) s, a.2, list.length)

/-- Checks of INBOX and GINBOX at their latch: ENC_FAULT, else OPERAND_FAULT, else the IDX operands. -/
def State.inboxLatch (s : State) (p w : Nat) (l : Layer) (ext : Nat) (base : Nat) : State :=
  let s := s.readTable p base (64 * l.nslot)
  let slots := (List.range l.nslot).map (s.rawSlot p base)
  if !slots.all slotOk then s.headFault p 80 1 else
  s.withOps p (slots.map slotIdx) 0 (fun idx =>
    match idx.find? (fun x => !idxOk p l x.d) with
    | some x => s.trFault p w 7 x.d.base
    | none =>
      if slots.any (fun r => (slotPatches r).any patchFault) then s.trFault p w 7 0
      else
        let f := { s.newFlight p 80 w idx Nest.one false with
          args := [s.reqIdent p 80, bits 19 8 w, s.rawLayer p (trLte w), ext] ++ slots }
        let s := ((s.advance p 80 w).pushFlight p 80 f).readArrivals p (inboxJob f)
        s.inboxTest p ((s.queue p 80).flights.length - 1))

/-- Latch of INBOX. -/
def State.inbox (s : State) (p w : Nat) : State := s.withLayer p w (fun s l => s.inboxLatch p w l 0 l.slotBase)

/-- A flight that has made its writes. -/
def Flight.wrote (f : Flight) : Flight := { f with running := true }

/-- INBOX_ARRIVALS_COMPLETE of flight k: the slots are processed once every record has arrived, and the instruction completes
once its writes are visible. -/
def State.inboxDone (s : State) (p k : Nat) : State :=
  match s.flight p 80 k with
  | none => s
  | some f =>
    if f.null || opOf f.word ≠ 0x13 then s
    else if f.running then s.whenVisible p k
    else
      let j := inboxJob f
      let s := (s.readArrivals p j).inboxTest p k
      let f := (s.flight p 80 k).getD f
      if !s.inboxReady p j then s else
      let r := (j.slots.zip j.idx).foldl (fun (a : State × Flight) x =>
        let o := a.1.inboxSlot p a.2 j x.1 x.2
        o.1.addWords p o.2.1 [(pkey (spFast p) (j.l.loadBase + 32 * slotExpert x.1 + 16), o.2.2)]) (s, f)
      (r.1.putFlight p 80 k r.2.wrote).whenVisible p k

/-! ## Answers (09 R326 to R328, R499; 10 R351, R352) -/

/-- The home takes a whole answer, which k sends: the state and the response code (Table 9-11). [DEDUCED: log entry 25] -/
def State.takeAnswer (s : State) (p : Nat) (k : Asker) (a : Answer) : State × Nat :=
  let e := s.liveAt p a.live
  if e.st = .live && decide (e.gen = a.gen) && decide (a.tok < e.hc.extent 1) then
    let y := if a.back then a.ys else a.ys.map (fun v => (decode .b32 a.word).mul v)
    let s := s.combineRow p k e.hc a.tok (y.take (e.hc.extent 0))
    let s := if a.back then (s.storeP p k e a).bump64 0 (0x5050 + p) 4 1 else s.bump64 0 (0x5010 + p) 9 1
    (s.setLive p a.live { s.liveAt p a.live with arrived := e.arrived + 1 }, 0)
  else
    let s := s.bump64 0 (0x5010 + p) 10 1
    (s.trOnce p 8 a.live 4 a.live a.gen (if e.st = .live then e.gen else 0x1000), 2)

/-- Runs of bytes that an answer writes at its home, where it is accepted. -/
def State.answerRuns (s : State) (p : Nat) (a : Answer) : List (Nat × Nat) :=
  let e := s.liveAt p a.live
  if e.st = .live && decide (e.gen = a.gen) && decide (a.tok < e.hc.extent 1) then
    [(pkey (spFast p) (combWord e.hc a.tok 0), 16 * e.hc.extent 0), (pkey (spFast p) (combStat e.hc a.tok), 8)]
      ++ (if a.back then (match e.hgAt p a with | some x => [(x, 4)] | none => []) else [])
  else []

/-- ANSWER header (14 R499). -/
def answerHeader (a : Answer) (fmt first h : Nat) : List Byte :=
  toBytes 32 (a.tok % 2 ^ 16 + a.live * 2 ^ 16 + (a.rank + b2n a.back * 8 + fmt * 16) * 2 ^ 24 + a.gen * 2 ^ 32 + a.word * 2 ^ 64
    + first * 2 ^ 96 + h * 2 ^ 128)

/-- An answer from its header and its element bytes. -/
def parseAnswer (h : Nat) (data : List Byte) : Answer :=
  let fmt := bits 31 28 h
  let w := elemSize fmt
  { live := bits 21 16 h, tok := bits 15 0 h, rank := bits 26 24 h, gen := bits 43 32 h, back := bit 27 h, word := bits 95 64 h,
    ys := (List.range (data.length / w)).map (fun i => decode (floatOf fmt) (ofBytes ((data.drop (i * w)).take w))) }

/-- Send one answer to its home: taken at once here, else in segments (14 R499). -/
def State.sendAnswer (s : State) (p : Nat) (f : Flight) (ident m mp fmt : Nat) (a : Answer) (data : List Byte) : State × Flight :=
  if m = s.moduleId then
    let g := s.guardRuns f.guards (s.answerRuns mp a)
    ((g.1.takeAnswer mp (f.trestle p) a).1, { f with guards := g.2 })
  else
    let w := elemSize fmt
    let n := max 1 (ceilDiv data.length 4096)
    let tag := s.fab.nextTag
    let seg (i : Nat) : Packet := mkPacket m s.moduleId mp p 2 2 i n 0 tag
      (answerHeader a fmt (i * 4096 / w) (data.length / w) ++ (data.drop (i * 4096)).take 4096)
    let s := s.sendReq .answer ident a.tok (fun _ => seg 0)
    ((List.range (n - 1)).foldl (fun s i => s.toRouter (seg (i + 1))) s, f)

/-- The answer of row r, whose slot metadata lie at `k`. -/
def State.answerRow (s : State) (p : Nat) (f : Flight) (ident : Nat) (back : Bool) (k : Nat) (hs : Held) (word : Nat → Nat → Nat)
    (r : Nat) : State × Flight :=
  let m := s.num k 16
  let a : Answer := { live := bits 29 24 m, tok := bits 47 32 m, rank := bits 19 17 m, gen := bits 59 48 m, back := back,
                      word := word r (bits 95 64 m),
                      ys := (List.range (hs.d.extent 0)).map (fun j => decode (floatOf hs.d.fmt) (s.trRaw p hs (r * hs.d.extent 0 + j))) }
  s.sendAnswer p f ident (bits 15 0 m) (bits 16 16 m) hs.d.fmt a (s.trRow p hs r).1

/-- Send an answer for each index of a slot's list, in one step (R300): `word` gives GATE or P of row r. An index that reads as
0xFFFF_FFFF sends none. [DEDUCED: log entry 24; DESIGN CHOICE: log entry 80] -/
def State.sendAnswers (s : State) (p : Nat) (f : Flight) (back : Bool) (metaBase : Nat) (hs : Held) (idx : List Nat)
    (word : Nat → Nat → Nat) : State × Flight :=
  (((List.range idx.length).zip idx).filter (fun r => decide (r.2 ≠ 0xFFFFFFFF))).foldl (fun (x : State × Flight) r =>
    (x.1.touchReadRun (f.trestle p) 0 ffPattern (pkey (spFast p) (metaBase + 16 * r.2), 16)).answerRow p x.2 (f.args.getD 0 0)
      back (pkey (spFast p) (metaBase + 16 * r.2)) hs word r.1) (s, f)

/-- The first n indices of an IDX operand: read under its hint, 0xFFFF_FFFF of a stale guarded use. -/
def State.indexList (s : State) (p : Nat) (k : Asker) (l : Held) (n : Nat) : State × List Nat :=
  match physOf p l.d.base with
  | some b =>
    let s := s.touchReadRun k l.d.hint (uePattern 9) (b, 4 * n)
    (s, (List.range n).map (fun i => if l.stale then 0xFFFFFFFF else s.num (b + 4 * i) 4))
  | none => (s, [])

/-- Flight k of ANSWER or GANSWER, its answers sent: done once every one is accepted or dropped and no slow-tier write waits. -/
def State.answersDone (s : State) (p k : Nat) : State :=
  match s.flight p 80 k with
  | none => s
  | some f =>
    if f.null || !(opOf f.word = 0x14 || opOf f.word = 0x32) || s.fab.reqs.any (fun r => r.ident = f.args.getD 0 0)
      || !s.host.snoopWait.isEmpty then s
    else s.workDone p 80 k

/-- A flight of ANSWER or GANSWER whose answers have all been sent. -/
def State.answersSent (s : State) (p : Nat) (f : Flight) : State :=
  let s := s.pushFlight p 80 f
  s.answersDone p ((s.queue p 80).flights.length - 1)

/-- ANSWER, its checks passed. -/
def State.answerRun (s : State) (p w : Nat) (l : Layer) (slot n : Nat) (ops : List Held) : State :=
  let g := s.guardCheck p 80 { s.newFlight p 80 w ops Nest.one false with args := [s.reqIdent p 80] } [0, 1]
  let hs := g.2.ops.getD 0 Held.none
  let s := ((g.1.trSched p g.2 [(0, hs)]).advance p 80 w).readOperand p (g.2.trestle p) hs
  let idx := s.indexList p (g.2.trestle p) (g.2.ops.getD 1 Held.none) n
  let bank := bankOff l.inboxBase l.banks l.stride slot (bits 33 22 w)
  let a := idx.1.sendAnswers p g.2 false (bank + l.lay.om) hs idx.2 (fun _ gate => gate)
  a.1.answersSent p a.2

/-- Latch of ANSWER. -/
def State.answer (s : State) (p w : Nat) : State :=
  s.withLayer p w (fun s l =>
    if l.nslot ≤ trSlot w then s.trFault p w 7 0 else
    let s := s.readTable p (l.slotBase + 64 * trSlot w) 64
    let r := s.rawSlot p l.slotBase (trSlot w)
    if !slotOk r then s.headFault p 80 1 else
    s.withOps p [trH0 w, slotIdx r] 1 (fun ops =>
      let hs := ops.getD 0 Held.none
      let idx := ops.getD 1 Held.none
      let n := idx.d.extent 0
      if !idxOk p l idx.d then s.trFault p w 7 idx.d.base
      else if !((hs.d.fmt = 5 || hs.d.fmt = 6) && decide (hs.d.extent 0 = l.h) && decide (n ≤ hs.d.extent 1) && hs.d.flat2)
        || badPlace p hs then s.trFault p w 0 hs.d.base
      else if n = 0 then s.trNull p w
      else s.answerRun p w l (slotNo r) n ops))

/-! ## CEXPORT (09 R329) -/

/-- Latch of CEXPORT. -/
def State.cexport (s : State) (p w : Nat) : State :=
  s.withOps p [trH0 w] 1 (fun ops =>
    let hd := ops.getD 0 Held.none
    let e := s.liveAt p (trLive w)
    if !(hd.d.fmt = 6 || hd.d.fmt = 7 || hd.d.fmt = 8) || badPlace p hd
        || (decide (e.st = .live) && !(decide (hd.d.extent 0 = e.hc.extent 0) && decide (hd.d.extent 1 = e.hc.extent 1) && hd.d.flat2))
      then s.trFault p w 0 hd.d.base
    else if e.st ≠ .live then s.trNull p w
    else (s.advance p 80 w).pushFlight p 80 { s.newFlight p 80 w ops Nest.one false with args := [s.reqIdent p 80, e.gen] })

/-- Values of combine row t in the export form of a format. In format 0x8 the words alone go to HD: 09 R329 names no place there
for the status record of 02 R64, which stays beside HC's rows. [DESIGN CHOICE: log entry 78] -/
def State.combRow (s : State) (p : Nat) (hc : Desc) (fmt t : Nat) : List (Nat × EVal) × XaStat :=
  let st := XaStat.ofNat (s.num (pkey (spFast p) (combStat hc t)) 8)
  let h := hc.extent 0
  ((List.range h).map (fun j =>
    (t * h + j, exportVal fmt st.anchor (if st.empty then 0 else s.num (pkey (spFast p) (combWord hc t j)) 16))), st)

/-- A GGRAD of the entry has not completed (10 R354, Table 10-8). [DEDUCED: log entry 25] -/
def State.gradPending (s : State) (p i : Nat) : Bool :=
  (s.queue p 80).flights.any (fun f => !f.null && decide (opOf f.word = 0x33) && decide (trLive f.word = i))

/-- CEXPORT_READY of flight k: the export, and the entry freed, once no GGRAD of it is to complete; the instruction completes
once its writes are visible. [DEDUCED: log entry 25] -/
def State.cexportReady (s : State) (p k : Nat) : State :=
  match s.flight p 80 k with
  | none => s
  | some f =>
    let i := trLive f.word
    let e := s.liveAt p i
    if f.null || opOf f.word ≠ 0x15 then s
    else if f.running then s.whenVisible p k
    else if !(e.st = .live && e.sent && decide (e.arrived = e.expected)) then s
    else
      let hd := f.ops.getD 0 Held.none
      let wr : Writer := ⟨streamOf p 80, f.pc, f.gen⟩
      let stat : Nat × Nat := (pkey (spFast p) (combStat e.hc 0), 8 * e.hc.extent 1)
      let s := (s.readOperand p (f.trestle p) ⟨0, e.hc, 0, none, false⟩).touchReadRun (f.trestle p) 0 ffPattern stat
      let rows := (List.range (e.hc.extent 1)).map (s.combRow p e.hc hd.d.fmt)
      let g := s.guardRuns f.guards (physRuns p hd.runs)
      let s := g.1.writeOperand p (f.trestle p) hd
      let o := s.writeElems p 0 hd (rows.flatMap (·.1))
      let s := o.1.watchWrites p wr hd.d o.2
      let s := rows.foldl (fun s r => s.watchExport p wr hd.d r.2.wspill r.2) s
      let s := if s.gradPending p i then s.setLive p i { e with freeing := true } else s.setLive p i LiveEntry.zero
      (s.putFlight p 80 k { f with guards := g.2 }.wrote).whenVisible p k

/-! ## ANSWER_PACKET (14 R499) -/

/-- Offset of the staging slot of a segment. -/
def State.stageSlot (s : State) (p : Nat) (h : Nat) : Nat :=
  s.odv 0 0x6009 (p + 1) + bits 21 16 h * s.odv 0 0x600A 0 + (bits 15 0 h * 8 + bits 26 24 h) * s.odv 0 0x600B 0

/-- Stage a segment; answers the whole answer's bytes once its count reaches NSEG. -/
def State.stage (s : State) (p h nseg : Nat) (hdr data : List Byte) : State × Option (List Byte) :=
  let who := Asker.fabric p 2
  let o := s.stageSlot p h
  let k := pkey (spFast p) o
  let w := elemSize (bits 31 28 h)
  let s := s.touchReadRun who 0 ffPattern (k, 4)
  let same := decide (s.num k 2 % 2 ^ 12 = bits 43 32 h)
  let n := if same then s.num (k + 2) 2 + 1 else 1
  let whole := decide (n = nseg)
  let s := s.storeRun who 0 (k + 128 + bits 127 96 h * w) data
  let s := s.storeRun who 0 k (toBytes 2 (bits 43 32 h) ++ toBytes 2 (if whole then 0 else n) ++ toBytes 28 0 ++ hdr ++ toBytes 64 0)
  if whole then
    let r := s.loadRun who (k + 128) (bits 159 128 h * w)
    (r.1, some r.2)
  else (s, none)

/-- Runs of bytes that a staged segment writes. -/
def State.stageRuns (s : State) (p h n : Nat) : List (Nat × Nat) :=
  let k := pkey (spFast p) (s.stageSlot p h)
  [(k, 128), (k + 128 + bits 127 96 h * elemSize (bits 31 28 h), n)]

/-- An answer whose data have all come is taken and acknowledged; with the runs written before, one write operation (07 R263). -/
def State.answerWhole (s : State) (p : Nat) (pk : Packet) (h : Nat) (runs : List (Nat × Nat)) (data : List Byte) : State :=
  let a := parseAnswer h data
  let r := (s.guardOnce (runs ++ s.answerRuns p a)).takeAnswer p (Asker.fabric p 2) a
  r.1.respond pk r.2

/-- A staged segment: the last of its answer brings the whole. -/
def State.answerStaged (s : State) (p : Nat) (pk : Packet) (h : Nat) (runs : List (Nat × Nat)) : Option (List Byte) → State
  | none => s.guardOnce runs
  | some whole => s.answerWhole p pk h runs whole

/-- ANSWER_PACKET: the oldest TC 2 packet delivered to Pier p, where it is an answer. -/
def State.answerPacket (s : State) (p : Nat) : State :=
  match s.inboxOf p 2 with
  | none => s
  | some pk =>
    if pk.proto ≠ 2 then s else
    let s := s.takeInbox p 2
    let hdr := pk.body.take 32
    let h := ofBytes hdr
    let data := pk.body.drop 32
    if pk.nseg ≤ 1 then s.answerWhole p pk h [] data
    else
      let t := s.stage p h pk.nseg hdr data
      t.1.answerStaged p pk h (s.stageRuns p h data.length) t.2

/-! ## Rows -/

/-- The row of a Trestle opcode. -/
def State.trIssue (s : State) (p op : Nat) (go : State → Nat → State) : State := s.issue p 80 op trOk go

/-- TNOP. -/
def execTnop (p : Nat) (s : State) : Host.Outcome State Fault Refusal := .next (s.trIssue p 0x00 (fun t w => t.trNull p w))
/-- GOPEN. -/
def execGopen (p : Nat) (s : State) : Host.Outcome State Fault Refusal := .next (s.trIssue p 0x10 (fun t w => t.gopen p w))
/-- GCANCEL. -/
def execGcancel (p : Nat) (s : State) : Host.Outcome State Fault Refusal := .next (s.trIssue p 0x11 (fun t w => t.gcancel p w))
/-- ROUTE. -/
def execRoute (p : Nat) (s : State) : Host.Outcome State Fault Refusal := .next (s.trIssue p 0x12 (fun t w => ((t.route p w).inboxTests 0).inboxTests 1))
/-- ROUTE_COMPLETE of flight k. -/
def execRouteComplete (p k : Nat) (s : State) : Host.Outcome State Fault Refusal := .next (s.routeComplete p k)
/-- INBOX. -/
def execInbox (p : Nat) (s : State) : Host.Outcome State Fault Refusal := .next (s.trIssue p 0x13 (fun t w => t.inbox p w))
/-- INBOX_ARRIVALS_COMPLETE of flight k. -/
def execInboxArrivalsComplete (p k : Nat) (s : State) : Host.Outcome State Fault Refusal := .next (s.inboxDone p k)
/-- ANSWER. -/
def execAnswer (p : Nat) (s : State) : Host.Outcome State Fault Refusal := .next (s.trIssue p 0x14 (fun t w => t.answer p w))
/-- CEXPORT. -/
def execCexport (p : Nat) (s : State) : Host.Outcome State Fault Refusal := .next (s.trIssue p 0x15 (fun t w => t.cexport p w))
/-- CEXPORT_READY of flight k. -/
def execCexportReady (p k : Nat) (s : State) : Host.Outcome State Fault Refusal := .next (s.cexportReady p k)
/-- GEN_QUIET_EXPIRY of live entry i. -/
def execGenQuietExpiry (p i : Nat) (s : State) : Host.Outcome State Fault Refusal := .next (s.genQuiet p i)
/-- ANSWER_PACKET. -/
def execAnswerPacket (p : Nat) (s : State) : Host.Outcome State Fault Refusal := .next (s.answerPacket p)

end Sys2Proof.Machine
end

