-- ==== Sys2Proof/Machine/Backward.lean ====
section
/-! DEFINITION. The Trestle's backward half (10), and what a commit and an abandonment do to routing (09 R308, R309). -/

namespace Sys2Proof.Machine

/-! ## The backward layer extension (Table 10-3) -/

/-- A backward extension. -/
structure BwdExt where
  gradFmt : Nat
  dxFmt : Nat
  banks : Nat
  yceil : Int
  wgCeil : Int
  stride : Nat
  base : Nat
  slotBase : Nat
  visitBase : Nat
  wgBase : Nat
  wgStride : Nat
  wgWords : Nat
  deriving DecidableEq, Repr

/-- An extension from its 64 bytes. -/
def parseExt (r : Nat) : BwdExt :=
  { gradFmt := rawField r 0 1, dxFmt := rawField r 1 1, banks := rawField r 2 1, yceil := toSigned 8 (rawField r 3 1),
    wgCeil := toSigned 8 (rawField r 4 1), stride := rawField r 8 4, base := rawField r 16 6, slotBase := rawField r 22 6,
    visitBase := rawField r 28 6, wgBase := rawField r 34 6, wgStride := rawField r 40 6, wgWords := rawField r 46 4 }

/-- Size of a weight-gradient area (10 R355). -/
def BwdExt.areaSize (x : BwdExt) : Nat := x.wgWords * 16 + x.wgWords / 2048 * 8

/-- The gradient-inbox layout (10 R341). -/
def Layer.gradLay (l : Layer) (x : BwdExt) : InboxLay := inboxLay l.nsrc l.srcCap l.h x.gradFmt

/-- No reserved value in an extension. -/
def extOk (l : Layer) (r : Nat) : Bool :=
  let x := parseExt r
  decide (x.gradFmt < 6) && decide (x.dxFmt = 5 || x.dxFmt = 6) && decide (1 ≤ x.banks && x.banks ≤ 4)
    && decide (rawField r 5 3 = 0) && decide (x.stride % 128 = 0) && decide ((l.gradLay x).size ≤ x.stride)
    && decide (rawField r 12 4 = 0) && decide (x.base < fastSize) && addrOk x.slotBase 64 && addrOk x.visitBase 16
    && addrOk x.wgBase 128 && decide (x.wgStride % 128 = 0) && decide (x.areaSize ≤ x.wgStride)
    && decide (x.wgWords % 2048 = 0) && decide (2048 ≤ x.wgWords && x.wgWords ≤ 2 ^ 31) && decide (rawField r 50 14 = 0)

/-- Extension LTE of Pier p, raw. -/
def State.rawExt (s : State) (p lte : Nat) : Nat := s.num (pkey (spFast p) (s.odv 0 0x5040 (p + 1) + lte * 64)) 64

/-- A latched layer with its extension. -/
def State.withExt (s : State) (p w : Nat) (go : State → Layer → BwdExt → State) : State :=
  s.withLayer p w (fun s l =>
    let s := s.readTable p (s.odv 0 0x5040 (p + 1) + trLte w * 64) 64
    if extOk l (s.rawExt p (trLte w)) then go s l (parseExt (s.rawExt p (trLte w))) else s.headFault p 80 1)

/-! ## GSEND (10 R342 to R346) -/

/-- A route-record entry of token t and rank r (Table 9-7). -/
def State.routeRec (s : State) (p k : Nat) (hr : Desc) (t r : Nat) : RCopy :=
  match physOf p hr.base with
  | some b =>
    let v := s.num (b + (t * k + r) * 8) 8
    ⟨t, r, bits 11 0 v, bits 31 16 v, bits 15 12 v, bits 63 32 v⟩
  | none => ⟨t, r, 0, 0, 3, 0⟩

/-- The route record of a micro-batch of n tokens. -/
def State.routeRecs (s : State) (p k : Nat) (hr : Desc) (n : Nat) : List RCopy :=
  (List.range n).flatMap (fun t => (List.range k).map (s.routeRec p k hr t))

/-- The route record is read under the hint of its descriptor. -/
def State.readRoute (s : State) (p : Nat) (k : Asker) (hr : Desc) (n : Nat) : State :=
  match physOf p hr.base with
  | some b => s.touchReadRun k hr.hint (uePattern 9) (b, 8 * n)
  | none => s

/-- First check of GSEND that fails (Table 10-9). -/
def State.gsendFault (s : State) (p w : Nat) (l : Layer) (x : BwdExt) (ops : List Held) : Option Nat :=
  let e := s.liveAt p (trLive w)
  let hs := ops.getD 0 Held.none
  let hg := ops.getD 1 Held.none
  let t := hs.d.extent 1
  if e.st ≠ .live || e.routed then some 7
  else if !(decide (hs.d.fmt = x.gradFmt) && decide (hs.d.extent 0 = l.h) && hs.d.flat2) || badPlace p hs then some 0
  else if !(decide (hg.d.fmt = 6) && decide (t * l.k ≤ hg.d.count)) || badPlace p hg then some 1
  else if !(decide (e.hc.extent 0 = l.h) && decide (e.hc.extent 1 = t)) || decide (e.hr.count < 2 * t * l.k) then some 7
  else if (s.routeRecs p l.k e.hr t).any (fun c =>
      decide (4 ≤ c.state) || decide (l.e ≤ c.e) || !bit 27 (s.mapEntry p l c.e)) then some 7
  else none

/-- GSEND, its checks passed. [DEDUCED: log entry 26] -/
def State.gsendRun (s : State) (p w : Nat) (l : Layer) (x : BwdExt) (ops : List Held) : State :=
  let i := trLive w
  let e := s.liveAt p i
  let ident := s.reqIdent p 80
  let g := s.guardCheck p 80 { s.newFlight p 80 w ops Nest.one false with args := [ident] } [0]
  let hs := g.2.ops.getD 0 Held.none
  let hg := g.2.ops.getD 1 Held.none
  let n := hs.d.extent 1
  let s := (g.1.trSched p g.2 [(0, hs)]).advance p 80 w
  let s := s.readOperand p (g.2.trestle p) hs
  let cs := s.routeRecs p l.k e.hr n
  let sent := cs.filter (fun c => c.state < 2)
  let s := s.setLive p i { e with routed := true, backward := true, hg := hg.d, k := l.k }
  let marks := (cs.filter (fun c => 2 ≤ c.state)).filterMap (fun c =>
    (physOf p (hg.d.addr (c.t * l.k + c.r))).map (fun k => (k, toBytes 4 (if c.state = 2 then 0 else FFmt.b32.nanCode))))
  let comb := (List.range n).map (fun t =>
    (pkey (spFast p) (combStat e.hc t),
     toBytes 8 (XaStat.start (if sent.any (fun c => c.t = t) then clampInt (-32768) 32767 (x.yceil - 19) else 0)).toNat))
  let a := s.writesBy p g.2 hg.d.hint marks
  let a := a.1.writesBy p a.2 0 comb
  let rows := sent.map (fun c =>
    let b := s.trRow p hs c.t
    (⟨holderOf (s.mapEntry p l c.e), c.row, b.1, b.2, metaRow s.moduleId p c.r i c.t e.gen c.gate⟩ : SRow))
  let a := a.1.scatter p a.2 ident (l.gradLay x) l e.gen (fun slot => bankOff x.base x.banks x.stride slot e.gen)
    (s.holders p l) rows
  a.1.pushFlight p 80 { a.2 with args := [ident, e.gen, n, sent.length] }

/-- Map entries that GSEND reads hold a reserved bit (09 R302). -/
def State.gsendMapBad (s : State) (p w : Nat) (l : Layer) (t : Nat) : Bool :=
  (s.routeRecs p l.k (s.liveAt p (trLive w)).hr t).any (fun c =>
    decide (c.e < l.e) && decide (s.mapEntry p l c.e / 2 ^ 28 ≠ 0))

/-- Latch of GSEND. -/
def State.gsend (s : State) (p w : Nat) : State :=
  s.withOps p [trH0 w, trH1 w] 2 (fun ops => s.withExt p w (fun s l x =>
    let e := s.liveAt p (trLive w)
    let s := if e.st = .live then
        (s.readRoute p (Asker.trestle p) e.hr ((ops.getD 0 Held.none).d.extent 1 * l.k)).readTable p l.mapBase (8 * l.e)
      else s
    if decide ((s.liveAt p (trLive w)).st = .live) && s.gsendMapBad p w l ((ops.getD 0 Held.none).d.extent 1) then s.headFault p 80 1
    else match s.gsendFault p w l x ops with
      | some k => s.trFaultAt p w k ops
      | none => s.gsendRun p w l x ops))

/-- GSEND_COMPLETE of flight k. -/
def State.gsendComplete (s : State) (p k : Nat) : State :=
  match s.flight p 80 k with
  | none => s
  | some f =>
    if f.null || opOf f.word ≠ 0x30 || !s.allVisible (f.args.getD 0 0) then s else
    let e := s.liveAt p (trLive f.word)
    let s := if e.st = .live && decide (e.gen = f.args.getD 1 0) then
        s.setLive p (trLive f.word) { e with expected := f.args.getD 3 0, sent := true } else s
    ((s.bump64 0 (0x5050 + p) 1 1).bump64 0 (0x5050 + p) 2 (f.args.getD 3 0)).workDone p 80 k

/-! ## GINBOX (10 R348, R350) -/

/-- Latch of GINBOX. -/
def State.ginbox (s : State) (p w : Nat) : State :=
  s.withExt p w (fun s l x => s.inboxLatch p w l (s.rawExt p (trLte w)) x.slotBase)

/-- Visit word of slot σ: ATT_VISITS and ATT_MB raised by a result of n. [DEDUCED: log entry 26] -/
def State.visit (s : State) (p : Nat) (f : Flight) (x : BwdExt) (slot n : Nat) : State × Flight :=
  let k := pkey (spFast p) (x.visitBase + 16 * slot)
  let a := s.addWord p f (k, n)
  if n = 0 then (a.1.bump64 0 (0x5050 + p) 6 1, a.2)
  else
    let t := a.1.touchWriteRun (f.trestle p) 0 ffPattern (k + 4, 2)
    ((t.setNum (k + 4) 2 ((t.num (k + 4) 2 + 1) % 2 ^ 16)).bump64 0 (0x5050 + p) 5 1, a.2)

/-- GINBOX_ARRIVALS_COMPLETE of flight k. -/
def State.ginboxDone (s : State) (p k : Nat) : State :=
  match s.flight p 80 k with
  | none => s
  | some f =>
    if f.null || opOf f.word ≠ 0x31 then s
    else if f.running then s.whenVisible p k
    else
      let j := inboxJob f
      let x := parseExt (f.args.getD 3 0)
      let s := (s.readArrivals p j).inboxTest p k
      let f := (s.flight p 80 k).getD f
      if !s.inboxReady p j then s else
      let r := ((List.range j.slots.length).zip (j.slots.zip j.idx)).foldl (fun (a : State × Flight) y =>
        let o := a.1.inboxSlot p a.2 j y.2.1 y.2.2
        o.1.visit p o.2.1 x y.1 o.2.2) (s, f)
      (r.1.putFlight p 80 k r.2.wrote).whenVisible p k

/-! ## GANSWER (10 R351) -/

/-- GBANK. -/
def trGbank (w : Nat) : Nat := bits 57 56 w

/-- GANSWER, its checks passed. [DEDUCED: log entry 26] -/
def State.ganswerRun (s : State) (p w : Nat) (l : Layer) (x : BwdExt) (slot n : Nat) (ops : List Held) : State :=
  let g := s.guardCheck p 80 { s.newFlight p 80 w ops Nest.one false with args := [s.reqIdent p 80] } [0, 1, 2]
  let hs := g.2.ops.getD 0 Held.none
  let hp := g.2.ops.getD 1 Held.none
  let s := (((g.1.trSched p g.2 [(0, hs), (1, hp)]).advance p 80 w).readOperand p (g.2.trestle p) hs).readOperand p (g.2.trestle p) hp
  let idx := s.indexList p (g.2.trestle p) (g.2.ops.getD 2 Held.none) n
  let bank := x.base + (slot * x.banks + trGbank w) * x.stride
  let ps := (List.range n).map (idx.1.trRaw p hp)
  let a := idx.1.sendAnswers p g.2 true (bank + (l.gradLay x).om) hs idx.2 (fun r _ => ps.getD r 0)
  a.1.answersSent p a.2

/-- Latch of GANSWER. -/
def State.ganswer (s : State) (p w : Nat) : State :=
  s.withExt p w (fun s l x =>
    if l.nslot ≤ trSlot w || x.banks ≤ trGbank w then s.trFault p w 7 0 else
    let s := s.readTable p (x.slotBase + 64 * trSlot w) 64
    let r := s.rawSlot p x.slotBase (trSlot w)
    if !slotOk r then s.headFault p 80 1 else
    s.withOps p [trH0 w, trH1 w, slotIdx r] 2 (fun ops =>
      let hs := ops.getD 0 Held.none
      let hp := ops.getD 1 Held.none
      let idx := ops.getD 2 Held.none
      let n := idx.d.extent 0
      if idx.d.fmt ≠ 9 then s.trFault p w 7 idx.d.base
      else if !(decide (hs.d.fmt = x.dxFmt) && decide (hs.d.extent 0 = l.h) && decide (n ≤ hs.d.extent 1) && hs.d.flat2)
        || badPlace p hs then s.trFault p w 0 hs.d.base
      else if !(decide (hp.d.fmt = 6) && decide (n ≤ hp.d.count)) || badPlace p hp then s.trFault p w 1 hp.d.base
      else if n = 0 then s.trNull p w
      else s.ganswerRun p w l x (slotNo r) n ops))

/-! ## GGRAD (10 R353) -/

/-- Latch of GGRAD. [DEDUCED: log entry 26] -/
def State.ggrad (s : State) (p w : Nat) : State :=
  s.withOps p [trH0 w, trH1 w] 2 (fun ops => s.withExt p w (fun s l _ =>
    let hd := ops.getD 0 Held.none
    let hs := ops.getD 1 Held.none
    let e := s.liveAt p (trLive w)
    let t := if e.st = .live then e.hc.extent 1 else hd.d.extent 1
    let ok (d : Desc) : Bool := decide (d.fmt = 6) && decide (d.extent 0 = l.e) && decide (d.extent 1 = t) && d.flat2
    if !ok hd.d || badPlace p hd then s.trFault p w 0 hd.d.base
    else if !ok hs.d || badPlace p hs then s.trFault p w 1 hs.d.base
    else if e.st ≠ .live then s.trNull p w
    else if !e.backward then s.trFault p w 7 0
    else
      let f := { s.newFlight p 80 w ops Nest.one false with args := [s.reqIdent p 80, e.gen, s.rawLayer p (trLte w)] }
      let g := s.guardCheck p 80 f [1]
      (g.1.advance p 80 w).pushFlight p 80 g.2))

/-- Row t of `ggrad`: ds[t][e] for every expert. -/
def gradRow (l : Layer) (tok : Token) (cs : List RCopy) (ps : List Val) : List Val :=
  let es := List.range l.e
  if cs.any (fun c => c.state = 3) then es.map (fun _ => if tok.bad = some .poison then .poison else .nan)
  else
    let got := (cs.zip ps).filter (fun c => c.1.state < 2)
    let placed (e : Nat) : Val :=
      match (got.filter (fun c => c.1.e = e)).getLast? with
      | some c => c.2
      | none => .zero
    let plus (v : Val) : Val := if v.isZero then .zero else v
    if !l.norm then es.map (fun e => plus (placed e))
    else
      let top := tok.order.take l.k
      let g := exactSum (got.map (fun c => c.2.mul (decode .b32 c.1.gate)))
      es.map (fun e =>
        let num := if top.contains e then (placed e).add g.negate else placed e
        if num.isZero then .zero else num.div .b32 tok.denom)

/-- Flight k of GGRAD, its gradients written, completes once they are visible; an entry that CEXPORT has given up is freed after
its last GGRAD (10 R354, Table 10-8). -/
def State.ggradDone (s : State) (p k i : Nat) : State :=
  let s := s.whenVisible p k
  if (s.liveAt p i).freeing && !s.gradPending p i then s.setLive p i LiveEntry.zero else s

/-- GGRAD_READY of flight k. [DEDUCED: log entry 25] -/
def State.ggradReady (s : State) (p k : Nat) : State :=
  match s.flight p 80 k with
  | none => s
  | some f =>
    let i := trLive f.word
    let e := s.liveAt p i
    if f.null || opOf f.word ≠ 0x33 then s
    else if f.running then s.ggradDone p k i
    else if !(e.st = .live && e.sent && decide (e.arrived = e.expected)) then s
    else
      let l := parseLayer (f.args.getD 2 0)
      let hd := f.ops.getD 0 Held.none
      let hs := f.ops.getD 1 Held.none
      let who := f.trestle p
      let s := (s.trSched p f [(1, hs)]).readOperand p who hs
      let s := ((s.readRoute p who e.hr (e.hc.extent 1 * l.k)).readOperand p who ⟨0, e.hg, 0, none, false⟩).readMap p l
      let toks := s.tokens p l hs
      let hg (j : Nat) : Val := s.readVal p 0 ⟨0, e.hg, 0, none, false⟩ j
      let rows := ((List.range toks.length).zip toks).flatMap (fun t =>
        gradRow l t.2 ((List.range l.k).map (s.routeRec p l.k e.hr t.1)) ((List.range l.k).map (fun r => hg (t.1 * l.k + r))))
      let g := s.guardRuns f.guards (physRuns p hd.runs)
      let s := g.1.writeOperand p who hd
      let o := s.writeElems p 0 hd (((List.range rows.length).zip rows).map (fun x => (x.1, .f x.2)))
      let s := (o.1.bump64 0 (0x5050 + p) 9 1).putFlight p 80 k { f with guards := g.2 }.wrote
      s.ggradDone p k i

/-! ## WGSTART (10 R356) -/

/-- Tile status records of a slot's area as WGSTART writes them. -/
def wgStats (p : Nat) (x : BwdExt) (slot : Nat) : List (Nat × List Byte) :=
  (List.range (x.wgWords / 2048)).map (fun t =>
    (pkey (spFast p) (x.wgBase + slot * x.wgStride + x.wgWords * 16 + 8 * t),
     toBytes 8 (XaStat.start (clampInt (-32768) 32767 (x.wgCeil - 22))).toNat))

/-- Latch of WGSTART: every write is made at once, and the instruction completes. [DEDUCED: log entry 26] -/
def State.wgstart (s : State) (p w : Nat) : State :=
  s.withExt p w (fun s l x =>
    if (List.range l.nslot).any (fun σ => decide (fastSize < x.wgBase + σ * x.wgStride + x.areaSize)) then s.trFault p w 7 0
    else
      let f := { s.newFlight p 80 w [] Nest.one false with args := [s.reqIdent p 80] }
      let ws := (List.range l.nslot).flatMap (fun σ => wgStats p x σ ++ [(pkey (spFast p) (x.visitBase + 16 * σ), toBytes 16 0)])
      let a := (s.advance p 80 w).writesBy p f 0 ws
      let s := a.1.pushFlight p 80 a.2
      s.workDone p 80 ((s.queue p 80).flights.length - 1))

/-! ## What a commit and an abandonment do (09 R308, R309; Table 9-11) -/

/-- Layer entries in use of Pier p, reserved encodings left out. -/
def State.layers (s : State) (p : Nat) : List Layer :=
  ((List.range (s.odv 0 0x5006 (p + 1))).filter (fun i => layerOk (s.rawLayer p i))).map (fun i => parseLayer (s.rawLayer p i))

/-- The layer tables and the bias arrays in use are read, and the arrays rewritten where `wr`: the Trestle's own work at an exchange,
a commit and an abandonment (07 R250). -/
def State.touchBias (s : State) (wr : Bool) : State :=
  [0, 1].foldl (fun s p =>
    let s := s.readTable p (s.odv 0 0x5000 (p + 1)) (64 * s.odv 0 0x5006 (p + 1))
    (s.layers p).foldl (fun s l =>
      let s := s.readTable p l.biasBase (16 * l.e)
      if wr then s.touchWriteRun (Asker.trestle p) 0 ffPattern (pkey (spFast p) l.biasBase, 16 * l.e) else s) s) s

/-- Address of a bias-array entry. -/
def biasAddr (p : Nat) (l : Layer) (e : Nat) : Nat := pkey (spFast p) (l.biasBase + 16 * e)

/-- `bias_at_commit` of one layer (09 R309). [DEDUCED: log entry 26] -/
def State.biasAtCommit (s : State) (p : Nat) (l : Layer) (epoch : Nat) (sum : Nat → Nat) : State :=
  let es := List.range l.e
  let s := es.foldl (fun s e =>
    let k := biasAddr p l e
    (s.setNum (k + 8) 8 ((s.num (k + 8) 8 + sum e) % 2 ^ 64)).setNum (k + 4) 4 0) s
  if s.odv 0 0x5001 0 = 0 || epoch % s.odv 0 0x5004 0 ≠ 0 then s else
  let total := sumNat (es.map (fun e => s.num (biasAddr p l e + 8) 8)) % 2 ^ 64
  let gain : Int := s.odv 0 0x5002 0
  let lim : Int := s.odv 0 0x5003 0
  let r := es.foldl (fun (a : State × Nat) e =>
    let k := biasAddr p l e
    let d : Nat := s.num (k + 8) 8 * l.e % 2 ^ 64
    let old := s.bias p l e
    let want : Int := if d < total then old + gain else if total < d then old - gain else old
    let new := clampInt (-lim) lim want
    let t := if new ≠ want then a.1.bump32 0 (0x5010 + p) 13 1 else a.1
    let t := if new ≠ old then t.bump32 0 (0x5010 + p) 12 1 else t
    ((t.setNum k 4 (ofSigned 32 new)).setNum (k + 8) 8 0, a.2 + b2n (decide (new ≠ old)))) (s, 0)
  if r.2 = 0 then r.1
  else r.1.trEvent p 1 l.ident r.2 ((es.map (fun e => (r.1.bias p l e).natAbs)).foldl max 0)

/-- The routing bias at a commit, on every layer in use (09 R309). -/
def State.biasCommit (s : State) (epoch : Nat) (sum : Nat → Nat → Nat) : State :=
  [0, 1].foldl (fun s p => (s.layers p).foldl (fun s l => s.biasAtCommit p l epoch (sum l.ident)) s) (s.touchBias true)

/-- ATT_DEMAND cleared at an abandonment. -/
def State.clearDemand (s : State) : State :=
  [0, 1].foldl (fun s p => (s.layers p).foldl (fun s l =>
    (List.range l.e).foldl (fun s e => s.setNum (biasAddr p l e + 4) 4 0) s) s) (s.touchBias true)

/-- Every LIVE entry of Pier p becomes QUIET. -/
def State.quietAll (s : State) (p : Nat) : State := (List.range 64).foldl (fun s i => s.quiet p i) s

/-! ## Rows -/

/-- GSEND. -/
def execGsend (p : Nat) (s : State) : Host.Outcome State Fault Refusal :=
  .next (s.trIssue p 0x30 (fun t w => ((t.gsend p w).inboxTests 0).inboxTests 1))
/-- GSEND_COMPLETE of flight k. -/
def execGsendComplete (p k : Nat) (s : State) : Host.Outcome State Fault Refusal := .next (s.gsendComplete p k)
/-- GINBOX. -/
def execGinbox (p : Nat) (s : State) : Host.Outcome State Fault Refusal := .next (s.trIssue p 0x31 (fun t w => t.ginbox p w))
/-- GINBOX_ARRIVALS_COMPLETE of flight k. -/
def execGinboxArrivalsComplete (p k : Nat) (s : State) : Host.Outcome State Fault Refusal := .next (s.ginboxDone p k)
/-- GANSWER. -/
def execGanswer (p : Nat) (s : State) : Host.Outcome State Fault Refusal := .next (s.trIssue p 0x32 (fun t w => t.ganswer p w))
/-- GGRAD. -/
def execGgrad (p : Nat) (s : State) : Host.Outcome State Fault Refusal := .next (s.trIssue p 0x33 (fun t w => t.ggrad p w))
/-- GGRAD_READY of flight k. -/
def execGgradReady (p k : Nat) (s : State) : Host.Outcome State Fault Refusal := .next (s.ggradReady p k)
/-- WGSTART. -/
def execWgstart (p : Nat) (s : State) : Host.Outcome State Fault Refusal := .next (s.trIssue p 0x34 (fun t w => t.wgstart p w))

end Sys2Proof.Machine
end

