-- ==== Sys2Proof/Machine/Codec.lean ====
section
/-! DEFINITION. The Reed–Solomon codeword of a port: its layout, its check symbols, and its correction (14 R489, R490). -/

namespace Sys2Proof.Machine

/-! ## GF(2^10) with x^10 + x^3 + 1 -/

/-- Multiply by α. -/
def gfX (a : Nat) : Nat := if 1024 ≤ 2 * a then (2 * a) ^^^ 0x409 else 2 * a

/-- Product: bits k−1 down to 0 of b. -/
def gfMulFrom (a b : Nat) : Nat → Nat → Nat
  | 0, r => r
  | k + 1, r => gfMulFrom a b k (if bit k b then gfX r ^^^ a else gfX r)

/-- Product. -/
def gfMul (a b : Nat) : Nat := gfMulFrom a b 10 0

/-- α^k. -/
def gfAlpha : Nat → Nat
  | 0 => 1
  | k + 1 => gfX (gfAlpha k)

/-- a to the power 2^k − 1, from a power already formed: a^1022 is the square of a^511 = a^(2^9 − 1). -/
def gfPow2m1 (a : Nat) : Nat → Nat
  | 0 => 1
  | k + 1 => gfMul (gfMul (gfPow2m1 a k) (gfPow2m1 a k)) a

/-- Inverse: a^1022. -/
def gfInv (a : Nat) : Nat :=
  let h := gfPow2m1 a 9
  gfMul h h

/-- Value of a polynomial, lowest coefficient first. -/
def gfEval (x : Nat) : List Nat → Nat
  | [] => 0
  | c :: t => c ^^^ gfMul x (gfEval x t)

/-- Sum of polynomials. -/
def gfAdd : List Nat → List Nat → List Nat
  | [], b => b
  | a, [] => a
  | x :: a, y :: b => (x ^^^ y) :: gfAdd a b

/-! ## Check symbols -/

/-- The generator with roots α^0 to α^(k−1), lowest coefficient first. -/
def rsGen : Nat → List Nat
  | 0 => [1]
  | k + 1 => gfAdd (0 :: rsGen k) ((rsGen k).map (gfMul (gfAlpha k)))

/-- One step of the division of the message by the generator: 13 remainder symbols, highest first. -/
def rsStep (g r : List Nat) (m : Nat) : List Nat :=
  let f := m ^^^ r.headD 0
  gfAdd (r.drop 1 ++ [0]) (g.map (gfMul f))

/-- The 13 check symbols of 259 symbols (symbol 0 is the highest coefficient). [PRESUMED: log entry 42] -/
def rsCheck (ms : List Nat) : List Nat :=
  let g := (rsGen 13).reverse.drop 1
  ms.foldl (rsStep g) (List.replicate 13 0)

/-- Cut a number into n symbols of 10 bits, lowest first. -/
def symbolsOf (n v : Nat) : List Nat := (List.range n).map (fun i => v / 2 ^ (10 * i) % 1024)

/-- The number of some symbols. -/
def ofSymbols : List Nat → Nat
  | [] => 0
  | x :: t => x + 1024 * ofSymbols t

/-- The 272 symbols of a codeword on the wire. [PRESUMED: log entry 42] -/
def Codeword.symbols (c : Codeword) : List Nat :=
  let m := symbolsOf 3 c.header ++ symbolsOf 256 (ofBytes c.data)
  m ++ rsCheck m

/-! ## Correction -/

/-- Syndrome i. -/
def rsSyndrome (r : List Nat) (i : Nat) : Nat := r.foldl (fun a x => gfMul (gfAlpha i) a ^^^ x) 0

/-- The 13 syndromes. -/
def rsSyndromes (r : List Nat) : List Nat := (List.range 13).map (rsSyndrome r)

/-- State of the search for the locator: locator, earlier locator, length, distance, earlier discrepancy. -/
structure Locator where
  c : List Nat
  b : List Nat
  l : Nat
  m : Nat
  d : Nat
  deriving DecidableEq, Repr

/-- One step of the search at syndrome n. -/
def Locator.step (syn : List Nat) (x : Locator) (n : Nat) : Locator :=
  let d := (List.range (x.l + 1)).foldl (fun a i => a ^^^ gfMul (x.c.getD i 0) (if i ≤ n then syn.getD (n - i) 0 else 0)) 0
  if d = 0 then { x with m := x.m + 1 }
  else
    let k := gfMul d (gfInv x.d)
    let c := gfAdd x.c (List.replicate x.m 0 ++ x.b.map (gfMul k))
    if 2 * x.l ≤ n then ⟨c, x.c, n + 1 - x.l, 1, d⟩ else { x with c := c, m := x.m + 1 }

/-- The locator of 13 syndromes. -/
def locatorOf (syn : List Nat) : Locator := (List.range 13).foldl (Locator.step syn) ⟨[1], [1], 0, 1, 1⟩

/-- Positions (powers of x) that the locator names, in a codeword of 272 symbols. -/
def locatorRoots (c : List Nat) : List Nat := (List.range 272).filter (fun j => decide (gfEval (gfAlpha (1023 - j)) c = 0))

/-- The odd coefficients in place: the derivative. -/
def gfDeriv (c : List Nat) : List Nat :=
  (List.range (c.length - 1)).map (fun i => if i % 2 = 0 then c.getD (i + 1) 0 else 0)

/-- Coefficients 0 to 12 of a product. -/
def gfProd13 (a b : List Nat) : List Nat :=
  (List.range 13).map (fun n => (List.range (n + 1)).foldl (fun s i => s ^^^ gfMul (a.getD i 0) (b.getD (n - i) 0)) 0)

/-- The error at position j. -/
def errorAt (syn c : List Nat) (j : Nat) : Nat :=
  let x := gfAlpha (1023 - j)
  gfMul (gfAlpha j) (gfMul (gfEval x (gfProd13 syn c)) (gfInv (gfEval x (gfDeriv c))))

/-- The word with its errors taken out, and how many symbols they were; none where more than 6 symbols are wrong
(14 R489). [PRESUMED: log entry 42] -/
def rsCorrect (r : List Nat) : Option (List Nat × Nat) :=
  let syn := rsSyndromes r
  if syn.all (fun x => decide (x = 0)) then some (r, 0)
  else
    let x := locatorOf syn
    let js := locatorRoots x.c
    if 6 < x.l || js.length ≠ x.l then none
    else
      let r := js.foldl (fun r j => r.set (271 - j) (r.getD (271 - j) 0 ^^^ errorAt syn x.c j)) r
      if (rsSyndromes r).all (fun y => decide (y = 0)) then some (r, js.length) else none

/-- What a received word carries: symbols corrected, header, data bytes. [PRESUMED: log entry 42] -/
def decodeCodeword (r : List Nat) : Option (Nat × Nat × List Byte) :=
  match rsCorrect r with
  | none => none
  | some a => some (a.2, ofSymbols (a.1.take 3), toBytes 320 (ofSymbols ((a.1.drop 3).take 256)))

end Sys2Proof.Machine
end

