-- ==== Sys2Proof/Machine/Bucket.lean ====
section
/-! DEFINITION. Buckets: their table, shards and areas, accumulation into tiles, LACC, residual banks, tracking at the
commit (11). -/

namespace Sys2Proof.Machine

/-! ## Bucket table (Table 11-1) -/

/-- Address of bucket b's entry. -/
def State.bucketAddr (s : State) (p b : Nat) : Nat := pkey (spFast p) (s.odv 0 0x5800 (p + 1) + b * 128)

/-- Bytes 0 to 63 of an entry. -/
def State.bucketRaw (s : State) (p b : Nat) : Nat := s.num (s.bucketAddr p b) 64

/-- Bytes 64 to 127 of an entry. -/
def State.bucketRest (s : State) (p b : Nat) : Nat := s.num (s.bucketAddr p b + 64) 64

/-- NELEM. -/
def bkN (r : Nat) : Nat := rawField r 0 4
/-- CFMT. -/
def bkCfmt (r : Nat) : Nat := bits 3 0 (rawField r 4 1)
/-- PRIV. -/
def bkPriv (r : Nat) : Bool := bit 4 (rawField r 4 1)
/-- TRACK. -/
def bkTrack (r : Nat) : Bool := bit 5 (rawField r 4 1)
/-- SAT_POLICY REPLAY. -/
def bkReplay (r : Nat) : Bool := bit 6 (rawField r 4 1)
/-- EXPERT. -/
def bkExpert (r : Nat) : Bool := bit 7 (rawField r 4 1)
/-- RFMT. -/
def bkRfmt (r : Nat) : Nat := rawField r 5 1
/-- NSTAGE. -/
def bkStages (r : Nat) : Nat := rawField r 6 1
/-- THIN. -/
def bkThin (r : Nat) : Nat := rawField r 7 1
/-- BCEIL. -/
def bkCeil (r : Nat) : Int := toSigned 16 (rawField r 8 2)
/-- LAYOUT_EPOCH. -/
def bkLayout (r : Nat) : Nat := rawField r 12 2
/-- THIN_INTERVAL. -/
def bkInterval (r : Nat) : Nat := rawField r 16 2
/-- THIN_PHASE. -/
def bkPhase (r : Nat) : Nat := rawField r 18 2
/-- THIN_PPM. -/
def bkPpm (r : Nat) : Nat := rawField r 20 4
/-- TILE_BASE. -/
def bkTile (r : Nat) : Nat := rawField r 24 6
/-- RESID_BASE. -/
def bkResid (r : Nat) : Nat := rawField r 30 6
/-- VISIT_ADDR. -/
def bkVisit (r : Nat) : Nat := rawField r 36 6
/-- LAYER_ID. -/
def bkLayer (r : Nat) : Nat := rawField r 42 2
/-- EXPERT_IX. -/
def bkExpertIx (r : Nat) : Nat := rawField r 44 2
/-- RBUF_OFFSET. -/
def bkRbuf (r : Nat) : Nat := rawField r 46 2
/-- DIM of stage k, 1 to 3. -/
def bkDim (r k : Nat) : Nat := rawField r (44 + 4 * k) 1
/-- N of stage k. -/
def bkRing (r k : Nat) : Nat := rawField r (45 + 4 * k) 1
/-- POS of stage k. -/
def bkPos (r k : Nat) : Nat := rawField r (46 + 4 * k) 1

/-- A contribution or result format. -/
def redFmt (f : Nat) : Bool := decide (5 ≤ f && f ≤ 8)

/-- No reserved value in bytes 0 to 63 (Table 11-1). -/
def bucketOk (r : Nat) : Bool :=
  decide (1 ≤ bkN r && bkN r ≤ 2 ^ 28) && redFmt (bkCfmt r) && redFmt (bkRfmt r) && decide (1 ≤ bkStages r && bkStages r ≤ 3)
    && decide (bkThin r < 4) && decide (-32746 ≤ bkCeil r) && decide (rawField r 14 2 = 0)
    && decide (1 ≤ bkInterval r && bkInterval r ≤ 1024) && decide (bkPhase r < bkInterval r)
    && (if bkThin r < 2 then decide (bkPpm r = 0) else decide (1 ≤ bkPpm r && bkPpm r ≤ 1000000))
    && decide (bkTile r % 128 = 0) && decide (bkResid r % 128 = 0) && (decide (bkThin r ≠ 0) || decide (bkResid r = 0))
    && (bkExpert r || (decide (bkVisit r = 0) && decide (bkLayer r = 0) && decide (bkExpertIx r = 0))) && decide (bkExpertIx r < 4096)
    && decide (bkRbuf r < 8192) && decide (bkVisit r < fastSize)
    && (List.range 3).all (fun i =>
        let k := i + 1
        if k ≤ bkStages r then
          decide (bkDim r k < 4) && (if bkDim r k = 3 then decide (bkRing r k = 7) else decide (2 ≤ bkRing r k && bkRing r k ≤ 32))
            && decide (bkPos r k < bkRing r k) && decide (rawField r (47 + 4 * k) 1 = 0)
        else decide (rawField r (44 + 4 * k) 4 = 0))
    && decide (rawField r 60 4 = 0)

/-- No reserved value in bytes 64 to 127 (Table 11-1). -/
def bucketRestOk (t : Nat) : Bool :=
  decide (rawField t 32 1 ≤ 16) && decide (rawField t 33 1 ≤ 15) && decide (rawField t 34 2 = 0) && decide (rawField t 36 1 ≤ 4)
    && decide (rawField t 37 1 < 16) && decide (rawField t 40 1 < 8) && decide (rawField t 41 3 = 0) && decide (rawField t 56 8 = 0)

/-- Bucket states (Table 11-1). -/
def bkIdle : Nat := 0
/-- OPEN. -/
def bkOpen : Nat := 1
/-- REDUCED. -/
def bkReduced : Nat := 2
/-- HELD. -/
def bkHeld : Nat := 3
/-- FAILED. -/
def bkFailed : Nat := 4

/-- STATE of a bucket. -/
def State.bucketState (s : State) (p b : Nat) : Nat := s.num (s.bucketAddr p b + 100) 1

/-- The reduction logic of Pier p outside an instruction: the commit, an abandonment, a release. -/
def Asker.reduction (p : Nat) : Asker := ⟨p, 0, 64 + 128 * p, 0⟩

/-- A write of n bytes of a bucket entry, from byte `at_` on, passes its home slice (07 R250). -/
def State.touchEntry (s : State) (p b : Nat) (k : Asker) (at_ n : Nat) : State :=
  s.touchWriteRun k 0 ffPattern (s.bucketAddr p b + at_, n)

/-- Set it. -/
def State.setBucketState (s : State) (p b v : Nat) : State :=
  (s.touchEntry p b (Asker.reduction p) 100 1).setNum (s.bucketAddr p b + 100) 1 v

/-- Entries in use of Pier p. -/
def State.bucketCount (s : State) (p : Nat) : Nat := s.odv 0 0x5807 (p + 1)

/-- CUR_LAYOUT. -/
def State.curLayout (s : State) : Nat := s.odv 0 0x5801 0

/-- PREV_LAYOUT follows every change of CUR_LAYOUT (15 R528). -/
def State.setLayout (s : State) (v : Nat) : State := (s.setOd 0 0x6040 0 s.curLayout).setOd 0 0x5801 0 v

/-! ## Shards and areas (11 R375, R376) -/

/-- Stage-k shard size, start and length of this module, k from 1; stage 0 is the whole bucket. -/
def shard (r : Nat) : Nat → Nat × Nat × Nat
  | 0 => (bkN r, 0, bkN r)
  | k + 1 =>
    let q := shard r k
    let sz := 2048 * ceilDiv q.2.2 (2048 * bkRing r (k + 1))
    (sz, q.2.1 + bkPos r (k + 1) * sz, min sz (q.2.2 - bkPos r (k + 1) * sz))

/-- s_k. -/
def shSize (r k : Nat) : Nat := (shard r k).1
/-- lo_k. -/
def shLo (r k : Nat) : Nat := (shard r k).2.1
/-- L_k. -/
def shLen (r k : Nat) : Nat := (shard r k).2.2

/-- Length of shard j of stage k within this module's stage-(k−1) range. -/
def shLenOf (r k j : Nat) : Nat := min (shSize r k) (shLen r (k - 1) - j * shSize r k)

/-- Bytes of an area of n words. -/
def areaSize (n : Nat) : Nat := alignUp (ceilDiv n 2048 * 32768 + ceilDiv n 2048 * 8) 128

/-- Offset of stage k's area from the tile base. -/
def areaOff (r k : Nat) : Nat := sumNat ((List.range (k - 1)).map (fun i => areaSize (shLen r (i + 1))))

/-- Size of all owner tile areas. -/
def tilesSize (r : Nat) : Nat := areaOff r (bkStages r + 1)

/-- Physical address of stage k's area: in the fast tier, or in the router's reduce buffer (11 R397). -/
def areaAt (p r k : Nat) : Nat :=
  (if bkPriv r then pkey spRouter (bkRbuf r * 4096) else pkey (spFast p) (bkTile r)) + areaOff r k

/-- Address of the status record of tile t of an area of n words. -/
def statAt (area n t : Nat) : Nat := area + ceilDiv n 2048 * 32768 + 8 * t

/-- The anchor (11 R377). -/
def bkAnchor (r : Nat) : Int := bkCeil r - 22

/-- Bytes from k on become zero. -/
def State.zeroRun (s : State) (k n : Nat) : State := { s with mem := Tab.without k n s.mem }

/-- Start the tiles of an area: status records alone (02 R61, 11 R385). -/
def State.startArea (s : State) (who : Asker) (area n : Nat) (anchor : Int) : State :=
  let s := s.touchWriteRun who 0 ffPattern (statAt area n 0, 8 * ceilDiv n 2048)
  (List.range (ceilDiv n 2048)).foldl (fun s t => s.setNum (statAt area n t) 8 (XaStat.start anchor).toNat) s

/-- A run of bytes of the tile register files meets a region that an engine other than the copy engines owns (06 R217, R218).
[DEDUCED: log entry 13] -/
def State.heldByOther (s : State) (k n : Nat) : Bool :=
  (regionsOf k n).any (fun r => s.regionOwner r ≠ 0 && s.regionOwner r ≠ 3)

/-- A number written by a copy engine: discarded in a region that another engine owns (06 R218). -/
def State.setNumBy (s : State) (k n v : Nat) : State := if s.heldByOther k n then s else s.setNum k n v

/-- A tile's 2,048 words become zero, but for words in regions that another engine owns. -/
def State.zeroTile (s : State) (k : Nat) : State :=
  if s.heldByOther k 32768 then
    (List.range 2048).foldl (fun s i => if s.heldByOther (k + 16 * i) 16 then s else s.zeroRun (k + 16 * i) 16) s
  else s.zeroRun k 32768

/-! ## The reduce buffer's errors (14 R506) -/

/-- A use of n bytes of a store: a block of the reduce buffer that holds an uncorrectable error delivers the NaN word, and holds
it from then on. [DEDUCED: log entry 27] -/
def State.bufferTouch (s : State) (k n : Nat) : State :=
  if pspace k ≠ spRouter || n = 0 then s else
  let hit (b : Nat) : Bool := granIn (poff k / 32) ((poff k + n - 1) / 32) b
  let t := (s.fab.bufBad.filter hit).foldl (fun (s : State) b =>
    s.setBytes (pkey spRouter (b * 32)) (toBytes 16 (2 ^ 127) ++ toBytes 16 (2 ^ 127))) s
  { t with fab := { t.fab with bufBad := s.fab.bufBad.filter (fun b => !hit b) } }

/-- A read of an area of n words, words and status records, for k. -/
def State.readArea (s : State) (who : Asker) (area n : Nat) : State :=
  let s := (s.touchReadRun who 0 (uePattern 8) (area, 16 * n)).touchReadRun who 0 ffPattern (statAt area n 0, 8 * ceilDiv n 2048)
  s.bufferTouch area (statAt area n (ceilDiv n 2048) - area)

/-! ## Accumulation into tiles (10 R357, 11 R383, R390) -/

/-- One term: a value, or a word under its own anchor. -/
inductive Term where
  | val (v : Val)
  | word (w : XaVal) (anchor : Int)
  deriving DecidableEq, Repr

/-- Add a term. -/
def Term.add (t : Term) (w : XaVal) (st : XaStat) : XaVal × XaStat :=
  match t with
  | .val v => addTerm v w st
  | .word x a => addXaTerm x a w st

/-- Add terms to word i of an area of n words; a status record is merged where given. -/
def State.accum (s : State) (area n i : Nat) (ts : List Term) (merge : Option XaStat) : State :=
  let a := statAt area n (i / 2048)
  let st := XaStat.ofNat (s.num a 8)
  let s := if st.empty then s.zeroTile (area + i / 2048 * 32768) else s
  let k := area + 16 * i
  let r := ts.foldl (fun x t => t.add x.1 x.2) (xaOfWord (s.num k 16), st)
  let st := match merge with | some m => m.absorb r.2 | none => r.2
  (s.setNumBy k 16 (wordOfXa r.1)).setNumBy a 8 st.toNat

/-- Adder operations on a run, for `who`: in a fast tier, or in the reduce buffer. -/
def State.adderRun (s : State) (who : Asker) (k n : Nat) : State :=
  if n = 0 then s
  else if pspace k < 2 then s.adderTouch (pspace k) (poff k) n who (uePattern 8)
  else s.bufferTouch k n

/-- Adder operations on the words of a run and on the status records of its tiles (07 R253). -/
def State.adderArea (s : State) (who : Asker) (area n first count : Nat) : State :=
  if count = 0 then s else
  (s.adderRun who (area + 16 * first) (16 * count)).adderRun who (statAt area n (first / 2048))
    (8 * ((first + count - 1) / 2048 - first / 2048 + 1))

/-- Word i of an XA128 area of n words as a source: zero while its tile is EMPTY. -/
def State.areaWord (s : State) (area n i : Nat) : XaVal × XaStat :=
  let st := XaStat.ofNat (s.num (statAt area n (i / 2048)) 8)
  (if st.empty then .fin 0 else xaOfWord (s.num (area + 16 * i) 16), st)

/-! ## Source elements (11 R383, R386) -/

/-- Physical address of an operand's elements laid out contiguously. -/
def Held.area (p : Nat) (l : Held) : Nat := (physOf p l.d.base).getD 0

/-- Regions of an operand, the status records of an XA128 area included. -/
def Held.areaRegions (p : Nat) (l : Held) : List Nat :=
  l.regions p ++ (if l.d.fmt = 8 && decide (0 < l.d.count) then
    regionsOf (statAt (l.area p) l.d.count 0) (8 * ceilDiv l.d.count 2048) else [])

/-- Element i of a copy engine's source is poison: of a stale use, or of a region another engine owns; for an XA128 word also where
its tile's status record lies in one (06 R217). [DEDUCED: log entry 27] -/
def State.srcBad (s : State) (p : Nat) (l : Held) (i : Nat) : Bool :=
  l.stale || s.elemForeign p 3 l i || (l.d.fmt = 8 && s.heldByOther (statAt (l.area p) l.d.count (i / 2048)) 8)

/-- Terms of element i of a source, and the record to merge with word 0 of its tile. -/
def State.srcTerms (s : State) (p : Nat) (l : Held) (i : Nat) : List Term × Option XaStat :=
  let bad := s.srcBad p l i
  match l.d.fmt with
  | 8 =>
    let w := s.areaWord (l.area p) l.d.count i
    ([.word (if bad then .poison else w.1) w.2.anchor], if i % 2048 = 0 && !bad then some w.2 else none)
  | 7 =>
    if bad then ([.val .poison, .val .poison], none)
    else
      let raw := s.readRaw p l.d i
      ([.val (decode .b32 (raw % 2 ^ 32)), .val (decode .b32 (raw / 2 ^ 32))], none)
  | f => ([.val (if bad then .poison else decode (floatOf f) (s.readRaw p l.d i))], none)

/-- The elements of an XA128 operand are contiguous. -/
def Desc.contiguous (d : Desc) : Bool :=
  decide (d.count = 0) || (List.range (d.count / d.extent 0)).all (fun r =>
    decide (d.addr (r * d.extent 0) = d.base + (r * d.extent 0 * elemSize d.fmt : Nat)))

/-- An XA128 operand with its status records lies in one region (11 R383, R393). -/
def areaIn (p : Nat) (l : Held) : Bool :=
  let n := l.d.count
  decide (n = 0) || (l.d.contiguous &&
    (match physOf p l.d.base, physOf p (l.d.base + (ceilDiv n 2048 * 32768 + ceilDiv n 2048 * 8 : Nat) - 1) with
     | some a, some b => decide (pspace a = pspace b)
     | _, _ => false))

/-! ## LACC (11 R383) -/

/-- First operand of LACC at fault (Table 11-11). [DEDUCED: log entries 21, 27] -/
def laccFault (p : Nat) (ops : List Held) : Option Nat :=
  let d := ops.getD 0 Held.none
  let src := ops.getD 1 Held.none
  if d.d.fmt ≠ 8 || !areaIn p d then some 0
  else if !redFmt src.d.fmt || badPlace p src || (src.d.fmt = 8 && !areaIn p src) then some 1
  else if d.d.count ≠ src.d.count || d.d.layout ≠ src.d.layout then some 1
  else none

/-- Add every element of a source into an area of n words. -/
def State.laccInto (s : State) (p area n : Nat) (src : Held) : State :=
  (List.range n).foldl (fun s i =>
    let t := s.srcTerms p src i
    s.accum area n i t.1 t.2) s

/-- An operand of a copy engine is read, an XA128 area with its status records. -/
def State.readSource (s : State) (p : Nat) (who : Asker) (l : Held) : State :=
  let s := s.readOperand p who l
  if l.d.fmt = 8 && decide (0 < l.d.count) then
    s.touchReadRun who l.d.hint ffPattern (statAt (l.area p) l.d.count 0, 8 * ceilDiv l.d.count 2048)
  else s

/-- One execution of LACC: it claims the regions of its target, as every copy does (06 R216 to R218).
[DESIGN CHOICE: log entry 11] -/
def State.laccRun (s : State) (p q : Nat) (f : Flight) (x : Nat) (ops : List Held) : State × Flight :=
  let d := ops.getD 0 Held.none
  let src := ops.getD 1 Held.none
  let area := d.area p
  let n := d.d.count
  let who := Asker.queue p q (f.args.getD 0 0)
  let cl := (s.release 3 f.owned).claim 3 (d.areaRegions p)
  let s := match cl.2.2 with
    | some r => cl.1.schedFault p q f x (regionAddr r) (cl.1.regionOwner r) 0
    | none => cl.1
  let rd := if f.args.getD 1 0 = 0 && !src.stale then s.firstForeignOf 3 ((src.areaRegions p).map (fun r => (1, r))) else none
  let s := match rd with
    | some r => s.schedFault p q f x (regionAddr r.2) (s.regionOwner r.2) r.1
    | none => s
  let f := if rd.isSome then { f with args := [f.args.getD 0 0, 1] } else f
  let s := s.readSource p who src
  let g := s.guardRuns f.guards [(area, 16 * n), (statAt area n 0, 8 * ceilDiv n 2048)]
  let s := (g.1.adderArea who area n 0 n).laccInto p area n src
  (s, { f with begun := x + 1, running := true, guards := g.2, owned := cl.2.1 })

/-- Executions of LACC from x on. -/
def State.laccAll (s : State) (p q : Nat) (f : Flight) : Nat → Nat → State × Option Flight
  | 0, _ => (s, some f)
  | fuel + 1, x =>
    let ops := f.stepped (fun k => k) x
    match laccFault p ops with
    | some j =>
      let s := f.guards.foldl (fun s r => s.guardEnd r) ((s.release 3 f.owned).dropReqs (f.args.getD 0 0))
      (s.operandFault p q f x j ((ops.getD j Held.none).d.base), none)
    | none =>
      let r := s.laccRun p q f x ops
      r.1.laccAll p q r.2 fuel (x + 1)

/-- Latch of LACC. -/
def State.laccLatch (s : State) (p q w : Nat) : State :=
  let raw := s.rawNest p (loopOf w)
  match s.latchAll p [cpHd w, cpHs w] with
  | none => s.descFault p q [cpHd w, cpHs w] (fun k => k)
  | some ops =>
    if !nestOk raw [true, true, false] then s.headFault p q 1 else
    let nest := parseNest raw
    if nest.total = 0 || ((ops.getD 0 Held.none).d.count = 0 && (laccFault p ops).isNone) then s.nullHead p q w
    else
      let f := { s.newFlight p q w ops nest false with args := [s.reqIdent p q, 0] }
      let g := s.guardCheck p q f [1]
      let s := g.1.advance p q w
      let r := s.laccAll p q g.2 nest.total 0
      match r.2 with
      | some f => r.1.pushFlight p q f
      | none => r.1

/-! ## Residual banks (11 R400, R401) -/

/-- Bank of committed epoch e. -/
def residBank (p r e : Nat) : Nat := pkey (spFast p) (bkResid r + (e % 2) * areaSize (bkN r))

/-- Elements with their values, by descending magnitude, ties by ascending index. -/
def insertMag (x : Nat × Val) : List (Nat × Val) → List (Nat × Val)
  | [] => [x]
  | y :: t => if 0 < x.2.abs.cmp y.2.abs then x :: y :: t else y :: insertMag x t

/-- `select_largest` of elements [lo, lo + n) of a bank (11 R401). -/
def State.selectLargest (s : State) (bank r lo n : Nat) : List Nat :=
  let k := ceilDiv (n * bkPpm r) 1000000
  let ws := (List.range n).map (fun j => (lo + j, s.areaWord bank (bkN r) (lo + j)))
  let isFin (w : XaVal) : Bool := match w with | .fin _ => true | _ => false
  let special := (ws.filter (fun w => !isFin w.2.1)).map (·.1)
  let rest := ((ws.filter (fun w => isFin w.2.1)).map (fun w => (w.1, decode .b32 (exportB32 w.2.2.anchor w.2.1)))).filter
    (fun w => !w.2.isZero)
  let best := (rest.foldl (fun l x => insertMag x l) []).take (k - special.length)
  (ws.map (·.1)).filter (fun i => special.contains i || best.any (fun b => b.1 = i))

/-- Emit the selected elements: their exports leave the bank, by adder operations on it. -/
def State.emitResid (s : State) (who : Asker) (bank n : Nat) (sel : List Nat) : State × List (Nat × Nat) :=
  sel.foldl (fun (a : State × List (Nat × Nat)) i =>
    let a := (a.1.adderArea who bank n i 1, a.2)
    let w := a.1.areaWord bank n i
    let v := exportB32 w.2.anchor w.1
    let t := match w.1 with
      | .fin _ => a.1.accum bank n i [.val (decode .b32 v).negate] none
      | _ => a.1.setNum (bank + 16 * i) 16 (wordOfXa (.fin 0))
    (t, a.2 ++ [(i, v)])) (s, [])

/-- The step sends (11 R401). -/
def thinSends (r e : Nat) : Bool := decide (bkThin r = 2) || decide ((e + bkPhase r) % bkInterval r = 0)

/-- First part of `thin_step`: the new bank from the old one and HS. -/
def State.thinAdd (s : State) (p r e : Nat) (who : Asker) (hs : Held) : State :=
  let n := bkN r
  let dst := residBank p r e
  let src := residBank p r (e + 1)
  let s := s.startArea who dst n (bkAnchor r)
  let s := (s.readArea who src n).adderArea who dst n 0 n
  let s := (List.range n).foldl (fun s i =>
    let w := s.areaWord src n i
    s.accum dst n i [.word w.1 w.2.anchor] (if i % 2048 = 0 then some w.2 else none)) s
  s.laccInto p dst n hs

/-! ## Tracking at the commit (11 R378, R379) -/

/-- `renorm_hist` (03 R99). -/
def renormHist (h : List Int) (n pos wOld wNew : Nat) : List Int × Nat × Nat :=
  let k := min n wNew
  let keep := (List.range k).map (fun i => h.getD ((pos + k * (wOld - 1) + i) % wOld) 0)
  (keep ++ List.replicate (16 - k) 0, k, k % wNew)

/-- The HIST_N most recent entries. -/
def histRecent (h : List Int) (n pos w : Nat) : List Int := (List.range n).map (fun i => h.getD ((pos + (i + 1) * (w - 1)) % w) 0)

/-- A reduction event record (Table 11-12). -/
def State.redEvent (s : State) (p code key d0 d1 : Nat) : State :=
  s.ringPut (.red p) (fun q => eventRec s.recEpoch key code ((Ring.red p).mid s.commit.attempt) q d0 d1)

/-- An event of a bucket recorded once in the attempt: marks 9 SATF_BUCKET, 10 NAN_BUCKET, 11 LATE_LAYOUT,
12 STALE_CONTRIB, 13 MALFORMED, 14 LAYOUT_REJECT. -/
def State.redOnce (s : State) (p kind b code d0 d1 : Nat) : State :=
  if s.isFirst kind (p * 4096 + b) then (s.setOnce kind (p * 4096 + b)).redEvent p code b d0 d1 else s

/-- History of an entry. -/
def State.bucketHist (s : State) (a : Nat) : List Int × Nat × Nat :=
  ((List.range 16).map (fun i => toSigned 16 (s.num (a + 64 + 2 * i) 2)), s.num (a + 96) 1, s.num (a + 97) 1)

/-- Put it. -/
def State.setBucketHist (s : State) (a : Nat) (h : List Int × Nat × Nat) : State :=
  ((s.setBytes (a + 64) (h.1.flatMap (fun x => toBytes 2 (ofSigned 16 x)))).setNum (a + 96) 1 h.2.1).setNum (a + 97) 1 h.2.2

/-- `bucket_track_at_commit` (11 R378). -/
def State.bucketTrack (s : State) (p b w : Nat) : State :=
  let a := s.bucketAddr p b
  let cmax := toSigned 16 (s.num (a + 10) 2)
  let h := s.bucketHist a
  let h := if cmax = -32768 then h else (h.1.set h.2.2 cmax, min (h.2.1 + 1) w, (h.2.2 + 1) % w)
  let s := s.setBucketHist a h
  let s :=
    if h.2.1 = 0 then s
    else
      let want : Int := (maxInt? (histRecent h.1 h.2.1 h.2.2 w)).getD 0 + s.odv 0 0x5802 0
      let c := clampInt (-32746) 32767 want
      let old := toSigned 16 (s.num (a + 8) 2)
      let s := if c ≠ want then (s.bump32 0 (0x5810 + p) 14 1).redEvent p 8 b (ofSigned 64 want) (ofSigned 64 c) else s
      let s := if c ≠ old then (s.bump32 0 (0x5810 + p) 13 1).redEvent p 7 b (ofSigned 64 old) (ofSigned 64 c) else s
      s.setNum (a + 8) 2 (ofSigned 16 c)
  s.setNum (a + 10) 2 (ofSigned 16 (-32768))

/-- Tracking of one bucket entry at the commit (11 R379); `old` is the RED_WINDOW of the step before where it
has changed. -/
def State.bucketTrackCommit (s : State) (p b : Nat) (old : Option Nat) : State :=
  let s := (s.touchReadRun (Asker.reduction p) 0 ffPattern (s.bucketAddr p b, 128))
  let r := s.bucketRaw p b
  let w := s.odv 0 0x5803 0
  let a := s.bucketAddr p b
  let s := if bkTrack r then s.touchEntry p b (Asker.reduction p) 0 128 else s
  let s := match old with
    | some wo =>
      if bkTrack r then
        let h := s.bucketHist a
        s.setBucketHist a (renormHist h.1 h.2.1 h.2.2 wo w)
      else s
    | none => s
  if bkTrack r && decide (s.bucketState p b = bkReduced) then s.bucketTrack p b w else s

/-- Tracking of every bucket entry in use at the commit. -/
def State.bucketsTrack (s : State) (old : Option Nat) : State :=
  [0, 1].foldl (fun s p => (List.range (s.bucketCount p)).foldl (fun s b => s.bucketTrackCommit p b old) s) s

/-- REDUCED, HELD and FAILED buckets become IDLE at the commit (Table 11-9). -/
def State.bucketsIdle (s : State) : State :=
  [0, 1].foldl (fun s p => (List.range (s.bucketCount p)).foldl (fun s b =>
    if s.bucketState p b = bkReduced || s.bucketState p b = bkHeld || s.bucketState p b = bkFailed then
      s.setBucketState p b bkIdle
    else s) s) s

/-! ## The reduce buffer (11 R398) -/

/-- PRIV buckets that are not IDLE: buffer offset and size in bytes. -/
def State.privBusy (s : State) : List (Nat × Nat) :=
  [0, 1].flatMap (fun p => ((List.range (s.bucketCount p)).filter (fun b =>
    bkPriv (s.bucketRaw p b) && decide (s.bucketState p b ≠ bkIdle))).map (fun b =>
      (bkRbuf (s.bucketRaw p b) * 4096, tilesSize (s.bucketRaw p b))))

/-- RBUF_IN_USE in 4 KiB units. -/
def State.rbufInUse (s : State) : Nat := sumNat (s.privBusy.map (fun x => ceilDiv x.2 4096))

/-- The limits on a PRIV bucket. -/
def State.privOk (s : State) (r : Nat) : Bool :=
  let o := bkRbuf r * 4096
  let z := tilesSize r
  decide (bkN r * elemSize (bkCfmt r) ≤ 2 ^ 20) && decide (s.privBusy.length < 64) && decide (o + z ≤ 2 ^ 25)
    && s.privBusy.all (fun x => decide (x.1 + x.2 ≤ o) || decide (o + z ≤ x.1))

end Sys2Proof.Machine
end

