-- ==== Sys2Proof/Machine/Reduce.lean ====
section
/-! DEFINITION. REDUCE, its packets, its responses, LFENCE, and the control of buckets (11). -/

namespace Sys2Proof.Machine

/-! ## Jobs -/

/-- The REDUCE in flight of bucket b. -/
def State.redOf (s : State) (p b : Nat) : Option Red := (s.pier p).reds.find? (fun j => j.bucket = b)

/-- Replace it. -/
def State.setRed (s : State) (p : Nat) (j : Red) : State :=
  s.modPier p (fun r => { r with reds := r.reds.map (fun x => if x.bucket = j.bucket then j else x) })

/-- Drop it. -/
def State.dropRed (s : State) (p b : Nat) : State :=
  s.modPier p (fun r => { r with reds := r.reds.filter (fun x => x.bucket ≠ b) })

/-- The engine of a REDUCE, as it accesses memory. -/
def Red.who (p : Nat) (j : Red) : Asker := Asker.queue p j.queue j.ident

/-- The sender of a contribution: packets of its class, as they reach the adders (08 R276). -/
def Asker.contribution (p : Nat) (priv : Bool) : Asker := Asker.fabric p (if priv then 4 else 3)

/-- Key of a contribution: RET, stage, position. -/
def gotKey (ret : Bool) (k pos : Nat) : Nat := b2n ret * 4096 + k * 64 + pos

/-- The value that REDUCE writes into HD belongs to this writer. -/
def Red.writer (p : Nat) (j : Red) : Writer := ⟨streamOf p j.queue, j.pc, j.gen⟩

/-! ## Packets (Table 11-4) -/

/-- Visit head (Table 10-5). -/
def visitHead (r visits : Nat) : Nat :=
  if bkExpert r then visits % 2 ^ 32 + bkExpertIx r * 2 ^ 32 + bkLayer r * 2 ^ 48 else 0

/-- Reduction header. -/
def redHeader (j : Red) (k : Nat) (ret : Bool) (kind off count pkts seq visits : Nat) : List Byte :=
  toBytes 32 (bkLayout j.raw + j.bucket * 2 ^ 16 + (k - 1) * 2 ^ 28 + b2n ret * 2 ^ 30 + bkPos j.raw k * 2 ^ 32 + kind * 2 ^ 37
    + j.att * 2 ^ 41 + j.tag * 2 ^ 48 + off * 2 ^ 64 + count * 2 ^ 96 + pkts * 2 ^ 128 + seq * 2 ^ 160
    + visitHead j.raw visits * 2 ^ 192)

/-- Module at ring position q of stage k (11 R373). -/
def State.ringModule (s : State) (r k q : Nat) : Nat :=
  match bkDim r k with
  | 0 => q + s.dim 0 * (s.my 1 + s.dim 1 * s.my 2)
  | 1 => s.my 0 + s.dim 0 * (q + s.dim 1 * s.my 2)
  | 2 => s.my 0 + s.dim 0 * (s.my 1 + s.dim 1 * q)
  | _ => q

/-- Payload bytes of one element by KIND (Table 11-5). -/
def kindSize (kind rfmt : Nat) : Nat :=
  match kind with
  | 0 => 2 | 1 => 4 | 2 => 8 | 3 => 16 | 4 => 8 | 6 => elemSize rfmt | _ => 0

/-- Most elements of a packet (14 R498). -/
def kindMax (kind rfmt : Nat) : Nat :=
  match kind with
  | 3 => 255
  | 6 => (4096 - 16) / elemSize rfmt
  | 0 => 2048 | 1 => 1024 | _ => 512

/-- A packet's part of a contribution: OFFSET, elements, the tile record of KIND 0x3 and 0x6. -/
structure Chunk where
  off : Nat
  elems : List Nat
  stat : Option Nat
  deriving DecidableEq, Repr

/-- Cut elements into packets; `fuel` bounds the number. -/
def chunksOf (cap : Nat) (stat : Option Nat) : Nat → Nat → List Nat → List Chunk
  | 0, _, _ => []
  | n + 1, off, l => if l.isEmpty then [] else ⟨off, l.take cap, stat⟩ :: chunksOf cap stat n (off + cap) (l.drop cap)

/-- Packets of elements of an area, tile by tile (11 R387): `word` and `stat` give element and record, OFFSET is
relative to `lo`. -/
def tileChunks (kind rfmt lo n : Nat) (word : Nat → Nat) (stat : Nat → Nat) (skip : Nat → Bool) : List Chunk :=
  (List.range (ceilDiv n 2048)).flatMap (fun t =>
    if skip t then []
    else
      let es := (List.range (min 2048 (n - 2048 * t))).map (fun i => word (lo + 2048 * t + i))
      chunksOf (kindMax kind rfmt) (some (stat ((lo + 2048 * t) / 2048))) es.length (2048 * t) es)

/-- Payload of a packet. -/
def Chunk.payload (kind rfmt : Nat) (c : Chunk) : List Byte :=
  (match c.stat with | some t => toBytes 16 t | none => []) ++ c.elems.flatMap (toBytes (kindSize kind rfmt))

/-- Send the packets of one contribution or result to a ring position. -/
def State.sendChunks (s : State) (p : Nat) (j : Red) (k pos : Nat) (ret : Bool) (kind : Nat) (cs : List Chunk) (visits : Nat) : State :=
  let nul := cs.isEmpty
  let kind := if nul then (if ret then 7 else 5) else kind
  let cs := if nul then [(⟨0, [], none⟩ : Chunk)] else cs
  let dest := s.ringModule j.raw k pos
  let rf := bkRfmt j.raw
  let s := ((List.range cs.length).zip cs).foldl (fun s c =>
    let off := if kind = 4 then 0 else c.2.off
    let body := redHeader j k ret kind off c.2.elems.length cs.length c.1 visits ++ c.2.payload kind rf
    let s := s.bump64 0 (0x5810 + p) 3 body.length
    let s := if kind = 4 then s.bump64 0 (0x5810 + p) 6 c.2.elems.length else s
    s.sendReq .reduce j.ident (bkLayout j.raw) (fun tag =>
      mkPacket dest s.moduleId p p (if bkPriv j.raw then 4 else 3) 3 0 1 0 tag body)) s
  if ret then s
  else if kind = 5 then
    let s := s.bump64 0 (0x5810 + p) 5 1
    if bkExpert j.raw then s.bump64 0 (0x5050 + p) 7 1 else s
  else s.bump64 0 (0x5810 + p) 2 1

/-! ## Applying terms at the owner (11 R390, R381) -/

/-- SATF_BUCKET of a tile that sets SATF. [DEDUCED: log entry 27] -/
def State.satfBucket (s : State) (p : Nat) (j : Red) (k t : Nat) : State :=
  if s.isFirst 9 (p * 4096 + j.bucket) then
    let s := (s.redOnce p 9 j.bucket 1 t k).bump32 0 (0x5810 + p) 11 1
    if bkReplay j.raw && decide (s.commit.attempt + 1 < s.odv 0 0x4013 0) && s.commit.inAttempt then
      { s with commit := { s.commit with satReplay := true } }
    else s
  else s

/-- Terms of one element of a packet. -/
def chunkTerms (kind : Nat) (stat : Option Nat) (e : Nat) : List Term :=
  match kind with
  | 0 => [.val (decode .bf16 e)]
  | 2 => [.val (decode .b32 (e % 2 ^ 32)), .val (decode .b32 (e / 2 ^ 32))]
  | 3 => [.word (xaOfWord e) (XaStat.ofNat (stat.getD 0)).anchor]
  | 4 => [.val (decode .b32 (e / 2 ^ 32))]
  | _ => [.val (decode .b32 e)]

/-- `apply_packet` (11 R390) at stage k, its adder operations charged to `who`. -/
def State.applyChunk (s : State) (p : Nat) (j : Red) (who : Asker) (k kind : Nat) (c : Chunk) : State :=
  let area := areaAt p j.raw k
  let n := shLen j.raw k
  let s := if kind = 4 then c.elems.foldl (fun s x => s.adderArea who area n (x % 2 ^ 32) 1) s
    else s.adderArea who area n c.off c.elems.length
  let s := ((List.range c.elems.length).zip c.elems).foldl (fun s x =>
    let i := if kind = 4 then x.2 % 2 ^ 32 else c.off + x.1
    let merge := if kind = 3 && i = c.off && i % 2048 = 0 then (c.stat.map XaStat.ofNat) else none
    s.accum area n i (chunkTerms kind c.stat x.2) merge) s
  let ts := (((List.range c.elems.length).zip c.elems).map (fun x => (if kind = 4 then x.2 % 2 ^ 32 else c.off + x.1) / 2048)).eraseDups
  ts.foldl (fun s t => if (XaStat.ofNat (s.num (statAt area n t) 8)).satf then s.satfBucket p j k t else s) s

/-- Runs of bytes that a packet's terms write: words, and status records. -/
def chunkRuns (p : Nat) (j : Red) (k kind : Nat) (c : Chunk) : List (Nat × Nat) :=
  let area := areaAt p j.raw k
  let n := shLen j.raw k
  if kind = 4 then
    c.elems.flatMap (fun x => [(area + 16 * (x % 2 ^ 32), 16), (statAt area n (x % 2 ^ 32 / 2048), 8)])
  else if c.elems.isEmpty then []
  else
    [(area + 16 * c.off, 16 * c.elems.length),
     (statAt area n (c.off / 2048), 8 * ((c.off + c.elems.length - 1) / 2048 - c.off / 2048 + 1))]

/-! ## HD (11 R378, R393 to R395) -/

/-- A final element as HD's watch sees it: code, SAT, value. -/
def finalWrote (rf i e : Nat) (st : XaStat) : Wrote :=
  match rf with
  | 5 => ⟨i, e, false, decode .bf16 e, decode .bf16 e⟩
  | 7 => ⟨i, e, false, decode .b32 (e % 2 ^ 32), decode .b32 (e % 2 ^ 32)⟩
  | 8 => ⟨i, e, false, decode .b32 (exportB32 st.anchor (xaOfWord e)), decode .b32 (exportB32 st.anchor (xaOfWord e))⟩
  | _ => ⟨i, e, false, decode .b32 e, decode .b32 e⟩

/-- ATT_CMAX raised by a value (11 R378). [DESIGN CHOICE: log entry 81] -/
def State.raiseCmax (s : State) (p b : Nat) (v : Val) : State :=
  match v.ilog2 with
  | some e =>
    let a := s.bucketAddr p b + 10
    if toSigned 16 (s.num a 2) < e then s.setNum a 2 (ofSigned 16 e) else s
  | none => s

/-- What ATT_CMAX measures of a final value e received in RFMT: the binary32 export of the word, which the value gives in every
format but BF16. A BF16 value leaves the exponent of the word open where it is a power of two, which the rounding may have reached
from below, an infinity, or a zero: a free value takes one of those that the rounding allows. [DESIGN CHOICE: log entry 81] -/
def State.resultVal (s : State) (rf e : Nat) (st : XaStat) : Val × State :=
  let v := (finalWrote rf 0 e st).stored
  if rf ≠ 5 then (v, s) else
  let unit (x : Int) : Val := .fin false 1 x
  match v with
  | .inf _ =>
    let f := s.takeFree 1
    (if f.1 = 0 then v else unit 127, f.2)
  | .fin _ m _ =>
    if m = 0 then
      let f := s.takeFree 32
      (if f.1 % 17 = 16 then v else unit (-149 + (f.1 % 17 : Nat)), f.2)
    else
      match v.ilog2 with
      | some x =>
        if decide (v.abs.cmp (unit x) = 0) && decide (-149 < x) then
          let f := s.takeFree 1
          (if f.1 = 0 then v else unit (x - 1), f.2)
        else (v, s)
      | none => (v, s)
  | v => (v, s)

/-- What ATT_CMAX measures of the final values of a packet. -/
def State.resultVals (s : State) (rf : Nat) (es : List Nat) (st : XaStat) : List Val × State :=
  es.foldl (fun a e => let r := a.2.resultVal rf e st; (a.1 ++ [r.1], r.2)) ([], s)

/-- Write final values from flat index g0 on, all of one tile, and keep them to be sent on; `meas` gives what ATT_CMAX measures. -/
def State.writeFinal (s : State) (p : Nat) (j : Red) (g0 : Nat) (es : List Nat) (st : Nat) (meas : List Val) : State × Red :=
  let rf := bkRfmt j.raw
  let t := g0 / 2048
  let rec' := XaStat.ofNat st
  let ix := (List.range es.length).zip es
  let s := ix.foldl (fun s x => s.putElem p 3 (j.hd.d.addr (g0 + x.1)) (elemSize rf) x.2) s
  let kept := ix.filter (fun x => !s.barred p 3 [] (j.hd.d.addr (g0 + x.1)) (elemSize rf))
  let s := s.watchWrites p (j.writer p) j.hd.d (kept.map (fun x => finalWrote rf (g0 + x.1) x.2 rec'))
  let s := if bkTrack j.raw then meas.foldl (fun s v => s.raiseCmax p j.bucket v) (s.touchEntry p j.bucket (j.who p) 10 2) else s
  let j := { j with vals := ix.foldl (fun m x => Tab.set 0 m (g0 + x.1) x.2) j.vals }
  match Tab.get none j.tiles t with
  | some _ => (s, j)
  | none =>
    let s := s.watchExport p (j.writer p) j.hd.d rec'.wspill { rec' with satf := false }
    let s := if rf = 8 && !s.heldByOther (statAt (j.hd.area p) (bkN j.raw) t) 8 then
        s.write (statAt (j.hd.area p) (bkN j.raw) t) (toBytes 8 st) else s
    (s, { j with tiles := Tab.set none j.tiles t (some st) })

/-- Send the results of this module's stage-k range to its ring (11 R393, R394). [DEDUCED: log entry 27] -/
def State.sendResults (s : State) (p : Nat) (j : Red) (k : Nat) : State :=
  let lo := shLo j.raw k
  let n := shLen j.raw k
  if n = 0 then s else
  let cs := if bkExpert j.raw && decide (j.v = 0) then []
    else tileChunks 6 (bkRfmt j.raw) lo n (Tab.get 0 j.vals) (fun t => (Tab.get none j.tiles t).getD 0) (fun _ => false)
  (List.range (bkRing j.raw k - 1)).foldl (fun s d =>
    s.sendChunks p j k ((bkPos j.raw k + d + 1) % bkRing j.raw k) true 6 cs j.v) s

/-- Final export of one tile's word in RFMT (11 R393). -/
def finalElem (rf : Nat) (w : XaVal) (st : XaStat) : Nat :=
  match rf with
  | 5 => (convert .bf16 (xaValue st.anchor w)).1
  | 7 => (exportPair st.anchor w).1 + (exportPair st.anchor w).2 * 2 ^ 32
  | 8 => wordOfXa w
  | _ => exportB32 st.anchor w

/-- FLAGS of a tile (Table 11-1). -/
def tileFlags (st : XaStat) : Nat := b2n st.satf + b2n st.nanf * 2 + b2n st.inff * 4 + b2n st.poisonf * 8

/-- The final export of the owner's shard: an uncorrectable error met in a tile is a NaN word there (11 R393, R413). -/
def State.finalExport (s : State) (p : Nat) (j : Red) : State × Red :=
  let k := bkStages j.raw
  let n := shLen j.raw k
  let area := areaAt p j.raw k
  let rf := bkRfmt j.raw
  let s := s.readArea (j.who p) area n
  (List.range (ceilDiv n 2048)).foldl (fun (a : State × Red) t =>
    let st := XaStat.ofNat (a.1.num (statAt area n t) 8)
    let s := if st.nanf || st.inff || st.poisonf then a.1.redOnce p 10 j.bucket 2 (tileFlags st) k else a.1
    let ws := (List.range (min 2048 (n - 2048 * t))).map (fun i => (s.areaWord area n (2048 * t + i)).1)
    let s := if st.satf && j.hd.d.watchEn then s.watchFirst p 3 5 j.hd.d.watchId (j.writer p).data0 st.toNat else s
    s.writeFinal p a.2 (shLo j.raw k + 2048 * t) (ws.map (fun w => finalElem rf w st)) st.toNat
      (ws.map (fun w => decode .b32 (exportB32 st.anchor w)))) (s, j)

/-! ## Stages (11 R391, R392, R394) -/

/-- Elements of the whole stage-k result range. -/
def retWhole (r k : Nat) : Nat := shLen r (k - 1)

/-- Results of n elements held at stage k. -/
def Red.addRet (j : Red) (k n : Nat) : Red := { j with ret := Tab.set 0 j.ret k (Tab.get 0 j.ret k + n) }

/-- The result range of stage k is whole: sent on, or HD is full. -/
def State.retStep (s : State) (p : Nat) (j : Red) (k : Nat) : State × Red :=
  if decide (k ≤ bkStages j.raw) && decide (1 ≤ k) && !j.retDone.contains k && decide (Tab.get 0 j.ret k = retWhole j.raw k)
      && (decide (k = bkStages j.raw) || j.retDone.contains (k + 1)) then
    let j := { j with retDone := k :: j.retDone }
    if k = 1 then (s, { j with full := true })
    else (s.sendResults p j (k - 1), j.addRet (k - 1) (shLen j.raw (k - 1)))
  else (s, j)

/-- Return steps from the last stage down. -/
def State.retSteps (s : State) (p : Nat) (j : Red) : State × Red :=
  let a := s.retStep p j 3
  let a := a.1.retStep p a.2 2
  a.1.retStep p a.2 1

/-- Mark a contribution complete with its VISITS. -/
def Red.contribDone (j : Red) (k pos visits : Nat) : Red :=
  { j with done := gotKey false k pos :: j.done, visits := Tab.set 0 j.visits k (wrap32 (Tab.get 0 j.visits k + visits)) }

/-- Contributions complete at stage k. -/
def Red.doneAt (j : Red) (k : Nat) : Nat := (j.done.filter (fun x => decide (x / 64 = k))).length

/-- Word and record of the stage-k area, as numbers. -/
def State.stageWord (s : State) (p : Nat) (r k i : Nat) : Nat := wordOfXa (s.areaWord (areaAt p r k) (shLen r k) i).1

/-- Packets of shard q of stage k + 1 from this module's stage-k area: only tiles that are not EMPTY. -/
def State.forwardChunks (s : State) (p : Nat) (r k q : Nat) : List Chunk :=
  let area := areaAt p r k
  let n := shLen r k
  let lo := q * shSize r (k + 1)
  let st (t : Nat) : Nat := s.num (statAt area n t) 8
  tileChunks 3 0 lo (shLenOf r (k + 1) q) (s.stageWord p r k) st (fun t => (XaStat.ofNat (st (lo / 2048 + t))).empty)

/-- The complete stage-k shard goes on as this module's stage-(k + 1) contribution (11 R392). -/
def State.forward (s : State) (p : Nat) (j : Red) (k : Nat) : State × Red :=
  let n := bkRing j.raw (k + 1)
  let v := Tab.get 0 j.visits k
  let s := s.readArea (j.who p) (areaAt p j.raw k) (shLen j.raw k)
  let s := (List.range n).foldl (fun s d =>
    let q := (bkPos j.raw (k + 1) + d) % n
    if shLenOf j.raw (k + 1) q = 0 then s
    else
      let cs := s.forwardChunks p j.raw k q
      if d = 0 then cs.foldl (fun s c => s.applyChunk p j (j.who p) (k + 1) 3 c) s
      else s.sendChunks p j (k + 1) q false 3 cs v) s
  (s, if shLen j.raw (k + 1) = 0 then j else j.contribDone (k + 1) (bkPos j.raw (k + 1)) v)

/-- What a complete shard of stage k does. -/
def State.stageStep (s : State) (p : Nat) (j : Red) (k : Nat) : State × Red :=
  let ready := decide (k ≤ bkStages j.raw) && !j.stageDone.contains k
    && (if shLen j.raw k = 0 then decide (k = 1) || j.stageDone.contains (k - 1) else decide (j.doneAt k = bkRing j.raw k))
  if !ready then (s, j) else
  let j := { j with stageDone := k :: j.stageDone }
  if k < bkStages j.raw then s.forward p j k
  else
    let j := { j with v := if bkExpert j.raw && decide (shLen j.raw k ≠ 0) then Tab.get 0 j.visits k else j.v }
    let a := if bkExpert j.raw && decide (j.v = 0) then (s, j) else s.finalExport p j
    (a.1.sendResults p a.2 k, a.2.addRet k (shLen j.raw k))

/-- Stages in order, then the return; none of them once the instruction has ended in an engine reset.
[DEDUCED: log entry 28] -/
def State.redSteps (s : State) (p : Nat) (j : Red) : State :=
  if j.ended then s.setRed p j else
  let a := s.stageStep p j 1
  let a := a.1.stageStep p a.2 2
  let a := a.1.stageStep p a.2 3
  let a := a.1.retSteps p a.2
  a.1.setRed p a.2

/-! ## Stage 1 (11 R386) -/

/-- KIND of a contribution format. -/
def packetKind (cfmt : Nat) : Nat := match cfmt with | 5 => 0 | 6 => 1 | 7 => 2 | _ => 3

/-- Element i of HS as it is contributed. -/
def State.contribElem (s : State) (p : Nat) (j : Red) (i : Nat) : Nat :=
  let cf := bkCfmt j.raw
  let bad := s.srcBad p j.hs i
  if j.hs.d.fmt = 8 then
    let w := s.areaWord (j.hs.area p) (bkN j.raw) i
    finalElem cf (if bad then .poison else w.1) w.2
  else
    let raw := if bad then poisonRaw j.hs.d.fmt else s.readRaw p j.hs.d i
    if j.hs.d.fmt = 6 && cf = 5 then (convert .bf16 (decode .b32 raw)).1 else raw

/-- Packets of stage-1 shard q. -/
def State.contribChunks (s : State) (p : Nat) (j : Red) (q : Nat) : List Chunk :=
  let kind := packetKind (bkCfmt j.raw)
  let lo := q * shSize j.raw 1
  let n := shLenOf j.raw 1 q
  if kind = 3 then
    tileChunks 3 0 lo n (s.contribElem p j) (fun t => s.num (statAt (j.hs.area p) (bkN j.raw) t) 8) (fun _ => false)
  else
    let es := (List.range n).map (fun i => s.contribElem p j (lo + i))
    chunksOf (kindMax kind 0) none es.length 0 es

/-- Send shard q's contribution, or apply it where q is this module's own. -/
def State.contribute (s : State) (p : Nat) (j : Red) (kind q : Nat) (cs : List Chunk) (visits : Nat) : State × Red :=
  if shLenOf j.raw 1 q = 0 then (s, j)
  else if q = bkPos j.raw 1 then
    (cs.foldl (fun s c => s.applyChunk p j (j.who p) 1 kind c) s, j.contribDone 1 q visits)
  else (s.sendChunks p j 1 q false kind cs visits, j)

/-- Ring positions of stage 1 in the order of R386. -/
def ringOrder (r : Nat) : List Nat := (List.range (bkRing r 1)).map (fun d => (bkPos r 1 + d) % bkRing r 1)

/-- Contributions of a bucket without thinning. -/
def State.contribAll (s : State) (p : Nat) (j : Red) (visits : Nat) : State × Red :=
  let null := bkExpert j.raw && decide (visits = 0)
  (ringOrder j.raw).foldl (fun (a : State × Red) q =>
    a.1.contribute p a.2 (packetKind (bkCfmt j.raw)) q (if null then [] else a.1.contribChunks p a.2 q) visits) (s, j)

/-- Contributions of a thinned bucket (11 R401, R402). -/
def State.contribThin (s : State) (p : Nat) (j : Red) (e : Nat) : State × Red :=
  let bank := residBank p j.raw e
  let s := s.readArea (j.who p) bank (bkN j.raw)
  (ringOrder j.raw).foldl (fun (a : State × Red) q =>
    let lo := q * shSize j.raw 1
    let n := shLenOf j.raw 1 q
    let all := decide (bkThin j.raw = 1)
    let sel := if all then (List.range n).map (lo + ·) else a.1.selectLargest bank j.raw lo n
    let r := a.1.emitResid (j.who p) bank (bkN j.raw) sel
    let es := if all then r.2.map (·.2) else r.2.map (fun x => (x.1 - lo) + x.2 * 2 ^ 32)
    let kind := if all then 1 else 4
    r.1.contribute p a.2 kind q (chunksOf (kindMax kind 0) none es.length 0 es) 0) (s, j)

/-! ## Latch (11 R385, Table 11-11) -/

/-- BUCKET of a REDUCE word. -/
def redBucket (w : Nat) : Nat := bits 47 36 w

/-- The DIM values differ. -/
def dimsDiffer (r : Nat) : Bool :=
  let ds := (List.range (bkStages r)).map (fun i => bkDim r (i + 1))
  decide (ds.eraseDups.length = ds.length)

/-- First check of REDUCE that fails: operand position, or 7. -/
def State.redFault (s : State) (p b r : Nat) (ops : List Held) : Option Nat :=
  let hd := ops.getD 0 Held.none
  let hs := ops.getD 1 Held.none
  let cf := bkCfmt r
  if s.bucketState p b ≠ bkIdle then some 7
  else if !(hs.d.fmt = cf || hs.d.fmt = 8 || (hs.d.fmt = 6 && cf = 5)) || decide (hs.d.count ≠ bkN r) || badPlace p hs
    || (hs.d.fmt = 8 && !areaIn p hs) then some 1
  else if decide (hd.d.fmt ≠ bkRfmt r) || decide (hd.d.count ≠ bkN r) || badPlace p hd || (hd.d.fmt = 8 && !areaIn p hd) then some 0
  else if hs.d.layout ≠ s.curLayout then some 1
  else if hd.d.layout ≠ s.curLayout then some 0
  else if bkLayout r ≠ s.curLayout || !dimsDiffer r then some 7
  else if decide (bkThin r ≠ 0) && !(decide (cf = 6) && !bkTrack r && !bkPriv r && !bkExpert r) then some 7
  else if bkPriv r && !s.privOk r then some 7
  else if bkExpert r && (decide (bkVisit r = 0) || decide (bkVisit r % 16 ≠ 0)) then some 7
  else if (!bkPriv r && decide (fastSize < bkTile r + tilesSize r))
    || (decide (bkThin r ≠ 0) && decide (fastSize < bkResid r + 2 * areaSize (bkN r))) then some 7
  else none

/-- Open the bucket: its entry's record and its owned status records. -/
def State.openBucket (s : State) (p b r : Nat) (who : Asker) : State :=
  let a := s.bucketAddr p b
  let s := (s.touchEntry p b who 10 2).touchEntry p b who 100 8
  let s := s.setNum (a + 10) 2 (ofSigned 16 (-32768))
  let s := s.setNum (a + 100) 8 (bkOpen + (s.eNext % 2 ^ 16) * 2 ^ 16 + s.commit.attempt * 2 ^ 32)
  (List.range (bkStages r)).foldl (fun s i => s.startArea who (areaAt p r (i + 1)) (shLen r (i + 1)) (bkAnchor r)) s

/-- The completion record, with STATE v. -/
def State.redRecord (s : State) (p : Nat) (j : Red) (v : Nat) : State :=
  let a := s.bucketAddr p j.bucket
  let s := (s.touchEntry p j.bucket (j.who p) 100 2).touchEntry p j.bucket (j.who p) 108 12
  let ts := (j.tiles.filterMap (·.2)).map XaStat.ofNat
  let fl := ts.foldl (fun x t => x ||| tileFlags t) 0
  let s := ((s.setNum (a + 100) 1 v).setNum (a + 101) 1 fl).setNum (a + 108) 4 j.v
  s.setNum (a + 112) 8 (sat64 (sumNat (ts.map (·.wspill))))

/-- The REDUCE of a bucket ends: its job goes and its instruction completes. -/
def State.redEnd (s : State) (p : Nat) (j : Red) : State :=
  let s := s.dropRed p j.bucket
  match s.flightOf p j.queue j.ident with
  | some k =>
    match s.flight p j.queue k with
    | some f => ((s.release 3 f.owned).putFlight p j.queue k { f with owned := [] }).workDone p j.queue k
    | none => s
  | none => s

/-- REDUCE, its checks passed. -/
def State.redRun (s : State) (p q w r : Nat) (ops : List Held) : State :=
  let ident := s.reqIdent p q
  let b := redBucket w
  let f := { s.newFlight p q w ops Nest.one false with args := [ident, 0] }
  let g := s.guardCheck p q f [1]
  let hd := g.2.ops.getD 0 Held.none
  let hs := g.2.ops.getD 1 Held.none
  let who := Asker.queue p q ident
  let cl := g.1.claim 3 (hd.areaRegions p)
  let s := match cl.2.2 with
    | some x => cl.1.schedFault p q g.2 0 (regionAddr x) (cl.1.regionOwner x) 0
    | none => cl.1
  let s := match (if hs.stale then none else s.firstForeignOf 3 ((hs.areaRegions p).map (fun r => (1, r)))) with
    | some x => s.schedFault p q g.2 0 (regionAddr x.2) (s.regionOwner x.2) 1
    | none => s
  let s := if bkExpert r then s.touchReadRun who 0 ffPattern (pkey (spFast p) (bkVisit r), 4) else s
  let visits := if bkExpert r then s.num (pkey (spFast p) (bkVisit r)) 4 else 0
  let s := (s.openBucket p b r who).bump64 0 (0x5810 + p) 1 1
  let gr := s.guardRuns g.2.guards (physRuns p hd.runs ++ [(s.bucketAddr p b, 128)]
    ++ (if hd.d.fmt = 8 then [(statAt (hd.area p) (bkN r) 0, 8 * ceilDiv (bkN r) 2048)] else [])
    ++ (if bkPriv r then [] else [(pkey (spFast p) (bkTile r), tilesSize r)])
    ++ (if bkThin r = 0 then [] else [(residBank p r s.eNext, areaSize (bkN r))]))
  let s := (gr.1.readSource p who hs).writeOperand p who hd
  let j : Red :=
    { bucket := b, queue := q, ident := ident, raw := r, hs := hs, hd := hd, pc := g.2.pc, gen := g.2.gen,
      tag := s.eNext % 2 ^ 16, att := s.commit.attempt, got := [], done := [], visits := [], stageDone := [], ret := [],
      retDone := [], tiles := [], v := 0, full := false, rejected := false, vals := [], ended := false }
  let s := (s.advance p q w).pushFlight p q { g.2 with guards := gr.2, owned := cl.2.1 }
  let s := s.modPier p (fun x => { x with reds := x.reds ++ [j] })
  if bkThin r = 0 then
    let a := s.contribAll p j visits
    a.1.redSteps p a.2
  else
    let e := s.eNext
    let s := s.thinAdd p r e who hs
    if thinSends r e then
      let a := s.contribThin p j e
      a.1.redSteps p a.2
    else ((s.redRecord p j bkHeld).bump64 0 (0x5810 + p) 12 1).redEnd p j

/-- Latch of REDUCE. -/
def State.redLatch (s : State) (p q w : Nat) : State :=
  match s.latchAll p [cpHd w, cpHs w] with
  | none => s.descFault p q [cpHd w, cpHs w] (fun k => k)
  | some ops =>
    let b := redBucket w
    let s := if b < s.bucketCount p then s.touchReadRun (Asker.queue p q 0) 0 ffPattern (s.bucketAddr p b, 128) else s
    let r := s.bucketRaw p b
    let f := s.newFlight p q w ops Nest.one false
    if s.bucketCount p ≤ b then (s.advance p q w).operandFault p q f 0 7 0
    else if !(bucketOk r && bucketRestOk (s.bucketRest p b)) then s.headFault p q 1
    else match s.redFault p b r ops with
      | some k => (s.advance p q w).operandFault p q f 0 k (if k < 7 then (ops.getD k Held.none).d.base else 0)
      | none => s.redRun p q w r ops

/-- REDUCE_COMPLETE of bucket b (11 R389, R395, R396): every element of HD written and globally visible, or a rejection, and no
response awaited. -/
def State.redComplete (s : State) (p b : Nat) : State :=
  match s.redOf p b with
  | none => s
  | some j =>
    if j.ended || !(j.full || j.rejected) || s.fab.reqs.any (fun x => x.ident = j.ident) || s.asking j.ident
      || !s.host.snoopWait.isEmpty then s
    else (s.redRecord p j (if j.rejected then bkFailed else bkReduced)).redEnd p j

/-! ## Arriving packets (11 R388) -/

/-- x is ahead of y. -/
def ahead (x y : Nat) : Bool := let d := (x + 2 ^ 16 - y % 2 ^ 16) % 2 ^ 16; decide (1 ≤ d && d < 2 ^ 15)

/-- Step and attempt of a packet against the receiver's: 0 equal, 1 ahead, 2 behind (13 R450). -/
def State.judgeStep (s : State) (tag att : Nat) : Nat :=
  let e := s.eNext % 2 ^ 16
  if tag = e then (if att = s.commit.attempt then 0 else if s.commit.attempt < att then 1 else 2)
  else if ahead tag e then 1 else 2

/-- Elements in the receiver's stage shard, or in the result range of the sender. -/
def redRoom (r k pos : Nat) (ret : Bool) : Nat := if ret then shLenOf r k pos else shLen r k

/-- Fields of a reduction header. -/
structure RedHdr where
  layout : Nat
  bucket : Nat
  stage : Nat
  ret : Bool
  pos : Nat
  kind : Nat
  att : Nat
  tag : Nat
  off : Nat
  count : Nat
  pkts : Nat
  seq : Nat
  visits : Nat
  deriving DecidableEq, Repr

/-- Parse a header; the stage is numbered from 1. -/
def parseRed (h : Nat) : RedHdr :=
  { layout := bits 15 0 h, bucket := bits 27 16 h, stage := bits 29 28 h + 1, ret := bit 30 h, pos := bits 36 32 h, kind := bits 40 37 h,
    att := bits 43 41 h, tag := bits 63 48 h, off := bits 95 64 h, count := bits 111 96 h, pkts := bits 159 128 h, seq := bits 191 160 h,
    visits := bits 223 192 h }

/-- Check 1 of Table 11-6 fails. [DEDUCED: log entry 27] -/
def redMalformed (r : Nat) (h : RedHdr) (data : List Byte) : Bool :=
  let size := (if h.kind = 3 || h.kind = 6 then 16 else 0) + h.count * kindSize h.kind (bkRfmt r)
  decide (7 < h.kind) || decide (h.stage = 4) || decide (bkStages r < h.stage) || decide (bkRing r h.stage ≤ h.pos)
    || (h.ret != (h.kind = 6 || h.kind = 7))
    || decide (data.length ≠ size) || ((h.kind = 5 || h.kind = 7) && (decide (h.count ≠ 0) || decide (h.pkts ≠ 1)))
    || ((h.kind < 4 || h.kind = 6) && decide (redRoom r h.stage h.pos h.ret < h.off + h.count))
    || (h.kind = 4 && (List.range h.count).any (fun i => decide (redRoom r h.stage h.pos false ≤ ofBytes ((data.drop (8 * i)).take 4))))

/-- A rejection counted and recorded once for the bucket and attempt. -/
def State.redReject (s : State) (p : Nat) (h : RedHdr) (raw src sub mark code : Nat) : State :=
  (s.bump32 0 (0x5810 + p) sub 1).redOnce p mark h.bucket code (raw % 2 ^ 64) src

/-- The packet's part as a chunk. -/
def chunkOf (h : RedHdr) (rfmt : Nat) (data : List Byte) : Chunk :=
  let st := decide (h.kind = 3 || h.kind = 6)
  let z := kindSize h.kind rfmt
  let d := if st then data.drop 16 else data
  { off := h.off, elems := (List.range h.count).map (fun i => ofBytes ((d.drop (i * z)).take z)),
    stat := if st then some (ofBytes (data.take 8)) else none }

/-- An accepted RESULT or NULL_RESULT. -/
def State.takeResult (s : State) (p : Nat) (j : Red) (h : RedHdr) (c : Chunk) (last : Bool) : State :=
  let key := gotKey true h.stage h.pos
  let j := if bkExpert j.raw then { j with v := h.visits } else j
  let rf := bkRfmt j.raw
  let st := XaStat.ofNat (c.stat.getD 0)
  let g0 := shLo j.raw (h.stage - 1) + h.pos * shSize j.raw h.stage + h.off
  let a := if h.kind = 6 then
      let m := s.resultVals rf c.elems st
      let s := m.2.guardOnce (physRuns p ((List.range c.elems.length).map (fun i => (j.hd.d.addr (g0 + i), elemSize rf))))
      s.writeFinal p j g0 c.elems (c.stat.getD 0) m.1
    else (s, j)
  let n := if h.kind = 6 then h.count else shLenOf j.raw h.stage h.pos
  let j := if last then { a.2 with done := key :: a.2.done } else a.2
  a.1.redSteps p (j.addRet h.stage n)

/-- An accepted contribution packet. -/
def State.takeContrib (s : State) (p : Nat) (j : Red) (h : RedHdr) (c : Chunk) (last : Bool) : State :=
  let s := if h.kind = 5 then s
    else
      let s := s.guardOnce (chunkRuns p j h.stage h.kind c)
      s.applyChunk p j (Asker.contribution p (bkPriv j.raw)) h.stage h.kind c
  if last then (s.bump64 0 (0x5810 + p) 4 1).redSteps p (j.contribDone h.stage h.pos h.visits)
  else s.setRed p j

/-- The reduce context of a bucket: that of its REDUCE, where the bucket is PRIV (14 R506). -/
def State.contextOf (s : State) (p b : Nat) : Option Red := (s.redOf p b).filter (fun j => bkPriv j.raw)

/-- Judge and apply a packet (Table 11-6): the state and the response. `priv`: at the reduce contexts, which judge by the entry
they have loaded, and answer as check 6 for a bucket without a loaded context (14 R506). -/
def State.redJudge (s : State) (p : Nat) (priv : Bool) (pk : Packet) : State × Nat :=
  let raw := ofBytes (pk.body.take 32)
  let h := parseRed raw
  let data := pk.body.drop 32
  let s := if priv then s else s.touchReadRun (Asker.contribution p false) 0 ffPattern (s.bucketAddr p h.bucket, 128)
  let job := if priv then s.contextOf p h.bucket else s.redOf p h.bucket
  let r := match priv, job with | true, some j => j.raw | _, _ => s.bucketRaw p h.bucket
  let st := match priv, job with
    | true, some _ => bkOpen
    | true, none => bkIdle
    | false, _ => s.bucketState p h.bucket
  let step := s.judgeStep h.tag h.att
  if pk.body.length < 32 || redMalformed r h data then (s.redReject p h raw pk.src 10 13 5, 4)
  else if step = 2 then (s.redReject p h raw pk.src 9 12 4, 2)
  else if step = 1 then (s, 1)
  else if h.layout ≠ s.curLayout && !ahead h.layout s.curLayout then (s.redReject p h raw pk.src 8 11 3, 3)
  else if h.layout ≠ s.curLayout then (s, 1)
  else if st = bkIdle then (s, 1)
  else match job with
    | none => (s.redReject p h raw pk.src 10 13 5, 4)
    | some j =>
      let key := gotKey h.ret h.stage h.pos
      if st ≠ bkOpen || j.done.contains key then (s.redReject p h raw pk.src 10 13 5, 4)
      else if bkLayout r ≠ h.layout then (s.redReject p h raw pk.src 8 11 3, 3)
      else
        let n := Tab.get 0 j.got key + 1
        let j := { j with got := Tab.set 0 j.got key n }
        let c := chunkOf h (bkRfmt r) data
        (if h.ret then s.takeResult p j h c (decide (n = h.pkts)) else s.takeContrib p j h c (decide (n = h.pkts)), 0)

/-- The oldest packet at the reduce contexts, and the rest. -/
def State.takeContext (s : State) : Option (Packet × State) :=
  match s.fab.inboxR with
  | [] => none
  | k :: t => some (k, { s with fab := { s.fab with inboxR := t } })

/-- REDUCE_PACKET: the oldest TC 3 packet of Pier p, or with `priv` the oldest at the reduce contexts. -/
def State.redPacket (s : State) (p : Nat) (priv : Bool) : State :=
  if priv then
    match s.takeContext with
    | none => s
    | some x =>
      let r := x.2.redJudge x.1.destPier true x.1
      r.1.respond x.1 r.2
  else
    match s.inboxOf p 3 with
    | none => s
    | some pk =>
      let r := (s.takeInbox p 3).redJudge p false pk
      r.1.respond pk r.2

/-! ## Responses (11 R389) -/

/-- A response to a reduction packet. -/
def State.redResponse (s : State) (q : Req) (code : Nat) : State :=
  let p := q.pkt.srcPier
  let b := bits 27 16 (ofBytes (q.pkt.body.take 32))
  let job := (s.redOf p b).filter (fun j => j.ident = q.ident)
  let gone (s : State) : State := { s with fab := { s.fab with reqs := s.fab.reqs.filter (fun (x : Req) => x.tag ≠ q.tag) } }
  match code, job with
  | 0, _ => gone s
  | 1, some _ => { s with fab := { s.fab with reqs := s.fab.reqs.map (fun (x : Req) => if x.tag = q.tag then { x with retry := true } else x) } }
  | _, none => gone s
  | c, some j => ((((gone s).redOnce p 14 b 6 q.pkt.dest c).setRed p { j with rejected := true })).markFaulted

/-- A retry after RETRY_DELAY of the request with a TAG, of reduction kind. [DESIGN CHOICE: log entry 41] -/
def State.redRetry (s : State) (tag : Nat) : State :=
  match s.fab.reqs.find? (fun x => decide (x.tag = tag) && x.retry && decide (x.kind = .reduce)) with
  | none => s
  | some q =>
    let s := { s with fab := { s.fab with reqs := s.fab.reqs.map (fun (x : Req) => if x.tag = tag then { x with retry := false } else x) } }
    (s.bump64 0 (0x5810 + q.pkt.srcPier) 7 1).toRouter q.pkt

/-! ## LFENCE (11 R405, 15 R528) -/

/-- NEW_LAYOUT. -/
def fenceLayout (w : Nat) : Nat := bits 23 8 w

/-- Latch of LFENCE. -/
def State.fenceLatch (s : State) (p q w : Nat) : State :=
  if fenceLayout w = s.curLayout then s.nullHead p q w
  else
    let ident := s.reqIdent p q
    let f := { s.newFlight p q w [] Nest.one false with args := [ident] }
    let s := (s.advance p q w).pushFlight p q f
    { s with fab := { s.fab with fences := s.fab.fences ++ [⟨p, q, ident, fenceLayout w⟩] } }

/-- A PERMUTE is in flight. -/
def State.permuting (s : State) : Bool :=
  [0, 1].any (fun p => (s.pier p).queues.any (fun q => q.2.flights.any (fun f => decide (64 ≤ q.1 && q.1 < 80) && !f.null && decide (opOf f.word = 0x29))))

/-- LAYOUT_EPOCH that a request's packet carries (Tables 11-4, 15-4). -/
def Req.layout (r : Req) : Nat :=
  ofBytes (if r.kind = .reduce then r.pkt.body.take 2 else (r.pkt.body.drop 2).take 2)

/-- The module is drained: no bucket OPEN, no response awaited of the current layout, no PERMUTE in flight. -/
def State.drained (s : State) : Bool :=
  s.p0.reds.isEmpty && s.p1.reds.isEmpty && !s.permuting
    && !(s.fab.reqs.any (fun x => (x.kind = .reduce || x.kind = .mapData || x.kind = .mapSignal) && decide (x.layout = s.curLayout)))

/-- LFENCE_APPLY: the oldest fence. -/
def State.fenceApply (s : State) : State :=
  match s.fab.fences with
  | [] => s
  | f :: t =>
    if !s.drained then s else
    let old := s.curLayout
    let s := { s with fab := { s.fab with fences := t } }
    let s := (s.setLayout f.layout).redEvent f.pier 9 0 old f.layout
    match s.flightOf f.pier f.queue f.ident with
    | some k => s.workDone f.pier f.queue k
    | none => s

/-- A write of CUR_LAYOUT (11 Table 11-13, 15 R528): the result code and the state. [DESIGN CHOICE: log entry 74] -/
def State.layoutWrite (s : State) (v : Nat) : Nat × State :=
  if 2 ^ 16 ≤ v then (3, s)
  else if !(s.p0.reds.isEmpty && s.p1.reds.isEmpty) || s.permuting then (2, s)
  else (0, s.setLayout v)

/-! ## Release and abandonment (Table 11-9) -/

/-- BUCKET_CONTROL release of one bucket: the result code and the state. [DESIGN CHOICE: log entry 74] -/
def State.releaseBucket (s : State) (p b : Nat) : Nat × State :=
  if s.bucketCount p ≤ b then (0, s)
  else if s.bucketState p b = bkOpen then (2, s)
  else (0, s.setBucketState p b bkIdle)

/-- BUCKET_CONTROL 0b10: every bucket of the Pier that is not OPEN. -/
def State.releaseAll (s : State) (p : Nat) : State :=
  (List.range (s.bucketCount p)).foldl (fun s b => if s.bucketState p b = bkOpen then s else s.setBucketState p b bkIdle) s

/-- The attempt is abandoned: every OPEN bucket becomes IDLE and its REDUCE, where an engine reset has not ended it already,
completes at once. [DEDUCED: log entry 28] -/
def State.abandonBuckets (s : State) : State :=
  let s := [0, 1].foldl (fun s p => (s.pier p).reds.foldl (fun s j =>
    let s := { s with fab := { s.fab with reqs := s.fab.reqs.filter (fun x => !(decide (x.ident = j.ident) && x.retry)) } }
    (s.setBucketState p j.bucket bkIdle).redEnd p j) s) s
  [0, 1].foldl (fun s p => (List.range (s.bucketCount p)).foldl (fun s b =>
    if s.bucketState p b = bkOpen then s.setBucketState p b bkIdle else s) s) s

/-- A reset of Pier p: its buckets become IDLE, its REDUCEs are gone. [DEDUCED: log entry 28] -/
def State.resetBuckets (s : State) (p : Nat) : State :=
  let s := (List.range (s.bucketCount p)).foldl (fun s b =>
    if s.bucketState p b = bkIdle then s else s.setBucketState p b bkIdle) s
  s.modPier p (fun r => { r with reds := [] })

/-! ## Rows -/

/-- REDUCE on copy engine e. -/
def execReduce (p e : Nat) (s : State) : Host.Outcome State Fault Refusal :=
  .next (s.issue p (64 + e) 0x20 copyOk (fun t w => t.redLatch p (64 + e) w))
/-- LACC. -/
def execLacc (p e : Nat) (s : State) : Host.Outcome State Fault Refusal :=
  .next (s.issue p (64 + e) 0x21 copyOk (fun t w => t.laccLatch p (64 + e) w))
/-- LFENCE. -/
def execLfence (p e : Nat) (s : State) : Host.Outcome State Fault Refusal :=
  .next (s.issue p (64 + e) 0x22 copyOk (fun t w => t.fenceLatch p (64 + e) w))
/-- LFENCE_APPLY. -/
def execLfenceApply (s : State) : Host.Outcome State Fault Refusal := .next s.fenceApply
/-- REDUCE_PACKET. -/
def execReducePacket (p : Nat) (priv : Bool) (s : State) : Host.Outcome State Fault Refusal := .next (s.redPacket p priv)
/-- REDUCE_COMPLETE. -/
def execReduceComplete (p b : Nat) (s : State) : Host.Outcome State Fault Refusal := .next (s.redComplete p b)
/-- REDUCE_RETRY of the request with a TAG. -/
def execReduceRetry (tag : Nat) (s : State) : Host.Outcome State Fault Refusal := .next (s.redRetry tag)
/-- RELEASE_BUCKET. -/
def execReleaseBucket (p b : Nat) (s : State) : Host.Outcome State Fault Refusal := .next (s.releaseBucket p b).2
/-- RELEASE_ALL_BUCKETS. -/
def execReleaseAllBuckets (p : Nat) (s : State) : Host.Outcome State Fault Refusal := .next (s.releaseAll p)
/-- CUR_LAYOUT_WRITE. -/
def execCurLayoutWrite (v : Nat) (s : State) : Host.Outcome State Fault Refusal := .next (s.layoutWrite v).2

end Sys2Proof.Machine
end

