-- ==== Sys2Proof/Machine/Mapping.lean ====
section
/-! DEFINITION. The map protocol: RWRITE, PERMUTE and their packets (15). -/

namespace Sys2Proof.Machine

/-! ## Packets (Table 15-4) -/

/-- A map packet of this module for Pier dp of module m. -/
def State.mapPacket (s : State) (p m dp kind : Nat) (slow : Bool) (layout sig addr : Nat) (data : List Byte) (tag : Nat) : Packet :=
  mkPacket m s.moduleId dp p 6 7 0 1 0 tag
    (toBytes 32 (kind + (s.commit.attempt + b2n slow * 8) * 2 ^ 8 + layout * 2 ^ 16 + (s.eNext % 2 ^ 16) * 2 ^ 32 + sig * 2 ^ 48
      + addr * 2 ^ 64) ++ data)

/-- DATA packets of bytes, 4,096 each. -/
def State.sendMapData (s : State) (p m dp : Nat) (slow : Bool) (layout ident group : Nat) : Nat → Nat → List Byte → State
  | 0, _, _ => s
  | fuel + 1, a, bs =>
    if bs.isEmpty then s else
    ((s.bump64 0 (0x6041 + p) 3 (min 4096 bs.length)).sendReq .mapData ident group
      (s.mapPacket p m dp 1 slow layout 0 a (bs.take 4096))).sendMapData p m dp slow layout ident group fuel (a + 4096) (bs.drop 4096)

/-- The DATA packets of a transfer, and its SIGNAL once they are all accepted (15 R517). -/
def State.sendMap (s : State) (p m dp : Nat) (slow : Bool) (layout ident group sig addr : Nat) (data : List Byte) : State :=
  let pk := s.mapPacket p m dp 2 false layout sig 0 []
  if data.isEmpty then s.sendReq .mapSignal ident group pk
  else
    let s := s.sendMapData p m dp slow layout ident group data.length addr data
    { s with fab := { s.fab with after := s.fab.after ++ [⟨ident, group, pk 0⟩] } }

/-- Bytes of an operand in flat order; poison where another engine owns the region. -/
def State.mapBytes (s : State) (p : Nat) (l : Held) (lo n : Nat) : List Byte :=
  (List.range n).flatMap (fun i => toBytes (elemSize l.d.fmt) (s.copyRaw p l (lo + i)))

/-! ## RWRITE (15 R517, Table 15-10) -/

/-- DEST. -/
def rwDest (w : Nat) : Nat := bits 51 36 w
/-- DEST_PIER. -/
def rwPier (w : Nat) : Nat := bits 52 52 w
/-- RSIG. -/
def rwSig (w : Nat) : Nat := bits 62 53 w

/-- HD names one contiguous run of the fast or the slow tier, read at the destination. -/
def rwDestOk (d : Desc) : Bool :=
  let sel := d.base / 2 ^ 44
  let o := (d.base % 2 ^ 44).toNat
  (sel = 0 || sel = 3) && d.contiguous && decide (o + d.count * elemSize d.fmt ≤ if sel = 0 then fastSize else slowSize)

/-- First operand of RWRITE at fault, 7 for none of them. -/
def State.rwFault (s : State) (p w : Nat) (ops : List Held) : Option Nat :=
  let d := ops.getD 0 Held.none
  let src := ops.getD 1 Held.none
  if decide (src.d.fmt < 4) || badPlace p src then some 1
  else if decide (d.d.fmt < 4) || d.d.fmt ≠ src.d.fmt || d.d.count ≠ src.d.count || !rwDestOk d.d then some 0
  else if src.d.layout ≠ s.curLayout then some 1
  else if s.moduleCount ≤ rwDest w then some 7
  else none

/-- One execution of RWRITE. [DEDUCED: log entry 73] -/
def State.rwRun (s : State) (p q : Nat) (f : Flight) (x : Nat) (ops : List Held) : State × Flight :=
  let d := (ops.getD 0 Held.none).d
  let src := ops.getD 1 Held.none
  let rd := if f.args.getD 1 0 = 0 && !src.stale then s.firstForeign p 3 [(1, src)] else none
  let s := match rd with
    | some r => s.schedFault p q f x (regionAddr r.2) (s.regionOwner r.2) r.1
    | none => s
  let f := if rd.isSome then { f with args := f.args.set 1 1 } else f
  let s := s.readOperand p (Asker.queue p q (f.args.getD 0 0)) src
  let s := s.sendMap p (rwDest f.word) (rwPier f.word) (d.base / 2 ^ 44 = 3) src.d.layout (f.args.getD 0 0) x (rwSig f.word)
    (d.base % 2 ^ 44).toNat (s.mapBytes p src 0 src.d.count)
  (s, { f with begun := x + 1, running := true })

/-- Executions of RWRITE from x on. -/
def State.rwAll (s : State) (p q : Nat) (f : Flight) : Nat → Nat → State × Option Flight
  | 0, _ => (s, some f)
  | fuel + 1, x =>
    let ops := f.stepped (fun k => k) x
    match s.rwFault p f.word ops with
    | some j => ((s.dropReqs (f.args.getD 0 0)).operandFault p q f x j (if j < 7 then (ops.getD j Held.none).d.base else 0), none)
    | none =>
      let r := s.rwRun p q f x ops
      r.1.rwAll p q r.2 fuel (x + 1)

/-- Latch of RWRITE. Arguments of its flight: identity, SCHED_FAULT recorded, rejected. -/
def State.rwLatch (s : State) (p q w : Nat) : State :=
  let raw := s.rawNest p (loopOf w)
  match s.latchAll p [cpHd w, cpHs w] with
  | none => s.descFault p q [cpHd w, cpHs w] (fun k => k)
  | some ops =>
    if !nestOk raw [true, true, false] then s.headFault p q 1 else
    let nest := parseNest raw
    if nest.total = 0 then s.nullHead p q w
    else
      let f := { s.newFlight p q w ops nest false with args := [s.reqIdent p q, 0, 0] }
      let g := s.guardCheck p q f [1]
      let s := g.1.advance p q w
      let r := s.rwAll p q g.2 nest.total 0
      match r.2 with
      | some f => r.1.pushFlight p q f
      | none => r.1

/-! ## PERMUTE (15 R527, Table 15-8) -/

/-- Entry k of the permute table, as 32 bytes. -/
def State.permEntry (s : State) (p : Nat) (ht : Held) (k : Nat) : Nat :=
  ofBytes ((List.range 8).flatMap (fun i => toBytes 4 (s.readU32 p 3 ht (8 * k + i))))

/-- SRC_ELEM. -/
def pmSrc (e : Nat) : Nat := rawField e 0 4
/-- COUNT. -/
def pmCount (e : Nat) : Nat := rawField e 4 4
/-- DEST. -/
def pmDest (e : Nat) : Nat := rawField e 8 2
/-- DEST_PIER. -/
def pmPier (e : Nat) : Nat := bits 0 0 (rawField e 10 1)
/-- REGION. -/
def pmSlow (e : Nat) : Bool := bit 1 (rawField e 10 1)
/-- SIG. -/
def pmSig (e : Nat) : Nat := rawField e 12 2
/-- DEST_ADDR. -/
def pmAddr (e : Nat) : Nat := rawField e 16 8

/-- An entry fails Table 15-10. -/
def State.permBad (s : State) (src : Held) (e : Nat) : Bool :=
  let w := elemSize src.d.fmt
  decide (4 ≤ rawField e 10 1) || decide (rawField e 11 1 ≠ 0) || decide (1024 ≤ pmSig e) || decide (rawField e 14 2 ≠ 0)
    || decide (rawField e 24 8 ≠ 0) || decide (src.d.count < pmSrc e + pmCount e) || decide (pmAddr e % w ≠ 0)
    || decide ((if pmSlow e then slowSize else fastSize) < pmAddr e + pmCount e * w) || decide (s.moduleCount ≤ pmDest e)

/-- First operand of PERMUTE at fault. -/
def State.permFault (s : State) (p : Nat) (ops : List Held) : Option Nat :=
  let ht := ops.getD 0 Held.none
  let src := ops.getD 1 Held.none
  if ht.d.fmt ≠ 9 || decide (ht.d.extent 0 % 8 ≠ 0) || badPlace p ht then some 0
  else if decide (src.d.fmt < 4) || badPlace p src then some 1
  else if src.d.layout ≠ s.odv 0 0x6040 0 then some 1
  else if (List.range (ht.d.count / 8)).any (fun k => s.permBad src (s.permEntry p ht k)) then some 0
  else none

/-- One entry: a copy within the module and its counter, or packets. [DEDUCED: log entry 73] -/
def State.permRun (s : State) (p : Nat) (f : Flight) (src : Held) (k e : Nat) : State × Flight :=
  let data := s.mapBytes p src (pmSrc e) (pmCount e)
  if pmDest e = s.moduleId then
    let a := s.writeBy p f 0 (pkey (if pmSlow e then spSlow else spFast (pmPier e)) (pmAddr e)) data
    (a.1.addCounter (pmPier e) (pmSig e) 1, a.2)
  else
    (s.sendMap p (pmDest e) (pmPier e) (pmSlow e) s.curLayout (f.args.getD 0 0) k (pmSig e) (pmAddr e) data, f)

/-- A map instruction completes, counted, once its last response has arrived and its reads and writes are done (07 R252).
[DEDUCED: log entry 73] -/
def State.mapDone (s : State) (p q ident : Nat) : State :=
  if !s.allVisible ident then s else
  match s.flightOf p q ident with
  | none => s
  | some k =>
    match s.flight p q k with
    | none => s
    | some f => (s.bump64 0 (0x6041 + p) (if opOf f.word = 0x28 then 1 else 2) 1).workDone p q k

/-- Latch of PERMUTE. -/
def State.permLatch (s : State) (p q w : Nat) : State :=
  match s.latchAll p [cpHd w, cpHs w] with
  | none => s.descFault p q [cpHd w, cpHs w] (fun k => k)
  | some ops =>
    let ident := s.reqIdent p q
    let f := { s.newFlight p q w ops Nest.one false with args := [ident, 0, 0] }
    let s := s.readOperand p (Asker.queue p q ident) (ops.getD 0 Held.none)
    match s.permFault p ops with
    | some j => ((s.dropReqs ident).advance p q w).operandFault p q f 0 j ((ops.getD j Held.none).d.base)
    | none =>
      let ht := ops.getD 0 Held.none
      if ht.d.count = 0 then s.nullHead p q w
      else
        let g := s.guardCheck p q f [0, 1]
        let src := g.2.ops.getD 1 Held.none
        let s := match (if src.stale then none else g.1.firstForeign p 3 [(1, src)]) with
          | some r => g.1.schedFault p q f 0 (regionAddr r.2) (g.1.regionOwner r.2) r.1
          | none => g.1
        let s := (s.advance p q w).readOperand p (Asker.queue p q ident) src
        let es := (List.range (ht.d.count / 8)).map (fun k => (k, s.permEntry p ht k))
        let a := es.foldl (fun (a : State × Flight) e => a.1.permRun p a.2 src e.1 e.2) (s, g.2)
        (a.1.pushFlight p q a.2.wrote).mapDone p q ident

/-! ## Responses (15 R517, R520) -/

/-- Every DATA of a transfer is accepted: its SIGNAL is sent. -/
def State.mapSignalNow (s : State) (ident group : Nat) : State :=
  if s.fab.reqs.any (fun x => decide (x.ident = ident) && decide (x.group = group)) then s else
  match s.fab.after.find? (fun a => decide (a.ident = ident) && decide (a.group = group)) with
  | none => s
  | some a =>
    let s := { s with fab := { s.fab with after := s.fab.after.filter (fun x => !(decide (x.ident = ident) && decide (x.group = group))) } }
    s.sendReq .mapSignal ident group (fun tag => mkPacket a.pkt.dest s.moduleId a.pkt.destPier a.pkt.srcPier 6 7 0 1 0 tag a.pkt.body)

/-- A response to a map packet. [DEDUCED: log entry 73] -/
def State.mapResponse (s : State) (r : Req) (code : Nat) : State :=
  let p := r.pkt.srcPier
  let gone (s : State) : State := { s with fab := { s.fab with reqs := s.fab.reqs.filter (fun (x : Req) => x.tag ≠ r.tag) } }
  match code with
  | 0 => ((gone s).mapSignalNow r.ident r.group).mapDone p (identQueue r.ident) r.ident
  | 1 => { s with fab := { s.fab with reqs := s.fab.reqs.map (fun (x : Req) => if x.tag = r.tag then { x with retry := true } else x) } }
  | _ =>
    let h := ofBytes (r.pkt.body.take 32)
    let mine := decide (s.judgeStep (bits 47 32 h) (bits 10 8 h) = 0)
    let s := (gone s).bump32 0 (0x6041 + p) 6 1
    let s := if mine then s.markFaulted else s
    let s := { s with fab := { s.fab with after := s.fab.after.filter (fun x => x.ident ≠ r.ident) } }
    s.mapDone p (identQueue r.ident) r.ident

/-- MAP_RETRY of the request with a TAG. [DESIGN CHOICE: log entry 41] -/
def State.mapRetry (s : State) (tag : Nat) : State :=
  match s.fab.reqs.find? (fun x => decide (x.tag = tag) && x.retry && (x.kind = .mapData || x.kind = .mapSignal)) with
  | none => s
  | some q =>
    let s := { s with fab := { s.fab with reqs := s.fab.reqs.map (fun (x : Req) => if x.tag = tag then { x with retry := false } else x) } }
    (s.bump64 0 (0x6041 + q.pkt.srcPier) 5 1).toRouter q.pkt

/-! ## Arriving packets (Table 15-5) -/

/-- A reserved field, no data, or bytes past the region's end. -/
def mapMalformed (h : Nat) (pk : Packet) : Bool :=
  let n := pk.body.length - 32
  let kind := bits 7 0 h
  decide (pk.body.length < 32) || !(kind = 1 || kind = 2) || decide (bits 15 12 h ≠ 0) || decide (bits 255 128 h ≠ 0)
    || (if kind = 1 then decide (bits 63 48 h ≠ 0) || decide (n = 0)
          || decide ((if bit 11 h then slowSize else fastSize) < bits 127 64 h + n)
        else decide (1024 ≤ bits 63 48 h) || decide (bits 127 64 h ≠ 0) || decide (n ≠ 0))

/-- Checks 1 to 5 of Table 15-5: the state and the response, 0 where the packet passes them. [DEDUCED: log entry 73] -/
def State.mapJudge (s : State) (p : Nat) (pk : Packet) : State × Nat :=
  let h := ofBytes (pk.body.take 32)
  let step := s.judgeStep (bits 47 32 h) (bits 10 8 h)
  let lay := bits 31 16 h
  if mapMalformed h pk then (s.bump32 0 (0x6041 + p) 9 1, 4)
  else if step = 2 then (s.bump32 0 (0x6041 + p) 8 1, 2)
  else if step = 1 then (s, 1)
  else if lay ≠ s.curLayout && !ahead lay s.curLayout then (s.bump32 0 (0x6041 + p) 7 1, 3)
  else if lay ≠ s.curLayout then (s, 1)
  else (s, 0)

/-- Slow-tier lines of a run that the host holds: BISnpInv goes out for each (16 R544). -/
def State.invalidateRun (s : State) (off n : Nat) : State :=
  ((List.range ((off + n + 63) / 64 - off / 64)).map (off / 64 + ·)).foldl (fun s l =>
    if s.host.filter.contains l then s.slowLineWrite (pkey spSlow (l * 64)) [] else s) s

/-- A line of the run is held by the host, or its invalidation is outstanding. -/
def State.runHeld (s : State) (off n : Nat) : Bool :=
  ((List.range ((off + n + 63) / 64 - off / 64)).map (off / 64 + ·)).any (fun l =>
    s.host.filter.contains l || s.host.snoopWait.any (fun w => w.1 = l))

/-- MAP_DATA: the oldest TC 6 packet of Pier p, where it is no SIGNAL. A write to lines that the host holds waits for
their invalidation, and so does its response. -/
def State.mapData (s : State) (p : Nat) : State :=
  match s.inboxOf p 6 with
  | none => s
  | some pk =>
    let h := ofBytes (pk.body.take 32)
    if bits 7 0 h = 2 then s else
    let off := bits 127 64 h
    let data := pk.body.drop 32
    let j := s.mapJudge p pk
    if j.2 ≠ 0 then (j.1.takeInbox p 6).respond pk j.2
    else if bit 11 h then
      if s.runHeld off data.length then s.invalidateRun off data.length
      else ((s.takeInbox p 6).storeRun (Asker.fabric p 6) 0 (pkey spSlow off) data).respond pk 0
    else (((s.takeInbox p 6).guardOnce [(pkey (spFast p) off, data.length)]).storeRun (Asker.fabric p 6) 0 (pkey (spFast p) off) data).respond pk 0

/-- MAP_SIGNAL: the oldest TC 6 packet of Pier p, where it is a SIGNAL. -/
def State.mapSignal (s : State) (p : Nat) : State :=
  match s.inboxOf p 6 with
  | none => s
  | some pk =>
    let h := ofBytes (pk.body.take 32)
    if bits 7 0 h ≠ 2 then s else
    let j := s.mapJudge p pk
    if j.2 ≠ 0 then (j.1.takeInbox p 6).respond pk j.2
    else (((s.takeInbox p 6).addCounter p (bits 57 48 h) 1).bump64 0 (0x6041 + p) 4 1).respond pk 0

/-! ## Rows -/

/-- COPY_COMPLETE of engine e: a local copy, or a map instruction whose reads and writes were the last to end.
[DESIGN CHOICE: log entry 11] -/
def State.copyDone (s : State) (p e : Nat) : State :=
  match (s.queue p (64 + e)).flights with
  | [] => s
  | f :: _ =>
    if opOf f.word = 0x28 || opOf f.word = 0x29 then s.mapDone p (64 + e) (f.args.getD 0 0) else s.copyComplete p e

/-- COPY_COMPLETE. -/
def execCopyComplete (p e : Nat) (s : State) : Host.Outcome State Fault Refusal := .next (s.copyDone p e)

/-- RWRITE on copy engine e. -/
def execRwrite (p e : Nat) (s : State) : Host.Outcome State Fault Refusal :=
  .next (s.issue p (64 + e) 0x28 copyOk (fun t w => t.rwLatch p (64 + e) w))
/-- PERMUTE. -/
def execPermute (p e : Nat) (s : State) : Host.Outcome State Fault Refusal :=
  .next (s.issue p (64 + e) 0x29 copyOk (fun t w => t.permLatch p (64 + e) w))
/-- MAP_DATA. -/
def execMapData (p : Nat) (s : State) : Host.Outcome State Fault Refusal := .next (s.mapData p)
/-- MAP_SIGNAL. -/
def execMapSignal (p : Nat) (s : State) : Host.Outcome State Fault Refusal := .next (s.mapSignal p)
/-- MAP_RETRY of the request with a TAG. -/
def execMapRetry (tag : Nat) (s : State) : Host.Outcome State Fault Refusal := .next (s.mapRetry tag)

end Sys2Proof.Machine
end

