-- ==== Sys2Proof/Machine/Fabric.lean ====
section
/-! DEFINITION. The Viaduct's ports, link layer and router: codewords and control words, packets that arrive, pass and
are delivered, WRITE and RESPONSE, the states of a port (14). -/

namespace Sys2Proof.Machine

/-! ## Control words (Table 14-4) -/

/-- A control word of a CTYPE with a 32-bit number (ACK, NAK). -/
def ctlNum (ctype n : Nat) : Nat := ctype + (n % 2 ^ 32) * 256
/-- CREDIT. -/
def ctlCredit (vc n : Nat) : Nat := 3 + vc % 16 * 16 + (n % 2 ^ 16) * 256
/-- STOMP. -/
def ctlStomp (vc : Nat) : Nat := 4 + vc % 16 * 16

/-- An ACK: codewords before the one it names leave the replay buffer (14 R492). -/
def State.takeAck (s : State) (k n : Nat) : State :=
  let q := s.port k
  if q.st ≠ .active then s
  else if n = q.txNext then (s.setPort k { q with replay := [] }).pumpAll k
  else if q.replay.any (fun c => c.num = n) then
    (s.setPort k { q with replay := q.replay.dropWhile (fun c => c.num ≠ n) }).pumpAll k
  else s

/-- A NAK: the codewords from the one it names go again, in their order, and REPLAYS counts one (14 R492).
[DESIGN CHOICE: log entry 43] -/
def State.takeNak (s : State) (k n : Nat) : State :=
  let q := s.port k
  if q.st = .active && q.replay.any (fun c => c.num = n) then
    let again := q.replay.dropWhile (fun c => c.num ≠ n)
    let q := { q with nakOf := n, nakCount := if q.nakCount ≠ 0 && q.nakOf = n then q.nakCount + 1 else 1 }
    again.foldl (fun s c => s.emit (.codeword k c)) ((s.setPort k q).bump64 k 0x6011 6 1)
  else s

/-- A CREDIT: slots of a VC come back (14 R494). -/
def State.takeCredit (s : State) (k vc n : Nat) : State :=
  let q := s.port k
  if q.st ≠ .active then s
  else (s.setPort k { q with spent := Tab.set 0 q.spent vc (Tab.get 0 q.spent vc - n) }).pumpAll k

/-- A STOMP: the packet in progress on the VC is void; its slots are free again (14 R502). [DESIGN CHOICE: log entry 43] -/
def State.takeStomp (s : State) (k vc : Nat) : State :=
  let q := s.port k
  match q.partials.find? (fun x => x.1 = vc) with
  | some x =>
    if q.st ≠ .active then s
    else ((s.setPort k { q with partials := q.partials.filter (fun y => y.1 ≠ vc) }).bump32 0 0x6020 6 1).sendControl k
      (ctlCredit vc (x.2.length / 64))
  | none => s

/-- Act on a control word; NOP, TRAIN and reserved types do nothing here. -/
def State.takeControl (s : State) (k w : Nat) : State :=
  match bits 3 0 w with
  | 1 => s.takeAck k (bits 39 8 w)
  | 2 => s.takeNak k (bits 39 8 w)
  | 3 => s.takeCredit k (bits 7 4 w) (bits 23 8 w)
  | 4 => s.takeStomp k (bits 7 4 w)
  | _ => s

/-! ## Codewords (14 R489 to R492) -/

/-- Bytes that the packet begun by some bytes takes on the link (14 R495). -/
def packetSpan (bs : List Byte) : Nat := alignUp (32 + bits 60 48 (ofBytes (bs.take 32))) 64

/-- A data slot arrives: 64 bytes more of the packet in progress on its VC (14 R491). -/
def State.takeSlot (s : State) (k vc : Nat) (bs : List Byte) : State :=
  let q := s.port k
  let have' := match q.partials.find? (fun x => x.1 = vc) with | some x => x.2 | none => []
  let all := have' ++ bs
  let rest := q.partials.filter (fun y => y.1 ≠ vc)
  let q := if packetSpan all ≤ all.length then
      { q with partials := rest,
               arrived := q.arrived ++ [(vc, ⟨ofBytes (all.take 32), (all.drop 32).take (bits 60 48 (ofBytes (all.take 32)))⟩)] }
    else { q with partials := rest ++ [(vc, all)] }
  (s.setPort k q).bump64 k 0x6011 9 64

/-- The slots of a good codeword, from slot 0 on (Table 14-3). [DESIGN CHOICE: log entry 43] -/
def State.takeSlots (s : State) (k header : Nat) (data : List Byte) : State :=
  (List.range 5).foldl (fun s i =>
    let bs := (data.drop (64 * i)).take 64
    if bit i header then
      (List.range 8).foldl (fun s j => s.takeControl k (ofBytes ((bs.drop (8 * j)).take 8))) s
    else s.takeSlot k (bits (8 + 4 * i) (5 + 4 * i) header) bs) s

/-- Codeword n reaches port k: in sequence it is decoded, its slots taken, and every 64th acknowledged; an uncorrectable
one is answered by a NAK, and codewords out of sequence are discarded (14 R492). [DESIGN CHOICE: log entry 43] -/
def State.codeword (s : State) (k n : Nat) (symbols : List Nat) : State :=
  let q := s.port k
  if q.st ≠ .active || decide (q.rxNext ≠ n) then s else
  match decodeCodeword symbols with
  | none => ((s.setPort k { q with discarding := true }).bump64 k 0x6011 5 1).sendControl k (ctlNum 2 n)
  | some (fixed, header, data) =>
    let ack := decide (64 ≤ q.sinceAck + 1)
    let s := s.setPort k { q with rxNext := wrap32 (n + 1), discarding := false, sinceAck := if ack then 0 else q.sinceAck + 1 }
    let s := if fixed ≠ 0 then s.bump64 k 0x6011 4 1 else s
    let s := s.takeSlots k header data
    if ack then s.sendControl k (ctlNum 1 (n + 1)) else s

/-! ## Forwarding and expiry (14 R497, R500 to R502) -/

/-- Return the credits of a packet that leaves the input buffer of port k. -/
def State.returnCredit (s : State) (k vc : Nat) (pk : Packet) : State :=
  if (s.port k).st = .active then s.sendControl k (ctlCredit vc pk.slots.length) else s

/-- A packet that this module forwards. -/
def State.inTransit (s : State) (pk : Packet) : Bool :=
  decide (pk.dest ≠ s.moduleId) && decide (pk.dest < s.moduleCount) && decide (pk.hops ≤ s.hopLimit)
    && protoTc pk.proto pk.tc && decide (pk.len ≤ 4128)
    && (match (s.port (s.nextPort pk.dest)).st with | .active => true | .training => true | _ => false)

/-- The oldest packet in the input buffer of port k crosses the router: HOPS counts the link, and it goes on, is handed to
ejection, or is discarded. -/
def State.routerForward (s : State) (k : Nat) : State :=
  let q := s.port k
  match q.arrived with
  | [] => s
  | (vc, pk) :: t =>
    let s := (s.setPort k { q with arrived := t }).returnCredit k vc pk
    let pk := pk.change (setBits 47 42 (min (pk.hops + 1) 63) pk.hdr)
    let s := if s.inTransit pk then s.bump64 0 0x6020 1 1 else s
    s.routePacket pk (some k)

/-- Drop the first packet's waiting slots of a VC: n slots of it. -/
def dropSlots (vc : Nat) : Nat → List TxSlot → List TxSlot
  | _, [] => []
  | n, x :: t => if x.vc = vc && 0 < n then dropSlots vc (n - 1) t else x :: dropSlots vc n t

/-- PACKET_EXPIRED (14 R502). [DEDUCED: log entry 45] -/
def State.expire (s : State) (k : Nat) (place : Resides) : State :=
  let q := s.port k
  match place with
  | .input =>
    match q.arrived with
    | [] => s
    | (vc, pk) :: t => ((s.setPort k { q with arrived := t }).returnCredit k vc pk).dropPacket 2
  | .training =>
    match s.fab.held.findIdx? (fun x => x.1 = k) with
    | none => s
    | some i => { s with fab := { s.fab with held := s.fab.held.eraseIdx i } }.dropPacket 2
  | .output vc =>
    match q.txWait.find? (fun x => x.vc = vc) with
    | none => s
    | some x =>
      let s := (s.setPort k { q with txWait := dropSlots vc (x.left + 1) q.txWait }).dropPacket 2
      if x.first then s else s.sendControl k (ctlStomp vc)
  | .ejection =>
    match s.fab.eject with
    | [] => s
    | _ :: t => { s with fab := { s.fab with eject := t } }.dropPacket 2

/-! ## Delivery (14 R500, R501, R507) -/

/-- Hand a packet over: a REDUCE on TC 4 to the reduce contexts, any other to its Pier. -/
def State.handOver (s : State) (pk : Packet) : State :=
  if pk.proto = 3 && pk.tc = 4 then { s with fab := { s.fab with inboxR := s.fab.inboxR ++ [pk] } }
  else if pk.destPier = 0 then { s with fab := { s.fab with inbox0 := s.fab.inbox0 ++ [pk] } }
  else { s with fab := { s.fab with inbox1 := s.fab.inbox1 ++ [pk] } }

/-- PACKET_DELIVERY: a packet for a Pier in reset is lost, but for Pier 1's half of a mirror stream, which pauses (Table 13-11); an
attachment takes the packet whatever other classes hold, a RESPONSE too (14 R500, R505). [DEDUCED: log entry 45] -/
def State.deliver (s : State) : State :=
  match s.fab.eject with
  | [] => s
  | (k, pk) :: t =>
    let s := { s with fab := { s.fab with eject := t } }
    if !pk.good then s.dropPacket 5
    else if (s.pier pk.destPier).inReset && !(pk.proto = 6 && pk.destPier = 1) then (if k < 6 then s.bump32 k 0x6011 7 1 else s)
    else s.handOver pk

/-- WRITE: the bytes go to the fast tier of Pier p and the packet is answered; an address outside region 0x0 is answered
0x4 (Table 14-6, 14 R495). -/
def State.writePacket (s : State) (p : Nat) : State :=
  match s.inboxOf p 2 with
  | none => s
  | some pk =>
    if pk.proto ≠ 1 then s else
    let s := s.takeInbox p 2
    if pk.addr + pk.body.length ≤ fastSize then
      let s := if pk.body.isEmpty then s
        else ((s.guardOnce [(pkey (spFast p) pk.addr, pk.body.length)]).storeRun (Asker.fabric p 2) 0 (pkey (spFast p) pk.addr) pk.body).inboxTests p
      s.respond pk 0
    else s.respond pk 4

/-- A RESPONSE to a scatter write: only an accepted one completes it (14 R496). [DESIGN CHOICE: log entry 41] -/
def State.rowResponse (s : State) (r : Req) (code : Nat) : State :=
  if code ≠ 0 then s
  else { s with fab := { s.fab with reqs := s.fab.reqs.filter (fun (x : Req) => x.tag ≠ r.tag) } }.rowsVisible r.ident r.group

/-- A RESPONSE to an answer: applied or stale, the answer is done; with its last answer the instruction is done (09 R323).
[DESIGN CHOICE: log entry 41] -/
def State.answerResponse (s : State) (r : Req) : State :=
  let s := { s with fab := { s.fab with reqs := s.fab.reqs.filter (fun (x : Req) => x.tag ≠ r.tag) } }
  match s.flightOf r.pkt.srcPier 80 r.ident with
  | some k => s.answersDone r.pkt.srcPier k
  | none => s

/-- RESPONSE: matched by TAG to its request; one that matches none is discarded (14 R496). [DESIGN CHOICE: log entry 41] -/
def State.response (s : State) (p : Nat) : State :=
  match s.inboxOf p 0 with
  | none => s
  | some pk =>
    let s := s.takeInbox p 0
    let v := ofBytes (pk.body.take 8)
    match s.fab.reqs.find? (fun r => decide (r.tag = bits 31 0 v) && decide (r.pkt.srcPier = p)) with
    | none => s
    | some r =>
      let code := bits 35 32 v
      match r.kind with
      | .row => s.rowResponse r code
      | .arrival => s.rowResponse r code
      | .answer => s.answerResponse r
      | .reduce => s.redResponse r code
      | .mapData => s.mapResponse r code
      | .mapSignal => s.mapResponse r code

/-! ## Port states (14 R507, Tables 14-8, 14-9) -/

/-- Packets in progress through a port: those that wait to leave it, whole or in part, and those partly received.
[DEDUCED: log entry 44] -/
def Port.inProgress (q : Port) : Nat := (q.txWait.filter (fun x => x.left = 0)).length + q.partials.length

/-- A port enters a state other than ACTIVE: leaving ACTIVE loses the packets in progress and faults the attempt, packets
held for training find the port gone, and vector 15 has an event (14 R502, R507; Table 16-6). [DEDUCED: log entry 44] -/
def State.portEnter (s : State) (k : Nat) (st : LinkState) (cause : Nat) (barred : Bool) : State :=
  let q := s.port k
  let s := if q.st = .active then (s.bump32 k 0x6011 7 q.inProgress).markFaulted else s
  let s := s.setPort k { Port.fresh st cause with barred := barred, arrived := q.arrived }
  let gone := if st = .training then 0 else (s.fab.held.filter (fun x => x.1 = k)).length
  let s := (List.range gone).foldl (fun s _ => s.dropPacket 3) s
  let s := if st = .training then s else { s with fab := { s.fab with held := s.fab.held.filter (fun x => x.1 ≠ k) } }
  if st = q.st then s else s.raise 15

/-- Entry to ACTIVE: numbering and credits start, TRAININGS counts, packets held for the port leave.
[DEDUCED: log entry 44] -/
def State.portActive (s : State) (k peer : Nat) : State :=
  let q := s.port k
  let s := s.setPort k { Port.fresh .active q.cause with peer := peer, arrived := q.arrived }
  let s := s.bump32 k 0x6011 10 1
  let mine := s.fab.held.filter (fun x => x.1 = k)
  let s := { s with fab := { s.fab with held := s.fab.held.filter (fun x => x.1 ≠ k) } }
  (mine.foldl (fun s x => s.transmit k x.2) s).raise 15

/-- What the far end of port k must report at VERIFY besides the identity base (Table 14-1). -/
def State.peerOk (s : State) (k : Nat) (t : Train) : Bool :=
  decide (t.topology = s.odv 0 0x6000 0) && decide (t.dims = (s.dim 0, s.dim 1, s.dim 2)) &&
  (if s.group7 then decide (t.at'.1 = (s.my 0 + k + 1) % 7) && decide (t.port = 5 - k)
   else
    let want (d : Nat) : Nat :=
      if k / 2 ≠ d then s.my d else if k % 2 = 0 then (s.my d + 1) % s.dim d else (s.my d + s.dim d - 1) % s.dim d
    decide (t.at' = (want 0, want 1, want 2)) && decide (t.port = (if k % 2 = 0 then k + 1 else k - 1)))

/-- Module ID of the far end. -/
def State.peerId (s : State) (t : Train) : Nat :=
  if s.group7 then t.at'.1 else t.at'.1 + s.dim 0 * (t.at'.2.1 + s.dim 1 * t.at'.2.2)

/-- A training step passes; VERIFY ends the training one way or the other (Table 14-9).
[DEDUCED: log entry 44; DESIGN CHOICE: log entry 75] -/
def State.trainStep (s : State) (k : Nat) (t : Train) : State :=
  let q := s.port k
  if q.st ≠ .training then s
  else if q.step < 3 then s.setPort k { q with step := q.step + 1 }
  else if t.base ≠ s.odv 0 0xA012 0 then s.portEnter k .down 3 true
  else if !s.peerOk k t then s.portEnter k .down 4 true
  else s.portActive k (s.peerId t)

/-- The measure exceeds its limit. [DEDUCED: log entry 44] -/
def State.overLimit (s : State) (k : Nat) : LinkLimit → Bool
  | .replays => decide (s.odv 0 0x6007 0 ≤ (s.port k).nakCount)
  | .uncorrectable n => decide (s.odv 0 0x6006 0 < n)
  | .ratio e => decide (1000000 < e)

/-- LOOPBACK_FAIL: a persistent fabric fault (14 R508, Tables 14-13, 16-11, 18-12). -/
def State.loopbackFail (s : State) (k lanes : Nat) : State :=
  if (s.port k).st ≠ .selftest then s else
  let s := s.portEnter k .failed (s.port k).cause false
  if s.fabFailed then s.markFaulted else
  let v := 1 + k % 8 * 2 + (lanes % 2 ^ 16) * 16 + 2 ^ 20
  let s := s.setOd 0 0x6008 0 v
  let s := { s with host := { s.host with eventLog := s.host.eventLog ++ [v + 2 ^ 32] } }
  ((s.raise 15).alert 2 0 v).markFaulted

/-- PORT_CONTROL's commands (Table 14-8): 1 RETRAIN, 2 DISABLE, 3 ENABLE.
[DEDUCED: log entry 44; DESIGN CHOICE: log entry 74] -/
def State.portCommand (s : State) (k cmd : Nat) : State :=
  let st := (s.port k).st
  if st = .failed then s
  else match cmd with
  | 1 => if st = .disabled then s else s.portEnter k .down 7 false
  | 2 => if st = .disabled then s else s.portEnter k .disabled 7 false
  | 3 => if st = .disabled then s.portEnter k .down (s.port k).cause false else s
  | _ => s

/-- A new PORT_ENABLE: ports whose bits are clear are disabled, disabled ports whose bits are set are enabled. -/
def State.portEnable (s : State) (v : Nat) : State :=
  (List.range 6).foldl (fun s k => s.portCommand k (if bit k v then 3 else 2)) (s.setOd 0 0x6004 0 v)

/-! ## Commands -/

/-- CODEWORD: number n and its 272 symbols arrive at a port. -/
def execCodeword (port n : Nat) (symbols : List Nat) (s : State) : Host.Outcome State Fault Refusal :=
  .next (s.codeword port n symbols)

/-- ACK. -/
def execAck (port n : Nat) (s : State) : Host.Outcome State Fault Refusal := .next (s.takeAck port n)

/-- NAK. -/
def execNak (port n : Nat) (s : State) : Host.Outcome State Fault Refusal := .next (s.takeNak port n)

/-- CREDIT. -/
def execCredit (port vc n : Nat) (s : State) : Host.Outcome State Fault Refusal := .next (s.takeCredit port vc n)

/-- STOMP. -/
def execStomp (port vc : Nat) (s : State) : Host.Outcome State Fault Refusal := .next (s.takeStomp port vc)

/-- PACKET_FORWARD. -/
def execPacketForward (port : Nat) (s : State) : Host.Outcome State Fault Refusal := .next (s.routerForward port)

/-- PACKET_EXPIRED. -/
def execPacketExpired (port : Nat) (place : Resides) (s : State) : Host.Outcome State Fault Refusal :=
  .next (s.expire port place)

/-- PACKET_DELIVERY. -/
def execPacketDelivery (s : State) : Host.Outcome State Fault Refusal := .next s.deliver

/-- WRITE. -/
def execWrite (p : Nat) (s : State) : Host.Outcome State Fault Refusal := .next (s.writePacket p)

/-- RESPONSE. -/
def execResponse (p : Nat) (s : State) : Host.Outcome State Fault Refusal := .next (s.response p)

/-- SIGNAL_DETECTED: a DOWN port begins training unless FOREIGN or MISWIRED bars it. -/
def execSignalDetected (port : Nat) (s : State) : Host.Outcome State Fault Refusal :=
  .next (if (s.port port).st = .down && !(s.port port).barred then s.portEnter port .training (s.port port).cause false else s)

/-- TRAINING_STEP: the step at hand passes; `peer` is what the far end reports at VERIFY. -/
def execTrainingStep (port : Nat) (peer : Train) (s : State) : Host.Outcome State Fault Refusal := .next (s.trainStep port peer)

/-- TRAINING_TIMEOUT: to SELFTEST; LAST_CAUSE equalisation where that step ran out. -/
def execTrainingTimeout (port : Nat) (s : State) : Host.Outcome State Fault Refusal :=
  .next (if (s.port port).st = .training then
      s.portEnter port .selftest (if (s.port port).step = 1 then 2 else (s.port port).cause) false else s)

/-- DETECT_REPEAT: 100 ms without signal. -/
def execDetectRepeat (port : Nat) (s : State) : Host.Outcome State Fault Refusal :=
  .next (if (s.port port).st = .down then s.setPort port { s.port port with cause := 1 } else s)

/-- LINK_ERROR_LIMIT. -/
def execLinkErrorLimit (port : Nat) (limit : LinkLimit) (s : State) : Host.Outcome State Fault Refusal :=
  .next (if (s.port port).st = .active && s.overLimit port limit then s.portEnter port .selftest 5 false else s)

/-- SIGNAL_LOST: ACTIVE to SELFTEST, TRAINING to DOWN. -/
def execSignalLost (port : Nat) (s : State) : Host.Outcome State Fault Refusal :=
  .next (match (s.port port).st with
    | .active => s.portEnter port .selftest (s.port port).cause false
    | .training => s.portEnter port .down (s.port port).cause false
    | _ => s)

/-- FAR_END_DETECT: the far end retrains; ACTIVE to TRAINING. -/
def execFarEndDetect (port : Nat) (s : State) : Host.Outcome State Fault Refusal :=
  .next (if (s.port port).st = .active then s.portEnter port .training 6 false else s)

/-- SELFTEST_PASS: to DOWN, LAST_CAUSE far end or cable. -/
def execSelftestPass (port : Nat) (s : State) : Host.Outcome State Fault Refusal :=
  .next (if (s.port port).st = .selftest then s.portEnter port .down 6 false else s)

/-- LOOPBACK_FAIL of the lanes of a mask. -/
def execLoopbackFail (port lanes : Nat) (s : State) : Host.Outcome State Fault Refusal := .next (s.loopbackFail port lanes)

/-- RETRAIN. -/
def execRetrain (port : Nat) (s : State) : Host.Outcome State Fault Refusal := .next (s.portCommand port 1)

/-- DISABLE. -/
def execDisable (port : Nat) (s : State) : Host.Outcome State Fault Refusal := .next (s.portCommand port 2)

/-- ENABLE. -/
def execEnable (port : Nat) (s : State) : Host.Outcome State Fault Refusal := .next (s.portCommand port 3)

/-- PORT_ENABLE_WRITE of a value. -/
def execPortEnableWrite (v : Nat) (s : State) : Host.Outcome State Fault Refusal :=
  .next (if v < 64 then s.portEnable v else s)

end Sys2Proof.Machine
end

