-- ==== Sys2Proof/Machine/Mirror.lean ====
section
/-! DEFINITION. Buddy mirroring: the owner's stream, the holder's answers, MSEAL and RESEED (13 R467 to R475, R479). -/

namespace Sys2Proof.Machine

/-! ## Events and objects -/

/-- A commit event record of an attempt (Table 13-12). -/
def State.commitEventAt (s : State) (epoch attempt code key d0 d1 : Nat) : State :=
  s.ringPut .commit (fun q => eventRec epoch key code (Ring.commit.mid attempt) q d0 d1)

/-- A commit event record of the running attempt. -/
def State.commitEvent (s : State) (code key d0 d1 : Nat) : State :=
  s.commitEventAt s.recEpoch s.commit.attempt code key d0 d1

/-- BUDDY_ID. -/
def State.buddy (s : State) : Nat := s.eff 0x780B 0

/-- The module has a buddy. -/
def State.hasBuddy (s : State) : Bool := decide (s.buddy ≠ 0xFFFF)

/-! ## Mirror plan and layout (Tables 13-6, 13-7) -/

/-- A plan entry: BASE, KIND, SIZE. -/
structure PlanEntry where
  base : Nat
  residual : Bool
  size : Nat
  deriving DecidableEq, Repr

/-- Plan entry k. [DEDUCED: log entry 40] -/
def State.planEntry (s : State) (k : Nat) : PlanEntry :=
  let a := pkey (spFast 0) (s.eff 0x780D 1 + 16 * k)
  ⟨s.num a 6, decide (s.num (a + 6) 1 = 1), s.num (a + 8) 8⟩

/-- The mirror plan. -/
def State.plan (s : State) : List PlanEntry := (List.range (s.eff 0x780D 2)).map s.planEntry

/-- The plan is read. -/
def State.readPlan (s : State) : State :=
  s.touchReadRun (Asker.mirror 0) 0 ffPattern (pkey (spFast 0) (s.eff 0x780D 1), 16 * s.eff 0x780D 2)

/-- The Pier of a range: its half of the mirror traffic (01 R24). [DEDUCED: log entry 38] -/
def PlanEntry.pier (e : PlanEntry) : Nat := e.base / 2 ^ 44 % 2

/-- The Pier of a tensor's working copy, by its raw entry: its half of the mirror traffic (01 R24). [DEDUCED: log entry 38] -/
def wcPier (r : Nat) : Nat := rawField r 46 6 / 2 ^ 44 % 2

/-- S_k: SIZE rounded up to 4 KiB. [DEDUCED: log entry 40] -/
def PlanEntry.room (e : PlanEntry) : Nat := alignUp e.size 4096

/-- Mirror offset of copy c of plan entry k. -/
def imageOff (plan : List PlanEntry) (k c : Nat) : Nat :=
  0x400000 + sumNat ((plan.take k).map (fun e => 2 * e.room)) + c * ((plan[k]?).map PlanEntry.room).getD 0

/-- I: mirror offset of the state image. -/
def stateImage (plan : List PlanEntry) : Nat := alignUp (imageOff plan plan.length 0) (2 ^ 21)

/-- Mirror offset of a slow-tier offset of the owner's STATE area. -/
def State.mirrorOff (s : State) (o : Nat) : Nat := stateImage s.plan + o - s.odv 0 0x7000 1

/-- D: bytes of the DERIVED ranges. -/
def State.derivedBytes (s : State) : Nat := sumNat ((s.plan.filter (fun e => !e.residual)).map (·.size))

/-- Physical address of a plan entry's bytes, bank c for a residual range. -/
def PlanEntry.at' (e : PlanEntry) (c : Nat) : Nat :=
  (physOf 0 (e.base : Nat)).getD 0 + (if e.residual then c * e.size else 0)

/-! ## Messages (Table 13-9) -/

/-- A mirror message. -/
structure MirrorMsg where
  kind : Nat
  attempt : Nat
  reseed : Bool
  owner : Nat
  eNext : Nat
  off : Nat
  aux : Nat
  data : List Byte
  deriving DecidableEq, Repr

/-- As packet body. -/
def MirrorMsg.bytes (m : MirrorMsg) : List Byte :=
  toBytes 1 m.kind ++ toBytes 1 (m.attempt % 8 + b2n m.reseed * 128) ++ toBytes 2 m.owner ++ toBytes 4 m.data.length
    ++ toBytes 8 m.eNext ++ toBytes 8 m.off ++ toBytes 8 m.aux ++ m.data

/-- From a packet body; none where a field is reserved or LENGTH is not the payload's. -/
def parseMirror (b : List Byte) : Option MirrorMsg :=
  let f (a n : Nat) : Nat := ofBytes ((b.drop a).take n)
  let k := f 0 1
  if b.length < 32 || k = 0 || 7 < k || bits 6 3 (f 1 1) ≠ 0 || f 4 4 ≠ b.length - 32
      || (f 4 4 ≠ 0 && k ≠ 2 && k ≠ 7) || (f 16 8 ≠ 0 && k ≠ 2 && k ≠ 6 && k ≠ 7) then none
  else some ⟨k, bits 2 0 (f 1 1), bit 7 (f 1 1), f 2 2, f 8 8, f 16 8, f 24 8, b.drop 32⟩

/-- A mirror message goes over Pier p's Ilben link and attachment to the same Pier of a module (01 R24, R475). -/
def State.mirrorOut (s : State) (p dest : Nat) (body : List Byte) : State :=
  (s.present 5 (2 * p + 1) (Asker.mirror p) (ceilDiv body.length 128)).sendPacket p dest p 5 6 0 1 0 body

/-- Send a mirror message by Pier p's half: nothing after a slow-tier fault (12 R419), and Pier 1's half waits while that Pier is
in reset (Table 13-11). [DEDUCED: log entry 38] -/
def State.sendMirror (s : State) (p dest : Nat) (m : MirrorMsg) : State :=
  if s.slowFailed then s
  else if p = 1 && s.p1.inReset then { s with commit := { s.commit with paused := s.commit.paused ++ [(dest, m.bytes)] } }
  else s.mirrorOut p dest m.bytes

/-- Pier 1's half goes on after the reset of its Pier (Table 13-11). -/
def State.resumeMirror (s : State) : State :=
  s.commit.paused.foldl (fun s x => s.mirrorOut 1 x.1 x.2) { s with commit := { s.commit with paused := [] } }

/-- A message of this module as owner. -/
def State.ownMsg (s : State) (kind off aux : Nat) (reseed : Bool) (data : List Byte) : MirrorMsg :=
  ⟨kind, s.commit.attempt, reseed, s.moduleId, s.eNext, off, aux, data⟩

/-! ## The owner's stream (13 R471, R473) -/

/-- MDATA of bytes at a mirror offset, 4,096 bytes each, counted toward the next marker. -/
def State.sendData (s : State) (p e attempt : Nat) (reseed : Bool) : Nat → Nat → List Byte → State
  | 0, _, _ => s
  | fuel + 1, off, bs =>
    if bs.isEmpty then s else
    let d := bs.take 4096
    let s := s.sendMirror p s.buddy ⟨2, attempt, reseed, s.moduleId, e, off, 0, d⟩
    let s := s.bump64 0 0x7810 6 d.length
    let s := { s with commit := { s.commit with streamBytes := s.commit.streamBytes + d.length } }
    s.sendData p e attempt reseed fuel (off + 4096) (bs.drop 4096)

/-- A copy of a run of bytes for the open stream, by Pier p's half. -/
def State.mirrorRun (s : State) (p off : Nat) (bs : List Byte) : State :=
  if s.commit.streamOpen then s.sendData p s.eNext s.commit.attempt false (bs.length / 4096 + 1) off bs else s

/-- A copy of slow-tier bytes just written in the STATE area. -/
def State.mirrorSlow (s : State) (p o : Nat) (bs : List Byte) : State := s.mirrorRun p (s.mirrorOff o) bs

/-- A marker: MDONE or MCLOSE with the payload bytes since the one before. -/
def State.sendMarker (s : State) (m : MirrorMsg) : State :=
  let s := s.sendMirror 0 s.buddy { m with aux := s.commit.streamBytes }
  { s with commit := { s.commit with streamBytes := 0, markBytes := s.commit.streamBytes } }

/-- MOPEN at UOPEN, then the scrub writes that wait (13 R461, R471). [DEDUCED: log entry 38] -/
def State.openStream (s : State) : State :=
  if !s.hasBuddy || s.slowFailed then s else
  let s := s.readPlan
  let need := stateImage s.plan + s.odv 0 0x7000 2
  let s := s.sendMirror 0 s.buddy (s.ownMsg 1 0 need false [])
  let scrubs := s.commit.scrubbed
  let s := { s with commit := { s.commit with streamOpen := true, mdoneWait := none, mdoneAcked := false, scrubbed := [],
                                              streamBytes := if s.commit.reseedLeft.isSome then s.commit.streamBytes else 0 } }
  scrubs.foldl (fun s x => s.mirrorSlow x.1 x.2 (toBytes 8 (2 ^ 64 - 1))) s

/-- The ranges of one kind, copy c, are read and sent as MDATA. -/
def State.sendRanges (s : State) (residual : Bool) (c e attempt : Nat) (reseed : Bool) : State :=
  let s := s.readPlan
  let plan := s.plan
  (List.range plan.length).foldl (fun s k =>
    match plan[k]? with
    | some x =>
      if x.residual = residual then
        let r := s.loadRun (Asker.mirror x.pier) (x.at' c) x.size
        r.1.sendData x.pier e attempt reseed (x.size / 4096 + 1) (imageOff plan k c) r.2
      else s
    | none => s) s

/-- After UCLOSE: the residual banks of e_next, then MDONE (13 R471). [DEDUCED: log entry 37] -/
def State.streamDone (s : State) : State :=
  if s.commit.streamOpen then
    let s := s.sendRanges true (s.eNext % 2) s.eNext s.commit.attempt false
    let s := s.sendMarker (s.ownMsg 3 0 0 false [])
    { s with commit := { s.commit with mdoneWait := some (s.commit.markBytes, s.eNext, s.commit.attempt) } }
  else s

/-- After the commit point: the DERIVED images of copy e_next mod 2, then MCLOSE; an MDONE that is not acknowledged goes on
(13 R473). -/
def State.streamClose (s : State) (e attempt : Nat) : State :=
  if s.commit.streamOpen then
    let s := s.sendRanges false (e % 2) e attempt false
    let s := s.sendMarker ⟨4, attempt, false, s.moduleId, e, 0, 0, []⟩
    { s with commit := { s.commit with mcloseWait := true, mdoneAcked := false, streamOpen := false,
                                       closeEpoch := e, closeAttempt := attempt, closeBytes := s.commit.markBytes } }
  else s

/-- The stream ends without a seal. -/
def Commit.endStream (c : Commit) : Commit :=
  { c with streamOpen := false, streamBytes := if c.reseedLeft.isSome then c.streamBytes else 0, mdoneWait := none,
           mdoneAcked := false }

/-- MIRROR_RESEND: an unacknowledged MDONE or MCLOSE goes again (13 R473). -/
def State.mirrorResend (s : State) : State :=
  let c := s.commit
  let s := match c.reseedWait with
    | some (n, e, a) => s.sendMirror 0 s.buddy ⟨3, a, true, s.moduleId, e, 0, n, []⟩
    | none => s
  let s := match c.mdoneWait with
    | some (n, e, a) => s.sendMirror 0 s.buddy ⟨3, a, false, s.moduleId, e, 0, n, []⟩
    | none => s
  if c.mcloseWait then s.sendMirror 0 s.buddy ⟨4, c.closeAttempt, false, s.moduleId, c.closeEpoch, 0, c.closeBytes, []⟩
  else s

/-- MACK: what the holder acknowledged ends its resends (13 R472, R473). [DEDUCED: log entry 38] -/
def State.mirrorAck (s : State) (src : Nat) (m : MirrorMsg) : State :=
  let kind := bits 7 0 m.aux
  let status := bits 15 8 m.aux
  let c := s.commit
  if m.owner ≠ s.moduleId then s
  else match kind with
  | 1 =>
    if status = 0 then s
    else
      let s := if m.reseed then { s with commit := { c with reseed := false, reseedWait := none } }
        else if m.eNext = s.eNext && m.attempt = c.attempt then { s with commit := c.endStream }
        else s
      s.commitEvent 6 src status 0
  | 3 =>
    if m.reseed then { s with commit := { c with reseedWait := none, reseedAcked := true } }
    else match c.mdoneWait with
    | none => s
    | some (_, e, a) =>
      if m.eNext = e && m.attempt = a then
        { s with commit := { c with mdoneWait := none, mdoneAcked := c.mdoneAcked || (e = s.eNext && a = c.attempt) } }
      else s
  | 4 =>
    if c.mcloseWait && m.eNext = c.closeEpoch then
      { s with commit := { c with mcloseWait := false, reseed := c.reseed && !c.reseedAcked } }.commitEventAt
        c.closeEpoch c.closeAttempt 5 src c.closeEpoch 0
    else s
  | _ => s

/-! ## The holder (13 R472 to R474) -/

/-- MIRROR_BASE of this module as holder. -/
def State.mirrorBase (s : State) : Nat := pkey spSlow (s.odv 0 0x7001 1)

/-- The mirror header held (Table 13-8). -/
structure MirrorHdr where
  owner : Nat
  sealed' : Nat
  epoch : Nat
  attempt : Nat
  mstate : Nat
  done : Nat
  deriving DecidableEq, Repr

/-- From its 256 bytes' first 32. -/
def parseMirrorHdr (b : List Byte) : MirrorHdr :=
  let f (a n : Nat) : Nat := ofBytes ((b.drop a).take n)
  ⟨f 0 2, f 8 8, f 16 8, f 24 1 % 8, f 25 1, f 26 1⟩

/-- The header as bytes. -/
def MirrorHdr.bytes (h : MirrorHdr) : List Byte :=
  padTo 256 (toBytes 2 h.owner ++ toBytes 6 0 ++ toBytes 8 h.sealed' ++ toBytes 8 h.epoch ++ toBytes 1 h.attempt
    ++ toBytes 1 h.mstate ++ toBytes 1 h.done)

/-- The header in the MIRROR area as it stands (OD 0x780F). -/
def State.rawHdr (s : State) : MirrorHdr := parseMirrorHdr (s.bytes s.mirrorBase 32)

/-- The header in the MIRROR area; an EMPTY mirror has no sealed epoch. -/
def State.heldHdr (s : State) : MirrorHdr :=
  if s.rawHdr.mstate = 0 then { s.rawHdr with sealed' := 2 ^ 64 - 1 } else s.rawHdr

/-- The header is read. -/
def State.readHdr (s : State) : State := s.touchReadRun (Asker.mirror 0) 0 ffPattern (s.mirrorBase, 256)

/-- Write the header in one write. -/
def State.setHeldHdr (s : State) (h : MirrorHdr) : State := s.storeRun (Asker.mirror 0) 0 s.mirrorBase h.bytes

/-- The module has a MIRROR area, serves it, and no slow-tier fault stands (13 R482). -/
def State.holds (s : State) : Bool := decide (s.odv 0 0x7001 2 ≠ 0) && !s.slowFailed

/-- Answer a mirror message, by the half it came in. -/
def State.ack (s : State) (pk : Packet) (m : MirrorMsg) (status : Nat) : State :=
  s.sendMirror pk.destPier pk.src ⟨5, m.attempt, m.reseed, m.owner, m.eNext, 0, m.kind + status * 256, []⟩

/-- The oldest mirror message of Pier p's half, if it is of a kind; a malformed one is dropped. [DEDUCED: log entry 38] -/
def State.mirrorIn (s : State) (p kind : Nat) (go : State → Packet → MirrorMsg → State) : Option State :=
  match s.inboxOf p 5 with
  | none => none
  | some pk =>
    match parseMirror pk.body with
    | none => some (s.takeInbox p 5)
    | some m => if m.kind = kind then some (go (s.takeInbox p 5) pk m) else none

/-- The next mirror message of a kind: of Pier 0's half, then of Pier 1's, which waits while that Pier is in reset.
[DEDUCED: log entry 38] -/
def State.takeMirror (s : State) (kind : Nat) (go : State → Packet → MirrorMsg → State) : State :=
  match s.mirrorIn 0 kind go with
  | some t => t
  | none => if s.p1.inReset then s else (s.mirrorIn 1 kind go).getD s

/-- MOPEN at the holder. [DEDUCED: log entry 38] -/
def State.holdOpen (s : State) (pk : Packet) (m : MirrorMsg) : State :=
  if s.slowFailed then s
  else if s.odv 0 0x7001 2 < max 1 m.aux then s.ack pk m 1 else
  let s := s.readHdr
  let h := s.heldHdr
  let none' := decide (h.sealed' = 2 ^ 64 - 1)
  let ok := (!none' && decide (m.eNext = (h.sealed' + 1) % 2 ^ 64)) || (none' && (m.reseed || decide (h.mstate = 4)))
  if !ok then s.ack pk m 2
  else
    let st : Nat := if h.mstate = 4 || m.reseed then 4 else 2
    let s := s.setHeldHdr { h with owner := m.owner, epoch := m.eNext, attempt := m.attempt, mstate := st, done := 0 }
    let keep := decide (h.mstate = 4) && !m.reseed
    { s with commit := { s.commit with heldBytes := if keep then s.commit.heldBytes else 0 } }.ack pk m 0

/-- MDATA at the holder: only for the open stream, from 0x40_0000 up, inside the area. [DEDUCED: log entry 38] -/
def State.holdData (s : State) (pk : Packet) (m : MirrorMsg) : State :=
  let s := s.readHdr
  let h := s.heldHdr
  if s.holds && (h.mstate = 2 || h.mstate = 4) && m.eNext = h.epoch && m.attempt = h.attempt && 0x400000 ≤ m.off
      && m.off + m.data.length ≤ s.odv 0 0x7001 2 then
    let s := { s with commit := { s.commit with heldBytes := s.commit.heldBytes + m.data.length } }
    (s.bump64 0 0x7810 7 m.data.length).storeRun (Asker.mirror pk.destPier) 0 (s.mirrorBase + m.off) m.data
  else { s with mirrorDropped := s.mirrorDropped + 1 }

/-- Every byte of the mirror is visible: no write of the area waits on a host's line. -/
def State.mirrorVisible (s : State) : Bool :=
  s.host.snoopWait.all (fun w =>
    !(decide (s.odv 0 0x7001 1 ≤ w.1 * 64) && decide (w.1 * 64 < s.odv 0 0x7001 1 + s.odv 0 0x7001 2)))

/-- MDONE at the holder: acknowledged where every counted byte has come, or the mirror of its epoch is sealed; the rows wait
until all are visible. [DEDUCED: log entry 38] -/
def State.holdDone (s : State) (pk : Packet) (m : MirrorMsg) : State :=
  let s := s.readHdr
  let h := s.heldHdr
  if s.holds && h.sealed' = m.eNext then s.ack pk m 0
  else if s.holds && (h.mstate = 2 || h.mstate = 4) && m.eNext = h.epoch && m.attempt = h.attempt then
    if h.done = 1 then s.ack pk m 0
    else if m.aux ≤ s.commit.heldBytes then
      let s := s.setHeldHdr { h with done := 1 }
      { s with commit := { s.commit with heldBytes := 0 } }.ack pk m 0
    else s
  else s

/-- MCLOSE at the holder: the mirror is sealed at E_NEXT (13 R473). [DEDUCED: log entry 38] -/
def State.holdClose (s : State) (pk : Packet) (m : MirrorMsg) : State :=
  let s := s.readHdr
  let h := s.heldHdr
  if !s.holds then s
  else if h.mstate = 1 && h.sealed' = m.eNext then s.ack pk m 0
  else if (h.mstate = 2 || h.mstate = 3 || h.mstate = 4) && m.eNext = h.epoch && m.attempt = h.attempt
      && m.aux ≤ s.commit.heldBytes then
    let s := s.setHeldHdr { h with mstate := 1, sealed' := m.eNext }
    { s with commit := { s.commit with heldBytes := 0 } }.ack pk m 0
  else s

/-- MREAD at the holder: the bytes asked for come back as MRDATA, 4,096 bytes each (13 R478). -/
def State.holdRead (s : State) (pk : Packet) (m : MirrorMsg) : State :=
  let n := if m.off + m.aux ≤ s.odv 0 0x7001 2 then m.aux else 0
  if !s.holds then s else
  let r := s.loadRun (Asker.mirror pk.destPier) (s.mirrorBase + m.off) n
  (List.range (ceilDiv n 4096)).foldl (fun s i =>
    s.sendMirror pk.destPier pk.src ⟨7, m.attempt, m.reseed, m.owner, m.eNext, m.off + 4096 * i, 0, (r.2.drop (4096 * i)).take 4096⟩) r.1

/-- Physical address of journal slot n (Table 13-5). -/
def State.journal (s : State) (n : Nat) : Nat :=
  pkey (spFast 0) (s.eff 0x780A 1 + (match n with | 0 => 0 | 1 => 0x200000 | 2 => 0x400000 | 3 => 0x402000 | _ => 0x602000))

/-- The token in journal slot n is read: its header, then its sections as the header gives them. -/
def State.readSlot (s : State) (n : Nat) : State :=
  let k := s.journal n
  let s := s.touchReadRun (Asker.abutment 0) 0 ffPattern (k, 64)
  let m := min (2 * s.num (k + 16) 4 + 8 * s.num (k + 20) 4) (2 ^ 21 - 64)
  s.touchReadRun (Asker.abutment 0) 0 ffPattern (k + 64, m)

/-- MSEAL (13 R474): code 2 where it is not accepted. -/
def State.mseal (s : State) : Nat × State :=
  let s := s.readHdr.readSlot 3
  let h := s.heldHdr
  let tok := s.journal 3
  if s.holds && h.mstate = 2 && h.done = 1 && s.num (tok + 9) 1 = 2 && s.num tok 8 = h.epoch && s.num (tok + 8) 1 % 8 = h.attempt then
    let n := min (64 + 2 * s.num (tok + 16) 4 + 8 * s.num (tok + 20) 4) (2 ^ 21)
    let s := s.storeRun (Asker.mirror 0) 0 (s.mirrorBase + 0x1000) (s.bytes tok n)
    (0, s.setHeldHdr { h with mstate := 3 })
  else (2, s)

/-! ## Reseed (13 R479) -/

/-- Slow-tier offset of a tensor's STATE_ADDR, and its NELEM, from the table as it stands. -/
def State.tensorState (s : State) (t : Nat) : Nat × Nat :=
  let a := pkey spSlow (s.odv 0 0x7004 0 + 128 * t)
  (s.num (a + 32) 8, s.num (a + 4) 4)

/-- BANKSZ (12 R422). -/
def bankSize (n : Nat) : Nat := ceilDiv n 2048 * 24576

/-- The bank with the largest TAG not above E, by the two TAGs; all ones is empty (12 R423). [DEDUCED: log entry 32] -/
def chooseBank (e tag0 tag1 : Nat) : Option Nat :=
  let ok (t : Nat) : Bool := decide (t ≤ e) && decide (t ≠ 2 ^ 64 - 1)
  if ok tag0 then (if ok tag1 && tag0 < tag1 then some 1 else some 0)
  else if ok tag1 then some 1 else none

/-- Committed bank of a tensor's state region at COMMITTED; a tensor of the fallback path keeps it by parity (12 R441). -/
def State.committedBank (s : State) (addr : Nat) (fallback : Bool) : Option Nat :=
  let tag (b : Nat) : Nat := s.num (pkey spSlow (addr + 64 * b)) 8
  let e := s.commit.committed
  if fallback then (if tag (e % 2) ≤ e && tag (e % 2) ≠ 2 ^ 64 - 1 then some (e % 2) else none)
  else chooseBank e (tag 0) (tag 1)

/-- The raw table entry of a tensor, as it stands. -/
def State.tensorEntry (s : State) (t : Nat) : Nat := s.num (pkey spSlow (s.odv 0 0x7004 0 + 128 * t)) 128

/-- One tensor's blocks and committed bank as reseed data, by the half of its working copy. [DEDUCED: log entry 32] -/
def State.reseedTensor (s : State) (t : Nat) : State :=
  let s := s.touchReadRun (Asker.mirror 0) 0 ffPattern (pkey spSlow (s.odv 0 0x7004 0 + 128 * t), 128)
  let a := s.tensorState t
  let fb := bit 1 (rawField (s.tensorEntry t) 17 1)
  let p := wcPier (s.tensorEntry t)
  let send (s : State) (o n : Nat) : State :=
    let r := s.loadRun (Asker.mirror p) (pkey spSlow o) n
    r.1.sendData p s.eNext s.commit.attempt true (n / 4096 + 1) (s.mirrorOff o) r.2
  let s := send s a.1 128
  match s.committedBank a.1 fb with
  | some b => send s (a.1 + 256 + b * bankSize a.2) (bankSize a.2)
  | none => s

/-- A PASS2 in flight names a tensor. -/
def State.inPass2 (s : State) (t : Nat) : Bool := s.upd.jobs.any (fun j => decide (j.op = 0x14) && j.tensors.any (fun x => x.ix = t))

/-- The reseed goes on: tensors that no PASS2 names are copied, and after the last of them the plan ranges and MDONE (13 R479).
[DEDUCED: log entry 38] -/
def State.reseedOn (s : State) : State :=
  match s.commit.reseedLeft with
  | none => s
  | some ts =>
    let left := ts.filter s.inPass2
    let s := (ts.filter (fun t => !left.contains t)).foldl (fun s t => s.reseedTensor t) s
    if !left.isEmpty then { s with commit := { s.commit with reseedLeft := some left } }
    else
      let s := [0, 1].foldl (fun s c => (s.sendRanges false c s.eNext s.commit.attempt true).sendRanges true c s.eNext s.commit.attempt true) s
      let s := s.sendMarker (s.ownMsg 3 0 0 true [])
      { s with commit := { s.commit with reseedLeft := none, reseedWait := some (s.commit.markBytes, s.eNext, s.commit.attempt) } }

/-- RESEED: the whole committed state goes to the holder (code 2 where it is not accepted). [DEDUCED: log entry 38] -/
def State.reseed (s : State) : Nat × State :=
  if !s.hasBuddy || s.commit.streamOpen || s.commit.reseedWait.isSome || s.commit.reseedLeft.isSome then (2, s) else
  let s := s.readPlan
  let need := stateImage s.plan + s.odv 0 0x7000 2
  let s := s.sendMirror 0 s.buddy (s.ownMsg 1 0 need true [])
  let s := { s with commit := { s.commit with streamBytes := 0, reseed := true, reseedAcked := false,
                                              reseedLeft := some (List.range (s.odv 0 0x7005 0)) } }
  (0, s.reseedOn)

/-! ## Rows -/

/-- MOPEN. -/
def execMopen (s : State) : Host.Outcome State Fault Refusal := .next (s.takeMirror 1 State.holdOpen)
/-- MDATA. -/
def execMdata (s : State) : Host.Outcome State Fault Refusal := .next (s.takeMirror 2 State.holdData)
/-- MDONE. -/
def execMdone (s : State) : Host.Outcome State Fault Refusal := .next (if s.mirrorVisible then s.takeMirror 3 State.holdDone else s)
/-- MCLOSE. -/
def execMclose (s : State) : Host.Outcome State Fault Refusal := .next (if s.mirrorVisible then s.takeMirror 4 State.holdClose else s)
/-- MACK. -/
def execMack (s : State) : Host.Outcome State Fault Refusal :=
  .next (s.takeMirror 5 (fun t pk m => t.mirrorAck pk.src m))
/-- MREAD. -/
def execMread (s : State) : Host.Outcome State Fault Refusal := .next (s.takeMirror 6 State.holdRead)
/-- MIRROR_RESEND. -/
def execMirrorResend (s : State) : Host.Outcome State Fault Refusal := .next s.mirrorResend
/-- MSEAL. -/
def execMseal (s : State) : Host.Outcome State Fault Refusal := .next s.mseal.2
/-- RESEED. -/
def execReseed (s : State) : Host.Outcome State Fault Refusal := .next s.reseed.2

end Sys2Proof.Machine
end

