-- ==== Sys2Proof/Machine/Update.lean ====
section
/-! DEFINITION. The arithmetic and the tables of Ilben's update engine: tensor entries, state blocks, group and factor
entries, stochastic rounding, `update_element` (12, 02 R73 to R77). -/

namespace Sys2Proof.Machine

/-! ## Stochastic rounding (02 R73 to R77) -/

/-- `mix` (02 R74). -/
def srMix (z : Nat) : Nat :=
  let z := ((z ^^^ (z / 2 ^ 30)) * 0xBF58476D1CE4E5B9) % 2 ^ 64
  let z := ((z ^^^ (z / 2 ^ 27)) * 0x94D049BB133111EB) % 2 ^ 64
  z ^^^ (z / 2 ^ 31)

/-- `sr_bits` (02 R74). -/
def srBits (seed epoch tensor index : Nat) : Nat :=
  let x := seed % 2 ^ 64 ^^^ 0x9E3779B97F4A7C15
  let x := srMix (x ^^^ (epoch % 2 ^ 64))
  let x := srMix (x ^^^ (tensor % 2 ^ 32))
  let x := srMix (x ^^^ (index % 2 ^ 64))
  x / 2 ^ 48

/-- A magnitude rounded by random bits (02 R76): the code, and SAT. -/
def srMag (f : FFmt) (m : Nat) (e : Int) (r : Nat) : Nat × Bool :=
  if m = 0 then (0, false) else
  let lead : Int := Nat.log2 m + e
  let top : Int := max lead (1 - f.bias)
  let q : Int := top - f.mant
  let base : Nat := (top + f.bias - 1).toNat * 2 ^ f.mant
  match q - e with
  | .negSucc j =>
    let c := base + m * 2 ^ (j + 1)
    if c ≤ f.maxCode then (c, false) else (f.maxCode, true)
  | .ofNat k =>
    let lo := base + m / 2 ^ k
    let rest := m % 2 ^ k
    if f.maxCode < lo then (f.maxCode, true)
    else if rest = 0 then (lo, false)
    else if 2 ^ 16 ≤ rest * 2 ^ 16 / 2 ^ k + r then
      (if f.maxCode < lo + 1 then (f.maxCode, true) else (lo + 1, false))
    else (lo, false)

/-- `sr_round`, with the special values of 02 R77. -/
def srRound (f : FFmt) (v : Val) (r : Nat) : Nat × Bool :=
  match v with
  | .fin s m e => let c := srMag f m e r; (withSign f s c.1, c.2)
  | v => convert f v

/-! ## Tensor table (Table 12-2) -/

/-- JOB_TENSOR. -/
def tnJob (r : Nat) : Nat := rawField r 0 4
/-- NELEM. -/
def tnN (r : Nat) : Nat := rawField r 4 4
/-- LOGICAL_OFFSET. -/
def tnOff (r : Nat) : Nat := rawField r 8 8
/-- GROUP. -/
def tnGroup (r : Nat) : Nat := rawField r 16 1
/-- FLAGS. -/
def tnFlags (r : Nat) : Nat := rawField r 17 1
/-- EXPERT. -/
def tnExpert (r : Nat) : Bool := bit 0 (tnFlags r)
/-- FALLBACK. -/
def tnFallback (r : Nat) : Bool := bit 1 (tnFlags r)
/-- WC_EN. -/
def tnWc (r : Nat) : Bool := bit 2 (tnFlags r)
/-- WATCH_EN. -/
def tnWatch (r : Nat) : Bool := bit 3 (tnFlags r)
/-- WC_FMT. -/
def tnFmt (r : Nat) : Nat := rawField r 18 1
/-- GRAD_FMT. -/
def tnGrad (r : Nat) : Nat := rawField r 19 1
/-- CLIP_IX. -/
def tnClip (r : Nat) : Nat := rawField r 20 2
/-- LAYER_IX. -/
def tnLayer (r : Nat) : Nat := rawField r 22 2
/-- NORM_LO. -/
def tnLo (r : Nat) : Nat := rawField r 24 4
/-- NORM_CNT. -/
def tnCnt (r : Nat) : Nat := rawField r 28 4
/-- STATE_ADDR. -/
def tnState (r : Nat) : Nat := rawField r 32 8
/-- GRAD_ADDR. -/
def tnGradAddr (r : Nat) : Nat := rawField r 40 6
/-- WC_ADDR. -/
def tnWcAddr (r : Nat) : Nat := rawField r 46 6
/-- Slot of WC_SLOT. -/
def tnSlot (r : Nat) : Nat := bits 13 0 (rawField r 52 2)
/-- Pier of WC_SLOT. -/
def tnSlotPier (r : Nat) : Nat := bits 14 14 (rawField r 52 2)
/-- Bucket of GBUCKET. -/
def tnBucket (r : Nat) : Nat := bits 11 0 (rawField r 54 2)
/-- Pier of GBUCKET. -/
def tnBucketPier (r : Nat) : Nat := bits 12 12 (rawField r 54 2)
/-- WATCH_ID. -/
def tnWatchId (r : Nat) : Nat := rawField r 56 2

/-- The working copy is plain FP8. -/
def tnPlain (r : Nat) : Bool := tnWc r && decide (tnFmt r < 2)

/-- No reserved value in a tensor entry (12 R421). [DEDUCED: log entry 33] -/
def tensorOk (r : Nat) : Bool :=
  decide (1 ≤ tnN r && tnN r ≤ 2 ^ 31) && decide (tnFlags r < 16) && decide (tnFmt r < 6) && (tnWc r || decide (tnFmt r = 0))
    && decide (tnGrad r = 5 || tnGrad r = 6) && decide (tnLo r + tnCnt r ≤ tnN r) && decide (tnState r % 256 = 0)
    && decide (tnGradAddr r / 2 ^ 44 < 2) && decide (tnWcAddr r / 2 ^ 44 < 2)
    && decide (rawField r 52 2 < 2 ^ 15) && (tnPlain r || decide (rawField r 52 2 = 0)) && decide (rawField r 54 2 < 2 ^ 13)
    && decide (rawField r 58 70 = 0)

/-- Bytes of a working copy with its scale plane. -/
def wcSize (r : Nat) : Nat :=
  if tnWc r then tnN r * elemSize (tnFmt r) + (if isMx (tnFmt r) then ceilDiv (tnN r) 32 else 0) else 0

/-- A run of bytes from an address of region 0x0 or 0x1 stays in it. -/
def fastRun (a n : Nat) : Bool := decide (a / 2 ^ 44 < 2) && decide (a % 2 ^ 44 + n ≤ fastSize)

/-- Raw tensor entry t under a configuration. -/
def State.rawTensor (s : State) (c : UpdCfg) (t : Nat) : Nat := s.num (pkey spSlow (c.table + 128 * t)) 128

/-- The configuration of the objects as they stand (12 R428, R440, R447). -/
def State.updObjects (s : State) : UpdCfg :=
  { table := s.odv 0 0x7004 0, count := s.odv 0 0x7005 0, stateBase := s.odv 0 0x7000 1, stateSize := s.odv 0 0x7000 2,
    factor := s.odv 0 0x7007 0, normBucket := s.odv 0 0x7008 0, nclip := s.odv 0 0x7009 0, nnorm := s.odv 0 0x700A 0,
    hs := s.odv 0 0x700B 1, hd := s.odv 0 0x700B 2, seed := s.odv 0 0x7010 0, gclip := s.odv 0 0x7011 0,
    nonfinite := s.odv 0 0x7012 0, headroom := s.odv 0 0x7013 0 }

/-! ## State blocks and banks (12 R422, Table 12-3) -/

/-- TAG. -/
def blkTag (b : Nat) : Nat := rawField b 0 8
/-- LAST_VISIT. -/
def blkLast (b : Nat) : Nat := rawField b 8 8
/-- VSTEP. -/
def blkVstep (b : Nat) : Nat := rawField b 16 4
/-- TOKENS_TOTAL. -/
def blkTokens (b : Nat) : Nat := rawField b 24 8
/-- WC_EXP. -/
def blkExp (b : Nat) : Int := toSigned 8 (rawField b 40 1)
/-- WC_AMAX. -/
def blkAmax (b : Nat) : Int := toSigned 16 (rawField b 42 2)
/-- SEED. -/
def blkSeed (b : Nat) : Nat := rawField b 48 8

/-- A state block. -/
def blockBytes (tag : Nat) (visit : List Byte) (exp amax : Int) (seed : Nat) : List Byte :=
  toBytes 8 tag ++ visit ++ toBytes 1 (ofSigned 8 exp) ++ toBytes 1 0 ++ toBytes 2 (ofSigned 16 amax) ++ toBytes 4 0
    ++ toBytes 8 seed ++ toBytes 8 0

/-- The visit record of a block, as it stands. -/
def blkVisit (b : Nat) : List Byte := toBytes 32 (rawField b 8 32)

/-- The visit record advanced by a visit count V (10 R363). -/
def visitAdvance (b e v : Nat) : List Byte :=
  toBytes 8 e ++ toBytes 4 (blkVstep b + 1) ++ toBytes 4 (min v (2 ^ 32 - 1)) ++ toBytes 8 (sat64 (blkTokens b + v)) ++ toBytes 8 0

/-- Slow-tier offset of a value of element i of a bank: q 0 master, 1 first moment, 2 second moment. -/
def bankElem (r bank q i : Nat) : Nat :=
  tnState r + 256 + bank * bankSize (tnN r) + i / 2048 * 24576 + q * 8192 + 4 * (i % 2048)

/-- Values of elements [i, i + n) of one chunk of a bank. -/
def State.bankVals (s : State) (r bank q i n : Nat) : List Nat :=
  (List.range n).map (fun j => s.num (pkey spSlow (bankElem r bank q (i + j))) 4)

/-- floor (log2) of the largest finite non-zero master of a bank; −32,768 where there is none. -/
def State.bankAmax (s : State) (r bank : Nat) : Int :=
  (maxInt? (((List.range (tnN r)).map (fun i => s.num (pkey spSlow (bankElem r bank 0 i)) 4)).filterMap
    (fun w => (decode .b32 w).ilog2))).getD (-32768)

/-! ## Group table (Table 12-4) -/

/-- Value k of a group entry. -/
def grp (g k : Nat) : Val := decode .b32 (rawField g (4 * k) 4)

/-- 1. -/
def Val.one : Val := .fin false 1 0
/-- 1/2. -/
def Val.half : Val := .fin false 1 (-1)

/-- a < b for values that are not NaN. -/
def Val.lt (a b : Val) : Bool := decide (a.cmp b < 0)

/-- Finite and at least 0. -/
def Val.atLeast0 (a : Val) : Bool := a.isFin && !a.lt .zero

/-- No value outside the domains of Table 12-4: ETA, B1, B2, EPS, LAMBDA, CLIP_T, TRUST_COEF, TRUST_MAX. -/
def groupOk (g : Nat) : Bool :=
  let beta (v : Val) : Bool := v.isFin && !v.lt .half && v.lt .one
  (grp g 0).atLeast0 && beta (grp g 1) && beta (grp g 2) && (grp g 3).isFin && Val.zero.lt (grp g 3)
    && (grp g 4).atLeast0 && ((grp g 0).mul (grp g 4)).lt .one && (grp g 5).atLeast0
    && (grp g 6).isFin && Val.zero.lt (grp g 6) && (grp g 7).atLeast0 && decide (rawField g 32 32 = 0)

/-! ## Factors (12 R434) -/

/-- Correctly rounded sqrt (num / den · 2^e) in binary32. -/
def rnSqrtRatio (num den : Nat) (e : Int) : Val :=
  if num = 0 then .zero else
  let sh := 2 * fracBits + Nat.log2 den
  let e1 : Int := e - (sh : Nat)
  let n := num * 2 ^ sh
  let n := if e1 % 2 = 0 then n else n * 2
  let e2 : Int := if e1 % 2 = 0 then e1 / 2 else (e1 - 1) / 2
  let r := isqrt (n / den)
  rnd .b32 false r e2 (decide (r * r * den ≠ n))

/-- rn (c / sqrt x) and rn (c · sqrt (a / b)) for finite positive values. -/
def rnCoefSqrt (c a b : Val) : Val :=
  match c, a, b with
  | .fin _ m e, .fin _ ma ea, .fin _ mb eb => if mb = 0 then .nan else rnSqrtRatio (m * m * ma) mb (2 * e + ea - eb)
  | _, _, _ => .nan

/-- An exact power of a finite value. -/
def Val.pow (v : Val) (k : Nat) : Val :=
  match v with
  | .fin s m e => .fin (s && k % 2 = 1) (m ^ k) (e * (k : Nat))
  | v => v

/-- 1 − v, rounded. -/
def oneMinus (v : Val) : Val := (Val.one.add v.negate).round .b32

/-- Bits of a binary32 value. -/
def b32Bits (v : Val) : Nat := (convert .b32 v).1

/-- A factor-table entry (Table 12-8). -/
structure Factor where
  cfac : Nat
  etaT : Nat
  bc1 : Nat
  bc2 : Nat
  d : Nat
  eps : Nat
  b1 : Nat
  omb1 : Nat
  b2 : Nat
  omb2 : Nat
  skip : Nat
  k : Nat
  elapsed : Nat
  deriving DecidableEq, Repr

/-- As 64 bytes. -/
def Factor.bytes (f : Factor) : List Byte :=
  [f.cfac, f.etaT, f.bc1, f.bc2, f.d, f.eps, f.b1, f.omb1, f.b2, f.omb2].flatMap (toBytes 4) ++ toBytes 1 f.skip ++ toBytes 3 0
    ++ toBytes 4 f.k ++ toBytes 8 f.elapsed ++ toBytes 8 0

/-- SKIP of a raw factor entry. -/
def facSkip (f : Nat) : Nat := rawField f 40 1
/-- Value k of its ten binary32 values. -/
def facVal (f k : Nat) : Val := decode .b32 (rawField f (4 * k) 4)

/-! ## Element arithmetic (12 R436) -/

/-- `update_element`: new master, first and second moment. -/
def updateElement (w m v g : Val) (f : Nat) : Val × Val × Val :=
  let gc := Val.mulR .b32 g (facVal f 0)
  let m1 := Val.mulR .b32 (facVal f 7) gc
  let mn := Val.fmaR .b32 (facVal f 6) m m1
  let g2 := Val.mulR .b32 gc gc
  let v1 := Val.mulR .b32 (facVal f 9) g2
  let vn := Val.fmaR .b32 (facVal f 8) v v1
  let mh := Val.div .b32 mn (facVal f 2)
  let vh := Val.div .b32 vn (facVal f 3)
  let den := Val.addR .b32 (Val.sqrt .b32 vh) (facVal f 5)
  let u := Val.div .b32 mh den
  let st := Val.mulR .b32 (facVal f 1) u
  let wn := Val.fmaR .b32 (facVal f 4) w st.negate
  (wn, mn, vn)

end Sys2Proof.Machine
end

