-- ==== Sys2Proof/Machine/Ilben.lean ====
section
/-! DEFINITION. Ilben's commands: the update state, norms, factors, pass 2, working copies, and how an attempt's update
ends (12). -/

namespace Sys2Proof.Machine

/-! ## Commands (Tables 12-5 to 12-7) -/

/-- TFIRST. -/
def ilFirst (w : Nat) : Nat := bits 23 8 w
/-- TCOUNT. -/
def ilCount (w : Nat) : Nat := bits 39 24 w
/-- MODE ADOPT. -/
def ilAdopt (w : Nat) : Bool := bit 40 w

/-- No reserved opcode or bit in an Ilben word (12 R426). -/
def ilOk (w : Nat) : Bool :=
  decide (loopOf w = 0) &&
  (match opOf w with
   | 0x00 => decide (bits 63 8 w = 0)
   | 0x10 => decide (bits 63 8 w = 0)
   | 0x11 => decide (bits 63 40 w = 0) && decide (ilCount w ≠ 0)
   | 0x12 => decide (bits 63 8 w = 0)
   | 0x13 => decide (bits 63 8 w = 0)
   | 0x14 => decide (bits 63 41 w = 0) && decide (ilCount w ≠ 0)
   | 0x15 => decide (bits 63 40 w = 0) && decide (ilCount w ≠ 0)
   | 0x16 => decide (bits 63 8 w = 0)
   | _ => false)

/-- OPERAND_FAULT of the command at the head, which has latched. [DEDUCED: log entry 21] -/
def State.ilFault (s : State) (p w : Nat) (addr : Int) : State :=
  let f := s.newFlight p 81 w [] Nest.one false
  (s.advance p 81 w).operandFault p 81 f 0 7 addr

/-- UPD_STATE (OD 0x7020). -/
def UpdState.code : UpdState → Nat
  | .idle => 0 | .opened => 1 | .exported => 2 | .normed => 3 | .closed => 4

/-- Change the update engine. -/
def State.modUpd (s : State) (f : Upd → Upd) : State := { s with upd := f s.upd }

/-- Put a command in flight: its tracker entry and its job. -/
def State.ilPush (s : State) (p w : Nat) (adopt : Bool) (cfg : UpdCfg) (ts : List UpdTensor) (waits : List Nat) : State :=
  let ident := s.reqIdent p 81
  let f := { s.newFlight p 81 w [] Nest.one false with args := [ident] }
  let j : UpdJob := ⟨p, ident, opOf w, adopt, cfg, ts, waits, f.pc, f.gen, 0⟩
  ((s.advance p 81 w).pushFlight p 81 f).modUpd (fun u => { u with jobs := u.jobs ++ [j] })

/-- A command completes: its tracker entry is free, its signal posts, and a reseed that waited for its tensors goes on. -/
def State.ilDone (s : State) (j : UpdJob) : State :=
  let s := (s.modUpd (fun u => { u with jobs := u.jobs.filter (fun x => x.ident ≠ j.ident) })).reseedOn
  let fs := (s.queue j.pier 81).flights
  match fs.findIdx? (fun f => decide (f.args.getD 0 0 = j.ident)) with
  | some i =>
    match fs[i]? with
    | some f => (s.setFlights j.pier 81 (fs.eraseIdx i)).finish j.pier 0 f
    | none => s
  | none => s

/-- Identities of the commands of an opcode in flight. -/
def State.ilIdents (s : State) (op : Nat) : List Nat := (s.upd.jobs.filter (fun j => j.op = op)).map (·.ident)

/-- The commands a command waits for have completed. -/
def State.ilReady (s : State) (j : UpdJob) : Bool := j.waits.all (fun i => !(s.upd.jobs.any (fun x => x.ident = i)))

/-! ## Checks (12 R421, R423, R431, R445) -/

/-- Why a command does not run. -/
inductive IlErr where
  | enc
  | operand (addr : Int)
  deriving DecidableEq, Repr

/-- The state region and the addresses of a tensor lie where they must. -/
def tensorPlace (c : UpdCfg) (r : Nat) : Option IlErr :=
  let g := tnN r * elemSize (tnGrad r)
  if !(decide (c.stateBase ≤ tnState r) && decide (tnState r + 256 + 2 * bankSize (tnN r) ≤ c.stateBase + c.stateSize)) then
    some (.operand ((3 * 2 ^ 44 + tnState r : Nat)))
  else if !fastRun (tnGradAddr r) g then some (.operand (tnGradAddr r : Nat))
  else if tnWc r && !fastRun (tnWcAddr r) (wcSize r) then some (.operand (tnWcAddr r : Nat))
  else none

/-- CLIP_IX and LAYER_IX (Table 12-11). -/
def tensorNorm (c : UpdCfg) (r : Nat) : Bool :=
  decide (tnClip r < c.nclip) && decide (tnLayer r % 2 = 0) && decide (c.nclip ≤ tnLayer r) && decide (tnLayer r + 2 ≤ c.nnorm)

/-- Address and raw entry of the norm bucket. -/
def UpdCfg.nbPier (c : UpdCfg) : Nat := bits 12 12 c.normBucket
/-- Number of the norm bucket. -/
def UpdCfg.nb (c : UpdCfg) : Nat := bits 11 0 c.normBucket

/-- Bytes of a norm tensor: words and status records (11 R383). -/
def normSize (n : Nat) : Nat := ceilDiv n 2048 * 32768 + 8 * ceilDiv n 2048

/-- The norm bucket is configured as R431 says and its tensors lie in region 0x0. [DEDUCED: log entry 33] -/
def State.normOk (s : State) (c : UpdCfg) : Bool :=
  let r := s.bucketRaw c.nbPier c.nb
  decide (bkN r = c.nnorm) && decide (bkCfmt r = 8) && decide (bkRfmt r = 8) && decide (bkThin r = 0) && !bkExpert r
    && decide (c.hs + normSize c.nnorm ≤ fastSize) && decide (c.hd + normSize c.nnorm ≤ fastSize)

/-- Latch of tensor t for a command: its checks in the order of Table 12-11, then what it latches.
[DESIGN CHOICE: log entry 29] -/
def State.latchTensor (s : State) (c : UpdCfg) (op : Nat) (adopt : Bool) (t : Nat) : Except IlErr UpdTensor :=
  let r := s.rawTensor c t
  let fac := s.num (pkey (spFast 0) (c.factor + 64 * t)) 64
  let bst := s.bucketState (tnBucketPier r) (tnBucket r)
  if !tensorOk r then .error .enc
  else match (if op = 0x13 then none else tensorPlace c r) with
  | some e => .error e
  | none =>
    if (op = 0x11 || op = 0x13) && !tensorNorm c r then .error (.operand 0)
    else if (op = 0x14 || op = 0x15) && tnPlain r && tnOff r ≠ 0 then .error (.operand 0)
    else match s.committedBank (tnState r) (tnFallback r) with
    | none => .error (.operand ((3 * 2 ^ 44 + tnState r : Nat)))
    | some b =>
      if op = 0x14 && (s.upd.named.contains t || tnFallback r ≠ adopt || !(bst = bkReduced || bst = bkHeld)) then .error (.operand 0)
      else
        let v := s.num (s.bucketAddr (tnBucketPier r) (tnBucket r) + 108) 4
        .ok ⟨t, r, b, s.num (pkey spSlow (tnState r + 64 * b)) 64, fac, v⟩

/-- What the latch of a command reads for tensors: the entries, the state blocks, and for PASS2 the factor entries and V
(12 R418, R421). [DESIGN CHOICE: log entry 29] -/
def State.readTensors (s : State) (p : Nat) (c : UpdCfg) (op : Nat) (ts : List Nat) : State :=
  let k := Asker.queue p 81 0
  ts.foldl (fun s t =>
    let s := s.touchReadRun k 0 ffPattern (pkey spSlow (c.table + 128 * t), 128)
    let r := s.rawTensor c t
    let s := if tnState r + 128 ≤ slowSize then s.touchReadRun k 0 ffPattern (pkey spSlow (tnState r), 128) else s
    if op = 0x14 then
      (s.touchReadRun k 0 ffPattern (pkey (spFast 0) (c.factor + 64 * t), 64)).touchReadRun k 0 ffPattern
        (s.bucketAddr (tnBucketPier r) (tnBucket r), 128)
    else s) s

/-- Latch of several tensors. [DEDUCED: log entry 33] -/
def State.latchTensors (s : State) (c : UpdCfg) (op : Nat) (adopt : Bool) : List Nat → Except IlErr (List UpdTensor)
  | [] => .ok []
  | t :: ts =>
    match s.latchTensor c op adopt t with
    | .error e => .error e
    | .ok x =>
      match s.latchTensors c op adopt ts with
      | .error e => .error e
      | .ok xs => .ok (x :: xs)

/-- Tensors TFIRST to TFIRST + TCOUNT − 1 of a command, once read, or why it does not run. -/
def State.namedTensors (s : State) (p : Nat) (c : UpdCfg) (w : Nat) : State × Except IlErr (List UpdTensor) :=
  let ts := (List.range (ilCount w)).map (ilFirst w + ·)
  if c.count < ilFirst w + ilCount w then (s, .error (.operand 0))
  else
    let s := s.readTensors p c (opOf w) ts
    (s, s.latchTensors c (opOf w) (ilAdopt w) ts)

/-- A command faults by its reason: a reserved encoding at issue, an operand after its latch (00 R11, 04 R135).
[DEDUCED: log entry 33] -/
def State.ilError (s : State) (p w : Nat) : IlErr → State
  | .enc => s.headFault p 81 1
  | .operand a => s.ilFault p w a

/-- A command that needs an update state, and the queue of Pier 0 where it is module-wide (12 R427, Table 12-7). -/
def State.ilIn (s : State) (p w : Nat) (st : UpdState) (wide : Bool) (go : State) : State :=
  if s.upd.st ≠ st || (wide && p ≠ 0) then s.ilFault p w 0 else go

/-! ## UOPEN (12 R425, R428) -/

/-- Groups that some tensor names. -/
def State.groupsNamed (s : State) (c : UpdCfg) : List Nat :=
  ((List.range c.count).map (fun t => tnGroup (s.rawTensor c t))).eraseDups

/-- Latch of UOPEN. [DESIGN CHOICE: log entry 29] -/
def State.uopen (s : State) (p w : Nat) : State :=
  s.ilIn p w .idle true <|
    let c := s.updObjects
    let base := s.odv 0 0x7006 0
    let k := Asker.queue p 81 0
    let s := (s.touchReadRun k 0 ffPattern (pkey spSlow c.table, 128 * c.count)).touchReadRun k 0 ffPattern (pkey spSlow base, 16384)
    let entry (g : Nat) : Nat := s.num (pkey spSlow (base + 64 * g)) 64
    if !(s.groupsNamed c).all (fun g => groupOk (entry g)) then s.headFault p 81 1
    else
      let anchor := bkAnchor (s.bucketRaw c.nbPier c.nb)
      let s := s.modUpd (fun u =>
        { u with
          st := .opened, eNext := s.eNext, cfg := c, anchor := anchor, words := [], stats := [], named := [],
          groups := (List.range 256).foldl (fun t g => Tab.set 0 t g (entry g)) [], updated := 0, skipped := 0 })
      ((s.bump32 0 0x7021 1 1).advance p 81 w).openStream.postSignal p w

/-! ## PASS1 (12 R432) -/

/-- Latch of PASS1. [DESIGN CHOICE: log entry 29] -/
def State.pass1 (s : State) (p w : Nat) : State :=
  s.ilIn p w .opened false <|
    let r := s.namedTensors p s.upd.cfg w
    match r.2 with
    | .error e => r.1.ilError p w e
    | .ok ts => r.1.ilPush p w false s.upd.cfg ts []

/-- Status record of the norm tile that holds element i. -/
def Upd.stat (u : Upd) (i : Nat) : XaStat := XaStat.ofNat ((Tab.get none u.stats (i / 2048)).getD (XaStat.start u.anchor).toNat)

/-- Add a term to norm element i. -/
def Upd.addNorm (u : Upd) (i : Nat) (v : Val) : Upd :=
  let r := addTerm v (xaOfWord (Tab.get 0 u.words i)) (u.stat i)
  { u with words := Tab.set 0 u.words i (wordOfXa r.1), stats := Tab.set none u.stats (i / 2048) (some r.2.toNat) }

/-- Terms of one counted element. [DEDUCED: log entry 32] -/
def Upd.count (u : Upd) (r : Nat) (w m v g : Val) : Upd :=
  let u := (u.addNorm (tnClip r) (g.mul g)).addNorm (tnLayer r + 1) (g.mul g)
  let u := u.addNorm (tnLayer r) (w.mul w)
  if m.isFin && v.isFin then u else u.addNorm (tnClip r) .nan

/-- Physical address of element i of the gradient. -/
def gradKey (p r i : Nat) : Nat := ((physOf p (tnGradAddr r : Nat)).getD 0) + i * elemSize (tnGrad r)

/-- Gradient element i, widened exactly. -/
def State.gradVal (s : State) (p r i : Nat) : Val := decode (floatOf (tnGrad r)) (s.num (gradKey p r i) (elemSize (tnGrad r)))

/-- NaN pattern of binary32 for a granule. -/
def nan32 : List Byte := uePattern 6

/-- Reads of elements [i, i + n) of a chunk: the first q arrays of the bank, and the gradient where wanted. -/
def State.touchChunk (s : State) (p r bank q i n : Nat) (grad : Bool) : State :=
  let k := Asker.queue p 81 0
  let s := (List.range q).foldl (fun s a => s.touchReadRun k 0 nan32 (pkey spSlow (bankElem r bank a i), 4 * n)) s
  if grad then s.touchReadRun k 0 (uePattern (tnGrad r)) (gradKey p r i, n * elemSize (tnGrad r)) else s

/-- One chunk of PASS1: the counted elements of chunk k. -/
def State.pass1Chunk (s : State) (p : Nat) (t : UpdTensor) (k : Nat) : State :=
  let r := t.raw
  let lo := max (tnLo r) (2048 * k)
  let hi := min (tnLo r + tnCnt r) (2048 * k + 2048)
  if hi ≤ lo then s else
  let s := s.touchChunk p r t.bank 3 lo (hi - lo) true
  let val (s : State) (q i : Nat) : Val := decode .b32 (s.num (pkey spSlow (bankElem r t.bank q i)) 4)
  s.modUpd (fun u => (List.range (hi - lo)).foldl (fun u j =>
    u.count r (val s 0 (lo + j)) (val s 1 (lo + j)) (val s 2 (lo + j)) (s.gradVal p r (lo + j))) u)

/-! ## NEXPORT (12 R433) -/

/-- Latch of NEXPORT. -/
def State.nexport (s : State) (p w : Nat) : State :=
  s.ilIn p w .opened true <|
    if !s.normOk s.upd.cfg then s.ilFault p w 0
    else s.ilPush p w false s.upd.cfg [] (s.ilIdents 0x11)

/-- The oldest command of an opcode that waits no more. -/
def State.ilNext (s : State) (op : Nat) : Option UpdJob := s.upd.jobs.find? (fun j => decide (j.op = op) && s.ilReady j)

/-- A write of Ilben into a fast tier by Pier 0's queue, with its guard regions. -/
def State.ilWrite (s : State) (k : Nat) (bs : List Byte) : State :=
  (s.guardOnce [(k, bs.length)]).storeRun (Asker.queue 0 81 0) 0 k bs

/-- NEXPORT_WRITE: words, then one status record per tile. -/
def State.nexportWrite (s : State) : State :=
  match s.ilNext 0x12 with
  | none => s
  | some j =>
    let n := j.cfg.nnorm
    let k := pkey (spFast j.cfg.nbPier) j.cfg.hs
    let words := (List.range n).flatMap (fun i => toBytes 16 (Tab.get 0 s.upd.words i))
    let stats := (List.range (ceilDiv n 2048)).flatMap (fun t => toBytes 8 (s.upd.stat (2048 * t)).toNat)
    let s := (s.ilWrite k words).ilWrite (k + 32768 * ceilDiv n 2048) stats
    (s.modUpd (fun u => { u with st := .exported })).ilDone j

/-! ## NORMS (12 R434, R435) -/

/-- Latch of NORMS. -/
def State.norms (s : State) (p w : Nat) : State :=
  s.ilIn p w .exported true <|
    let c := s.upd.cfg
    let st := s.bucketState c.nbPier c.nb
    if !s.normOk c || st = bkHeld || st = bkFailed then s.ilFault p w 0
    else
      let s := s.readTensors p c 0x13 (List.range c.count)
      match s.latchTensors c 0x13 false (List.range c.count) with
      | .error e => s.ilError p w e
      | .ok ts => s.ilPush p w false c ts []

/-- Values that the factors of an attempt share: the norm values, which of them are not finite, cG. -/
structure Norms where
  vals : List Val
  bad : List Bool
  cG : Val
  deriving DecidableEq, Repr

/-- A free binary32 value: the manual gives a factor no value where a norm it needs has none. [DESIGN CHOICE: log entry 30] -/
def State.freeVal (s : State) : Val × State :=
  let r := s.takeFree 32
  (decode .b32 r.1, r.2)

/-- cT of a tensor. [DESIGN CHOICE: log entry 30] -/
def State.clipFactor (s : State) (x : Norms) (r : Nat) (clip : Val) : Val × State :=
  if clip.isZero then (.one, s)
  else if x.bad.getD (tnClip r) true then s.freeVal
  else
    let gt := x.vals.getD (tnClip r) .nan
    if !(clip.mul clip).lt gt then (.one, s) else (rnCoefSqrt clip .one gt, s)

/-- The trust ratio of a tensor. [DESIGN CHOICE: log entry 30] -/
def State.trustRatio (s : State) (x : Norms) (r : Nat) (coef top : Val) : Val × State :=
  let wl := x.vals.getD (tnLayer r) .nan
  let gl := x.vals.getD (tnLayer r + 1) .nan
  if top.isZero then (.one, s)
  else if x.bad.getD (tnLayer r) true || x.bad.getD (tnLayer r + 1) true then s.freeVal
  else if wl.isZero || gl.isZero then (.one, s)
  else if wl.sign ≠ gl.sign then s.freeVal
  else (Val.minmax false top (rnCoefSqrt coef wl.abs gl.abs), s)

/-- `skip_reason` (12 R435): in a bucket state the manual does not name, the reason is open. [DESIGN CHOICE: log entry 30] -/
def State.skipReason (s : State) (x : Norms) (t : UpdTensor) : Nat × State :=
  let r := t.raw
  let st := s.bucketState (tnBucketPier r) (tnBucket r)
  let v := s.num (s.bucketAddr (tnBucketPier r) (tnBucket r) + 108) 4
  let bad := x.bad.getD (tnClip r) true || x.bad.getD (tnLayer r) true || x.bad.getD (tnLayer r + 1) true
  let eager (n : Nat) : Nat := if s.odv 0 0x5041 0 = 1 then 4 else n
  if bad then (3, s)
  else if st = bkHeld then (eager 2, s)
  else if st = bkReduced then (if tnExpert r && v = 0 then eager 1 else 0, s)
  else let f := s.takeFree 8; (f.1 % 5, f.2)

/-- One tensor of `norms`; D by the procedure, to which R365 leaves the arithmetic. [DEDUCED: log entry 32] -/
def State.normsTensor (s : State) (x : Norms) (t : UpdTensor) : State :=
  let r := t.raw
  let g := Tab.get 0 s.upd.groups (tnGroup r)
  let a := s.clipFactor x r (grp g 5)
  let b := a.2.trustRatio x r (grp g 6) (grp g 7)
  let k := wrap32 (blkVstep t.block + 1)
  let el := (s.upd.eNext + 2 ^ 64 - blkLast t.block) % 2 ^ 64
  let sd := s.odv 0 0x5041 0
  let d : Val := if sd = 2 then .one
    else (((Val.one.add ((grp g 0).mul (grp g 4)).negate)).pow (if sd = 0 then el else 1)).round .b32
  let q := b.2.skipReason x t
  let f : Factor :=
    { cfac := b32Bits (Val.mulR .b32 a.1 x.cG), etaT := b32Bits (Val.mulR .b32 (grp g 0) b.1),
      bc1 := b32Bits (oneMinus ((grp g 1).pow k)), bc2 := b32Bits (oneMinus ((grp g 2).pow k)), d := b32Bits d,
      eps := b32Bits (grp g 3), b1 := b32Bits (grp g 1), omb1 := b32Bits (oneMinus (grp g 1)), b2 := b32Bits (grp g 2),
      omb2 := b32Bits (oneMinus (grp g 2)), skip := q.1, k := k, elapsed := el }
  let s := q.2
  let s := if q.1 = 3 && s.upd.cfg.nonfinite = 1 then s.ilbenEvent 2 t.ix (tnJob r) 1 else s
  let s := if a.1.lt .one then s.bump64 0 0x7021 8 1 else s
  s.ilWrite (pkey (spFast 0) (s.upd.cfg.factor + 64 * t.ix)) f.bytes

/-- cG: 1 where clipping is off or the sum is below the threshold. -/
def globalClip (gclip gsum : Val) : Val :=
  if gclip.isZero || !(gclip.mul gclip).lt gsum then .one else rnCoefSqrt gclip .one gsum

/-- `norms` over the reduced words. -/
def State.normsRun (s : State) (j : UpdJob) : State :=
  let c := j.cfg
  let k := pkey (spFast c.nbPier) c.hd
  let s := s.touchReadRun (Asker.queue 0 81 0) 0 (uePattern 8) (k, normSize c.nnorm)
  let ws := (List.range c.nnorm).map (fun i => s.areaWord k c.nnorm i)
  let vals := ws.map (fun w => xaValue w.2.anchor w.1)
  let bad := vals.map (fun v => !v.isFin)
  let s := if bad.any id && c.nonfinite = 0 then (s.ilbenEvent 2 0 (2 ^ 64 - 1) 0).markFaulted else s
  let gsum := exactSum ((vals.take c.nclip).filter Val.isFin)
  let cG := globalClip (decode .b32 c.gclip) gsum
  let s := if cG.lt .one then (s.bump32 0 0x7021 9 1).ilbenEvent 1 0 (b32Bits (Val.sqrt .b32 gsum)) (b32Bits cG) else s
  j.tensors.foldl (fun s t => s.normsTensor ⟨vals, bad, cG⟩ t) s

/-- NORMS_COMPUTE: once the norm bucket is REDUCED; HELD or FAILED is an OPERAND_FAULT (Table 12-7).
[DESIGN CHOICE: log entry 29] -/
def State.normsCompute (s : State) : State :=
  match s.ilNext 0x13 with
  | none => s
  | some j =>
    let st := s.bucketState j.cfg.nbPier j.cfg.nb
    if st = bkReduced then ((s.normsRun j).modUpd (fun u => { u with st := .normed })).ilDone j
    else if st = bkHeld || st = bkFailed then
      let fs := (s.queue j.pier 81).flights
      let s := s.modUpd (fun u => { u with jobs := u.jobs.filter (fun x => x.ident ≠ j.ident) })
      match fs.find? (fun f => decide (f.args.getD 0 0 = j.ident)) with
      | some f => (s.setFlights j.pier 81 (fs.filter (fun f => !decide (f.args.getD 0 0 = j.ident)))).operandFault j.pier 81 f 0 7 0
      | none => s
    else s

/-! ## PASS2 and WCOPY (12 R436 to R441) -/

/-- Latch of PASS2. [DESIGN CHOICE: log entry 29] -/
def State.pass2 (s : State) (p w : Nat) : State :=
  s.ilIn p w .normed false <|
    let r := s.namedTensors p s.upd.cfg w
    match r.2 with
    | .error e => r.1.ilError p w e
    | .ok ts => (r.1.modUpd (fun u => { u with named := u.named ++ ts.map (·.ix) })).ilPush p w (ilAdopt w) s.upd.cfg ts []

/-- Latch of WCOPY. [DESIGN CHOICE: log entry 29] -/
def State.wcopy (s : State) (p w : Nat) : State :=
  s.ilIn p w .idle false <|
    let r := s.namedTensors p s.updObjects w
    match r.2 with
    | .error e => r.1.ilError p w e
    | .ok ts => r.1.ilPush p w false s.updObjects ts []

/-- Pier of a working copy, and its physical address. -/
def wcKey (p r : Nat) : Nat := (physOf p (tnWcAddr r : Nat)).getD 0

/-- Codes of a chunk of a working copy: for each element its code, SAT, source and stored value; for MX the scale bytes. -/
def wcCodes (r seed epoch i : Nat) (x : Int) (ws : List Val) : List Wrote × List Nat :=
  let f := floatOf (tnFmt r)
  let bitsOf (j : Nat) : Nat := srBits seed epoch (tnJob r) (tnOff r + i + j)
  if isMx (tnFmt r) then
    let blocks := (List.range (ceilDiv ws.length 32)).map (fun b =>
      let vs := (ws.drop (32 * b)).take 32
      let m := mxBlock f vs
      let els := ((List.range vs.length).zip (vs.zip m.2)).map (fun y =>
        let c := if m.1 = 0xFF then y.2.2 else srRound f (y.2.1.scale (127 - (m.1 : Int))) (bitsOf (32 * b + y.1))
        (⟨32 * b + y.1, c.1, c.2, y.2.1, valueOf (tnFmt r) 0 m.1 c.1⟩ : Wrote))
      (els, m.1))
    (blocks.flatMap (·.1), blocks.map (·.2))
  else
    let sc : Int := if tnFmt r < 2 then x else 0
    (((List.range ws.length).zip ws).map (fun y =>
      let c := srRound f (y.2.scale (-sc)) (bitsOf y.1)
      (⟨y.1, c.1, c.2, y.2, (decode f c.1).scale sc⟩ : Wrote)), [])

/-- Write a chunk of a working copy from masters (12 R437): scale slot first, elements, scale plane, watch, WC_SAT. -/
def State.workCopy (s : State) (j : UpdJob) (r ix seed epoch i : Nat) (x : Int) (ws : List Val) : State :=
  if !tnWc r then s else
  let k := wcKey j.pier r
  let z := elemSize (tnFmt r)
  let c := wcCodes r seed epoch i x ws
  let s := if tnPlain r && i = 0 then s.write (slotAddr (tnSlotPier r) (tnSlot r)) (toBytes 1 (ofSigned 8 x)) else s
  let who := Asker.queue j.pier 81 0
  let s := s.storeRun who 0 (k + z * i) (c.1.flatMap (fun w => toBytes z w.code))
  let s := if isMx (tnFmt r) then s.storeRun who 0 (k + tnN r + i / 32) (c.2.flatMap (toBytes 1)) else s
  let wp := pspace k
  let wr : Writer := ⟨streamOf j.pier 81, j.pc, j.gen⟩
  let s := if tnWatch r then c.1.foldl (fun s w => s.watchElem wp wr (tnFmt r) (tnWatchId r) w) s else s
  let n := (c.1.filter (fun w => w.sat)).length
  if n = 0 then s else
  let s := s.bump64 0 0x7021 10 n
  if s.isFirst 15 ix then (s.setOnce 15 ix).ilbenEvent 3 ix (tnJob r) 0 else s

/-- Scale exponent of a plain FP8 working copy made by PASS2 (12 R437); zero for the other formats. -/
def wcScale (c : UpdCfg) (t : UpdTensor) : Int :=
  if tnPlain t.raw then clampInt (-127) 127 (blkAmax t.block + c.headroom - (if tnFmt t.raw = 0 then 8 else 15)) else 0

/-- Bank that PASS2 writes: the other one, for the fallback path the one of e_next's parity. [DEDUCED: log entry 32] -/
def writeBank (t : UpdTensor) : Nat := 1 - t.bank

/-- The half of the mirror traffic that a tensor's state goes by: that of its working copy's Pier, of the issuing Pier where it
has none (01 R24). [DEDUCED: log entry 38] -/
def wcHalf (p r : Nat) : Nat := if tnWc r then pspace (wcKey p r) % 2 else p

/-- Write the three arrays of a chunk of the write bank, and copy them to the mirror stream. -/
def State.writeChunk (s : State) (p r bank i : Nat) (xs : List (List Val)) : State :=
  ((List.range xs.length).zip xs).foldl (fun s x =>
    let o := bankElem r bank x.1 i
    let bs := x.2.flatMap (fun v => toBytes 4 (b32Bits v))
    (s.storeRun (Asker.queue p 81 0) 0 (pkey spSlow o) bs).mirrorSlow (wcHalf p r) o bs) s

/-- Values of an array of a chunk. -/
def State.chunkVals (s : State) (r bank q i n : Nat) : List Val := (s.bankVals r bank q i n).map (decode .b32)

/-- One chunk of PASS2 on a tensor. [DEDUCED: log entry 32] -/
def State.pass2Chunk (s : State) (j : UpdJob) (t : UpdTensor) (k : Nat) : State :=
  let r := t.raw
  let i := 2048 * k
  let n := min 2048 (tnN r - i)
  let skip := facSkip t.factor
  let wb := writeBank t
  let wc (s : State) (ws : List Val) : State := s.workCopy j r t.ix j.cfg.seed s.upd.eNext i (wcScale j.cfg t) ws
  if j.adopt then
    if skip = 0 || skip = 4 then
      let s := s.touchChunk j.pier r wb 1 i n false
      let s := [0, 1, 2].foldl (fun s q =>
        s.mirrorSlow (wcHalf j.pier r) (bankElem r wb q i) (s.bytes (pkey spSlow (bankElem r wb q i)) (4 * n))) s
      wc s (s.chunkVals r wb 0 i n)
    else
      let s := s.touchChunk j.pier r t.bank 3 i n false
      s.writeChunk j.pier r wb i ([0, 1, 2].map (fun q => s.chunkVals r t.bank q i n))
  else if skip = 4 then
    let s := s.touchChunk j.pier r t.bank 1 i n false
    let ws := (s.chunkVals r t.bank 0 i n).map (fun w => Val.mulR .b32 (facVal t.factor 4) w)
    wc (s.writeChunk j.pier r wb i [ws, s.chunkVals r t.bank 1 i n, s.chunkVals r t.bank 2 i n]) ws
  else if skip = 0 then
    let s := s.touchChunk j.pier r t.bank 3 i n true
    let val (q a : Nat) : Val := (s.chunkVals r t.bank q (i + a) 1).headD .nan
    let us := (List.range n).map (fun a => updateElement (val 0 a) (val 1 a) (val 2 a) (s.gradVal j.pier r (i + a)) t.factor)
    wc (s.writeChunk j.pier r wb i [us.map (·.1), us.map (·.2.1), us.map (·.2.2)]) (us.map (·.1))
  else s

/-- Write a state block of the write bank, and copy it to the mirror stream (12 R423). -/
def State.writeBlk (s : State) (p : Nat) (t : UpdTensor) (bs : List Byte) : State :=
  let o := tnState t.raw + 64 * writeBank t
  (s.storeRun (Asker.queue p 81 0) 0 (pkey spSlow o) bs).mirrorSlow (wcHalf p t.raw) o bs

/-- After a tensor's last chunk of PASS2: its state block and the counters (12 R436, R438, R441). -/
def State.pass2Block (s : State) (j : UpdJob) (t : UpdTensor) : State :=
  let r := t.raw
  let skip := facSkip t.factor
  let e := s.upd.eNext
  let blk (s : State) (visit : List Byte) : State :=
    s.writeBlk j.pier t (blockBytes e visit (wcScale j.cfg t) (s.bankAmax r (writeBank t)) j.cfg.seed)
  let count (s : State) (sub : Nat) : State := if sub = 5 then s.bump32 0 0x7021 5 1 else s.bump64 0 0x7021 sub 1
  match skip with
  | 0 =>
    let v := if tnExpert r then t.v else 1
    let s := (blk s (visitAdvance t.block e v)).bump64 0 0x7021 7 (tnN r)
    (count s 2).modUpd (fun u => { u with updated := u.updated + 1 })
  | 4 => (count (blk s (blkVisit t.block)) 6).modUpd (fun u => { u with updated := u.updated + 1 })
  | k =>
    let s := if j.adopt then s.writeBlk j.pier t (toBytes 64 t.block) else s
    (if k = 1 then count s 3 else if k = 2 then count s 4 else if k = 3 then count s 5 else s).modUpd
      (fun u => { u with skipped := u.skipped + 1 })

/-- One chunk of WCOPY (12 R440). -/
def State.wcopyChunk (s : State) (j : UpdJob) (t : UpdTensor) (k : Nat) : State :=
  let r := t.raw
  if !tnWc r then s else
  let i := 2048 * k
  let n := min 2048 (tnN r - i)
  let s := s.touchChunk j.pier r t.bank 1 i n false
  s.workCopy j r t.ix (blkSeed t.block) (blkTag t.block) i (blkExp t.block) (s.chunkVals r t.bank 0 i n)

/-! ## The work of a command (12 R443) -/

/-- The work items of a command in order: chunks of its tensors in table order, each tensor's block after its chunks. -/
def UpdJob.items (j : UpdJob) : List (UpdTensor × Option Nat) :=
  j.tensors.flatMap (fun t => (List.range (ceilDiv (tnN t.raw) 2048)).map (fun k => (t, some k)) ++ [(t, none)])

/-- One work item. -/
def State.ilItem (s : State) (j : UpdJob) (x : UpdTensor × Option Nat) : State :=
  match j.op, x.2 with
  | 0x11, some k => s.pass1Chunk j.pier x.1 k
  | 0x14, some k => s.pass2Chunk j x.1 k
  | 0x14, none => s.pass2Block j x.1
  | 0x15, some k => s.wcopyChunk j x.1 k
  | _, _ => s

/-- Runs of the fast tiers that a command writes. -/
def UpdJob.runs (j : UpdJob) : List (Nat × Nat) :=
  if j.op = 0x14 || j.op = 0x15 then
    (j.tensors.filter (fun t => tnWc t.raw && (j.op = 0x15 || decide (facSkip t.factor = 0 || facSkip t.factor = 4)))).map
      (fun t => (wcKey j.pier t.raw, wcSize t.raw))
  else []

/-- The flight of a command. -/
def State.ilFlight (s : State) (j : UpdJob) : Option Nat :=
  (s.queue j.pier 81).flights.findIdx? (fun f => decide (f.args.getD 0 0 = j.ident))

/-- The guard regions of a command's writes: its first write begins them, its completion ends them. -/
def State.ilGuards (s : State) (j : UpdJob) : State :=
  match s.ilFlight j with
  | none => s
  | some k =>
    match s.flight j.pier 81 k with
    | none => s
    | some f => let g := s.guardRuns f.guards j.runs; g.1.putFlight j.pier 81 k { f with guards := g.2 }

/-- Work items in order, and how many are done: the state block of a tensor waits until every write before it is visible
(12 R423, R438). [DESIGN CHOICE: log entry 29] -/
def State.ilItems (s : State) (j : UpdJob) : List (UpdTensor × Option Nat) → Nat → State × Nat
  | [], n => (s, n)
  | x :: t, n =>
    if j.op = 0x14 && x.2.isNone && !s.host.snoopWait.isEmpty then (s, n) else (s.ilItem j x).ilItems j t (n + 1)

/-- The next n work items of a command. [DESIGN CHOICE: log entry 29] -/
def State.ilWork (s : State) (j : UpdJob) (n : Nat) : State :=
  if n = 0 then s else
  let r := (s.ilGuards j).ilItems j ((j.items.drop j.did).take n) j.did
  r.1.modUpd (fun u => { u with jobs := u.jobs.map (fun x => if x.ident = j.ident then { x with did := r.2 } else x) })

/-- ILBEN_COMMAND_COMPLETE of job i: a PASS1, PASS2 or WCOPY does what is left of its work, and completes once all of it is done
and visible (07 R252). [DESIGN CHOICE: log entry 29] -/
def State.ilComplete (s : State) (i : Nat) : State :=
  match s.upd.jobs[i]? with
  | none => s
  | some j =>
    if j.op = 0x11 || j.op = 0x14 || j.op = 0x15 then
      let s := s.ilWork j (j.items.length - j.did)
      match s.upd.jobs[i]? with
      | none => s
      | some j => if j.did = j.items.length && s.host.snoopWait.isEmpty then s.ilDone j else s
    else s

/-! ## UCLOSE and the end of an attempt's update (Table 12-7) -/

/-- Latch of UCLOSE. -/
def State.uclose (s : State) (p w : Nat) : State :=
  s.ilIn p w .normed true (s.ilPush p w false s.upd.cfg [] (s.ilIdents 0x14))

/-- UPDATE_DONE. [DESIGN CHOICE: log entry 29] -/
def State.updateDone (s : State) : State :=
  match s.ilNext 0x16 with
  | none => s
  | some j =>
    let s := (s.modUpd (fun u => { u with st := .closed })).ilDone j
    (s.ilbenEvent 5 0 s.upd.updated s.upd.skipped).streamDone

/-- How far a command in flight has come when it is ended is open: a free number of its work items are done.
[DESIGN CHOICE: log entry 31] -/
def State.ilCut (s : State) (j : UpdJob) : State :=
  if j.op = 0x14 || j.op = 0x15 then
    let r := s.takeFree 64
    r.2.ilWork j (r.1 % (j.items.length - j.did + 1))
  else s

/-- The update of an attempt is abandoned: its commands end and complete (Table 12-7). [DESIGN CHOICE: log entry 31] -/
def State.updAbandon (s : State) : State :=
  if s.upd.st = .idle then s else
  let js := s.upd.jobs
  let s := js.foldl (fun s j => (s.ilCut j).ilDone j) s
  s.modUpd (fun u => { u with st := .idle, jobs := [] })

/-- The commands of Pier p's Ilben queue leave their tracker entries without a signal. -/
def State.ilEndFlights (s : State) (p : Nat) : State :=
  (((s.queue p 81).flights.foldl (fun s f => f.guards.foldl (fun s r => s.guardEnd r) s) s).endReqs
    (fun i => decide (ownerQueue i = qInst p 81))).setFlights p 81 []

/-- A reset ends the commands on either Pier; they post no signal (Table 12-7). [DESIGN CHOICE: log entry 31] -/
def State.updReset (s : State) : State :=
  let s := (((s.upd.jobs.foldl (fun s j => s.ilCut j) s).ilEndFlights 0).ilEndFlights 1)
  { s with upd := Upd.zero }.reseedOn

/-- The tag scrub (13 R461): every TAG above COMMITTED becomes empty, counted, and kept for the next mirror stream.
[DESIGN CHOICE: log entry 31] -/
def State.tagScrub (s : State) : State :=
  let c := s.updObjects
  let s := s.readTensors 0 c 0 (List.range c.count)
  (List.range c.count).foldl (fun s t =>
    [0, 1].foldl (fun s b =>
      let r := s.rawTensor c t
      let o := tnState r + 64 * b
      let tag := s.num (pkey spSlow o) 8
      if tag ≠ 2 ^ 64 - 1 && s.commit.committed < tag then
        let s := (s.storeRun (Asker.queue 0 81 0) 0 (pkey spSlow o) (toBytes 8 (2 ^ 64 - 1))).bump64 0 0x7810 5 1
        { s with commit := { s.commit with scrubbed := s.commit.scrubbed ++ [(wcPier r, o)] } }
      else s) s) s

/-! ## Rows -/

/-- Issue of an Ilben command. -/
def State.ilIssue (s : State) (p op : Nat) (go : State → Nat → State) : State := s.issue p 81 op ilOk go

/-- INOP. -/
def execInop (p : Nat) (s : State) : Host.Outcome State Fault Refusal :=
  .next (s.ilIssue p 0x00 (fun t w => (t.advance p 81 w).postSignal p w))
/-- UOPEN. -/
def execUopen (p : Nat) (s : State) : Host.Outcome State Fault Refusal := .next (s.ilIssue p 0x10 (fun t w => t.uopen p w))
/-- PASS1. -/
def execPass1 (p : Nat) (s : State) : Host.Outcome State Fault Refusal := .next (s.ilIssue p 0x11 (fun t w => t.pass1 p w))
/-- NEXPORT. -/
def execNexport (p : Nat) (s : State) : Host.Outcome State Fault Refusal := .next (s.ilIssue p 0x12 (fun t w => t.nexport p w))
/-- NEXPORT_WRITE. -/
def execNexportWrite (s : State) : Host.Outcome State Fault Refusal := .next s.nexportWrite
/-- NORMS. -/
def execNorms (p : Nat) (s : State) : Host.Outcome State Fault Refusal := .next (s.ilIssue p 0x13 (fun t w => t.norms p w))
/-- NORMS_COMPUTE. -/
def execNormsCompute (s : State) : Host.Outcome State Fault Refusal := .next s.normsCompute
/-- PASS2. -/
def execPass2 (p : Nat) (s : State) : Host.Outcome State Fault Refusal := .next (s.ilIssue p 0x14 (fun t w => t.pass2 p w))
/-- WCOPY. -/
def execWcopy (p : Nat) (s : State) : Host.Outcome State Fault Refusal := .next (s.ilIssue p 0x15 (fun t w => t.wcopy p w))
/-- UCLOSE. -/
def execUclose (p : Nat) (s : State) : Host.Outcome State Fault Refusal := .next (s.ilIssue p 0x16 (fun t w => t.uclose p w))
/-- UPDATE_DONE. -/
def execUpdateDone (s : State) : Host.Outcome State Fault Refusal := .next s.updateDone
/-- TAG_SCRUB: with the update state IDLE and no attempt running. -/
def execTagScrub (s : State) : Host.Outcome State Fault Refusal :=
  .next (if s.upd.st = .idle && s.commit.pstate = .idle then s.tagScrub else s)
/-- ILBEN_COMMAND_COMPLETE of job i. -/
def execIlbenCommandComplete (i : Nat) (s : State) : Host.Outcome State Fault Refusal := .next (s.ilComplete i)

end Sys2Proof.Machine
end

