-- ==== Sys2Proof/Machine/Commit.lean ====
section
/-! DEFINITION. The Abutment: the exchange and vote rounds, abandonment, commit application, injection and restore
(13 R448 to R466, R476 to R482). -/

namespace Sys2Proof.Machine

/-! ## The epoch record (13 R449) -/

/-- The record as the Tollhouse writes it (Table 13-1). -/
def Commit.record (c : Commit) : Nat :=
  let v := c.committed % 2 ^ 64 + c.attempt % 8 * 2 ^ 64 + b2n c.exhausted * 2 ^ 67 + c.pstate.code * 2 ^ 68
  v + crc32c (toBytes 12 v) * 2 ^ 96

/-- What a record reads as, by subindex of OD 0x7800: COMMITTED, ATTEMPT, PSTATE, EXHAUSTED; where CHECK does not match, EMPTY
with every other field zero. -/
def readRecord (r sub : Nat) : Nat :=
  if bits 127 96 r = crc32c (toBytes 12 (bits 95 0 r)) then
    match sub with
    | 1 => bits 63 0 r | 2 => bits 66 64 r | 3 => bits 71 68 r | _ => bits 67 67 r
  else if sub = 3 then 6 else 0

/-! ## Round messages (Table 13-3) -/

/-- A round message. -/
structure RoundMsg where
  epoch : Nat
  attempt : Nat
  kind : Nat
  flags : Nat
  decision : Nat
  count : Nat
  root : Nat
  maxs : List Int
  sums : List Nat
  deriving DecidableEq, Repr

/-- As bytes. -/
def RoundMsg.bytes (m : RoundMsg) : List Byte :=
  padTo 64 (toBytes 8 m.epoch ++ toBytes 1 m.attempt ++ toBytes 1 m.kind ++ toBytes 1 m.flags ++ toBytes 1 m.decision
    ++ toBytes 4 m.count ++ toBytes 4 m.maxs.length ++ toBytes 4 m.sums.length ++ toBytes 2 m.root)
    ++ m.maxs.flatMap (fun x => toBytes 2 (ofSigned 16 x)) ++ m.sums.flatMap (toBytes 8)

/-- From the bytes that `at'` answers; none where a field is reserved or a section too long. -/
def parseRoundAt (at' : Nat → Nat → Nat) : Option RoundMsg :=
  let nmax := at' 16 4
  let nsum := at' 20 4
  let kind := at' 9 1
  if kind = 0 || 4 < kind || bits 7 3 (at' 8 1) ≠ 0 || bits 7 5 (at' 10 1) ≠ 0 || 3 < at' 11 1 || 131072 < nmax || 131072 < nsum
  then none
  else some { epoch := at' 0 8, attempt := at' 8 1, kind := kind, flags := at' 10 1, decision := at' 11 1,
              count := at' 12 4, root := at' 24 2,
              maxs := (List.range nmax).map (fun i => toSigned 16 (at' (64 + 2 * i) 2)),
              sums := (List.range nsum).map (fun i => at' (64 + 2 * nmax + 8 * i) 8) }

/-- From the bytes of a whole message. [DEDUCED: log entry 34] -/
def parseRound (b : List Byte) : Option RoundMsg :=
  let f (a n : Nat) : Nat := ofBytes ((b.drop a).take n)
  if b.length < 64 || b.length ≠ 64 + 2 * f 16 4 + 8 * f 20 4 then none else parseRoundAt f

/-- The token in journal slot n (Table 13-5). -/
def State.slotToken (s : State) (n : Nat) : Option RoundMsg :=
  parseRoundAt (fun a k => s.num (s.journal n + a) k)

/-- Send a round message to a module's Abutment, in segments of 4,128 bytes (Table 14-6). -/
def State.sendRound (s : State) (dest : Nat) (m : RoundMsg) : State :=
  let b := m.bytes
  let n := ceilDiv b.length 4128
  (List.range n).foldl (fun s i => s.sendPacket 0 dest 0 1 5 i n 0 ((b.drop (4128 * i)).take 4128)) s

/-- The round packets of one source waiting for Pier 0, oldest first. -/
def State.roundFrom (s : State) (src : Nat) : List Packet :=
  s.fab.inbox0.filter (fun k => decide (k.tc = 1) && decide (k.src = src))

/-- Without the first n round packets of a source. [DEDUCED: log entry 34] -/
def dropRound (src : Nat) : Nat → List Packet → List Packet
  | _, [] => []
  | 0, l => l
  | n + 1, k :: t => if k.tc = 1 && k.src = src then dropRound src n t else k :: dropRound src (n + 1) t

/-- How the packets of a source begin: the length in packets of a whole message, or of a run that begins none, and the
message's bytes where it is whole; none while segments are still to come. -/
def roundHead (l : List Packet) : Option (Nat × Option (List Byte)) :=
  match l with
  | [] => none
  | k :: _ =>
    if k.seg ≠ 0 || k.nseg = 0 then some (1, none) else
    let run := (List.range l.length).takeWhile (fun i => decide (((l[i]?).map Packet.seg).getD 0 = i))
    if k.nseg ≤ run.length then some (k.nseg, some ((l.take k.nseg).flatMap Packet.body))
    else if run.length < l.length then some (run.length, none)
    else none

/-- Take the oldest whole round message where it is of the kind that a row names; malformed ones are dropped on the way.
[DEDUCED: log entry 34] -/
def State.takeRound (s : State) (kind : Nat) (go : State → Nat → RoundMsg → State) : State :=
  let srcs := ((s.fab.inbox0.filter (fun k => decide (k.tc = 1))).map Packet.src).eraseDups
  let cut (src n : Nat) : State := { s with fab := { s.fab with inbox0 := dropRound src n s.fab.inbox0 } }
  let heads := srcs.filterMap (fun x => (roundHead (s.roundFrom x)).map (fun h => (x, h.1, h.2.bind parseRound)))
  match heads.find? (fun h => match h.2.2 with | none => true | some m => decide (m.kind = kind)) with
  | none => s
  | some (src, n, none) => cut src n
  | some (src, n, some m) => go (cut src n) src m

/-! ## The own contribution (13 R454 to R456) -/

/-- Slots that the tracker maintains on Pier p (03 R95). -/
def State.trackedSlots (s : State) (p : Nat) : List Nat :=
  (((Tab.within (slotAddr p 0) (2 ^ 20) s.mem).filter (fun e => decide ((e.1 - slotAddr p 0) % 64 = 1))).map
    (fun e => (e.1 - slotAddr p 0) / 64)).filter (fun k => s.tracked p k)

/-- JOB_TENSOR of a slot. -/
def State.jobTensor (s : State) (p slot : Nat) : Nat := s.num (slotAddr p slot + 40) 4

/-- DEMAND_MAP entry of a layer, where it is valid for its experts. -/
def State.demandAt (s : State) (l n : Nat) : Option Nat :=
  if s.eff 0x7808 2 ≤ l then none else
  let v := s.num (pkey (spFast 0) (s.eff 0x7808 1 + 4 * l)) 4
  if v = 2 ^ 32 - 1 || s.eff 0x7809 2 < v + n then none else some v

/-- JOURNAL_SIZE is as R465 requires. -/
def State.journalOk (s : State) : Bool := decide (0x602000 + s.derivedBytes ≤ s.eff 0x780A 2)

/-- Raise an entry of the MAX section. -/
def raiseAt (l : List Int) (i : Nat) (v : Int) : List Int := l.set i (max v (l.getD i (-32768)))

/-- The MAX section. -/
def State.ownMaxs (s : State) : List Int :=
  [0, 1].foldl (fun l p => (s.trackedSlots p).foldl (fun (l : List Int) k =>
    let j := s.jobTensor p k
    if s.eff 0x7809 1 / 2 ≤ j then l
    else raiseAt (raiseAt l (2 * j) (s.attAmax p k)) (2 * j + 1) (s.scaleExp p k)) l)
    (List.replicate (s.eff 0x7809 1) (-32768))

/-- The SUM section. -/
def State.ownSums (s : State) : List Nat :=
  [0, 1].foldl (fun l p => (s.layers p).foldl (fun (l : List Nat) x =>
    match s.demandAt x.ident x.e with
    | none => l
    | some b => (List.range x.e).foldl (fun (l : List Nat) e =>
        l.set (b + e) ((l.getD (b + e) 0 + s.num (biasAddr p x e + 4) 4) % 2 ^ 64)) l) l)
    (List.replicate (s.eff 0x7809 2) 0)

/-- PLAN_FAULT. [DEDUCED: log entry 40] -/
def State.planBad (s : State) : Bool :=
  !s.journalOk
    || [0, 1].any (fun p => (s.trackedSlots p).any (fun k => decide (s.eff 0x7809 1 / 2 ≤ s.jobTensor p k))
        || (s.layers p).any (fun x => (s.demandAt x.ident x.e).isNone))

/-- FLAGS[3:0] of this module. -/
def State.ownFlags (s : State) : Nat :=
  b2n s.attemptFaulted + b2n s.commit.scaleCorrected * 2 + b2n s.commit.satReplay * 4 + b2n s.commit.planFault * 8

/-- The exchange contribution. -/
def State.exchContrib (s : State) : Contrib :=
  ⟨s.moduleId, s.eNext, s.commit.attempt, s.ownFlags, 1, s.ownMaxs, s.ownSums⟩

/-- Signed maximum entry by entry; entries that the other lacks are −32,768. [DEDUCED: log entry 34] -/
def maxSections (a b : List Int) : List Int := (List.range a.length).map (fun i => max (a.getD i 0) (b.getD i (-32768)))

/-- Sum entry by entry modulo 2^64. [DEDUCED: log entry 34] -/
def addSections (a b : List Nat) : List Nat := (List.range a.length).map (fun i => (a.getD i 0 + b.getD i 0) % 2 ^ 64)

/-- Combine two contributions (13 R453). [DEDUCED: log entry 34] -/
def Contrib.add (a b : Contrib) : Contrib :=
  { a with count := (a.count + b.count) % 2 ^ 32, flags := a.flags ||| b.flags,
           maxs := maxSections a.maxs b.maxs, sums := addSections a.sums b.sums }

/-- As a message. -/
def Contrib.msg (c : Contrib) (kind decision root : Nat) : RoundMsg :=
  ⟨c.epoch, c.attempt, kind, c.flags, decision, c.count, root, c.maxs, c.sums⟩

/-! ## Scales (13 R460, R462; 03 R97, R99) -/

/-- ATT_AMAX := −32,768 and DROPPED := 0. -/
def State.resetSlot (s : State) (p k : Nat) : State :=
  (s.setNum (slotAddr p k + 4) 2 (ofSigned 16 (-32768))).setNum (slotAddr p k + 1) 1 (setBit 1 false (s.num (slotAddr p k + 1) 1))

/-- SCALE_EXP := MAX[2j + 1], where the token has a value for j. -/
def State.takeScale (s : State) (p k : Nat) (maxs : List Int) : State :=
  let x := maxs.getD (2 * s.jobTensor p k + 1) (-32768)
  if x = -32768 then s else s.setScaleExp p k x

/-- Step 2 of R460 on a module that holds the token. -/
def State.scalesFromToken (s : State) (maxs : List Int) : State :=
  [0, 1].foldl (fun s p => (s.trackedSlots p).foldl (fun s k => (s.takeScale p k maxs).resetSlot p k) s) s

/-- Step 2 of R460 on a module that does not. -/
def State.scalesRestored (s : State) : State :=
  let s := s.commit.scaleSave.foldl (fun s e => s.setScaleExp (e.1 / 2 ^ 14) (e.1 % 2 ^ 14) ((e.2 : Int) - 128)) s
  [0, 1].foldl (fun s p => (s.trackedSlots p).foldl (fun s k => s.resetSlot p k) s) s

/-- HIST, HIST_N and HIST_POS of a slot. -/
def State.slotHist (s : State) (p k : Nat) : List Int × Nat × Nat :=
  ((List.range 16).map (fun i => toSigned 16 (s.num (slotAddr p k + 8 + 2 * i) 2)), s.num (slotAddr p k + 2) 1, s.num (slotAddr p k + 3) 1)

/-- Put them. -/
def State.setSlotHist (s : State) (p k : Nat) (h : List Int × Nat × Nat) : State :=
  ((s.setBytes (slotAddr p k + 8) (h.1.flatMap (fun x => toBytes 2 (ofSigned 16 x)))).setNum (slotAddr p k + 2) 1 h.2.1).setNum
    (slotAddr p k + 3) 1 h.2.2

/-- `track_at_commit` (03 R97). [DEDUCED: log entry 16] -/
def State.trackAtCommit (s : State) (p k : Nat) (m : Int) : State :=
  let w := s.odv 0 0x4012 0
  let h := s.slotHist p k
  let h := if m = -32768 then h else (h.1.set h.2.2 m, min (h.2.1 + 1) w, (h.2.2 + 1) % w)
  let s := s.setSlotHist p k h
  let s :=
    if h.2.1 = 0 then s
    else
      let emax : Int := if bit 2 (s.num (slotAddr p k + 1) 1) then 15 else 8
      let want : Int := (maxInt? (histRecent h.1 h.2.1 h.2.2 w)).getD 0 + toSigned 8 (s.odv 0 0x4010 0) - emax
      let x := min (max want (toSigned 8 (s.odv 0 0x4014 0))) (toSigned 8 (s.odv 0 0x4015 0))
      let old := s.scaleExp p k
      let s := if x ≠ want then s.watchEvent p 9 k (ofSigned 64 want) (ofSigned 64 x) else s
      let s := if x ≠ old then s.watchEvent p 7 k (ofSigned 64 old) (ofSigned 64 x) else s
      s.setScaleExp p k x
  s.resetSlot p k

/-- The tracked slots at the commit. -/
def State.tracksCommit (s : State) (maxs : List Int) : State :=
  let w := s.odv 0 0x4012 0
  let old := s.commit.oldWindow
  [0, 1].foldl (fun s p => (s.trackedSlots p).foldl (fun s k =>
    let s := match old with
      | some wo =>
        let h := s.slotHist p k
        s.setSlotHist p k (renormHist h.1 h.2.1 h.2.2 wo w)
      | none => s
    (s.takeScale p k maxs).trackAtCommit p k (maxs.getD (2 * s.jobTensor p k) (-32768))) s) s

/-! ## Abandonment (13 R460) -/

/-- The marks of an attempt go, what it recorded once and the scale corrections made in it among them, as ATTEMPT or COMMITTED has
advanced (03 R100, 11 R413); contributions of a later attempt stay. [DEDUCED: log entry 36] -/
def State.endMarks (s : State) : State :=
  let e := s.eNext
  let a := s.commit.attempt
  let keep (x : Contrib) : Bool := !s.commit.exhausted && decide (e < x.epoch) || (decide (x.epoch = e) && decide (a ≤ x.attempt) && !s.commit.exhausted)
  let c := s.commit
  { s with
    once := [],
    commit := { c with mdoneAcked := false,
                         faulted := false, scaleCorrected := false, satReplay := false, planFault := false,
                         exchSent := false, voteSent := false, exchOwn := none, voteOwn := none, exchDone := false,
                         voteDone := false, timedOut := false, exchKids := [], voteKids := [], updReplay := false,
                         exchIn := c.exchIn.filter keep, voteIn := c.voteIn.filter keep, scaleSave := [] } }

/-- Step 4 of R460. -/
def State.nextAttempt (s : State) : State :=
  if s.commit.attempt = 7 then
    { s with commit := { s.commit with exhausted := true } }.commitEvent 0x0A 0 s.commit.committed 0
  else { s with commit := { s.commit with attempt := s.commit.attempt + 1 } }

/-- The module holds the attempt's exchange token in slot 0. -/
def State.holdsToken (s : State) : Option RoundMsg :=
  match s.slotToken 0 with
  | some m =>
    if m.kind = 2 && m.epoch = s.eNext && (m.attempt = s.commit.attempt || s.commit.updReplay) && s.journalOk then some m else none
  | none => none

/-- Abandonment: FLAGS and COUNT for the record. [DEDUCED: log entry 36] -/
def State.abandon (s : State) (flags count : Nat) : State :=
  let s := ((s.dropOpen 0).dropOpen 1).readSlot 0
  let s := (((s.clearDemand.quietAll 0).quietAll 1).abandonBuckets).updAbandon
  let s := match s.holdsToken with
    | some m => s.scalesFromToken m.maxs
    | none => s.scalesRestored
  let s := (s.tagScrub.commitEvent 3 0 flags count).bump64 0 0x7810 2 1
  let s := s.nextAttempt.endMarks
  { s with commit := { s.commit.endStream with pstate := .idle } }

/-! ## Commit application (13 R462, Table 13-4) -/

/-- The Abutment writes bytes to the fast tiers. -/
def State.abutWrite (s : State) (k : Nat) (bs : List Byte) : State :=
  (s.guardOnce [(k, bs.length)]).storeRun (Asker.abutment 0) 0 k bs

/-- The Abutment copies n bytes of the fast tiers. -/
def State.abutCopy (s : State) (dst src n : Nat) : State :=
  let r := s.loadRun (Asker.abutment 0) src n
  r.1.abutWrite dst r.2

/-- Journal images of the DERIVED ranges written (step 2). [DESIGN CHOICE: log entry 35] -/
def State.writePostImages (s : State) : State :=
  if s.journalOk then
    ((s.plan.filter (fun e => !e.residual)).foldl (fun (a : State × Nat) e =>
      (a.1.abutCopy a.2 (e.at' 0) e.size, a.2 + e.size)) (s, s.journal 4)).1
  else s

/-- Journal images copied into place (13 R462, R463). -/
def State.readPostImages (s : State) : State :=
  if s.journalOk then
    ((s.plan.filter (fun e => !e.residual)).foldl (fun (a : State × Nat) e =>
      (a.1.abutCopy (e.at' 0) a.2 e.size, a.2 + e.size)) (s, s.journal 4)).1
  else s

/-- Slot 0 copied to slot 1. -/
def State.copySlot (s : State) : State :=
  match s.slotToken 0 with
  | some m => s.abutCopy (s.journal 1) (s.journal 0) (64 + 2 * m.maxs.length + 8 * m.sums.length)
  | none => s

/-- The post-images: scales, biases and bucket ceilings (step 2). [DESIGN CHOICE: log entry 35] -/
def State.formPostImages (s : State) (m : RoundMsg) (epoch : Nat) : State :=
  let sum (l e : Nat) : Nat :=
    match s.demandAt l (e + 1) with
    | some b => m.sums.getD (b + e) 0
    | none => 0
  ((s.tracksCommit m.maxs).biasCommit epoch sum).bucketsTrack s.commit.oldRedWindow

/-- Envelope values take effect at a step-epoch boundary (01 R29). -/
def State.envelopes (s : State) : State :=
  let w := s.odv 0 0x4012 0
  let r := s.odv 0 0x5803 0
  let s := s.env.foldl (fun s e => match e.2 with
    | some v => { s with od := Tab.set 0 s.od e.1 v }
    | none => s) s
  { s with env := [],
           commit := { s.commit with oldWindow := (if s.odv 0 0x4012 0 = w then none else some w),
                                     oldRedWindow := (if s.odv 0 0x5803 0 = r then none else some r) } }

/-- Steps 4 to 7 of the application, which stand or are redone from the journal: the post-images in place, slot 0 to slot 1, the
buckets and the update idle, the watch banks and the envelopes, FLIP_CTR, PSTATE IDLE, and the end of the stream.
[DESIGN CHOICE: log entry 35] -/
def State.applySteps (s : State) : State :=
  let e := s.commit.committed
  let a := s.commit.closedAttempt
  let s := s.readPostImages.copySlot.bucketsIdle
  let s := { s with upd := Upd.zero }
  let s := ((s.bankFlip 0 e a).bankFlip 1 e a).envelopes
  let s := (s.addCounter 0 (bits 9 0 (s.eff 0x7807 1)) 1).addCounter 1 (bits 9 0 (s.eff 0x7807 2)) 1
  ({ s with commit := { s.commit with pstate := .idle } }.streamClose e a).endMarks

/-- The application of a module in FLIPPED goes on, once both Piers are out of reset (Table 13-11).
[DESIGN CHOICE: log entry 35] -/
def State.finishApply (s : State) : State :=
  if s.commit.pstate = .flipped && !s.p0.inReset && !s.p1.inReset then s.applySteps else s

/-- Commit application on VOTE_TOKEN COMMIT (Table 13-4): the post-images are formed and kept in the journal, the epoch record is
written with PSTATE FLIPPED, and the rest follows. [DESIGN CHOICE: log entry 35] -/
def State.applyCommit (s : State) (vote : RoundMsg) : State :=
  let e := s.eNext
  let a := s.commit.attempt
  let s := (s.readSlot 0).readPlan
  let s := match s.slotToken 0 with
    | some m => s.formPostImages m e
    | none => s
  let s := s.writePostImages
  let s := { s with commit := { s.commit with committed := e, attempt := 0, closedAttempt := a, pstate := .flipped } }
  ((s.commitEventAt e a 2 0 vote.flags vote.count).bump64 0 0x7810 1 1).finishApply

/-- The application redone after a reset in FLIPPED, recorded (13 R463). [DESIGN CHOICE: log entry 35] -/
def State.redoApply (s : State) : State :=
  if s.commit.pstate = .flipped && !s.p1.inReset then
    ((s.readSlot 0).readPlan.applySteps).commitEventAt s.commit.committed s.commit.closedAttempt 9 0 s.commit.committed 0
  else s

/-! ## Tokens (13 R458, R477) -/

/-- A token matches the module's E_NEXT, ATTEMPT and PSTATE. [DEDUCED: log entry 34] -/
def State.tokenMatches (s : State) (m : RoundMsg) : Bool :=
  decide (m.epoch = s.eNext) && decide (m.attempt = s.commit.attempt)
    && (if m.decision = 2 then s.commit.inAttempt
        else if m.kind = 2 then decide (m.decision = 3) && decide (s.commit.pstate = .running)
        else decide (m.decision = 1) && decide (s.commit.pstate = .voted))

/-- Act on a matching token. [DESIGN CHOICE: log entry 35] -/
def State.actToken (s : State) (m : RoundMsg) : State :=
  if m.kind = 2 then
    let s := if s.journalOk then s.abutWrite (s.journal 0) m.bytes else s
    if m.decision = 3 then
      { s with commit := { s.commit with pstate := .exchanged, timedOut := false } }.commitEvent 1 0 m.flags m.count
    else s.abandon m.flags m.count
  else
    let s := if s.journalOk then s.abutWrite (s.journal 2) (m.bytes.take 64) else s
    if m.decision = 1 then s.applyCommit m else s.abandon m.flags m.count

/-- A token received: discarded and counted, or forwarded and acted on. -/
def State.token (s : State) (m : RoundMsg) : State :=
  if s.tokenMatches m then
    let kids := if m.kind = 2 then s.commit.exchKids else s.commit.voteKids
    (kids.foldl (fun s c => s.sendRound c m) s).actToken m
  else s.bump64 0 0x7810 4 1

/-! ## Rounds (13 R452 to R459) -/

/-- A round combined: up the tree, or decided at the root (13 R453, R457). -/
def State.combined (s : State) (vote : Bool) (c : Contrib) : State :=
  let up := if vote then 3 else 1
  let parent := s.eff 0x7802 0
  if parent ≠ 0xFFFF then s.sendRound parent (c.msg up 0 0)
  else
    let ok := decide (c.count = s.eff 0x7801 0) && decide (bits 3 0 c.flags = 0)
    s.token (c.msg (up + 1) (if ok then (if vote then 1 else 3) else 2) s.moduleId)

/-- Combine a round once its own contribution and those of every child are there. -/
def State.tryCombine (s : State) (vote : Bool) : State :=
  let c := s.commit
  let own := if vote then c.voteOwn else c.exchOwn
  let done := if vote then c.voteDone else c.exchDone
  let ups := (if vote then c.voteIn else c.exchIn).filter (fun x => decide (x.epoch = s.eNext) && decide (x.attempt = c.attempt))
  let n := s.eff 0x7803 0
  match own with
  | none => s
  | some o =>
    if done || ups.length < n then s else
    let ins := ups.take n
    let all := ins.foldl Contrib.add o
    let kids := ins.map (·.sender)
    let c := if vote then { c with voteDone := true, voteKids := kids } else { c with exchDone := true, exchKids := kids }
    { s with commit := c }.combined vote all

/-- The exchange contribution is sent: EXCH_CTR meets EXCH_AT, or the attempt is faulted (13 R455). -/
def State.exchangeContribution (s : State) : State :=
  let c := s.commit
  if c.pstate = .running && !c.exchSent
      && (s.attemptFaulted || counterMet (s.counter 0 (bits 9 0 (s.eff 0x7805 1))) (s.eff 0x7805 2)) then
    let s := (s.readPlan.touchReadRun (Asker.abutment 0) 0 ffPattern
      (pkey (spFast 0) (s.eff 0x7808 1), 4 * s.eff 0x7808 2)).touchBias false
    let c := s.commit
    let s := { s with commit := { c with planFault := s.planBad, exchSent := true } }
    { s with commit := { s.commit with exchOwn := some s.exchContrib } }.tryCombine false
  else s

/-- No bucket is OPEN (11 R409). -/
def State.noneOpen (s : State) : Bool :=
  [0, 1].all (fun p => (List.range (s.bucketCount p)).all (fun b => decide (s.bucketState p b ≠ bkOpen)))

/-- Every write of the STATE area is visible: none waits on a line the host holds (12 R429). -/
def State.stateVisible (s : State) : Bool :=
  s.host.snoopWait.all (fun w =>
    !(decide (s.odv 0 0x7000 1 ≤ w.1 * 64) && decide (w.1 * 64 < s.odv 0 0x7000 1 + s.odv 0 0x7000 2)))

/-- MDONE's acknowledgement is waived (13 R456). [DEDUCED: log entry 37] -/
def State.mdoneWaived (s : State) : Bool := !s.hasBuddy || decide (s.odv 0 0x780C 0 = 1) || s.commit.reseed

/-- The conditions of a vote. [DEDUCED: log entry 37] -/
def State.voteReady (s : State) : Bool :=
  s.attemptFaulted
    || (counterMet (s.counter 0 (bits 9 0 (s.eff 0x7806 1))) (s.eff 0x7806 2) && decide (s.upd.st = .closed)
        && s.upd.jobs.all (fun j => decide (j.op ≠ 0x14)) && s.stateVisible && s.noneOpen && (s.commit.mdoneAcked || s.mdoneWaived))

/-- The vote is sent (13 R456). [DEDUCED: log entry 37] -/
def State.voteSend (s : State) : State :=
  let c := s.commit
  if c.pstate = .exchanged && !c.voteSent && s.voteReady then
    let less := s.mdoneWaived
    let s := if less then s.bump64 0 0x7810 8 1 else s
    let v : Contrib := ⟨s.moduleId, s.eNext, c.attempt, s.ownFlags + b2n less * 16, 1, [], []⟩
    { s with commit := { c with pstate := .voted, voteSent := true, voteOwn := some v } }.tryCombine true
  else s

/-- An up message from a child, each child's counted once; the parent and the module itself are no children (13 R452, R453).
[DEDUCED: log entry 34] -/
def State.roundUp (s : State) (vote : Bool) (src : Nat) (m : RoundMsg) : State :=
  let x : Contrib := ⟨src, m.epoch, m.attempt, m.flags, m.count, m.maxs, m.sums⟩
  let c := s.commit
  let again := (if vote then c.voteIn else c.exchIn).any (fun y =>
    decide (y.sender = src) && decide (y.epoch = m.epoch) && decide (y.attempt = m.attempt))
  if again || src = s.eff 0x7802 0 || src = s.moduleId then s else
  let c := if vote then { c with voteIn := c.voteIn ++ [x] } else { c with exchIn := c.exchIn ++ [x] }
  { s with commit := c }.tryCombine vote

/-- COMMIT_TIMEOUT elapsed in a round that waits for its token (13 R459). -/
def State.roundTimeout (s : State) : State :=
  let c := s.commit
  let exch := decide (c.pstate = .running) && c.exchOwn.isSome
  if (exch || decide (c.pstate = .voted)) && !c.timedOut then
    ({ s with commit := { c with timedOut := true } }.bump64 0 0x7810 3 1).commitEvent 4 0 (if exch then 1 else 2) 0
  else s

/-! ## Commands (Table 13-14) -/

/-- ABANDON. [DEDUCED: log entry 36; DESIGN CHOICE: log entry 74] -/
def State.abandonCommand (s : State) : Nat × State :=
  if s.commit.inAttempt || s.commit.pstate = .invalid then (0, s.abandon s.ownFlags 0) else (2, s)

/-- ABANDON_UPDATE (13 R466). [DEDUCED: log entry 36] -/
def State.abandonUpdate (s : State) : Nat × State :=
  let s := s.readSlot 0
  let ok := match s.slotToken 0 with
    | some m => decide (m.kind = 2) && decide (m.decision = 3) && decide (m.epoch = s.eNext) && s.journalOk
    | none => false
  if (s.commit.pstate = .exchanged || s.commit.pstate = .voted) && ok then
    let s := s.updAbandon.tagScrub
    let s := s.nextAttempt.endMarks
    (0, { s with commit := { s.commit.endStream with pstate := .exchanged, exchSent := true, updReplay := true } })
  else (2, s)

/-- INJECT of the token in slot 3, which has been read. [DEDUCED: log entry 36] -/
def State.injectToken (s : State) : Nat × State :=
  match s.slotToken 3 with
  | none => (2, s)
  | some m =>
    if !s.journalOk || (m.kind ≠ 2 && m.kind ≠ 4) then (2, s)
    else if s.commit.pstate = .idle then
      if m.kind = 2 && (m.decision = 3 || m.decision = 2) && m.epoch = s.eNext && m.attempt < s.commit.attempt then
        (0, s.scalesFromToken m.maxs)
      else (2, s)
    else if s.tokenMatches m then (0, s.actToken m)
    else (2, s)

/-- INJECT (13 R477). [DEDUCED: log entry 36] -/
def State.inject (s : State) : Nat × State := (s.readSlot 3).injectToken

/-- ATTEMPT_RESET (13 R481). [DEDUCED: log entry 36] -/
def State.attemptReset (s : State) : Nat × State :=
  if s.commit.exhausted then (0, { s with commit := { s.commit with exhausted := false, attempt := 0 } }) else (2, s)

/-! ## Restore (13 R478) -/

/-- MREAD of a range by Pier p's half, 4,096 bytes a message. [DEDUCED: log entry 39] -/
def State.pull (s : State) (p off n : Nat) : State :=
  (List.range (ceilDiv n 4096)).foldl (fun s i =>
    let o := off + 4096 * i
    let k := min 4096 (n - 4096 * i)
    let s := s.sendMirror p s.buddy (s.ownMsg 6 o k false [])
    { s with commit := { s.commit with restoreWant := s.commit.restoreWant ++ [(o, k)] } }) s

/-- Bytes of the restored image. -/
def State.imageBytes (s : State) (off n : Nat) : List Byte :=
  (List.range n).map (fun i => Tab.get 0 s.commit.restoreImage (off + i))

/-- The header restored. -/
def State.restoreHdr (s : State) : MirrorHdr := parseMirrorHdr (s.imageBytes 0 32)

/-- ER. -/
def State.restoreEpoch (s : State) : Nat := (s.restoreHdr.sealed' + b2n (s.restoreHdr.mstate = 3)) % 2 ^ 64

/-- The bank that the restored state blocks choose for a tensor. [DEDUCED: log entry 39] -/
def State.restoreBank (s : State) (addr : Nat) : Option Nat :=
  let o := s.mirrorOff addr
  chooseBank s.restoreEpoch (ofBytes (s.imageBytes o 8)) (ofBytes (s.imageBytes (o + 64) 8))

/-- The restore ends without effect. [DEDUCED: log entry 39] -/
def State.restoreFailed (s : State) : State :=
  { s with commit := { s.commit with restoring := 0, restoreWant := [], restoreImage := [], restoreBytes := 0 } }.commitEvent
    8 s.buddy 0 0

/-- The restore starts with the mirror header; it takes the commit objects as the driver has written them. A module with a slow-tier
fault takes no restore traffic (12 R419). [DEDUCED: log entry 39] -/
def State.restore (s : State) : Nat × State :=
  let c := s.commit
  if (c.pstate = .empty || c.pstate = .idle || c.pstate = .invalid) && decide (s.odv 0 0x780B 0 ≠ 0xFFFF) then
    let s := { s with commit := { c with live := s.commitObjects, restoring := 1, restoreWant := [], restoreImage := [],
                                         restoreBytes := 0 } }
    (0, if s.slowFailed then s.restoreFailed else s.pull 0 0 256)
  else (2, s)

/-- Offset and size of the copy of plan entry k that the restore takes. -/
def State.restoreCopy (s : State) (k : Nat) (x : PlanEntry) : Nat :=
  imageOff s.plan k (if x.residual then s.restoreEpoch % 2 else s.restoreHdr.sealed' % 2)

/-- After the header: state blocks, plan ranges, and the token of a TOKEN_SEALED mirror. -/
def State.restoreTables (s : State) : State :=
  let h := s.restoreHdr
  if h.owner ≠ s.moduleId || (h.mstate ≠ 1 && h.mstate ≠ 3) then s.restoreFailed else
  let s := { s with commit := { s.commit with restoring := 2 } }.readPlan
  let s := s.touchReadRun (Asker.mirror 0) 0 ffPattern (pkey spSlow (s.odv 0 0x7004 0), 128 * s.odv 0 0x7005 0)
  let s := (List.range (s.odv 0 0x7005 0)).foldl (fun s t =>
    s.pull (wcPier (s.tensorEntry t)) (s.mirrorOff (s.tensorState t).1) 128) s
  let plan := s.plan
  let s := ((List.range plan.length).zip plan).foldl (fun s e => s.pull e.2.pier (s.restoreCopy e.1 e.2) e.2.size) s
  if h.mstate = 3 then s.pull 0 0x1000 (2 ^ 21) else s

/-- After them: the committed banks. -/
def State.restoreBanks (s : State) : State :=
  let ts := List.range (s.odv 0 0x7005 0)
  if ts.any (fun t => (s.restoreBank (s.tensorState t).1).isNone) then s.restoreFailed else
  let s := { s with commit := { s.commit with restoring := 3 } }
  ts.foldl (fun s t =>
    let a := s.tensorState t
    s.pull (wcPier (s.tensorEntry t)) (s.mirrorOff a.1 + 256 + (s.restoreBank a.1).getD 0 * bankSize a.2) (bankSize a.2)) s

/-- One tensor put into place. -/
def State.restoreTensor (s : State) (t : Nat) : State :=
  let a := s.tensorState t
  let k := Asker.mirror (wcPier (s.tensorEntry t))
  let b := (s.restoreBank a.1).getD 0
  let o := s.mirrorOff a.1
  let at' (n : Nat) : Nat := pkey spSlow (a.1 + n)
  let bank := 256 + b * bankSize a.2
  let s := s.storeRun k 0 (at' bank) (s.imageBytes (o + bank) (bankSize a.2))
  let s := s.storeRun k 0 (at' (64 * b)) (s.imageBytes (o + 64 * b) 64)
  s.storeRun k 0 (at' (64 * (1 - b))) (toBytes 8 (2 ^ 64 - 1) ++ s.imageBytes (o + 64 * (1 - b) + 8) 56)

/-- Everything has come: put it into place and write the epoch record. [DEDUCED: log entry 39] -/
def State.restoreFinish (s : State) : State :=
  let h := s.restoreHdr
  let er := s.restoreEpoch
  let n := s.commit.restoreBytes
  let s := (List.range (s.odv 0 0x7005 0)).foldl (fun s t => s.restoreTensor t) s
  let plan := s.plan
  let s := ((List.range plan.length).zip plan).foldl (fun s e =>
    (s.guardOnce [(e.2.at' (er % 2), e.2.size)]).storeRun (Asker.mirror e.2.pier) 0 (e.2.at' (er % 2))
      (s.imageBytes (s.restoreCopy e.1 e.2) e.2.size)) s
  let s :=
    if h.mstate = 3 then
      let s := (s.guardOnce [(s.journal 0, 2 ^ 21)]).storeRun (Asker.mirror 0) 0 (s.journal 0) (s.imageBytes 0x1000 (2 ^ 21))
      let s := match s.slotToken 0 with
        | some m => s.formPostImages m er
        | none => s
      s.writePostImages.copySlot.bucketsIdle
    else s
  let s := { s with commit := { s.commit with committed := er, attempt := s.odv 0 0x7811 0 % 8, exhausted := false, pstate := .idle,
                                              restoring := 0, restoreWant := [], restoreImage := [], restoreBytes := 0 } }
  (s.endMarks.bump64 0 0x7810 9 1).commitEvent 7 s.buddy er n

/-- The next phase of the restore, once nothing more is awaited. -/
def State.restoreNext (s : State) : State :=
  if s.commit.restoreWant.isEmpty then
    match s.commit.restoring with
    | 1 => s.restoreTables
    | 2 => s.restoreBanks
    | 3 => s.restoreFinish
    | _ => s
  else s

/-- The phases that nothing has to come for follow at once: at most three. -/
def State.restoreOn (s : State) : State := s.restoreNext.restoreNext.restoreNext

/-- MRDATA (13 R478). [DEDUCED: log entry 39] -/
def State.restoreData (s : State) (m : MirrorMsg) : State :=
  if s.slowFailed && s.commit.restoring ≠ 0 then s.restoreFailed
  else if s.commit.restoreWant.contains (m.off, m.data.length) then
    let img := ((List.range m.data.length).zip m.data).foldl (fun t b => Tab.set 0 t (m.off + b.1) b.2) s.commit.restoreImage
    { s with commit := { s.commit with restoreWant := s.commit.restoreWant.erase (m.off, m.data.length), restoreImage := img,
                                       restoreBytes := s.commit.restoreBytes + m.data.length } }.restoreOn
  else s

/-! ## Resets (Table 13-11) -/

/-- A module reset or a reset of Pier 0: a stream and a reseed that copies end, but the stream that a commit in FLIPPED has still to
close. [DESIGN CHOICE: log entry 35] -/
def State.commitReset (s : State) : State :=
  let c := s.commit
  let p := if c.inAttempt then .invalid else c.pstate
  let d := if c.pstate = .flipped then c else { c with reseedLeft := none }.endStream
  { s with commit := { d with
                         reseedLeft := none, paused := [],
                         pstate := p, exchSent := false, voteSent := false, exchOwn := none, voteOwn := none,
                         exchIn := [], voteIn := [], exchKids := [], voteKids := [], exchDone := false,
                         voteDone := false, timedOut := false,
                         restoring := 0, restoreWant := [], restoreImage := [], restoreBytes := 0 } }

/-! ## Rows -/

/-- EXCHANGE_CONTRIBUTION. -/
def execExchangeContribution (s : State) : Host.Outcome State Fault Refusal := .next s.exchangeContribution
/-- EXCH_UP. -/
def execExchUp (s : State) : Host.Outcome State Fault Refusal := .next (s.takeRound 1 (fun t src m => t.roundUp false src m))
/-- EXCH_TOKEN. -/
def execExchToken (s : State) : Host.Outcome State Fault Refusal := .next (s.takeRound 2 (fun t _ m => t.token m))
/-- VOTE_SEND. -/
def execVoteSend (s : State) : Host.Outcome State Fault Refusal := .next s.voteSend
/-- VOTE_UP. -/
def execVoteUp (s : State) : Host.Outcome State Fault Refusal := .next (s.takeRound 3 (fun t src m => t.roundUp true src m))
/-- VOTE_TOKEN. -/
def execVoteToken (s : State) : Host.Outcome State Fault Refusal := .next (s.takeRound 4 (fun t _ m => t.token m))
/-- ROUND_TIMEOUT. -/
def execRoundTimeout (s : State) : Host.Outcome State Fault Refusal := .next s.roundTimeout
/-- ABANDON. -/
def execAbandon (s : State) : Host.Outcome State Fault Refusal := .next s.abandonCommand.2
/-- ABANDON_UPDATE. -/
def execAbandonUpdate (s : State) : Host.Outcome State Fault Refusal := .next s.abandonUpdate.2
/-- INJECT. -/
def execInject (s : State) : Host.Outcome State Fault Refusal := .next s.inject.2
/-- RESTORE. -/
def execRestore (s : State) : Host.Outcome State Fault Refusal := .next s.restore.2
/-- ATTEMPT_RESET. -/
def execAttemptReset (s : State) : Host.Outcome State Fault Refusal := .next s.attemptReset.2
/-- MRDATA. -/
def execMrdata (s : State) : Host.Outcome State Fault Refusal :=
  .next (s.takeMirror 7 (fun t _ m => t.restoreData m))

end Sys2Proof.Machine
end

