-- ==== Sys2Proof/Machine/Reset.lean ====
section
/-! DEFINITION. What each reset class keeps and clears (17 R585 to R593, Table 17-11), and the resets of the parts of
the host attachment and of Keystone. -/

namespace Sys2Proof.Machine

/-! ## The power event log (17 R585) -/

/-- A record of the power event log: the 256 latest stay. [DEDUCED: log entry 64] -/
def State.powerLog (s : State) (event key d0 d1 : Nat) : State :=
  let l := s.power.log ++ [⟨s.recEpoch, key, event, d0, d1⟩]
  { s with power := { s.power with log := l.drop (l.length - 256), logSeq := wrap32 (s.power.logSeq + 1) } }

/-- The record with a number, if the log still holds it (17 R595). -/
def Power.record (w : Power) (n : Nat) : Option PowerRec :=
  let back := (w.logSeq + 2 ^ 32 - n) % 2 ^ 32
  if back = 0 || w.log.length < back then none else w.log[w.log.length - back]?

/-! ## Clusters -/

/-- How deep a state lies (Table 4-9); RUN and a restore in progress are not deep. -/
def ClusterState.depth : ClusterState → Nat
  | .run => 0 | .gated => 0 | .parked => 1 | .retain => 2 | .off => 3 | .restoring => 0

/-- The clusters of Pier p after a reset: the shallower of PARKED and DEPTH_MAX (17 R575). -/
def State.startClusters (s : State) (p : Nat) : State :=
  (List.range 4).foldl (fun s k =>
    s.setCluster (p * 4 + k) (if s.odv 0 0x2020 (p * 4 + k + 1) = 0 then .gated else .parked)) s

/-! ## One Pier (Table 17-11, columns module and Pier) -/

/-- The instructions in flight of a queue end without a signal: their guard regions are released, their requests and
packets are forgotten; a request admitted to a bank under refresh keeps its slot (17 R589, 07 R231). -/
def State.endFlights (s : State) (p q : Nat) : State :=
  let s := (s.queue p q).flights.foldl (fun s f => f.guards.foldl (fun s r => s.guardEnd r) s) s
  let n := qInst p q
  let s := s.endReqs (fun i => decide (ownerQueue i = n))
  { s with fab := { s.fab with
      reqs := s.fab.reqs.filter (fun x => !decide (ownerQueue x.ident = n)),
      after := s.fab.after.filter (fun x => !decide (ownerQueue x.ident = n)),
      fences := s.fab.fences.filter (fun x => !(decide (x.pier = p) && decide (x.queue = q))) } }

/-- Dirty Girder lines are written back and counted (07 R237). -/
def State.girderFlush (s : State) (p : Nat) : State :=
  s.bump64 0 0x301A (p + 1) ((s.pier p).girder.filter (fun e => e.2.dirty)).length

/-- The tile register files and the control space of Pier p read as zero; the scale table stays (03 R92). -/
def State.clearStores (s : State) (p : Nat) : State :=
  let m := Tab.without (pkey (spTrf p) 0) trfSize s.mem
  let m := Tab.without (pkey (spCtl p) 0) 0x200000 m
  { s with mem := Tab.without (pkey (spCtl p) 0x300000) (ctlSize - 0x300000) m }

/-- Heads, tails and lost counts of the rings at zero, and their sequence numbers. -/
def State.clearRings (s : State) (rs : List Ring) : State :=
  rs.foldl (fun s r =>
    let s := ((s.setOd 0 r.idx r.sub 0).setOd 0 (r.idx + 1) r.sub 0).setOd 0 (r.idx + 2) r.sub 0
    { s with seqs := Tab.set 0 s.seqs r.seqKey 0 }) s

/-- Rings in Pier p that its reset clears. -/
def pierRings (p : Nat) : List Ring :=
  [.watch p, .fault p, .trestle p, .red p] ++ (if p = 0 then [.commit] else [])

/-- Objects of Pier p that a reset sets to zero: TRACKER_PEAK, PEAK_SLOTS, WCOUNT and WACTIVE (17 R590, 07 R263). -/
def State.clearPeaks (s : State) (p : Nat) : State :=
  let s := (List.range 10).foldl (fun s k => s.setOd (p * 16 + k) 0x3011 4 0) (s.setOd 0 0xF127 (p + 1) 0)
  { s with od := s.od.filter (fun e =>
      !((decide (e.1 % 2 ^ 24 = 0x302103) || decide (e.1 % 2 ^ 24 = 0x302104)) && decide (e.1 / 2 ^ 24 / 256 = p))) }

/-- An arbiter instance lies on Pier p (Table 8-1, numbered by Pier). [DESIGN CHOICE: log entry 23] -/
def arbOnPier (p k : Nat) : Bool :=
  match k / 2 ^ 16 with
  | 0 => decide (k % 2 ^ 16 / 8 = p)
  | 1 => decide (k % 2 ^ 16 / 64 = p)
  | 2 => decide (k % 2 ^ 16 / 640 = p)
  | 5 => decide (k % 2 ^ 16 / 2 = p)
  | _ => false

/-- An ORIGIN of Pier p (Table 8-2). -/
def originOfPier (p o : Nat) : Bool := decide (o < 0x100 && o / 128 = p) || decide (o = 0x109 + p)

/-- The arbiters at a reset of Pier p (08 R296). [DEDUCED: log entry 70] -/
def State.arbPier (s : State) (p : Nat) : State :=
  let fresh (e : Nat × ArbInst) : Option (Nat × ArbInst) :=
    if !arbOnPier p e.1 then some e else
    let n := Tab.get 0 s.arb.decisions (e.1 / 2 ^ 16)
    if n = 0 then none else some (e.1, { ArbInst.zero with adapted := n })
  let s := { s with arb := { s.arb with insts := s.arb.insts.filterMap fresh,
                                        coming := s.arb.coming.filter (fun t => !originOfPier p t.origin) } }
  s.arbDiscard (originOfPier p)

/-- The router forgets what belonged to Pier p. [DEDUCED: log entry 70] -/
def State.fabPier (s : State) (p : Nat) : State :=
  { s with fab := { s.fab with
      reqs := s.fab.reqs.filter (fun x => !decide (ownerQueue x.ident / 128 = p)),
      after := s.fab.after.filter (fun x => !decide (ownerQueue x.ident / 128 = p)),
      fences := s.fab.fences.filter (fun x => !decide (x.pier = p)),
      inbox0 := if p = 0 then [] else s.fab.inbox0,
      inbox1 := if p = 1 then s.fab.inbox1.filter (fun k => k.proto = 6) else s.fab.inbox1 } }

/-- Pairs of a Pier as after a restore, with the VLR of DECK_VLMAX (05 R153). -/
def State.freshPairs (s : State) : Tab Pair :=
  let v := Pair.restored (s.odv 0 0xF112 0)
  if v = Pair.zero then [] else (List.range 32).map (fun i => (i, v))

/-- The clears of the flags that stand, as the other Pier's mirror gets them (06 R197, R200). [DEDUCED: log entry 70] -/
def flagClears (flags : Nat) : List (Nat × Bool) := ((List.range 256).filter (fun f => bit f flags)).map (fun f => (f, false))

/-- Everything that a module or Pier reset does to Pier p. The watch's generation runs on: instructions of the other Pier name
it. [DEDUCED: log entry 70] -/
def State.pierClear (s : State) (p : Nat) : State :=
  let s := (List.range 82).foldl (fun s q => if (s.queue p q).flights.isEmpty then s else s.endFlights p q) s
  let s := s.endReqs (fun i => decide (ownerQueue i / 128 = p))
  let s := ((s.watchReset p).girderFlush p).resetBuckets p
  let gone := flagClears (s.pier p).flags
  let s := s.modPier (other p) (fun r => { r with mirrorQ := r.mirrorQ ++ gone })
  let s := s.clearStores p
  let fresh := s.freshPairs
  let s := s.modPier p (fun r => { Pier.zero with pairs := fresh, inReset := r.inReset, watchGen := r.watchGen })
  (((s.clearRings (pierRings p)).clearPeaks p).arbPier p).fabPier p |>.startClusters p

/-! ## Parts outside the Piers -/

/-- The CXL controller at a Hot Reset or FLR: configuration, BARs, decoders, MSI-X and INT_MASK go to defaults; INT_CAUSE,
the filter and what the module remembers stay (Table 16-11). [DEDUCED: log entry 52] -/
def HostSt.controllerReset (h : HostSt) : HostSt :=
  { h with intMask := 0, msixMasked := 2 ^ 32 - 1, msixTable := [], hdmCommitted := 0, launchMask := [],
           d3hot := false, holdoff := 0 }

/-- The host attachment at a module reset. -/
def HostSt.moduleReset (h : HostSt) : HostSt := { HostSt.zero with timestamp := h.timestamp, eventLog := h.eventLog }

/-- The mailbox and DOE commands that run end without a response (Table 16-11). [DEDUCED: log entry 52] -/
def State.endHostCommands (s : State) : State :=
  let mute (a : Access) : Access := if a.reply = .mailbox then { a with reply := .none } else a
  let k := s.sec.spdm
  let front := match k.queue with
    | x :: _ => x.tr = 1
    | [] => false
  { s with dict := ⟨s.dict.busy.map mute, s.dict.queue.map mute⟩,
           sec := { s.sec with spdm := { k with queue := k.queue.filter (fun (r : SpdmReq) => r.tr = 0),
                                                deferred := k.deferred && !front } } }

/-- Accesses of the mailbox that wait go with it; the one in service keeps its entry and loses its reply. -/
def State.mailboxGone (s : State) : State :=
  let s := s.endHostCommands
  { s with dict := { s.dict with queue := s.dict.queue.filter (fun (a : Access) => a.tr = 0) } }

/-- A reset of Keystone: staging areas, arming, SPDM, a transfer in progress (19 R637, R638, Table 19-6). -/
def State.keystoneReset (s : State) : State :=
  let clear (g : Staging) : Staging := { Staging.zero with nonce := g.nonce }
  { s.setOd 0 0xA020 0 0 with
      sec := { s.sec with stage0 := clear s.sec.stage0, stage1 := clear s.sec.stage1, spdm := Spdm.zero, xfer := none,
                          booted := false } }

/-- Objects whose values a reset of the arbiters clears: the ledger, the decision counters, HIGH_COUNT (08 R296). -/
def State.arbReset (s : State) : State :=
  let s := { s.ledgerClear with arb := Arb.zero }
  let s := (List.range 6).foldl (fun s c => (s.setOd 0 0x3840 (c + 1) 0).setOd 0 0x3841 (c + 1) 0) s
  s.setOd 0 0x3803 0 0

/-- Ports after a module or cold reset: DOWN or DISABLED by PORT_ENABLE; a module reset keeps FAILED, and loses the packets in
progress of an ACTIVE port (14 R507). -/
def State.portsReset (s : State) (keepFailed : Bool) : State :=
  (List.range 6).foldl (fun s k =>
    let q := s.port k
    let s := if keepFailed && q.st = .active then s.bump32 k 0x6011 7 (q.inProgress + q.arrived.length) else s
    if keepFailed && q.st = .failed then s.setPort k (Port.fresh .failed q.cause)
    else s.setPort k (Port.fresh (if bit k (s.odv 0 0x6004 0) then .down else .disabled) q.cause)) s

/-- What a module reset, and an entry to STANDBY, do to the module's logic (Table 17-11). [DEDUCED: log entry 59] -/
def State.moduleClear (s : State) : State :=
  let s := ((s.settleSnoops.pierClear 0).pierClear 1).updReset.commitReset
  let s := s.modPier 0 (fun r => { r with inReset := false, mirrorQ := [] })
  let s := s.modPier 1 (fun r => { r with inReset := false, mirrorQ := [] })
  let s := (s.arbReset.clearRings [.arb, .ilben]).setOd 0 0x2004 4 0
  let s := { s with fab := { Fab.zero with ports := s.fab.ports, nextTag := s.fab.nextTag } }.portsReset true
  { s.mailboxGone.keystoneReset with host := s.host.moduleReset }

/-! ## Module reset (17 R591) -/

/-- A module reset with its LAST_RESET cause: recorded, alerted (Table 18-13), and the module held in reset.
[DEDUCED: log entry 69] -/
def State.moduleReset (s : State) (cause : Nat) : State :=
  let s := ((s.setOd 0 0x2002 0 cause).powerLog 9 1 cause 0).alert 8 1 cause
  let s := s.moduleClear
  { s with power := { s.power with state := .moduleReset, resetCause := cause, released := false } }

/-- A module reset may be asserted: ACTIVE, or a module that RECOVERY holds in WAKING (19 R630). [DEDUCED: log entry 69] -/
def State.resettable (s : State) : Bool :=
  decide (s.power.state = .active) || (decide (s.power.state = .waking) && s.sec.recovery)

/-- Assert a module reset; during one it is merged (17 R593). [DEDUCED: log entry 69] -/
def State.assertModuleReset (s : State) (cause : Nat) : State := if s.resettable then s.moduleReset cause else s

/-! ## Cold reset (17 R559, R586, R587) -/

/-- Objects that a cold reset with the Tollhouse powered keeps: the Tollhouse's read-only objects, LAST_RESET and the
count-limited values. [DEDUCED: log entry 59] -/
def keptCold (k : Nat) : Bool :=
  let idx := k / 256 % 65536
  (decide (0x1000 ≤ idx && idx < 0x3000)
      && (match odRow idx (k % 256) with | some r => decide (r.acc = .ro) | none => false))
    || decide (0xA010 ≤ idx && idx ≤ 0xA013)

/-- The dictionary after a cold reset. [DEDUCED: log entry 59] -/
def State.coldOd (s : State) (vtoll : Bool) : State :=
  let keep := s.od.filter (fun e => if vtoll then decide (0xA010 ≤ e.1 / 256 % 65536 && e.1 / 256 % 65536 ≤ 0xA013) else keptCold e.1)
  let base : Tab Nat := odDefaults
  { s with od := keep.foldl (fun t e => Tab.set 0 t e.1 e.2) base, env := [],
           sel := if vtoll then [] else s.sel.filter (fun e => decide (e.1 / 256 % 65536 < 0x3000)) }

/-- Everything lost at a cold reset. -/
def State.coldClear (s : State) (vtoll : Bool) : State :=
  let s := s.coldOd vtoll
  let s := { s with mem := [], errs := [], watch := [], once := [], seqs := [], p0 := Pier.zero, p1 := Pier.zero,
                    arb := Arb.zero, fab := Fab.zero, commit := Commit.zero, upd := Upd.zero, slowFailed := false,
                    mirrorDropped := 0, ceMarks := [] }
  let s := s.portsReset false
  let s := s.mailboxGone.keystoneReset
  { s with host := { HostSt.zero with timestamp := if vtoll then none else s.host.timestamp },
           sec := { s.sec with debugOpen := false, running := 0, fallback := false, recovery := false },
           power := { s.power with railsUp := [0], railPending := none, refStable := false, trained := false,
                                   fromStandby := false, watts := 0, milliamps := 0, pLevel := 0, tLevel := [],
                                   clusters := [], stackDiv := [], fastRefresh := [], ilbenHalf := false,
                                   resetCause := 0, released := false, state := .toll } }

/-- A cold reset by one of the causes 1 to 4 of LAST_RESET: every rail but VTOLL goes off; the record follows.
[DEDUCED: log entry 64] -/
def State.coldReset (s : State) (cause : Nat) : State :=
  let s := (s.powerLog 9 0 cause 0).coldClear false
  s.setOd 0 0x2002 0 cause

/-- The input is gone: every rail off, VTOLL included (17 R559). An entry of the fuse log that is being programmed stays
INCOMPLETE (18 R607). -/
def State.inputLost (s : State) : State :=
  let s := s.coldClear true
  { s with dict := ⟨none, []⟩,
           can := { s.can with xfer := none, tx := [], lastAlert := [], txErrors := 0, rxErrors := 0 },
           power := { Power.zero with inputPresent := false, railsUp := [], senseOpen := s.power.senseOpen,
                                      wakeMode := s.power.wakeMode, nodeStrap := s.power.nodeStrap,
                                      supply := s.power.supply, perstAsserted := s.power.perstAsserted,
                                      temps := s.power.temps } }

/-! ## Pier reset (17 R588) -/

/-- PIER_RESET: recorded, the Pier cleared and held. A Pier in reset merges it (17 R593). [DEDUCED: log entry 70] -/
def State.pierReset (s : State) (p : Nat) : State :=
  if s.power.state ≠ .active || (s.pier p).inReset then s else
  let s := s.powerLog 9 (2 + p) 0 0
  let s := (s.pierClear p).updReset
  let s := if p = 0 then s.commitReset else s.markFaulted
  s.modPier p (fun r => { r with inReset := true })

/-- PIER_RESET_RELEASE: the Pier is released, its mirror loaded with the other Pier's flags (06 R200); its half of the mirror
stream goes on, and a commit that stands FLIPPED is redone for Pier 0 (13 R463), completed for Pier 1 (Table 13-11).
[DEDUCED: log entry 70; DESIGN CHOICE: log entry 35] -/
def State.pierRelease (s : State) (p : Nat) : State :=
  if (s.pier p).inReset then
    let s := s.modPier p (fun r => { r with inReset := false, mirror := (s.pier (other p)).flags, mirrorQ := [] })
    let s := s.startClusters p
    let s := if p = 1 then s.resumeMirror else s
    if s.commit.pstate ≠ .flipped then s else if p = 0 then s.redoApply else s.finishApply
  else s

/-! ## Engine reset (17 R589) -/

/-- The queues of an engine of RESET_CONTROL: a pair, a copy engine, the Trestle, the Ilben queue. -/
def engineQueues (e : Nat) : List Nat :=
  if e < 32 then [e, 32 + e] else if e < 48 then [64 + (e - 32)] else if e = 48 then [80] else [81]

/-- A queue goes to IDLE with PC, SC1 and SC2 zero (06 R187). [DEDUCED: log entry 71] -/
def State.idleQueue (s : State) (p q : Nat) : State :=
  let s := s.endFlights p q
  let u := s.queue p q
  s.setQueue p q { u with st := .idle, draining := false, ended := false, pc := 0, sc1 := 0, sc2 := 0, timedOut := false,
                          buf := [], flights := [] }

/-- The commands of Pier p's Ilben queue end where an abandonment would end them, and post no signal.
[DEDUCED: log entry 70] -/
def State.ilbenEnd (s : State) (p : Nat) : State :=
  let mine := s.upd.jobs.filter (fun j => j.pier = p)
  let s := mine.foldl (fun s j => s.ilCut j) s
  (s.modUpd (fun u => { u with jobs := u.jobs.filter (fun j => !decide (j.pier = p)) })).reseedOn

/-- REDUCEs of a queue end; their buckets stay OPEN, and take terms, until the attempt is abandoned (Table 11-9).
[DEDUCED: log entry 28] -/
def State.redsEnd (s : State) (p q : Nat) : State :=
  s.modPier p (fun r => { r with reds := r.reds.map (fun j => if j.queue = q then { j with ended := true } else j) })

/-- What an engine reset does to the engine itself. [DEDUCED: log entry 71] -/
def State.engineClear (s : State) (p e : Nat) : State :=
  if e < 32 then
    let s := s.setPair p e (Pair.restored (s.odv 0 0xF112 0))
    let s := s.modPier p (fun r => { r with owner := Tab.without (e * 4096) 4096 r.owner })
    { s with mem := Tab.without (pkey (spTrf p) (e * 2 ^ 22)) (2 ^ 22) s.mem }
  else if e < 48 then s.redsEnd p (64 + (e - 32))
  else if e = 48 then s.quietAll p
  else s.ilbenEnd p

/-- The claims of a copy engine, the Trestle or the Ilben queue on tile-register-file regions: none name it afterwards
(06 R219). [DEDUCED: log entry 71] -/
def State.ownerClear (s : State) (p e : Nat) : State :=
  (engineQueues e).foldl (fun s q =>
    (s.queue p q).flights.foldl (fun s f => s.release 3 f.owned) s) s

/-- ENGINE_RESET. A pair whose cluster is OFF completes at once and is not restored (17 R593). [DEDUCED: log entry 71] -/
def State.engineReset (s : State) (p e : Nat) : State :=
  if s.power.state ≠ .active || (s.pier p).inReset || 50 ≤ e then s else
  let s := s.powerLog 9 4 0 e
  let s := (s.ownerClear p e).engineClear p e
  let s := (engineQueues e).foldl (fun s q => s.idleQueue p q) s
  (s.arbDiscard (fun o => (engineQueues e).any (fun q => o = streamOf p q))).markFaulted

end Sys2Proof.Machine
end

