-- ==== Sys2Proof/Machine/Security.lean ====
section
/-! DEFINITION. Keystone: firmware slots and their verification, measurements, tokens and their staging areas, the fuse
log (18 R604 to R609, 19 R624 to R641). -/

namespace Sys2Proof.Machine

/-- Bytes [a, a + n) of a string. -/
def slice (a n : Nat) (l : List Byte) : List Byte := (l.drop a).take n

/-- A little-endian field of a string. -/
def fieldAt (a n : Nat) (l : List Byte) : Nat := ofBytes (slice a n l)

/-- Every byte of a range is zero. -/
def zeroAt (a n : Nat) (l : List Byte) : Bool := (slice a n l).all (fun b => b = 0)

/-- `n` free bytes. [DESIGN CHOICE: log entry 3] -/
def State.takeBytes (s : State) (n : Nat) : List Byte × State :=
  let b := Config.freeBytes s.free
  ((List.range n).map (fun i => b.getD i 0), { s with free := s.free + 1 })

/-! ## Fuse log (18 R604 to R607) -/

/-- Writes that Table 18-5 allows, by index; 0 for other objects. -/
def fuseAllowed (idx : Nat) : Nat :=
  match idx with
  | 0xA010 => 8 | 0xA011 => 128 | 0xA012 => 16 | 0xA013 => 1 | _ => 0

/-- The remaining count of an object: allowed writes less its entries, complete or not (18 R607). [DEDUCED: log entry 60] -/
def State.fuseLeft (s : State) (idx : Nat) : Nat :=
  fuseAllowed idx - (s.fuses.filter (fun e => e.idx = idx)).length

/-- The value of an object: that of its latest COMPLETE entry, else its default 0 (18 R607). -/
def fuseValue (l : List FuseEntry) (idx : Nat) : Nat :=
  match (l.filter (fun e => e.complete && decide (e.idx = idx))).getLast? with
  | some e => ofBytes e.value
  | none => 0

/-- The objects take the values that the log gives them. [DEDUCED: log entry 60] -/
def State.fuseLoad (s : State) : State :=
  [0xA010, 0xA011, 0xA012, 0xA013].foldl (fun s i => s.setOd 0 i 0 (fuseValue s.fuses i)) s

/-- An entry as 80 bytes (Table 18-6). -/
def FuseEntry.bytes (e : FuseEntry) (seq : Nat) : List Byte :=
  toBytes 1 seq ++ toBytes 1 (if e.complete then 1 else 2) ++ toBytes 2 e.idx ++ toBytes 1 0 ++ toBytes 1 e.transport
    ++ toBytes 1 e.remaining ++ toBytes 1 0 ++ toBytes 8 e.committed ++ toBytes 8 e.timestamp ++ toBytes 8 0
    ++ padTo 48 e.value

/-- Entry SEQ n as it reads; zeros where it is not written. -/
def State.fuseBytes (s : State) (n : Nat) : List Byte :=
  match s.fuses[n]? with
  | some e => e.bytes n
  | none => List.replicate 80 0

/-! ## Keys and images (19 R625, R628, R629) -/

/-- OWNER_KEY_DIGEST as bytes. -/
def State.ownerDigest (s : State) : List Byte := toBytes 48 (s.odv 0 0xA010 0)

/-- Key digest of R625: modulus, exponent, SLH-DSA key. -/
def keyDigest (n e k : List Byte) : List Byte := Config.sha384 (n ++ e ++ k)

/-- One of four ROM digests. -/
def inRom (f : Nat → List Byte) (d : List Byte) : Bool := (List.range 4).any (fun i => f i = d)

/-- A component entry lies in its domain, or is unused (Table 19-1). [DEDUCED: log entry 62] -/
def componentOk (payload : Nat) (used : Bool) (c : List Byte) : Bool :=
  if used then
    decide (1 ≤ fieldAt 0 2 c) && decide (fieldAt 0 2 c ≤ 6) && zeroAt 2 2 c && zeroAt 12 4 c
      && decide (fieldAt 4 4 c + fieldAt 8 4 c ≤ payload)
  else zeroAt 0 16 c

/-- Fields and reserved bytes of an image (Table 19-1). -/
def imageFields (g : List Byte) : Bool :=
  let size := fieldAt 24 4 g
  let n := fieldAt 28 4 g
  decide (fieldAt 0 2 g = 1) && zeroAt 2 2 g && decide (fieldAt 4 4 g = 0x860) && decide (fieldAt 8 1 g = 0x21)
    && zeroAt 9 3 g && decide (fieldAt 12 4 g ≠ 0) && decide (size % 4096 = 0) && decide (size ≤ 67088384)
    && decide (1 ≤ n && n ≤ 16) && decide (g.length = 20480 + size)
    && (List.range 16).all (fun k => componentOk size (decide (k < n)) (slice (80 + 16 * k) 16 g))
    && zeroAt 772 252 g && zeroAt 17632 2848 g

/-- Both signatures of an image verify (19 R624). -/
def imageSigned (g : List Byte) : Bool :=
  Config.rsaVerify (slice 336 384 g) (slice 720 4 g) (slice 0 1024 g) (slice 1024 384 g)
    && Config.slhVerify (slice 724 48 g) (slice 0 1024 g) (slice 1408 16224 g)

/-- SVN of an image. -/
def imageSvn (g : List Byte) : Nat := if g.isEmpty then 0 else fieldAt 12 4 g

/-- Keystone accepts an image (19 R629). [DEDUCED: log entry 62] -/
def State.imageOk (s : State) (g : List Byte) : Bool :=
  imageFields g && inRom Config.firmwareAuthority (keyDigest (slice 336 384 g) (slice 720 4 g) (slice 724 48 g))
    && imageSigned g && decide (Config.sha384 (g.drop 20480) = slice 32 48 g)
    && decide (s.odv 0 0xA011 0 ≤ imageSvn g)

/-- The image in a slot. -/
def Sec.image (k : Sec) (slot : Nat) : List Byte := if slot = 0 then k.image0 else k.image1

/-- Put an image in a slot; [] empties it. -/
def Sec.setImage (k : Sec) (slot : Nat) (g : List Byte) : Sec := if slot = 0 then { k with image0 := g } else { k with image1 := g }

/-- SVN of the running image. -/
def State.runningSvn (s : State) : Nat := if s.sec.booted then imageSvn (s.sec.image s.sec.running) else 0

/-- FW_STATUS (Table 19-4). -/
def Sec.status (k : Sec) : Nat :=
  k.running % 2 + 2 * b2n k.fallback + 4 * b2n k.recovery + 8 * b2n k.activate + 16 * (k.boot % 2)

/-! ## Measurements (19 R632) -/

/-- DEBUG_STATE: 0 CLOSED, 1 OPEN, 2 LOCKED (19 R639). [DEDUCED: log entry 63] -/
def State.debugState (s : State) : Nat :=
  if s.odv 0 0xA013 0 = 1 then 2 else if s.sec.debugOpen then 1 else 0

/-- Measurement i of Table 19-2. [DEDUCED: log entry 63] -/
def State.measurement (s : State) (i : Nat) : List Byte :=
  match i with
  | 1 => padTo 48 (Config.identity 4)
  | 2 => s.sec.meas2
  | 3 => s.sec.meas3
  | 4 => padTo 48 (toBytes 4 s.runningSvn ++ toBytes 4 (s.odv 0 0xA011 0))
  | 5 => Config.sha384 (toBytes 48 (s.odv 0 0xA010 0) ++ toBytes 4 (s.odv 0 0xA011 0) ++ toBytes 8 (s.odv 0 0xA012 0)
            ++ toBytes 1 (s.odv 0 0xA013 0))
  | 6 => padTo 48 (toBytes 1 (s.odv 0 0xA013 0) ++ toBytes 1 s.debugState)
  | 7 => s.ownerDigest
  | 8 => Config.sha384 ((List.range s.fuses.length).flatMap s.fuseBytes)
  | _ => List.replicate 48 0

/-! ## Staging areas and tokens (18 R608, R609; 19 R635 to R637) -/

/-- The staging area of a transport. -/
def State.staging (s : State) (tr : Nat) : Staging := if tr = 0 then s.sec.stage0 else s.sec.stage1

/-- Replace it. -/
def State.setStaging (s : State) (tr : Nat) (g : Staging) : State :=
  if tr = 0 then { s with sec := { s.sec with stage0 := g } } else { s with sec := { s.sec with stage1 := g } }

/-- A new TOKEN_NONCE for a transport (19 R637). [DEDUCED: log entry 61] -/
def State.renewNonce (s : State) (tr : Nat) : State :=
  let r := s.takeBytes 32
  r.2.setStaging tr { r.2.staging tr with nonce := r.1 }

/-- TOKEN_CONTROL BEGIN. [DEDUCED: log entry 61] -/
def State.tokenBegin (s : State) (tr : Nat) : State := s.setStaging tr { s.staging tr with status := 1, data := [], ref := 0 }

/-- TOKEN_STAGE: the result code and the state (18 R608). [DEDUCED: log entry 61] -/
def State.tokenStage (s : State) (tr : Nat) (piece : List Byte) : Nat × State :=
  let g := s.staging tr
  if g.status ≠ 1 then (2, s)
  else if 32 * 1024 ≤ g.data.length then (3, s)
  else (0, s.setStaging tr { g with data := g.data ++ piece })

/-- TOKEN_CONTROL SEAL: only a staging area in STAGING is handed over. [DEDUCED: log entry 61] -/
def State.tokenSeal (s : State) (tr : Nat) : Nat × State :=
  let g := s.staging tr
  if g.status ≠ 1 then (2, s) else (0, s.setStaging tr { g with status := 2 })

/-- Format, LENGTH and reserved bytes of a staged token (Table 19-5): 17 pieces, zero after the token's end.
[DEDUCED: log entry 61] -/
def tokenFields (d : List Byte) : Bool :=
  decide (d.length = 17408) && decide (fieldAt 0 2 d = 1) && zeroAt 2 2 d && decide (fieldAt 4 4 d = 17152)
    && zeroAt 540 4 d && zeroAt 17152 256 d

/-- The signer of a token may sign (19 R636). [DEDUCED: log entry 63] -/
def State.signerOk (s : State) (d : List Byte) : Bool :=
  let k := keyDigest (slice 104 384 d) (slice 488 4 d) (slice 492 48 d)
  if s.odv 0 0xA010 0 = 0 then inRom Config.manufacturingAuthority k else decide (k = s.ownerDigest)

/-- Both signatures of a token verify. -/
def tokenSigned (d : List Byte) : Bool :=
  Config.rsaVerify (slice 104 384 d) (slice 488 4 d) (slice 0 544 d) (slice 544 384 d)
    && Config.slhVerify (slice 492 48 d) (slice 0 544 d) (slice 928 16224 d)

/-- Keystone's check of a sealed token (19 R636). -/
def State.tokenOk (s : State) (tr : Nat) : Bool :=
  let g := s.staging tr
  let d := g.data
  tokenFields d && decide (fieldAt 8 8 d = Config.serialNumber.toNat) && decide (fieldAt 19 1 d = tr)
    && decide (slice 24 32 d = g.nonce) && s.signerOk d && tokenSigned d

/-- TOKEN_VERIFY_COMPLETE: READY with a non-zero TOKEN_REF, or FAILED. [DEDUCED: log entry 61] -/
def State.tokenVerified (s : State) (tr : Nat) : State :=
  let g := s.staging tr
  if g.status ≠ 2 then s
  else if s.tokenOk tr then
    let r := s.takeFree 64
    (r.2.setStaging tr { g with status := 3, ref := max r.1 1 }).bump32 0 0xA040 1 1
  else (s.setStaging tr { g with status := 4 }).bump32 0 0xA040 2 1

/-- A READY token authorises a write of an object (18 R609, 19 R636). -/
def State.tokenAllows (s : State) (tr ref idx sub : Nat) (value : List Byte) : Bool :=
  let g := s.staging tr
  let d := g.data
  decide (g.status = 3) && decide (ref = g.ref) && decide (fieldAt 16 2 d = idx) && decide (fieldAt 18 1 d = sub)
    && decide (fieldAt 20 4 d = value.length) && decide (slice 56 48 d = Config.sha384 value) && s.signerOk d

/-- An accepted RWS write consumes the token and renews the nonce of its transport. [DEDUCED: log entry 61] -/
def State.tokenSpend (s : State) (tr : Nat) : State :=
  (s.setStaging tr { s.staging tr with status := 0, data := [], ref := 0 }).renewNonce tr

/-- An accepted OWNER_KEY_DIGEST write: READY tokens go, both nonces are renewed, the arming is cleared (19 R638).
[DEDUCED: log entry 63] -/
def State.ownerChanged (s : State) : State :=
  let drop (g : Staging) : Staging := if g.status = 3 then { g with status := 0, data := [], ref := 0 } else g
  let s := (s.setStaging 0 (drop s.sec.stage0)).setStaging 1 (drop s.sec.stage1)
  ((s.setOd 0 0xA020 0 0).renewNonce 0).renewNonce 1

/-! ## Release of Keystone and verification (19 R630, R637; 17 Tables 17-12, 17-13) -/

/-- Keystone is released: fresh nonces. -/
def State.keystoneRelease (s : State) : State :=
  let s := (s.renewNonce 0).renewNonce 1
  { s with power := { s.power with released := true } }

/-- A key of the dictionary names an RW or RWS object. [DEDUCED: log entry 59] -/
def settable (k : Nat) : Bool :=
  match odRow (k / 256 % 65536) (k % 256) with
  | some r => decide (r.acc = .rw) || decide (r.acc = .rws)
  | none => false

/-- Every RW and RWS object at its default, as a power-up leaves them (Table 17-13, W + 135 ms). [DEDUCED: log entry 59] -/
def State.powerUpDefaults (s : State) : State :=
  let keep := s.od.filter (fun e => !settable e.1)
  { s with od := (odDefaults.filter (fun e => settable e.1)).foldl (fun t e => Tab.set 0 t e.1 e.2) keep, env := [], sel := [] }

/-- The package becomes ready (Table 17-12, D + 120 ms and on; Table 17-13, W + 135 ms and on). [DEDUCED: log entry 59] -/
def State.becomeActive (s : State) : State :=
  let s := if s.power.state = .waking && !s.power.fromStandby && !s.sec.recovery then s.powerUpDefaults.portsReset false else s
  let s := if s.commit.pstate = .flipped then s.redoApply else s
  let s := (s.startClusters 0).startClusters 1
  { s with power := { s.power with state := .active, released := false, fromStandby := false } }

/-- A slot boots: measurements 2 and 3 are fixed (19 R632). [DEDUCED: log entries 9, 62] -/
def State.boot (s : State) (slot : Nat) (fallback : Bool) : State :=
  let g := s.sec.image slot
  { s with sec := { s.sec with running := slot, booted := true, fallback := fallback, activate := false,
                               meas2 := Config.sha384 (g.take 1024), meas3 := Config.sha384 (g.drop 20480) } }

/-- FIRMWARE_VERIFY: the slot marked for boot, else the other, else RECOVERY (19 R630). [DEDUCED: log entries 9, 62] -/
def State.firmwareVerify (s : State) : State :=
  if !s.power.released || (s.power.state = .waking && !s.power.fromStandby && !s.power.trained) then s else
  let b := s.sec.boot
  let done (t : State) : State := let u := t.becomeActive; { u with sec := { u.sec with recovery := false } }
  if s.imageOk (s.sec.image b) then done (s.boot b false)
  else
    let s := s.bump32 0 0xA040 3 1
    if s.imageOk (s.sec.image (1 - b)) then done (s.boot (1 - b) true)
    else
      let s := s.bump32 0 0xA040 3 1
      { s with sec := { s.sec with recovery := true, booted := false, fallback := false, activate := false },
               power := { s.power with state := .waking, released := false } }

/-! ## Firmware transfer (19 R628, R629; Table 16-8) -/

/-- Transfer FW: action 0 whole image, 1 first part, 2 next part, 3 last part, 4 abort; slot as CXL numbers it; offset; data.
Answers the return code. [PRESUMED: log entry 7; DEDUCED: log entry 62] -/
def State.transferFw (s : State) (action slot off : Nat) (data : List Byte) : Nat × State :=
  let t := slot - 1
  let bad := decide (slot ≠ 1 && slot ≠ 2) || decide (t = s.sec.boot) || decide (3968 < data.length)
  let start (s : State) : State := { s with sec := { (s.sec.setImage t []) with xfer := some (t, data) } }
  let finish (s : State) (g : List Byte) : Nat × State :=
    if s.imageOk g then (0, { s with sec := { s.sec.setImage t g with xfer := none } })
    else (2, { s with sec := { s.sec.setImage t [] with xfer := none } })
  if 4 < action then (2, s)
  else if action = 4 then (0, { s with sec := { s.sec with xfer := none } })
  else if bad then (2, s)
  else match action with
  | 0 => if off = 0 then finish (start s) data else (2, s)
  | 1 => if off = 0 then (0, start s) else (2, s)
  | _ =>
    match s.sec.xfer with
    | none => (2, s)
    | some (slot', got) =>
      if slot' ≠ t || off ≠ got.length || 67108864 < off + data.length then (2, s)
      else if action = 2 then (0, { s with sec := { s.sec with xfer := some (t, got ++ data) } })
      else finish s (got ++ data)

/-- Activate FW of a slot: one that passed is marked for boot (19 R629). [PRESUMED: log entry 7; DEDUCED: log entry 62] -/
def State.activateFw (s : State) (slot : Nat) : Nat × State :=
  let t := slot - 1
  if (slot = 1 || slot = 2) && !(s.sec.image t).isEmpty then
    (0, { s with sec := { s.sec with boot := t, activate := true } })
  else (2, s)

/-! ## Rows -/

/-- FIRMWARE_VERIFY. -/
def execFirmwareVerify (s : State) : Host.Outcome State Fault Refusal := .next s.firmwareVerify
/-- TOKEN_VERIFY_COMPLETE of a transport. -/
def execTokenVerifyComplete (tr : Nat) (s : State) : Host.Outcome State Fault Refusal := .next (s.tokenVerified tr)

end Sys2Proof.Machine
end

