-- ==== Sys2Proof/Machine/Power.lean ====
section
/-! DEFINITION. Input power, rails, module power states, clusters, the power and thermal loops, and the rows of the resets
(17, 20). Times are the environment's: each event of a sequence is a row. -/

namespace Sys2Proof.Machine

/-! ## Input (17 R558 to R560, 20 R649) -/

/-- The effective cap in W at an input voltage in mV (17 R560, R577). [DEDUCED: log entry 65] -/
def State.effectiveCap (s : State) (mv : Nat) : Nat := min (s.odv 0 0x2010 0) (70 * mv / 1000)

/-- Vector 16 exists while the module is ACTIVE (Table 16-6). -/
def State.raisePower (s : State) : State := if s.power.state = .active then s.raise 16 else s

/-- Leave STANDBY or TOLL (17 R565, Table 17-4). Leaving STANDBY has every effect of a module reset (17 R566).
[DEDUCED: log entry 64] -/
def State.wake (s : State) : State :=
  if !s.power.inputPresent || (s.power.overvoltage && 60000 ≤ s.power.millivolts) then s else
  let s := { s with power := { s.power with overvoltage := false } }
  match s.power.state with
  | .toll =>
    { s with power := { s.power with state := .waking, fromStandby := false, refStable := false, trained := false, railPending := none } }
  | .standby =>
    let s := ((s.setOd 0 0x2002 0 7).powerLog 9 1 7 0).moduleClear
    { s with power := { s.power with state := .waking, fromStandby := true, refStable := false, railPending := none } }
  | _ => s

/-- The Tollhouse starts: straps read, fuse log read, epoch record EMPTY, TOLL (Table 17-13). -/
def State.tollStart (s : State) : State :=
  let s := s.fuseLoad
  let n := s.power.nodeStrap % 128
  let s := { s with
    can := { s.can with nodeId := n, mode := if n = 0 then .silent else .errorActive, txErrors := 0, rxErrors := 0,
                        xfer := none, tx := [] },
    power := { s.power with inputPresent := true, railsUp := [0], state := .toll } }
  let s := s.setOd 0 0x2002 0 0
  if s.power.wakeMode then s.wake else s

/-- INPUT_RISE with the straps as the tray ties them. [DEDUCED: log entry 66] -/
def State.inputRise (s : State) (node : Nat) (wakeMode : Bool) : State :=
  if s.power.inputPresent then s else
  let s := { s with power := { s.power with supply := true, nodeStrap := node % 128, wakeMode := wakeMode } }
  if s.power.senseOpen then s else s.tollStart

/-- UNDERVOLTAGE_LOCKOUT. [DEDUCED: log entry 65] -/
def State.undervoltage (s : State) : State :=
  let s := if s.power.inputPresent then s.inputLost else s
  { s with power := { s.power with supply := false } }

/-- SENSE_OPEN: every rail is held off, VTOLL included. [DEDUCED: log entry 66] -/
def State.senseOpened (s : State) : State :=
  let s := if s.power.inputPresent then s.inputLost else s
  { s with power := { s.power with senseOpen := true } }

/-- SENSE_CLOSE: both loops are closed, and the module starts where 48 V is there. [DEDUCED: log entry 66] -/
def State.senseClosed (s : State) : State :=
  if !s.power.senseOpen then s else
  let s := { s with power := { s.power with senseOpen := false } }
  if s.power.supply then s.tollStart else s

/-- OVERVOLTAGE: above 62.0 V. [DEDUCED: log entry 65] -/
def State.overvoltage (s : State) (mv : Nat) : State :=
  if !s.power.inputPresent || mv ≤ 62000 then s else
  let first := !s.power.overvoltage
  let s := { s with power := { s.power with millivolts := mv, overvoltage := true } }
  if !first then s else
  let s := (s.powerLog 8 0 mv 0).alert 5 0 mv
  if s.power.state = .toll then s else s.coldReset 1

/-- INPUT_LOW: entry into 36 to 40 V. [DEDUCED: log entry 65] -/
def State.inputLow (s : State) (mv : Nat) : State :=
  if !s.power.inputPresent || mv < 36000 || 40000 ≤ mv || s.power.inputLow then s else
  let s := { s with power := { s.power with millivolts := mv, inputLow := true } }
  ((s.powerLog 5 0 mv (s.effectiveCap mv)).raisePower).alert 6 0 mv

/-! ## Rails (17 R561, Table 17-2, Table 17-13) -/

/-- REFERENCE_STABLE: order 1 is started. [DEDUCED: log entry 66] -/
def State.referenceStable (s : State) : State :=
  if s.power.state = .waking && !s.power.refStable && !s.sec.recovery then
    { s with power := { s.power with refStable := true, railPending := some 1 } }
  else s

/-- RAIL_POWER_GOOD of an order: the next is started; after order 12 Keystone is released. [DEDUCED: log entry 66] -/
def State.railGood (s : State) (order : Nat) : State :=
  if s.power.railPending = some order then
    let s := { s with power := { s.power with railsUp := s.power.railsUp ++ [order] } }
    let next := if s.power.fromStandby && order = 1 then 8 else order + 1
    if next ≤ 12 then { s with power := { s.power with railPending := some next } }
    else { s with power := { s.power with railPending := none } }.keystoneRelease
  else s

/-- RAIL_FAULT of an order that has been started. [DEDUCED: log entry 66] -/
def State.railFault (s : State) (order : Nat) : State :=
  if 1 ≤ order && (s.power.railPending = some order || s.power.railsUp.contains order) then
    ((s.powerLog 7 order 0 0).alert 4 order 0).coldReset 3
  else s

/-- A channel that failed its training: 0 and 1 a fast tier, with its stack; 2 the slow tier. -/
structure TrainFail where
  tier : Nat
  stack : Nat
  channel : Nat
  deriving DecidableEq, Repr

/-- CHANNEL_TRAINING with the channels that failed (17 R592, 07 R270, 12 R419).
[DEDUCED: log entry 66; DESIGN CHOICE: log entry 75] -/
def State.channelTraining (s : State) (fails : List TrainFail) : State :=
  if s.power.state = .waking && !s.power.fromStandby && !s.power.trained && s.power.railsUp.contains 12 then
    fails.foldl (fun s f =>
      let s := if 2 ≤ f.tier then { s with slowFailed := true } else s
      s.persistentMem (f.tier % 2) (f.stack % 10) (f.channel % 64) 3)
      { s with power := { s.power with trained := true } }
  else s

/-! ## STANDBY and TOLL (17 R566) -/

/-- POWER_CONTROL STANDBY: the result code and the state. [DEDUCED: log entry 64] -/
def State.standby (s : State) : Nat × State :=
  if s.power.state = .active && (s.commit.pstate = .idle || s.commit.pstate = .empty || s.commit.pstate = .invalid) then
    let s := (s.powerLog 9 1 0 0).moduleClear
    (0, { s with power := { s.power with state := .standby, released := false,
                                         railsUp := s.power.railsUp.filter (fun r => !(decide (r = 1) || decide (8 ≤ r))) } })
  else (2, s)

/-- POWER_CONTROL TOLL: the result code and the state. -/
def State.toll (s : State) : Nat × State :=
  if (s.power.state = .active || s.power.state = .standby) && s.commit.pstate ≠ .flipped then (0, s.coldReset 4) else (2, s)

/-! ## Clusters (17 R571 to R575) -/

/-- An engine is idle (17 R571). -/
def State.engineIdle (s : State) (p i : Nat) (deck : Bool) : Bool :=
  let u := s.queue p (if deck then 32 + i else i)
  u.flights.all (fun f => f.null) && !(if deck then (s.pair p i).deckWarm else (s.pair p i).spanWarm)
    && decide (u.st ≠ .load)

/-- GATE_ENTRY. [DEDUCED: log entry 68] -/
def State.gateEntry (s : State) (p i : Nat) (deck : Bool) : State :=
  if s.engine p i deck = .run && s.engineIdle p i deck then s.setEngine p i deck .gated else s

/-- All 16 engines of a cluster are GATED. -/
def State.clusterGated (s : State) (c : Nat) : Bool :=
  (List.range 8).all (fun k =>
    let i := c % 4 * 8 + k
    decide (s.engine (c / 4) i false = .gated) && decide (s.engine (c / 4) i true = .gated)
      && s.engineIdle (c / 4) i false && s.engineIdle (c / 4) i true)

/-- A state of depth d may be entered (17 R572). -/
def State.depthOk (s : State) (c d : Nat) : Bool := decide (c < 8) && decide (d ≤ s.odv 0 0x2020 (c + 1))

/-- PARK_ENTRY. [DEDUCED: log entry 68] -/
def State.parkEntry (s : State) (c : Nat) : State :=
  if s.depthOk c 1 && (s.cluster c = .gated || s.cluster c = .run) && s.clusterGated c then s.setCluster c .parked else s

/-- RETAIN_ENTRY: no engine of the cluster waits on a wake, and no queue is in LOAD (04 Table 4-9). [DEDUCED: log entry 68] -/
def State.retainEntry (s : State) (c : Nat) : State :=
  if s.depthOk c 2 && s.cluster c = .parked && s.clusterGated c then s.setCluster c .retain else s

/-- Every queue of a cluster's engines is IDLE or DONE. -/
def State.clusterQuiet (s : State) (c : Nat) : Bool :=
  (List.range 8).all (fun k => [c % 4 * 8 + k, 32 + c % 4 * 8 + k].all (fun q =>
    let u := s.queue (c / 4) q
    (decide (u.st = .idle) || decide (u.st = .done)) && u.flights.isEmpty))

/-- The engines of a cluster as after a restore (17 R574). -/
def State.clusterRestored (s : State) (c : Nat) : State :=
  let v := s.odv 0 0xF112 0
  (List.range 8).foldl (fun s k =>
    let i := c % 4 * 8 + k
    let s := s.setPair (c / 4) i (Pair.restored v)
    let s := s.modPier (c / 4) (fun r => { r with owner := Tab.without (i * 4096) 4096 r.owner })
    { s with mem := Tab.without (pkey (spTrf (c / 4)) (i * 2 ^ 22)) (2 ^ 22) s.mem }) s

/-- OFF_ENTRY: the cluster's registers and tile register files are lost. [DEDUCED: log entry 68] -/
def State.offEntry (s : State) (c : Nat) : State :=
  if s.depthOk c 3 && s.cluster c = .retain && s.clusterQuiet c then (s.clusterRestored c).setCluster c .off else s

/-- CLUSTER_RESTORE_COMPLETE: the clock of the cluster must run (17 R580). [DEDUCED: log entry 68] -/
def State.restoreComplete (s : State) (c : Nat) : State :=
  if c < 8 && s.cluster c = .restoring && s.clockRuns (c / 4) (c % 4 * 8) then (s.clusterRestored c).setCluster c .gated else s

/-! ## The power and thermal loops (17 R576 to R585) -/

/-- POWER_LOOP: the measures of the last period, and the level. The level moves while the module is ACTIVE.
[DEDUCED: log entry 67] -/
def State.powerLoop (s : State) (p100 p1 pk mv ma : Nat) : State :=
  if !s.power.inputPresent then s else
  let s := { s with power := { s.power with millivolts := mv, milliamps := ma, watts := p1,
                                            inputLow := s.power.inputLow && decide (mv < 40000) } }
  let s := s.setOd 0 0x2004 4 (max (s.odv 0 0x2004 4) (min pk 65535))
  if s.power.state ≠ .active then s else
  let cap := s.effectiveCap mv
  let old := s.power.pLevel
  let want : Int :=
    if 3400 < pk then old + 2
    else if cap < p100 then old + 1
    else if (p1 : Int) < (cap : Int) - s.odv 0 0x2011 0 then (old : Int) - 1
    else old
  let s := if 6 < want then ((s.bump32 0 0x2017 3 1).powerLog 3 0 want.toNat 6).raisePower else s
  let new := (min (max want 0) 6).toNat
  if new = old then s else
  let s := (s.bump32 0 0x2017 1 1).powerLog 1 0 old new
  let s := { s with power := { s.power with pLevel := new } }
  if old = 0 then s.raisePower else s

/-- Sensor readings in 1/16 °C are taken. -/
def State.readTemps (s : State) (ts : List (Nat × Int)) : State :=
  { s with power := { s.power with temps := ts.foldl (fun t e =>
      if e.1 < 68 then Tab.set 0 t e.1 (clampInt (-32768) 32767 e.2) else t) s.power.temps } }

/-- A sensor's reading. -/
def State.temp (s : State) (n : Nat) : Int := Tab.get 0 s.power.temps n

/-- A limit in 1/16 °C. -/
def State.limit16 (s : State) (idx : Nat) : Int := 16 * toSigned 8 (s.odv 0 idx 0)

/-- The thermal loop for one cluster (17 R578). -/
def State.thermalOne (s : State) (c : Nat) : State :=
  let t := (List.range 4).foldl (fun m k => max m (s.temp (4 * c + k))) (s.temp (4 * c))
  let lim := s.limit16 0x2012
  let old := Tab.get 0 s.power.tLevel c
  let want : Int :=
    if lim + 80 ≤ t then old + 2 else if lim ≤ t then old + 1 else if t ≤ lim - 48 then (old : Int) - 1 else old
  let new := (min (max want 0) 7).toNat
  if new = old then s else
  let s := (s.bump32 0 0x2017 2 1).powerLog 2 c old new
  let s := { s with power := { s.power with tLevel := Tab.set 0 s.power.tLevel c new } }
  if old = 0 then s.raisePower else s

/-- THERMAL_LOOP with the readings of the period. [DEDUCED: log entry 67; DESIGN CHOICE: log entry 75] -/
def State.thermalLoop (s : State) (ts : List (Nat × Int)) : State :=
  let s := s.readTemps ts
  if s.power.state ≠ .active then s else (List.range 8).foldl (fun s c => s.thermalOne c) s

/-- Slot divisor of a stack, Pier × 10 + stack. -/
def Power.divisor (w : Power) (k : Nat) : Nat := Tab.get 1 w.stackDiv k

/-- STACK_THROTTLE: a stack's sensor reads t (17 R582); the decision counts as a thermal one (01 R30).
[DEDUCED: log entry 67] -/
def State.stackThrottle (s : State) (p stack : Nat) (t : Int) : State :=
  if 2 ≤ p || 10 ≤ stack || s.power.state ≠ .active then s else
  let k := p * 10 + stack
  let s := s.readTemps [(36 + k, t)]
  let lim := s.limit16 0x2013
  let old := s.power.divisor k
  let new := if lim + 80 ≤ t then 4 else if lim ≤ t then 2 else if t ≤ lim - 48 then 1 else old
  if new = old then s else
  let s := (s.bump32 0 0x2017 2 1).powerLog 4 (36 + k) old new
  let s := { s with power := { s.power with stackDiv := Tab.set 1 s.power.stackDiv k new } }
  if old = 1 then s.raisePower else s

/-- ILBEN_THROTTLE: one of Ilben's sensors reads t (17 R583); the decision counts as a thermal one (01 R30).
[DEDUCED: log entry 67] -/
def State.ilbenThrottle (s : State) (sensor : Nat) (t : Int) : State :=
  if (sensor ≠ 56 && sensor ≠ 57) || s.power.state ≠ .active then s else
  let s := s.readTemps [(sensor, t)]
  let lim := s.limit16 0x2014
  let hot := max (s.temp 56) (s.temp 57)
  let half := if lim ≤ hot then true else if hot ≤ lim - 48 then false else s.power.ilbenHalf
  if half = s.power.ilbenHalf then s else
  { s.bump32 0 0x2017 2 1 with power := { s.power with ilbenHalf := half } }

/-- Trip temperature of a sensor in °C (Table 17-8). [DEDUCED: log entry 67] -/
def tripTemp (n : Nat) : Option Int :=
  if n < 36 then some 110 else if n < 56 then some 105 else if n < 58 then some 115 else if n < 62 then some 110
  else if n < 66 then some 125 else none

/-- THERMAL_TRIP: the sensor has read t for three samples (17 R584). [DEDUCED: log entry 67] -/
def State.thermalTrip (s : State) (sensor : Nat) (t : Int) : State :=
  match tripTemp sensor with
  | none => s
  | some lim =>
    if t < 16 * lim || s.power.state = .toll || !s.power.inputPresent then s else
    let d := ofSigned 64 t
    (((s.readTemps [(sensor, t)]).powerLog 6 sensor d 0).alert 3 sensor d).coldReset 2

/-- REFRESH_INTERVAL_CHANGE of a stack, Pier × 10 + stack: it reads t (07 R230, R236). -/
def State.refreshInterval (s : State) (p stack : Nat) (t : Int) : State :=
  if 2 ≤ p || 10 ≤ stack then s else
  let k := p * 10 + stack
  let s := s.readTemps [(36 + k, t)]
  let rest := s.power.fastRefresh.filter (fun x => !decide (x = k))
  { s with power := { s.power with fastRefresh := if 16 * 85 < t then rest ++ [k] else rest } }

/-! ## Reset rows -/

/-- PERST_ASSERT: a module reset; during a power-up only the CXL controller is held (17 R593). -/
def State.perstAssert (s : State) : State :=
  { s with power := { s.power with perstAsserted := true } }.assertModuleReset 5

/-- Keystone may be released from a module reset: 1 ms has passed, or PERST# is deasserted after a PERST# reset.
[DEDUCED: log entry 69] -/
def State.moduleRelease (s : State) : State :=
  if s.power.state = .moduleReset && !s.power.released && !(s.power.resetCause = 5 && s.power.perstAsserted) then
    s.keystoneRelease
  else s

/-- PERST_DEASSERT: releases a PERST# reset, and is a wake event. [DEDUCED: log entry 69] -/
def State.perstDeassert (s : State) : State :=
  let s := { s with power := { s.power with perstAsserted := false } }
  match s.power.state with
  | .moduleReset => if s.power.resetCause = 5 then s.moduleRelease else s
  | _ => s.wake

/-- RESET_CONTROL (Table 17-15): the result code and the state. [DEDUCED: log entry 69] -/
def State.resetControl (s : State) (v : Nat) : Nat × State :=
  let e := bits 9 3 v
  if s.power.state = .moduleReset then (0, s)
  else if !s.resettable then (2, s)
  else match bits 2 0 v with
  | 1 => (0, s.assertModuleReset 6)
  | 2 => if s.power.state = .active then (0, s.pierReset 0) else (2, s)
  | 3 => if s.power.state = .active then (0, s.pierReset 1) else (2, s)
  | _ => if s.power.state = .active then (0, s.engineReset (bits 10 10 v) e) else (2, s)

/-- INPUT_RISE. -/
def execInputRise (node : Nat) (wakeMode : Bool) (s : State) : Host.Outcome State Fault Refusal := .next (s.inputRise node wakeMode)
/-- UNDERVOLTAGE_LOCKOUT. -/
def execUndervoltageLockout (s : State) : Host.Outcome State Fault Refusal := .next s.undervoltage
/-- OVERVOLTAGE. -/
def execOvervoltage (mv : Nat) (s : State) : Host.Outcome State Fault Refusal := .next (s.overvoltage mv)
/-- INPUT_LOW. -/
def execInputLow (mv : Nat) (s : State) : Host.Outcome State Fault Refusal := .next (s.inputLow mv)
/-- RAIL_POWER_GOOD. -/
def execRailPowerGood (order : Nat) (s : State) : Host.Outcome State Fault Refusal := .next (s.railGood order)
/-- RAIL_FAULT. -/
def execRailFault (order : Nat) (s : State) : Host.Outcome State Fault Refusal := .next (s.railFault order)
/-- REFERENCE_STABLE. -/
def execReferenceStable (s : State) : Host.Outcome State Fault Refusal := .next s.referenceStable
/-- CHANNEL_TRAINING. -/
def execChannelTraining (fails : List (Nat × Nat × Nat)) (s : State) : Host.Outcome State Fault Refusal :=
  .next (s.channelTraining (fails.map (fun f => (⟨f.1, f.2.1, f.2.2⟩ : TrainFail))))
/-- WAKE. -/
def execWake (s : State) : Host.Outcome State Fault Refusal := .next s.wake
/-- STANDBY. -/
def execStandby (s : State) : Host.Outcome State Fault Refusal := .next s.standby.2
/-- TOLL. -/
def execToll (s : State) : Host.Outcome State Fault Refusal := .next s.toll.2
/-- GATE_ENTRY. -/
def execGateEntry (p i : Nat) (deck : Bool) (s : State) : Host.Outcome State Fault Refusal := .next (s.gateEntry p i deck)
/-- PARK_ENTRY. -/
def execParkEntry (c : Nat) (s : State) : Host.Outcome State Fault Refusal := .next (s.parkEntry c)
/-- RETAIN_ENTRY. -/
def execRetainEntry (c : Nat) (s : State) : Host.Outcome State Fault Refusal := .next (s.retainEntry c)
/-- OFF_ENTRY. -/
def execOffEntry (c : Nat) (s : State) : Host.Outcome State Fault Refusal := .next (s.offEntry c)
/-- CLUSTER_RESTORE_COMPLETE. -/
def execClusterRestoreComplete (c : Nat) (s : State) : Host.Outcome State Fault Refusal := .next (s.restoreComplete c)
/-- POWER_LOOP. -/
def execPowerLoop (p100 p1 pk mv ma : Nat) (s : State) : Host.Outcome State Fault Refusal := .next (s.powerLoop p100 p1 pk mv ma)
/-- THERMAL_LOOP. -/
def execThermalLoop (ts : List (Nat × Int)) (s : State) : Host.Outcome State Fault Refusal := .next (s.thermalLoop ts)
/-- STACK_THROTTLE. -/
def execStackThrottle (p stack : Nat) (t : Int) (s : State) : Host.Outcome State Fault Refusal := .next (s.stackThrottle p stack t)
/-- ILBEN_THROTTLE. -/
def execIlbenThrottle (sensor : Nat) (t : Int) (s : State) : Host.Outcome State Fault Refusal := .next (s.ilbenThrottle sensor t)
/-- THERMAL_TRIP. -/
def execThermalTrip (sensor : Nat) (t : Int) (s : State) : Host.Outcome State Fault Refusal := .next (s.thermalTrip sensor t)
/-- MODULE_RESET: RESET_CONTROL module. -/
def execModuleReset (s : State) : Host.Outcome State Fault Refusal := .next (s.resetControl 1).2
/-- MODULE_RESET_RELEASE. -/
def execModuleResetRelease (s : State) : Host.Outcome State Fault Refusal := .next s.moduleRelease
/-- PIER_RESET. -/
def execPierReset (p : Nat) (s : State) : Host.Outcome State Fault Refusal := .next (if p < 2 then (s.resetControl (2 + p)).2 else s)
/-- PIER_RESET_RELEASE. -/
def execPierResetRelease (p : Nat) (s : State) : Host.Outcome State Fault Refusal := .next (if p < 2 then s.pierRelease p else s)
/-- ENGINE_RESET of an engine of RESET_CONTROL. -/
def execEngineReset (p e : Nat) (s : State) : Host.Outcome State Fault Refusal :=
  .next (if p < 2 && e < 50 then (s.resetControl (4 + 8 * e + 1024 * p)).2 else s)
/-- SENSE_OPEN. -/
def execSenseOpen (s : State) : Host.Outcome State Fault Refusal := .next s.senseOpened
/-- SENSE_CLOSE. -/
def execSenseClose (s : State) : Host.Outcome State Fault Refusal := .next s.senseClosed
/-- REFRESH_INTERVAL_CHANGE. -/
def execRefreshIntervalChange (p stack : Nat) (t : Int) (s : State) : Host.Outcome State Fault Refusal := .next (s.refreshInterval p stack t)
/-- PERST_ASSERT. -/
def execPerstAssert (s : State) : Host.Outcome State Fault Refusal := .next s.perstAssert
/-- PERST_DEASSERT. -/
def execPerstDeassert (s : State) : Host.Outcome State Fault Refusal := .next s.perstDeassert

end Sys2Proof.Machine
end

