-- ==== Sys2Proof/Machine/Spdm.lean ====
section
/-! DEFINITION. Attestation: SPDM requests from the management port and the DOE mailbox, served one at a time (16 R553,
19 R633, R634). The message bytes are the SPDM specification's: `Config.spdmMessage` and `Config.spdmDecode`. -/

namespace Sys2Proof.Machine

/-- DataTransferSize of a transport: 0 management port, 1 DOE (Table 19-3). [PRESUMED: log entry 8] -/
def spdmTransfer (tr : Nat) : Nat := if tr = 0 then 4092 else 65528

/-- An ERROR response with its code. -/
def spdmError (code : Nat) : List Byte := Config.spdmMessage 0x7F [toBytes 1 code]

/-- Change the responder. -/
def State.modSpdm (s : State) (f : Spdm → Spdm) : State := { s with sec := { s.sec with spdm := f s.sec.spdm } }

/-- A request is received: it joins Keystone's queue. On the management port SPDM_STATUS becomes BUSY and an unread
response goes (19 R634). -/
def State.spdmReceive (s : State) (r : SpdmReq) : State :=
  let s := s.bump32 0 0xA040 4 1
  s.modSpdm (fun k =>
    let k := { k with queue := k.queue ++ [r] }
    if r.tr = 0 then { k with status := 1, rx := [] } else k)

/-- A certificate chain: slot 0 RSA, slot 1 SLH-DSA (19 R627). -/
def chainOf (slot : Nat) : List Byte := Config.identity (2 + slot)

/-- Forget the connection, for both transports; requests that wait and SPDM_RX stay (19 R633). -/
def Spdm.disconnect (k : Spdm) : Spdm :=
  { k with stage := 0, session := 0, signed := none, chunks := [], large := [] }

/-- A signed response: the message the signature covers is kept for GET_PQ_SIGNATURE. -/
def State.spdmSigned (s : State) (m : List Byte) : List Byte × State :=
  (m ++ Config.rsaSign s.free m, { s.modSpdm (fun k => { k with signed := some m }) with free := s.free + 1 })

/-- CHALLENGE of a slot: only slot 0 signs. -/
def State.spdmChallenge (s : State) (slot : Nat) (nonce : List Byte) : List Byte × State :=
  if slot ≠ 0 then (spdmError 1, s) else
  let r := s.takeBytes 32
  r.2.spdmSigned (Config.spdmMessage 0x03 [Config.sha384 (chainOf 0), nonce, r.1,
    Config.sha384 ((List.range 8).flatMap (fun i => s.measurement (i + 1)))])

/-- GET_MEASUREMENTS: index 0 the number of measurements, 1 to 8 one of them, 0xFF all; signed where asked (19 R632). -/
def State.spdmMeasure (s : State) (index : Nat) (sign : Bool) (nonce : List Byte) : List Byte × State :=
  let ms : Option (List (List Byte)) :=
    if index = 0 then some [toBytes 1 8]
    else if index ≤ 8 then some [s.measurement index]
    else if index = 0xFF then some ((List.range 8).map (fun i => s.measurement (i + 1)))
    else none
  match ms with
  | none => (spdmError 1, s)
  | some l =>
    if sign then
      let r := s.takeBytes 32
      r.2.spdmSigned (Config.spdmMessage 0x60 (l ++ [nonce, r.1]))
    else (Config.spdmMessage 0x60 l, s)

/-- The answer to a request that is not a chunk request. [PRESUMED: log entry 8] -/
def State.spdmPlain (s : State) (r : SpdmReq) : List Byte × State :=
  let k := s.sec.spdm
  let a (i : Nat) : Nat := r.args.getD i 0
  let early := (decide (r.op = 1) && decide (k.stage < 1)) || (decide (r.op = 2) && decide (k.stage < 2))
    || (decide (3 ≤ r.op) && decide (k.stage < 3))
  if early then (spdmError 4, s)
  else match r.op with
  | 0 => (Config.spdmMessage 0x04 [[0x13]], s.modSpdm (fun k => { k.disconnect with stage := 1 }))
  | 1 => (Config.spdmMessage 0x61 [toBytes 1 15, toBytes 4 (spdmTransfer r.tr), toBytes 4 65536],
          s.modSpdm (fun k => { k with stage := max k.stage 2 }))
  | 2 => (Config.spdmMessage 0x63 [], s.modSpdm (fun k => { k with stage := 3 }))
  | 3 => (Config.spdmMessage 0x01 [Config.sha384 (chainOf 0), Config.sha384 (chainOf 1)], s)
  | 4 =>
    if 2 ≤ a 0 then (spdmError 1, s)
    else
      let c := chainOf (a 0)
      let part := slice (a 1) (a 2) c
      (Config.spdmMessage 0x02 [part, toBytes 4 (c.length - (a 1 + part.length))], s)
  | 5 => s.spdmChallenge (a 0) r.data
  | 6 => s.spdmMeasure (a 0) (decide (a 1 = 1)) r.data
  | 7 =>
    let f := s.takeBytes 96
    (Config.spdmMessage 0x64 [f.1, Config.rsaSign f.2.free (r.data ++ f.1)],
      { f.2.modSpdm (fun k => { k with session := 1 }) with free := f.2.free + 1 })
  | 8 => if k.session = 1 then (Config.spdmMessage 0x65 [], s.modSpdm (fun k => { k with session := 2 })) else (spdmError 4, s)
  | 9 => if k.session = 2 then (Config.spdmMessage 0x68 [], s) else (spdmError 4, s)
  | 10 => if k.session = 2 then (Config.spdmMessage 0x69 [r.data], s) else (spdmError 4, s)
  | 11 => if k.session = 2 then (Config.spdmMessage 0x6C [], s.modSpdm (fun k => { k with session := 0 })) else (spdmError 4, s)
  | 14 =>
    match k.signed with
    | some m => (Config.spdmMessage 0x7E [Config.slhSign s.free m], { s with free := s.free + 1 })
    | none => (spdmError 1, s)
  | _ => (spdmError 7, s)

/-- The answer to any request: CHUNK_SEND collects a large request and answers its last chunk with the request's own answer;
CHUNK_GET reads a large response piece by piece. [PRESUMED: log entry 8] -/
def State.spdmAnswer (s : State) (r : SpdmReq) : List Byte × State :=
  if r.op = 12 then
    let all := s.sec.spdm.chunks ++ r.data
    if r.args.getD 0 0 = 1 then
      let d := Config.spdmDecode all
      let u := (s.modSpdm (fun k => { k with chunks := [] })).spdmPlain ⟨r.tr, d.1, d.2.1, d.2.2⟩
      (Config.spdmMessage 0x05 [u.1], u.2)
    else (Config.spdmMessage 0x05 [], s.modSpdm (fun k => { k with chunks := all }))
  else if r.op = 13 then
    if s.sec.spdm.large.isEmpty then (spdmError 1, s)
    else (Config.spdmMessage 0x06 [slice (r.args.getD 0 0 * spdmTransfer r.tr) (spdmTransfer r.tr) s.sec.spdm.large], s)
  else s.spdmPlain r

/-- A response leaves by the transport of its request. [PRESUMED: log entry 8] -/
def State.spdmDeliver (s : State) (tr : Nat) (m : List Byte) : State :=
  if tr = 0 then s.modSpdm (fun k => { k with rx := padTo 4096 (toBytes 4 (min m.length 4092) ++ m.take 4092), status := 2 })
  else (s.emit (.doe m)).raise 0

/-- Keystone finishes the request at the front. GET_PQ_SIGNATURE is answered by ResponseNotReady first, and a response too
long for its transport by LargeResponse. -/
def State.spdmReady (s : State) : State :=
  match s.sec.spdm.queue with
  | [] => s
  | r :: rest =>
    if r.op = 14 && !s.sec.spdm.deferred && s.sec.spdm.signed.isSome then
      (s.modSpdm (fun k => { k with deferred := true })).spdmDeliver r.tr (spdmError 0x42)
    else
      let s := s.modSpdm (fun k => { k with queue := rest, deferred := false })
      let u := s.spdmAnswer r
      if spdmTransfer r.tr < u.1.length && r.op ≠ 13 then
        (u.2.modSpdm (fun k => { k with large := u.1 })).spdmDeliver r.tr (spdmError 0x0F)
      else u.2.spdmDeliver r.tr u.1

/-- A request on a transport, where it may be made: the module is ACTIVE, the management port is not BUSY, the DOE mailbox
has its link. -/
def State.spdmRequest (s : State) (tr op : Nat) (args : List Nat) (data : List Byte) : State :=
  let ok := if tr = 0 then decide (s.sec.spdm.status ≠ 1) else decide (tr = 1) && s.host.linkUp
  if s.power.state = .active && ok then s.spdmReceive ⟨tr, op, args, data⟩ else s

/-- SPDM_TX: length 1 to 4,092, message, zero padding: the result code and the state (19 R634). -/
def State.spdmTx (s : State) (d : List Byte) : Nat × State :=
  let n := fieldAt 0 4 d
  if s.sec.spdm.status = 1 then (2, s)
  else if n = 0 || 4092 < n || !zeroAt (4 + n) 4096 d then (3, s)
  else
    let m := Config.spdmDecode (slice 4 n d)
    (0, s.spdmReceive ⟨0, m.1, m.2.1, m.2.2⟩)

/-! ## Rows -/

/-- DOE_DISCOVERY: the protocol of an index: 0 Discovery, 1 CMA/SPDM, 2 Secured CMA/SPDM (16 R553). -/
def execDoeDiscovery (index : Nat) (s : State) : Host.Outcome State Fault Refusal :=
  .next (if s.power.state = .active && s.host.linkUp then
      (s.emit (.doe (toBytes 1 (min index 3) ++ toBytes 1 (if index < 2 then index + 1 else 0)))).raise 0
    else s)
/-- GET_VERSION. -/
def execGetVersion (tr : Nat) (s : State) : Host.Outcome State Fault Refusal := .next (s.spdmRequest tr 0 [] [])
/-- GET_CAPABILITIES. -/
def execGetCapabilities (tr : Nat) (s : State) : Host.Outcome State Fault Refusal := .next (s.spdmRequest tr 1 [] [])
/-- NEGOTIATE_ALGORITHMS. -/
def execNegotiateAlgorithms (tr : Nat) (s : State) : Host.Outcome State Fault Refusal := .next (s.spdmRequest tr 2 [] [])
/-- GET_DIGESTS. -/
def execGetDigests (tr : Nat) (s : State) : Host.Outcome State Fault Refusal := .next (s.spdmRequest tr 3 [] [])
/-- GET_CERTIFICATE. -/
def execGetCertificate (tr slot off len : Nat) (s : State) : Host.Outcome State Fault Refusal :=
  .next (s.spdmRequest tr 4 [slot, off, len] [])
/-- CHALLENGE. -/
def execChallenge (tr slot : Nat) (nonce : List Byte) (s : State) : Host.Outcome State Fault Refusal :=
  .next (s.spdmRequest tr 5 [slot] nonce)
/-- GET_MEASUREMENTS. -/
def execGetMeasurements (tr index : Nat) (sign : Bool) (nonce : List Byte) (s : State) : Host.Outcome State Fault Refusal :=
  .next (s.spdmRequest tr 6 [index, b2n sign] nonce)
/-- KEY_EXCHANGE. -/
def execKeyExchange (tr : Nat) (data : List Byte) (s : State) : Host.Outcome State Fault Refusal := .next (s.spdmRequest tr 7 [] data)
/-- FINISH. -/
def execFinish (tr : Nat) (data : List Byte) (s : State) : Host.Outcome State Fault Refusal := .next (s.spdmRequest tr 8 [] data)
/-- SPDM_HEARTBEAT. -/
def execSpdmHeartbeat (tr : Nat) (s : State) : Host.Outcome State Fault Refusal := .next (s.spdmRequest tr 9 [] [])
/-- KEY_UPDATE. -/
def execKeyUpdate (tr : Nat) (data : List Byte) (s : State) : Host.Outcome State Fault Refusal := .next (s.spdmRequest tr 10 [] data)
/-- END_SESSION. -/
def execEndSession (tr : Nat) (s : State) : Host.Outcome State Fault Refusal := .next (s.spdmRequest tr 11 [] [])
/-- CHUNK_SEND. -/
def execChunkSend (tr : Nat) (last : Bool) (data : List Byte) (s : State) : Host.Outcome State Fault Refusal :=
  .next (s.spdmRequest tr 12 [b2n last] data)
/-- CHUNK_GET. -/
def execChunkGet (tr seq : Nat) (s : State) : Host.Outcome State Fault Refusal := .next (s.spdmRequest tr 13 [seq] [])
/-- GET_PQ_SIGNATURE. -/
def execGetPqSignature (tr : Nat) (s : State) : Host.Outcome State Fault Refusal := .next (s.spdmRequest tr 14 [] [])
/-- SPDM_RESPONSE_READY. -/
def execSpdmResponseReady (s : State) : Host.Outcome State Fault Refusal := .next s.spdmReady

end Sys2Proof.Machine
end

