-- ==== Sys2Proof/Machine/Dict.lean ====
section
/-! DEFINITION. The dictionary engine: what every object reads as, how every write is checked and applied, count-limited
writes and the fuse log, and the outcome told to each transport (00 R12 to R17, 18 R596 to R609). -/

namespace Sys2Proof.Machine

/-! ## Which object (18 R596 to R602) -/

/-- The TOLLHOUSE flag (18 R602). -/
def tollhouse (idx sub : Nat) : Bool :=
  decide (0x1000 ≤ idx && idx < 0x3000) || (decide (idx = 0x7800) && decide (1 ≤ sub && sub ≤ 4))
    || decide (0xA010 ≤ idx && idx ≤ 0xA013)

/-- The row of subindex 0 of an index with subentries, and of a remaining count: UNSIGNED8 RO (18 R597, R604). -/
def plainRow (idx sub : Nat) : OdRow :=
  ⟨idx, idx, sub, sub, 1, 1, .ro, false, false, none, none, none, 0, 1, .plain, ""⟩

/-- The object at an index and subindex: of a table, a highest subindex, or a remaining count (18 R597, R604). -/
def objectAt (idx sub : Nat) : Option OdRow :=
  match odRow idx sub with
  | some r => some r
  | none =>
    if sub = 0 && odMaxSub idx ≠ 0 then some (plainRow idx 0)
    else if sub = 0xFF && fuseAllowed idx ≠ 0 then some (plainRow idx 0xFF)
    else none

/-- The Pier and the number that a select's value names: bits below `w` and bit `w`. -/
def selPair (w v : Nat) : Nat × Nat := (bits w w v, v % 2 ^ w)

/-- Value of a select on a transport; MEAS_SELECT starts at 1. -/
def State.select (s : State) (tr idx : Nat) : Nat :=
  let v := s.selv tr idx
  if idx = 0xA004 then max v 1 else v

/-- Instance of a governed object as the transport's selects choose it: the number its value is kept under (18 R599). -/
def State.instOf (s : State) (tr idx : Nat) : Nat :=
  match idx with
  | 0x3011 => let v := s.select tr 0x3010; bits 4 4 v * 16 + bits 3 0 v
  | 0x3021 => let v := selPair 8 (s.select tr 0x3020); v.1 * 256 + v.2
  | 0x3831 => ledgerInst (s.select tr 0x3802) (s.select tr 0x3800)
  | 0x6011 => s.select tr 0x6010
  | 0x6014 => s.select tr 0x6013
  | 0xF101 => let v := selPair 5 (s.select tr 0xF100); eInst v.1 v.2
  | 0xF111 => let v := selPair 5 (s.select tr 0xF110); eInst v.1 v.2
  | 0xF121 => let v := selPair 7 (s.select tr 0xF120); qInst v.1 v.2
  | _ => 0

/-- Objects with one subentry for each Pier. -/
def perPierSub (idx : Nat) : Bool :=
  [0x3018, 0x3019, 0x301A, 0x301B, 0x301C, 0x301D, 0x3022, 0x4020, 0x4021, 0x4022, 0x5000, 0x5006, 0x5020, 0x5021, 0x5022, 0x5040,
   0x5800, 0x5807, 0x5820, 0x5821, 0x5822, 0xF123, 0xF124, 0xF125, 0xF126, 0xF127, 0xF12B].contains idx

/-- The Pier on which a value lies, if on one (18 R602). The Abutment is Pier 0's (17 R588). -/
def State.pierOf (s : State) (tr idx sub : Nat) : Option Nat :=
  if sub = 0 && odMaxSub idx ≠ 0 then none
  else if perPierSub idx then some (sub - 1)
  else match idx with
  | 0x5010 => some 0 | 0x5011 => some 1 | 0x5050 => some 0 | 0x5051 => some 1 | 0x5810 => some 0 | 0x5811 => some 1
  | 0x6041 => some 0 | 0x6042 => some 1 | 0x4040 => some 0 | 0x4041 => some 1
  | 0x3011 => some (bits 4 4 (s.select tr 0x3010))
  | 0x3021 => some (bits 8 8 (s.select tr 0x3020))
  | 0x4031 => some (bits 16 16 (s.select tr 0x4030))
  | 0x5031 => some (bits 6 6 (s.select tr 0x5030))
  | 0x5809 => some (bits 12 12 (s.select tr 0x5808))
  | 0xF101 => some (bits 5 5 (s.select tr 0xF100))
  | 0xF111 => some (bits 5 5 (s.select tr 0xF110))
  | 0xF121 => some (bits 7 7 (s.select tr 0xF120))
  | 0xF129 => some (bits 10 10 (s.select tr 0xF128))
  | 0xF12A => some ((sub - 1) / 8)
  | i => if 0x7801 ≤ i && i ≤ 0x7822 then some 0 else none

/-! ## Reads -/

/-- POWER_STATE (Table 17-15). -/
def PowerState.code : PowerState → Nat
  | .toll => 0 | .standby => 1 | .waking => 2 | .active => 3 | .moduleReset => 4

/-- CAN_STATE (Table 18-12). -/
def CanMode.code : CanMode → Nat
  | .errorActive => 0 | .errorPassive => 1 | .busOff => 2 | .listenOnly => 3 | .silent => 4

/-- LINK_STATE (14 R507). -/
def LinkState.code : LinkState → Nat
  | .disabled => 0 | .down => 1 | .training => 2 | .active => 3 | .selftest => 4 | .failed => 5

/-- CLUSTER_STATE: RUN where an engine of the running cluster is out of GATED and its clock runs (Table 17-15, 04 R145).
[DEDUCED: log entry 68] -/
def State.clusterCode (s : State) (c : Nat) : Nat :=
  let stopped := !s.clockRuns (c / 4) (c % 4 * 8)
  match s.cluster c with
  | .run => if s.clusterGated c || stopped then 1 else 0
  | .gated => if stopped || (List.range 8).all (fun k => let i := c % 4 * 8 + k
      decide (s.engine (c / 4) i false = .gated) && decide (s.engine (c / 4) i true = .gated)) then 1 else 0
  | .parked => 2 | .retain => 3 | .off => 4 | .restoring => 5

/-- HOST_LINK_STATUS (Table 16-13, 16 R534). -/
def HostSt.linkStatus (h : HostSt) : Nat :=
  if h.linkUp then
    h.rate % 8 + h.width % 32 * 8 + b2n h.cxlMode * 256 + b2n (decide (h.rate < 5) || decide (h.width < 16)) * 512 + 1024
  else 0

/-- ACCESS of R598. -/
def Acc.code : Acc → Nat
  | .ro => 0 | .rw => 1 | .wo => 2 | .rwc => 3 | .rws => 4

/-- A bound or default in 64 bits; all ones where there is none (18 R598). -/
def bound64 (v : Option Int) : Nat := match v with | some x => ofSigned 64 x | none => 2 ^ 64 - 1

/-- The default in 64 bits: zero-extended, sign-extended for INTEGER types. -/
def OdRow.default64 (r : OdRow) : Nat :=
  match r.dflt with
  | none => 2 ^ 64 - 1
  | some v => if 5 ≤ r.ty && r.ty ≤ 7 then ofSigned 64 (toSigned (8 * r.size) v) else v % 2 ^ 64

/-- A description subentry of the object that DESCRIBE_SELECT names (18 R598). -/
def State.describe (s : State) (tr sub : Nat) : List Byte :=
  let v := s.select tr 0x1020
  let idx := bits 15 0 v
  let ss := bits 23 16 v
  let n := match sub with | 1 => 1 | 2 => 1 | 3 => 1 | 4 => 4 | 8 => 24 | _ => 8
  match objectAt idx ss with
  | none => List.replicate n 0
  | some r =>
    match sub with
    | 1 => toBytes 1 r.ty
    | 2 => toBytes 1 r.acc.code
    | 3 => toBytes 1 (b2n r.env + 2 * b2n r.perTransport + 4 * b2n (tollhouse idx ss))
    | 4 => toBytes 4 r.size
    | 5 => toBytes 8 r.default64
    | 6 => toBytes 8 (bound64 r.lo)
    | 7 => toBytes 8 (bound64 r.hi)
    | _ => (padTo 24 (r.unit.toUTF8.toList.map (fun b => BitVec.ofNat 8 b.toNat))).take 24

/-- The visit record of the expert that VISIT_SELECT names, in its committed state (10 R369). -/
def State.visitRecord (s : State) (tr : Nat) : Option Nat :=
  let v := s.select tr 0x5044
  let c := s.updObjects
  let mine := (List.range c.count).find? (fun t =>
    let r := s.rawTensor c t
    let b := s.bucketRaw (tnBucketPier r) (tnBucket r)
    tnExpert r && bkExpert b && decide (bkLayer b = bits 15 0 v) && decide (bkExpertIx b = bits 27 16 v))
  match mine with
  | none => none
  | some t =>
    let r := s.rawTensor c t
    (s.committedBank (tnState r) (tnFallback r)).map (fun b => s.num (pkey spSlow (tnState r + 64 * b)) 64)

/-- A subentry of the visit record; all ones where the module holds none. -/
def State.visitRead (s : State) (tr sub : Nat) : Nat :=
  match s.visitRecord tr with
  | none => 2 ^ 64 - 1
  | some b => match sub with
    | 1 => blkLast b | 2 => blkVstep b | 3 => rawField b 20 4 | _ => blkTokens b

/-- A subentry of the live-batch entry that LIVE_SELECT names. -/
def State.liveRead (s : State) (tr sub : Nat) : Nat :=
  let v := selPair 6 (s.select tr 0x5030)
  let e := s.liveAt v.1 v.2
  match sub with
  | 1 => (match e.st with | .free => 0 | .live => 1 | .quiet => 2)
  | 2 => e.gen
  | 3 => e.expected
  | _ => e.arrived

/-- A subentry of the bucket that BUCKET_SELECT names. -/
def State.bucketRead (s : State) (tr sub : Nat) : Nat :=
  let v := selPair 12 (s.select tr 0x5808)
  let a := s.bucketAddr v.1 v.2
  match sub with
  | 1 => s.num (a + 100) 1 | 2 => s.num (a + 108) 4 | 3 => s.num (a + 101) 1 % 16 | 4 => s.num (a + 112) 8 | _ => s.num (a + 8) 2

/-- A subentry of the watch set that WATCH_SELECT names: its SILENT state, LAST, or OPEN. While a bank waits to close, OPEN is
the bank of the step that runs (03 R90). [DESIGN CHOICE: log entry 77] -/
def State.watchRead (s : State) (tr sub : Nat) : Nat :=
  let v := s.select tr 0x4030
  let p := bits 16 16 v
  let id := bits 15 0 v
  if sub = 16 then s.watchGet p wbSilent id 0
  else if sub = 17 then s.watchGet p wbSilent id 1
  else s.watchGet p (if bits 17 17 v = 0 then wbGen (s.pier p).watchGen else wbLast) id (sub - 1)

/-- A subentry of the queue that QUEUE_SELECT names. -/
def State.queueRead (s : State) (tr sub : Nat) : Nat :=
  let v := selPair 7 (s.select tr 0xF120)
  let u := s.queue v.1 v.2
  match sub with
  | 1 => u.stateCode | 2 => u.pc | 3 => u.sc1 | 4 => u.sc2 | 6 => u.flights.length
  | k => s.odv (qInst v.1 v.2) 0xF121 k

/-- A subentry of the port that PORT_SELECT names. -/
def State.portRead (s : State) (tr sub : Nat) : Nat :=
  let k := s.select tr 0x6010
  let q := s.port k
  match sub with
  | 1 => q.st.code | 2 => q.cause | 3 => (if q.st = .active then q.peer else 0xFFFF)
  | n => s.odv k 0x6011 n

/-- A subentry of the power record that POWER_EVENT_SELECT names (17 R595). -/
def State.recordRead (s : State) (tr sub : Nat) : Nat :=
  match s.power.record (s.select tr 0x2041) with
  | none => 0
  | some r => match sub with
    | 1 => r.epoch | 2 => r.key | 3 => r.event | 4 => r.data0 | _ => r.data1

/-- What an object of a number type reads as. -/
def State.odNumber (s : State) (tr idx sub : Nat) (r : OdRow) : Nat :=
  match idx with
  | 0x1002 => Config.serialNumber.toNat
  | 0x1010 => s.can.nodeId
  | 0x1011 => s.can.mode.code
  | 0x1013 => (match sub with | 1 => s.can.txErrors | 2 => s.can.rxErrors | k => s.odv 0 0x1013 k)
  | 0x1040 => s.fuses.length
  | 0x2000 => s.power.state.code
  | 0x2004 => (match sub with | 1 => s.power.millivolts | 2 => s.power.milliamps | 3 => s.power.watts | k => s.odv 0 0x2004 k)
  | 0x2015 => s.power.pLevel
  | 0x2016 => max s.power.pLevel (Tab.get 0 s.power.tLevel (sub - 1))
  | 0x2025 => s.clusterCode (sub - 1)
  | 0x2031 => ofSigned 16 (s.temp (s.select tr 0x2030))
  | 0x2040 => s.power.logSeq
  | 0x2042 => s.recordRead tr sub
  | 0x301B => s.pinnedLines (sub - 1)
  | 0x3801 => s.level (s.select tr 0x3800)
  | 0x3820 => s.quotaOf (sub - 1) (s.select tr 0x3800)
  | 0x3831 => (match sub with
      | 4 => s.sharePpm (s.select tr 0x3802) (s.select tr 0x3800)
      | k => s.odv (s.instOf tr 0x3831) 0x3831 k)
  | 0x4031 => s.watchRead tr sub
  | 0x5031 => s.liveRead tr sub
  | 0x5045 => s.visitRead tr sub
  | 0x5805 => s.rbufInUse
  | 0x5809 => s.bucketRead tr sub
  | 0x6003 => s.moduleId
  | 0x6011 => s.portRead tr sub
  | 0x7020 => s.upd.st.code
  | 0x7800 => readRecord s.commit.record sub
  | 0x780F => (let h := s.rawHdr
      match sub with | 1 => h.mstate | 2 => h.sealed' | 3 => h.epoch | 4 => h.attempt | _ => h.owner)
  | 0x8000 => s.host.linkStatus
  | 0xA001 => s.sec.status
  | 0xA002 => imageSvn (s.sec.image (sub - 1))
  | 0xA003 => fieldAt 16 8 (s.sec.image (sub - 1))
  | 0xA022 => s.debugState
  | 0xA032 => s.sec.spdm.status
  | 0xA0F2 => (s.staging (sub - 1)).status
  | 0xA0F3 => if (s.staging (sub - 1)).status = 3 then (s.staging (sub - 1)).ref else 0
  | 0xF121 => s.queueRead tr sub
  | 0xF126 => s.trackerUse (sub - 1)
  | 0xF129 => (let v := selPair 10 (s.select tr 0xF128); s.counter v.1 v.2)
  | 0xF12A => (s.pier ((sub - 1) / 8)).flags / 2 ^ (32 * ((sub - 1) % 8)) % 2 ^ 32
  | _ =>
    if r.perTransport then s.select tr idx
    else if r.env then s.accepted (s.instOf tr idx) idx sub
    else s.odv (s.instOf tr idx) idx sub

/-- The bytes an object reads as. -/
def State.odBytes (s : State) (tr idx sub : Nat) (r : OdRow) : List Byte :=
  if sub = 0 && odMaxSub idx ≠ 0 then toBytes 1 (odMaxSub idx)
  else if sub = 0xFF && fuseAllowed idx ≠ 0 then toBytes 1 (s.fuseLeft idx)
  else match idx with
  | 0x1021 => s.describe tr sub
  | 0x1031 => (padTo 16 s.can.lastAlert).take 16
  | 0x1042 => s.fuseBytes (s.select tr 0x1041)
  | 0xA000 => (padTo 48 (Config.sha384 (Config.identity (sub - 1)))).take 48
  | 0xA005 => (padTo 48 (s.measurement (s.select tr 0xA004))).take 48
  | 0xA031 => (padTo 4096 s.sec.spdm.rx).take 4096
  | 0xA0F4 => (padTo 32 (s.staging (sub - 1)).nonce).take 32
  | _ => toBytes r.size (s.odNumber tr idx sub r)

/-! ## Value checks (code 0x03 of R603) -/

/-- Two areas of a tier share a byte. -/
def overlap (b z b' z' : Nat) : Bool := decide (z ≠ 0) && decide (z' ≠ 0) && decide (b < b' + z') && decide (b' < b + z)

/-- The check kinds of the rows (18 R596 and the domains of the tables). [DEDUCED: log entry 58] -/
def checkValue (k : OdCheck) (v : Nat) : Bool :=
  match k with
  | .plain => true
  | .bucketCtl => (decide (bits 14 13 v = 1) || decide (bits 14 13 v = 2)) && decide (v < 2 ^ 15)
  | .gclip => decide (v < 0x7F800000)
  | .girderCtl => decide (bits 6 0 v = 1) || decide (bits 6 0 v = 2)
  | .heartbeat => decide (v = 0) || decide (10 ≤ v && v ≤ 10000)
  | .laneSel => decide (bits 6 4 v < 6) && decide (v < 128)
  | .memSel => decide (bits 3 0 v < 10) && decide (v < 32)
  | .origin => originOk v
  | .portCtl => decide (v % 8 < 6) && decide (1 ≤ v / 8 && v / 8 ≤ 3)
  | .pow2 => decide (2 ^ Nat.log2 v = v)
  | .queueSel => decide (v % 128 < 82)
  | .region0 => decide (v < fastSize)
  | .resetCtl => decide (1 ≤ bits 2 0 v && bits 2 0 v ≤ 4) && decide (bits 9 3 v < 50) && decide (v < 2 ^ 11)
  | .skipDecay => decide (v < 3)
  | .zeroOnly => decide (v = 0)

/-- A value lies in the domain of its row. -/
def OdRow.inDomain (r : OdRow) (v : Nat) : Bool :=
  let x : Int := if 5 ≤ r.ty && r.ty ≤ 7 then toSigned (8 * r.size) v else v
  (match r.lo with | some l => decide (l ≤ x) | none => true) && (match r.hi with | some h => decide (x ≤ h) | none => true)
    && (decide (r.mask = 0) || decide (v ||| r.mask = r.mask)) && decide (v % r.align = 0) && checkValue r.check v

/-- The four areas of the slow tier with one value replaced (12 R417). [DEDUCED: log entry 58] -/
def State.areaOk (s : State) (idx sub v : Nat) : Bool :=
  let area (k : Nat) : Nat × Nat :=
    let at' (n : Nat) : Nat := if 0x7000 + k = idx && sub = n then v else s.odv 0 (0x7000 + k) n
    (at' 1, at' 2)
  let mine := area (idx - 0x7000)
  (decide (mine.1 + mine.2 ≤ slowSize))
    && (List.range 4).all (fun k => decide (0x7000 + k = idx) || !overlap mine.1 mine.2 (area k).1 (area k).2)

/-- Constraints on a value together with other objects, for objects that no operation checks itself.
[DEDUCED: log entries 45, 58] -/
def State.valueFits (s : State) (idx sub v : Nat) : Bool :=
  match idx with
  | 0x4014 => decide (toSigned 8 v ≤ toSigned 8 (s.accepted 0 0x4015 0))
  | 0x4015 => decide (toSigned 8 (s.accepted 0 0x4014 0) ≤ toSigned 8 v)
  | 0x6000 => if v = 1 then decide (s.odv 0 0x6002 1 ≤ 6) else decide (s.odv 0 0x6002 1 < s.odv 0 0x6001 1)
  | 0x6001 => decide (s.odv 0 0x6002 sub < v) || (decide (sub = 1) && s.group7)
  | 0x6002 => if s.group7 && sub = 1 then decide (v ≤ 6) else decide (v < s.odv 0 0x6001 sub)
  | 0x7000 => s.areaOk idx sub v
  | 0x7001 => s.areaOk idx sub v
  | 0x7002 => s.areaOk idx sub v
  | 0x7003 => s.areaOk idx sub v
  | 0x700A => decide (s.odv 0 0x7009 0 + 2 ≤ v) && decide ((v - s.odv 0 0x7009 0) % 2 = 0)
  | 0x780A => decide ((if sub = 1 then v + s.odv 0 0x780A 2 else s.odv 0 0x780A 1 + v) ≤ fastSize)
  | i =>
    if 0x3810 ≤ i && i ≤ 0x3815 then
      match sub with
      | 1 => decide (v < s.odv 0 i 2)
      | 2 => decide (max (s.odv 0 i 1) (s.accepted 0 i 1) < v)
      | 4 => decide (v ≤ s.accepted 0 i 5)
      | 5 => decide (s.accepted 0 i 4 ≤ v)
      | _ => true
    else true

/-- A count-limited value is accepted (Table 18-5, 19 R631). -/
def State.fuseFits (s : State) (idx v : Nat) : Bool :=
  match idx with
  | 0xA010 => decide (v ≠ 0)
  | 0xA011 => decide (s.odv 0 0xA011 0 < v) && decide (v ≤ s.runningSvn)
  | 0xA012 => decide (v ≠ 0) && decide (v ≠ s.odv 0 0xA012 0)
  | _ => decide (v = 1)

/-! ## State checks (code 0x02 of R603) -/

/-- A port is TRAINING, ACTIVE or in SELFTEST. -/
def State.portBusy (s : State) : Bool :=
  (List.range 6).any (fun k => match (s.port k).st with
    | .training => true | .active => true | .selftest => true | _ => false)

/-- Every queue of both Piers is IDLE or DONE (16 R557). -/
def State.queuesFree (s : State) : Bool :=
  [0, 1].all (fun p => (s.pier p).queues.all (fun e => decide (e.2.st = .idle) || decide (e.2.st = .done)))

/-- The state of the module or of a block lets an object be written. [DEDUCED: log entry 58] -/
def State.writable (s : State) (idx sub v : Nat) : Bool :=
  match idx with
  | 0x5006 => (s.queue (sub - 1) 80).flights.isEmpty
  | 0x5807 => (List.range (s.bucketCount (sub - 1))).all (fun b => decide (s.bucketState (sub - 1) b ≠ bkOpen))
  | 0x6000 => !s.portBusy
  | 0x6001 => !s.portBusy
  | 0x6002 => !s.portBusy
  | 0x7000 => decide (s.upd.st = .idle)
  | 0x7001 => decide (s.upd.st = .idle) && !bit 1 s.host.hdmCommitted
  | 0x7002 => decide (s.upd.st = .idle) && !bit 0 s.host.hdmCommitted
  | 0x7003 => decide (s.upd.st = .idle)
  | 0x7811 => decide (s.commit.pstate = .empty) || decide (s.commit.pstate = .idle) || decide (s.commit.pstate = .invalid)
  | 0x8001 => s.queuesFree
  | 0xA010 => decide (s.odv 0 0xA010 0 = 0) || decide (s.odv 0 0xA020 0 ≠ 0 && s.odv 0 0xA020 0 = v)
  | 0xA021 => decide (s.odv 0 0xA013 0 = 0)
  | i => if 0x7801 ≤ i && i ≤ 0x780D && i ≠ 0x780C then decide (s.commit.pstate = .idle) else true

/-- The Pier that the value of a control write names. -/
def ctlPier (idx v : Nat) : Option Nat :=
  match idx with
  | 0x3009 => some (bits 7 7 v)
  | 0x5806 => some (bits 12 12 v)
  | _ => none

/-- Access and availability of an object on a transport (18 R602, R608; 19 R634). [DEDUCED: log entry 48] -/
def State.reachable (s : State) (a : Access) (r : OdRow) : Bool :=
  let v := ofBytes (a.data.take r.size)
  let down (p : Option Nat) : Bool := match p with | some p => (s.pier p).inReset | none => false
  (match r.acc with | .ro => !a.write | _ => true)
    && (decide (s.power.state = .active) || (tollhouse a.idx a.sub && !(a.write && decide (r.acc = .rwc))))
    && (tollhouse a.idx a.sub || !down (s.pierOf a.tr a.idx a.sub)) && !(a.write && down (ctlPier a.idx v))
    && !((a.idx = 0xA030 || a.idx = 0xA031) && decide (a.tr ≠ 0))
    && !(a.write && (a.idx = 0xA0F0 || a.idx = 0xA0F1) && decide (a.sub ≠ a.tr + 1))
    && (!a.write || s.writable a.idx a.sub v)

/-! ## Writes -/

/-- COMMIT_CONTROL (Table 13-14). -/
def State.commitControl (s : State) (v : Nat) : Nat × State :=
  match v with
  | 1 => s.abandonCommand
  | 2 => s.abandonUpdate
  | 3 => s.inject
  | 4 => s.restore
  | 5 => s.reseed
  | 6 => s.mseal
  | _ => s.attemptReset

/-- POWER_CONTROL (Table 17-15). -/
def State.powerControl (s : State) (v : Nat) : Nat × State :=
  match v with
  | 1 => (0, s.wake)
  | 2 => s.standby
  | _ => s.toll

/-- Keep a value: a select's for its transport, an envelope's until the next boundary, the power cap and the temperature limits at
once (01 R29, 17 R594), any other in effect. -/
def State.keep (s : State) (tr idx sub v : Nat) (r : OdRow) : State :=
  if r.perTransport then { s with sel := Tab.set 0 s.sel (tr * 2 ^ 24 + idx * 256) v }
  else if r.env && !(idx = 0x2010 || (decide (0x2012 ≤ idx) && decide (idx ≤ 0x2014))) then
    { s with env := Tab.set none s.env (odk 0 idx sub) (some v) }
  else s.setOd (s.instOf tr idx) idx sub v

/-- Flags 32k to 32k + 31 of Pier p take the bits of a value. -/
def State.writeFlags (s : State) (p k v : Nat) : State :=
  (List.range 32).foldl (fun s i => s.setFlag p (32 * k + i) (bit i v)) s

/-- The ring whose tail an object holds. -/
def tailRing (idx sub : Nat) : Option Ring :=
  match idx with
  | 0x4021 => some (.watch (sub - 1)) | 0xF124 => some (.fault (sub - 1)) | 0x5021 => some (.trestle (sub - 1))
  | 0x5821 => some (.red (sub - 1)) | 0x3851 => some .arb | 0x7031 => some .ilben | 0x7821 => some .commit
  | _ => none

/-- A write whose checks have passed up to the value's domain: the result code and the state. -/
def State.apply (s : State) (tr idx sub : Nat) (data : List Byte) (r : OdRow) : Nat × State :=
  let v := ofBytes data
  match tailRing idx sub with
  | some g => (0, s.ringTail g v)
  | none =>
    match idx with
    | 0x2001 => s.powerControl v
    | 0x2003 => s.resetControl v
    | 0x3009 => (0, if bits 6 0 v = 1 then s.unpin (bits 7 7 v) else s.writeBackAll (bits 7 7 v))
    | 0x3021 => s.guardWrite (s.instOf tr 0x3021) sub v
    | 0x3801 => s.priorityWrite (s.select tr 0x3800) v
    | 0x3832 => (0, s.ledgerClear)
    | 0x5801 => s.layoutWrite v
    | 0x5806 => if bits 14 13 v = 1 then s.releaseBucket (bits 12 12 v) (bits 11 0 v) else (0, s.releaseAll (bits 12 12 v))
    | 0x6004 => (0, s.portEnable v)
    | 0x6012 => (0, s.portCommand (v % 8) (v / 8))
    | 0x780E => s.commitControl v
    | 0x8001 => (0, (s.keep tr idx sub v r).lastImages (sub - 1) (s.bankSets (sub - 1) wbLast))
    | 0xA021 => (0, ({ s with sec := { s.sec with debugOpen := true } }.setOd 0 0xA021 0 v).markFaulted)
    | 0xA030 => s.spdmTx data
    | 0xA0F0 => s.tokenStage tr data
    | 0xA0F1 => if v = 1 then (0, s.tokenBegin tr) else s.tokenSeal tr
    | 0xF129 => (let c := selPair 10 (s.select tr 0xF128); (0, s.setCounter c.1 c.2 v))
    | 0xF12A => (0, s.writeFlags ((sub - 1) / 8) ((sub - 1) % 8) v)
    | _ => if s.valueFits idx sub v then (0, s.keep tr idx sub v r) else (3, s)

/-! ## The engine (18 R601 to R607) -/

/-- The mailbox timestamp: the one set, and a free number of nanoseconds since; zero where none has been set (18 Table 18-6).
[DESIGN CHOICE: log entry 54] -/
def State.now (s : State) : Nat × State :=
  match s.host.timestamp with
  | none => (0, s)
  | some t => let f := s.takeFree 64; ((t + f.1) % 2 ^ 64, f.2)

/-- Start a count-limited write: the entry is programmed INCOMPLETE, and the engine serves nothing else until it completes
(18 R606). [DEDUCED: log entry 60] -/
def State.fuseStart (s : State) (a : Access) : State :=
  let ts := s.now
  let e : FuseEntry := ⟨false, a.idx, a.tr, s.fuseLeft a.idx - 1, s.commit.committed, ts.1, a.data⟩
  let s := ts.2
  { s with fuses := s.fuses ++ [e], dict := { s.dict with busy := some a } }

/-- The checks of a write in the order of R603, and its effect: the result code, the state, and whether the outcome is fixed.
[DEDUCED: log entry 58] -/
def State.odWrite (s : State) (a : Access) : Nat × State × Bool :=
  match objectAt a.idx a.sub with
  | none => (1, s, true)
  | some r =>
    let v := ofBytes a.data
    if a.off ≠ 0 || a.data.length ≠ r.size then (6, s, true)
    else if !s.reachable a r then (2, s, true)
    else if r.acc = .rwc then
      if s.fuseLeft a.idx = 0 then (4, s, true)
      else if !s.fuseFits a.idx v then (3, s, true)
      else (0, s.fuseStart a, false)
    else if r.acc = .rws && !s.tokenAllows a.tr a.ref a.idx a.sub a.data then (5, s, true)
    else if !r.inDomain v then (3, s, true)
    else
      let x := s.apply a.tr a.idx a.sub a.data r
      if x.1 ≠ 0 then (x.1, s, true)
      else (0, if r.acc = .rws then x.2.tokenSpend a.tr else x.2, true)

/-- A read: the result code, the object's size, the bytes from OFFSET on (18 R601). [DEDUCED: log entry 58] -/
def State.odRead (s : State) (a : Access) : Nat × Nat × List Byte :=
  match objectAt a.idx a.sub with
  | none => (1, 0, [])
  | some r =>
    if !s.reachable a r then (2, r.size, [])
    else (0, r.size, slice a.off a.len (s.odBytes a.tr a.idx a.sub r))

/-- ACCESSES_CAN, ACCESSES_MAILBOX and ACCESSES_REFUSED (Table 18-12). -/
def State.countAccess (s : State) (tr code : Nat) : State :=
  let s := s.bump64 0 0x1050 (tr + 1) 1
  if code = 0 then s else s.bump64 0 0x1050 3 1

/-- The output payload of a dictionary mailbox command (Table 16-9). -/
def mailboxOut (code size : Nat) (data : List Byte) : List Byte :=
  toBytes 1 code ++ toBytes 3 0 ++ toBytes 4 size ++ toBytes 4 data.length ++ toBytes 4 0 ++ data

/-- A CAN FD response (Table 18-10). -/
def canOut (cmd tag idx sub code len : Nat) (rest : List Byte) : List Byte :=
  toBytes 1 (cmd + 128) ++ toBytes 1 tag ++ toBytes 2 idx ++ toBytes 1 sub ++ toBytes 1 code ++ toBytes 2 len ++ rest

/-- Send a RESPONSE frame. -/
def State.canRespond (s : State) (d : List Byte) : State := s.canSend 1 (0x500 + s.can.nodeId) d

/-- Tell the outcome of an access to whoever waits for it. -/
def State.replyTo (s : State) (a : Access) (code size : Nat) (data : List Byte) : State :=
  match a.reply with
  | .none => s
  | .mailbox => if s.power.state = .active then (s.emit (.mailbox 0 (mailboxOut code size data))).raise 0 else s
  | .can cmd tag seq =>
    if cmd = 1 then
      s.canRespond (canOut 1 tag a.idx a.sub code data.length (if code = 0 then toBytes 4 size ++ data else []))
    else s.canRespond (canOut cmd tag a.idx a.sub code seq [])

/-- Size of the object an access names; 0 where there is none. -/
def sizeAt (idx sub : Nat) : Nat := match objectAt idx sub with | some r => r.size | none => 0

/-- A read finds the counters of a queue's waiting cycles advanced, and a lane's measurements taken anew: by free numbers
(06 R228, 14 Table 14-13). [DESIGN CHOICE: log entry 5] -/
def State.timed (s : State) (a : Access) : State :=
  if decide (a.idx = 0xF121) && decide (7 ≤ a.sub) && decide (a.sub ≤ 9) then
    (s.takeFree 64).2.bump64 (s.instOf a.tr 0xF121) 0xF121 a.sub (s.takeFree 64).1
  else if decide (a.idx = 0x6014) && (decide (a.sub = 1) || decide (a.sub = 2)) then
    let n := if a.sub = 1 then 32 else 16
    (s.takeFree n).2.setOd (s.instOf a.tr 0x6014) 0x6014 a.sub (s.takeFree n).1
  else s

/-- Serve one access. [DEDUCED: log entry 58] -/
def State.serve (s : State) (a : Access) : State :=
  if a.write then
    let x := s.odWrite a
    if x.2.2 then (x.2.1.countAccess a.tr x.1).replyTo a x.1 (sizeAt a.idx a.sub) [] else x.2.1
  else
    let s := if (s.odRead a).1 = 0 then s.timed a else s
    let x := s.odRead a
    (s.countAccess a.tr x.1).replyTo a x.1 x.2.1 x.2.2

/-- Serve accesses in order until one keeps the engine busy. -/
def State.serveAll (s : State) : List Access → State
  | [] => s
  | a :: t => if s.dict.busy.isSome then { s with dict := { s.dict with queue := a :: t } } else (s.serve a).serveAll t

/-- An access is serialised: served at once, or behind the one in service (18 R601). [DEDUCED: log entry 58] -/
def State.access (s : State) (a : Access) : State :=
  if s.dict.busy.isSome then { s with dict := { s.dict with queue := s.dict.queue ++ [a] } } else s.serve a

/-- What a completed count-limited write sets off (19 R638, R639). [DEDUCED: log entry 60] -/
def State.fuseEffect (s : State) (idx : Nat) : State :=
  match idx with
  | 0xA010 => s.ownerChanged
  | 0xA013 => { s with sec := { s.sec with debugOpen := false } }
  | _ => s

/-- FUSE_PROGRAM_COMPLETE: the entry becomes COMPLETE, the object takes its value, its outcome is told, and the accesses that
wait are served (18 R606). [DEDUCED: log entry 60] -/
def State.fuseComplete (s : State) : State :=
  match s.dict.busy with
  | none => s
  | some a =>
    let n := s.fuses.length - 1
    let fs := s.fuses.mapIdx (fun i e => if i = n then { e with complete := true } else e)
    let q := s.dict.queue
    let s := { s with fuses := fs, dict := ⟨none, []⟩ }
    let s := (s.setOd 0 a.idx 0 (ofBytes a.data)).fuseEffect a.idx
    let s := (s.countAccess a.tr 0).replyTo a 0 (sizeAt a.idx a.sub) []
    s.serveAll q

/-! ## Rows -/

/-- A write with nobody to tell. -/
def writeOf (tr idx sub : Nat) (data : List Byte) (ref : Nat) : Access := ⟨tr, true, idx, sub, 0, data.length, data, ref, .none⟩

/-- DICTIONARY_WRITE on a transport: 0 CAN FD, 1 mailbox. -/
def execDictionaryWrite (tr idx sub : Nat) (data : List Byte) (s : State) : Host.Outcome State Fault Refusal :=
  .next (if tr < 2 && s.power.inputPresent then s.access (writeOf tr idx sub data 0) else s)
/-- OWNER_KEY_DIGEST_WRITE. -/
def execOwnerKeyDigestWrite (tr : Nat) (digest : List Byte) (s : State) : Host.Outcome State Fault Refusal :=
  .next (if tr < 2 && s.power.inputPresent then s.access (writeOf tr 0xA010 0 digest 0) else s)
/-- FW_SECURITY_VERSION_WRITE. -/
def execFwSecurityVersionWrite (tr v : Nat) (s : State) : Host.Outcome State Fault Refusal :=
  .next (if tr < 2 && s.power.inputPresent then s.access (writeOf tr 0xA011 0 (toBytes 4 v) 0) else s)
/-- FABRIC_ID_BASE_WRITE. -/
def execFabricIdBaseWrite (tr v : Nat) (s : State) : Host.Outcome State Fault Refusal :=
  .next (if tr < 2 && s.power.inputPresent then s.access (writeOf tr 0xA012 0 (toBytes 8 v) 0) else s)
/-- DEBUG_LOCKOUT_WRITE. -/
def execDebugLockoutWrite (tr v : Nat) (s : State) : Host.Outcome State Fault Refusal :=
  .next (if tr < 2 && s.power.inputPresent then s.access (writeOf tr 0xA013 0 (toBytes 1 v) 0) else s)
/-- OWNER_TRANSFER with its TOKEN_REF. -/
def execOwnerTransfer (tr : Nat) (digest : List Byte) (ref : Nat) (s : State) : Host.Outcome State Fault Refusal :=
  .next (if tr < 2 && s.power.inputPresent then s.access (writeOf tr 0xA020 0 digest ref) else s)
/-- DEBUG_UNLOCK with its TOKEN_REF. -/
def execDebugUnlock (tr v ref : Nat) (s : State) : Host.Outcome State Fault Refusal :=
  .next (if tr < 2 && s.power.inputPresent then s.access (writeOf tr 0xA021 0 (toBytes 1 v) ref) else s)
/-- TOKEN_STAGE of a piece. -/
def execTokenStage (tr : Nat) (piece : List Byte) (s : State) : Host.Outcome State Fault Refusal :=
  .next (if tr < 2 && s.power.inputPresent then s.access (writeOf tr 0xA0F0 (tr + 1) piece 0) else s)
/-- TOKEN_BEGIN. -/
def execTokenBegin (tr : Nat) (s : State) : Host.Outcome State Fault Refusal :=
  .next (if tr < 2 && s.power.inputPresent then s.access (writeOf tr 0xA0F1 (tr + 1) [1] 0) else s)
/-- TOKEN_SEAL. -/
def execTokenSeal (tr : Nat) (s : State) : Host.Outcome State Fault Refusal :=
  .next (if tr < 2 && s.power.inputPresent then s.access (writeOf tr 0xA0F1 (tr + 1) [2] 0) else s)
/-- FUSE_PROGRAM_COMPLETE. -/
def execFuseProgramComplete (s : State) : Host.Outcome State Fault Refusal := .next s.fuseComplete

end Sys2Proof.Machine
end

