-- ==== Sys2Proof/Machine/Can.lean ====
section
/-! DEFINITION. The CAN FD management port: requests, segmented transfers, heartbeat and fault confinement (18 R610 to
R622). Alerts are `State.alert`, frames leave by `State.canSend`. -/

namespace Sys2Proof.Machine

/-- The port takes a REQUEST frame that names `node` (18 R612 to R614). [DESIGN CHOICE: log entry 55] -/
def State.canTakes (s : State) (node : Nat) : Bool :=
  s.power.inputPresent && decide (node ≠ 0) && decide (node = s.can.nodeId)
    && (decide (s.can.mode = .errorActive) || decide (s.can.mode = .errorPassive))

/-- An access of the port has not been answered (18 R615). -/
def State.canUnanswered (s : State) : Bool :=
  let mine (a : Access) : Bool := match a.reply with | .can _ _ _ => true | _ => false
  (match s.dict.busy with | some a => mine a | none => false) || s.dict.queue.any mine

/-- Put the open transfer. -/
def State.setXfer (s : State) (x : Option CanXfer) : State := { s with can := { s.can with xfer := x } }

/-- A request that the port answers itself: BAD_REQUESTS counts code 0x13 (18 R603). [DEDUCED: log entry 56] -/
def State.canStatus (s : State) (cmd tag idx sub code seq : Nat) : State :=
  (if code = 0x13 then s.bump32 0 0x1013 6 1 else s).canRespond (canOut cmd tag idx sub code seq [])

/-- Data and TOKEN_REF of a write: the last 8 bytes are the TOKEN_REF of an RWS object (18 R609, Table 18-11).
[DEDUCED: log entry 57] -/
def canData (idx sub : Nat) (d : List Byte) : List Byte × Nat :=
  match objectAt idx sub with
  | some r =>
    if r.acc = .rws then
      if d.length < 8 then ([], 0) else (d.take (d.length - 8), ofBytes (d.drop (d.length - 8)))
    else (d, 0)
  | none => (d, 0)

/-- Bytes that a write of an object carries (Table 18-11). [DEDUCED: log entry 57] -/
def canTotal (r : OdRow) : Nat := r.size + (if r.acc = .rws then 8 else 0)

/-- A write of the port, whose outcome is told under CMD, TAG and SEQ. [DEDUCED: log entry 57] -/
def State.canWriteAccess (s : State) (cmd tag seq idx sub : Nat) (d : List Byte) : State :=
  let x := canData idx sub d
  s.access ⟨0, true, idx, sub, 0, x.1.length, x.1, x.2, .can cmd tag seq⟩

/-- A request other than WRITE_SEG and ABORT: a reserved value answers 0x13, an open transfer or an unanswered request 0x12
(18 R615, R617). [DEDUCED: log entry 56] -/
def State.canRequest (s : State) (cmd tag idx sub : Nat) (bad : Bool) (f : State → State) : State :=
  let s := s.bump64 0 0x1013 4 1
  if bad then s.canStatus cmd tag idx sub 0x13 0
  else if s.can.xfer.isSome || s.canUnanswered then s.canStatus cmd tag idx sub 0x12 0
  else f s

/-- WRITE_INIT (18 R617). [DEDUCED: log entry 57] -/
def State.writeInit (s : State) (tag idx sub total : Nat) : State :=
  match objectAt idx sub with
  | none => s.canStatus 3 tag idx sub 1 0
  | some r =>
    if total ≠ canTotal r then s.canStatus 3 tag idx sub 6 0
    else (s.setXfer (some ⟨idx, sub, tag, total, 0, []⟩)).canStatus 3 tag idx sub 0 0

/-- WRITE_SEG within a transfer: sequence errors end it, the last segment serialises the whole write (18 R617).
[DEDUCED: log entry 57] -/
def State.writeSeg (s : State) (tag idx sub seq : Nat) (data : List Byte) : State :=
  match s.can.xfer with
  | none => s.canStatus 4 tag idx sub 0x10 seq
  | some x =>
    if seq ≠ x.next || idx ≠ x.idx || sub ≠ x.sub || tag ≠ x.tag then (s.setXfer none).canStatus 4 tag idx sub 0x10 seq
    else
      let n := min 56 (x.total - 56 * seq)
      if data.length < n then s.canStatus 4 tag idx sub 0x13 seq
      else
        let d := x.data ++ data.take n
        if x.total ≤ 56 * (seq + 1) then (s.setXfer none).canWriteAccess 4 tag seq idx sub d
        else
          let s := s.setXfer (some { x with next := seq + 1, data := d })
          if seq % 16 = 15 then s.canStatus 4 tag idx sub 0 seq else s

/-- HEARTBEAT payload (18 R619). -/
def State.heartbeat (s : State) : List Byte :=
  toBytes 1 s.power.state.code
    ++ toBytes 1 (s.commit.pstate.code + 16 * b2n s.commit.exhausted)
    ++ toBytes 1 s.power.pLevel
    ++ toBytes 1 ((List.range 8).foldl (fun m c => max m (max s.power.pLevel (Tab.get 0 s.power.tLevel c))) 0)
    ++ toBytes 4 (s.commit.committed % 2 ^ 32)

/-- Class of a frame by its identifier. -/
def canClass (ident : Nat) : Nat := if ident / 128 = 1 then 0 else if ident / 128 = 0xA then 1 else 2

/-- Take back the last frame of an output list: bus-off interrupted it. [DESIGN CHOICE: log entry 55] -/
def takeBack : List Out → Option (CanFrame × List Out)
  | [] => none
  | o :: t =>
    match takeBack t with
    | some x => some (x.1, o :: x.2)
    | none => match o with
      | .canFrame ident bytes => some (⟨canClass ident, ident, bytes⟩, t)
      | _ => none

/-- Entry to bus-off (18 R618, R621). [DESIGN CHOICE: log entry 55] -/
def State.busOff (s : State) (tec : Nat) (interrupted : Bool) : State :=
  let s := s.bump32 0 0x1013 3 1
  let s := { s with can := { s.can with mode := .busOff, txErrors := tec } }
  if interrupted then
    match takeBack s.out with
    | none => s
    | some x =>
      let s := { s with out := x.2, can := { s.can with tx := canEnqueue x.1 s.can.tx } }
      s.setOd 0 0x1013 5 (s.odv 0 0x1013 5 - 1)
  else s

/-- Send the frames that waited for recovery. [DESIGN CHOICE: log entry 55] -/
def State.sendQueued (s : State) : List CanFrame → State
  | [] => s
  | f :: t => (s.canSend f.cls f.ident f.data).sendQueued t

/-! ## Rows -/

/-- CAN_READ: NODE of the identifier, TAG, INDEX, SUBINDEX, byte 5, OFFSET, LEN. -/
def execCanRead (node tag idx sub rsv off len : Nat) (s : State) : Host.Outcome State Fault Refusal :=
  .next (if s.canTakes node then
    s.canRequest 1 tag idx sub (decide (rsv ≠ 0) || decide (len = 0) || decide (52 < len))
      (fun s => s.access ⟨0, false, idx, sub, off, len, [], 0, .can 1 tag 0⟩)
  else s)
/-- CAN_WRITE: the data are the LEN bytes of the frame. -/
def execCanWrite (node tag idx sub rsv : Nat) (data : List Byte) (s : State) : Host.Outcome State Fault Refusal :=
  .next (if s.canTakes node then
    s.canRequest 2 tag idx sub (decide (rsv ≠ 0) || data.isEmpty || decide (56 < data.length))
      (fun s => s.canWriteAccess 2 tag 0 idx sub data)
  else s)
/-- WRITE_INIT. -/
def execWriteInit (node tag idx sub rsv total len : Nat) (s : State) : Host.Outcome State Fault Refusal :=
  .next (if s.canTakes node then
    s.canRequest 3 tag idx sub (decide (rsv ≠ 0) || decide (len ≠ 0) || decide (total = 0) || decide (4104 < total))
      (fun s => s.writeInit tag idx sub total)
  else s)
/-- WRITE_SEG. -/
def execWriteSeg (node tag idx sub rsv seq : Nat) (data : List Byte) (s : State) : Host.Outcome State Fault Refusal :=
  .next (if s.canTakes node then
    let s := s.bump64 0 0x1013 4 1
    if rsv ≠ 0 then s.canStatus 4 tag idx sub 0x13 seq
    else if s.canUnanswered then s.canStatus 4 tag idx sub 0x12 seq
    else s.writeSeg tag idx sub seq data
  else s)
/-- ABORT. -/
def execAbort (node tag idx sub rsv : Nat) (s : State) : Host.Outcome State Fault Refusal :=
  .next (if s.canTakes node then
    let s := s.bump64 0 0x1013 4 1
    if rsv ≠ 0 then s.canStatus 5 tag idx sub 0x13 0
    else if s.canUnanswered then s.canStatus 5 tag idx sub 0x12 0
    else (s.setXfer none).canStatus 5 tag idx sub 0 0
  else s)
/-- TRANSFER_TIMEOUT. -/
def execTransferTimeout (s : State) : Host.Outcome State Fault Refusal :=
  .next (match s.can.xfer with
    | none => s
    | some x => (s.setXfer none).canStatus 4 x.tag x.idx x.sub 0x11 x.next)
/-- FOREIGN_FRAME with its identifier. -/
def execForeignFrame (ident : Nat) (s : State) : Host.Outcome State Fault Refusal :=
  .next (if s.canTakes (ident % 128) && (ident / 128 = 1 || ident / 128 = 0xA || ident / 128 = 0xE) then
    let s := s.bump64 0 0x1013 4 1
    { s with can := { s.can with mode := .listenOnly } }
  else s)
/-- HEARTBEAT. -/
def execHeartbeat (s : State) : Host.Outcome State Fault Refusal :=
  .next (if s.power.inputPresent && s.odv 0 0x1012 0 ≠ 0 then s.canSend 2 (0x700 + s.can.nodeId) s.heartbeat else s)
/-- BUS_OFF: CAN_TEC, and whether it interrupted the frame last sent. -/
def execBusOff (tec : Nat) (interrupted : Bool) (s : State) : Host.Outcome State Fault Refusal :=
  .next (if 256 ≤ tec && s.canTakes s.can.nodeId then s.busOff tec interrupted else s)
/-- BUS_OFF_RECOVERY. -/
def execBusOffRecovery (s : State) : Host.Outcome State Fault Refusal :=
  .next (if s.can.mode = .busOff then
    let q := s.can.tx
    let s := { s with can := { s.can with mode := .errorActive, txErrors := 0, rxErrors := 0, tx := [] } }
    s.sendQueued q
  else s)
/-- CAN_BUS_ERROR: the counters' new values. -/
def execCanBusError (tec rec' : Nat) (s : State) : Host.Outcome State Fault Refusal :=
  .next (if tec < 256 && s.canTakes s.can.nodeId then
    let m : CanMode := if 128 ≤ tec || 128 ≤ rec' then .errorPassive else .errorActive
    { s with can := { s.can with txErrors := tec, rxErrors := rec', mode := m } }
  else s)

end Sys2Proof.Machine
end

