-- ==== Sys2Proof/Machine/Deck.lean ====
section
/-! DEFINITION. The Deck vector engine (05). -/

namespace Sys2Proof.Machine

/-! ## Fields and opcode kinds (Tables 5-1 to 5-3) -/

/-- HD. -/
def dkHd (w : Nat) : Nat := bits 21 8 w
/-- HS1. -/
def dkHs (w : Nat) : Nat := bits 35 22 w
/-- S2. -/
def dkS2 (w : Nat) : Nat := bits 43 36 w
/-- COUNT. -/
def dkCount (w : Nat) : Nat := bits 58 44 w
/-- MASK. -/
def dkMask (w : Nat) : Nat := bits 61 59 w

/-- Kinds of opcode by what they compute. -/
inductive DKind where
  | nop | bin | un | bcast | cmp | int | scan | red | rabr | ea | eaout | eaclr | sets | lds | setvl | dstat
  deriving DecidableEq, Repr

/-- Table 5-3; none for a reserved opcode. -/
def deckKind (op : Nat) : Option DKind :=
  if op = 0 then some .nop
  else if 0x10 ≤ op && op ≤ 0x16 then some .bin
  else if 0x17 ≤ op && op ≤ 0x20 then some .un
  else if op = 0x21 then some .bcast
  else if 0x22 ≤ op && op ≤ 0x25 then some .cmp
  else if 0x26 ≤ op && op ≤ 0x28 then some .int
  else if 0x30 ≤ op && op ≤ 0x35 then some .scan
  else if 0x38 ≤ op && op ≤ 0x42 then some .red
  else if op = 0x43 then some .rabr
  else if op = 0x48 || op = 0x49 then some .ea
  else if 0x4A ≤ op && op ≤ 0x4C then some .eaout
  else if op = 0x4D then some .eaclr
  else if 0x50 ≤ op && op ≤ 0x55 then some .bin
  else if op = 0x70 then some .sets
  else if op = 0x71 then some .lds
  else if op = 0x72 then some .setvl
  else if op = 0x73 then some .dstat
  else none

/-- Kind of an opcode that is defined. -/
def kindOf (op : Nat) : DKind := (deckKind op).getD .nop

/-- The kind carries COUNT (Table 5-3). -/
def DKind.counted : DKind → Bool
  | .bin => true | .un => true | .bcast => true | .cmp => true | .int => true | .scan => true | .red => true
  | .rabr => true | .ea => true | _ => false

/-- HD is an operand handle. -/
def DKind.usesHd : DKind → Bool
  | .bin => true | .un => true | .bcast => true | .int => true | .scan => true | .red => true | .eaout => true
  | .dstat => true | _ => false

/-- HS1 is an operand handle. -/
def DKind.usesHs : DKind → Bool
  | .lds => true | k => k.counted

/-- The primary operand is HS1 (05 R148). -/
def DKind.primaryHs : DKind → Bool
  | .cmp => true | .red => true | .rabr => true | .ea => true | _ => false

/-- Class R or X of Table 5-3. -/
def DKind.late : DKind → Bool
  | .red => true | .rabr => true | .ea => true | .eaout => true | .eaclr => true | .sets => true | .lds => true
  | .setvl => true | .dstat => true | _ => false

/-- LAT of an opcode (Table 5-3). -/
def deckLat (op : Nat) : Nat :=
  match kindOf op with
  | .scan => 10
  | .red => 16 | .rabr => 16 | .ea => 16
  | .eaout => 4 | .eaclr => 4 | .sets => 4 | .lds => 4 | .setvl => 4 | .dstat => 4
  | _ => if op = 0x14 || (0x19 ≤ op && op ≤ 0x1F) then 14 else 6

/-- A BF16 opcode. -/
def isBf (op : Nat) : Bool := decide (0x50 ≤ op && op ≤ 0x55)

/-- Sources are read as UINT32. -/
def deckIntIn (op : Nat) : Bool := kindOf op = .int || op = 0x34 || op = 0x35 || op = 0x42

/-- The result is UINT32. -/
def deckIntOut (op : Nat) : Bool :=
  deckIntIn op || op = 0x3C || op = 0x3D || op = 0x3E || kindOf op = .dstat

/-- A chain-register handle (05 R154). -/
def isChain (h : Nat) : Bool := decide (0x3FF8 ≤ h)

/-- S2 encodings an opcode accepts (Table 5-1, 05 R165). -/
def s2Ok (k : DKind) (x : Nat) : Bool :=
  let seg := x = 9 || (0x20 ≤ x && x ≤ 0x26) || (0x30 ≤ x && x ≤ 0x3F)
  match k with
  | .bin => decide (x ≤ 8) || (0x10 ≤ x && x ≤ 0x1F)
  | .int => decide (x ≤ 8) || (0x10 ≤ x && x ≤ 0x1F)
  | .cmp => decide (x < 8) || (0x10 ≤ x && x ≤ 0x1F)
  | .un => x = 9
  | .ea => x = 9
  | .bcast => seg
  | .scan => seg
  | .red => seg
  | .rabr => decide (x < 8)
  | .eaout => decide (x < 4)
  | .eaclr => decide (x < 4)
  | .lds => 0x10 ≤ x && x ≤ 0x1F
  | _ => x = 0

/-- No reserved opcode, encoding or bit in a Deck word (Tables 5-1 to 5-3, 05 R153, R161, R183). -/
def deckOk (w : Nat) : Bool :=
  match deckKind (opOf w) with
  | none => false
  | some .nop => decide (bits 63 8 w = 0)
  | some .sets => decide (bits 62 44 w = 0)
  | some .setvl => decide (bits 62 23 w = 0)
  | some k =>
    s2Ok k (dkS2 w)
      && (match k with
          | .cmp => decide (bits 10 8 w ≠ 0) && decide (bits 21 11 w = 0)
          | .ea => decide (bits 21 10 w = 0)
          | k => k.usesHd || decide (dkHd w = 0))
      && (k.usesHs || decide (dkHs w = 0))
      && (k.counted || decide (bits 62 44 w = 0))
      && decide (dkCount w ≤ 16384) && (!bit 62 w || decide (dkCount w = 0))

/-! ## Element counts and segments (05 R148, R149, R165) -/

/-- Elements of an operand: 16,384 for a chain register. -/
def deckElems (h : Nat) (l : Held) : Nat := if isChain h then 16384 else l.d.count

/-- Destination and first source as latched. -/
def dkD (ops : List Held) : Held := ops.getD 0 Held.none
/-- First source. -/
def dkS (ops : List Held) : Held := ops.getD 1 Held.none

/-- n of an instruction with count c (05 R148). -/
def deckN (w c : Nat) (ops : List Held) : Nat :=
  let k := kindOf (opOf w)
  if !k.counted then 0
  else min c (if k.primaryHs then deckElems (dkHs w) (dkS ops) else deckElems (dkHd w) (dkD ops))

/-- Latched scalars of a Deck instruction: count, S2 scalar, mask, segment predicate, DECK_VLMAX. -/
structure DArgs where
  c : Nat
  x : Nat
  mask : Nat
  heads : Nat
  vlmax : Nat
  deriving DecidableEq, Repr

/-- As the flight keeps them. -/
def DArgs.toList (a : DArgs) : List Nat := [a.c, a.x, a.mask, a.heads, a.vlmax]

/-- Read back. -/
def DArgs.ofList (l : List Nat) : DArgs := ⟨l.getD 0 0, l.getD 1 0, l.getD 2 0, l.getD 3 0, l.getD 4 0⟩

/-- Element i is active (05 R157). -/
def deckActive (w : Nat) (a : DArgs) (i : Nat) : Bool := dkMask w = 0 || bit i a.mask

/-- Segment number and first element of n elements from element i on. -/
def headSegs (h : Nat → Bool) : Nat → Nat → Nat → Nat → List (Nat × Nat)
  | 0, _, _, _ => []
  | n + 1, i, seg, start =>
    if i ≠ 0 && h i then (seg + 1, i) :: headSegs h n (i + 1) (seg + 1) i
    else (seg, start) :: headSegs h n (i + 1) seg start

/-- Segment number and first element of each of n elements (05 R165). -/
def deckSegs (w : Nat) (a : DArgs) (n : Nat) : List (Nat × Nat) :=
  let x := dkS2 w
  if 0x30 ≤ x then headSegs (fun i => decide (i % a.x = 0)) n 0 0 0
  else if 0x20 ≤ x then headSegs (fun i => bit i a.heads) n 0 0 0
  else headSegs (fun _ => false) n 0 0 0

/-- Number of segments. -/
def segCount (segs : List (Nat × Nat)) : Nat :=
  match segs.getLast? with
  | some t => t.1 + 1
  | none => 0

/-- Segments of an instruction: one for an unsegmented reduction of no element (05 R152). -/
def deckSegN (w : Nat) (segs : List (Nat × Nat)) : Nat := if dkS2 w = 9 then 1 else segCount segs

/-- W of R149. -/
def deckWidth (w : Nat) (ops : List Held) : Nat :=
  let narrow (h : Nat) (l : Held) : Bool := isChain h || decide (elemSize l.d.fmt ≤ 2)
  if isBf (opOf w) && narrow (dkHd w) (dkD ops) && narrow (dkHs w) (dkS ops) then 256 else 128

/-- G of R149. -/
def deckGroups (w n : Nat) (ops : List Held) : Nat :=
  if (kindOf (opOf w)).counted then ceilDiv n (deckWidth w ops) else 1

/-! ## Registers -/

/-- Element i of CRk, raw. -/
def Pair.crAt (d : Pair) (k i : Nat) : Nat := Tab.get 0 d.cr (k * 16384 + i)
/-- Set it. -/
def Pair.setCr (d : Pair) (k i v : Nat) : Pair := { d with cr := Tab.set 0 d.cr (k * 16384 + i) (v % 2 ^ 32) }
/-- DSk. -/
def Pair.dsAt (d : Pair) (k : Nat) : Nat := Tab.get 0 d.ds k
/-- Set it. -/
def Pair.setDs (d : Pair) (k v : Nat) : Pair := { d with ds := Tab.set 0 d.ds k (v % 2 ^ 32) }
/-- Pk as a mask. -/
def Pair.predAt (d : Pair) (k : Nat) : Nat := Tab.get 0 d.preds k
/-- Set it. -/
def Pair.setPred (d : Pair) (k v : Nat) : Pair := { d with preds := Tab.set 0 d.preds k v }
/-- EA[k]. -/
def Pair.eaAt (d : Pair) (k : Nat) : ExSum := Tab.get ExSum.zero d.ea k
/-- Set it. -/
def Pair.setEa (d : Pair) (k : Nat) (v : ExSum) : Pair := { d with ea := Tab.set ExSum.zero d.ea k v }
/-- Set ABR[k]. -/
def Pair.setAbr (d : Pair) (k : Nat) (v : Int) : Pair := { d with abr := Tab.set (-32768) d.abr k v }

/-! ## Reading operands (05 R155, R159, R175) -/

/-- Region keys of a list of elements and their scale bytes. -/
def elemRegions (p : Nat) (l : Held) (is : List Nat) : List Nat :=
  is.flatMap (fun i =>
    (match physOf p (l.d.addr i) with | some k => regionsOf k (elemSize l.d.fmt) | none => [])
      ++ (match l.plane with
          | some pl => (match physOf p (scaleAddr l.d pl i) with | some k => regionsOf k 1 | none => [])
          | none => []))

/-- Values of one group of elements of a tensor in the tile register file, and their UINT32 readings. -/
def State.deckTensor (s : State) (p : Nat) (l : Held) (is : List Nat) : List (Val × Nat) :=
  let n := elemSize l.d.fmt
  let fmt := l.d.fmt
  if l.stale || is.any (fun i => s.foreignElem p 2 (l.d.addr i) n) then
    is.map (fun _ => (.poison, if fmt = 9 then 0xFFFFFFFF else FFmt.b32.poisonCode))
  else
    is.map (fun i =>
      let bad := match l.plane with | some pl => s.foreignElem p 2 (scaleAddr l.d pl i) 1 | none => false
      let v := if bad then Val.poison else valueOf fmt l.scaleX (s.readScale p l i) (s.readRaw p l.d i)
      if fmt = 9 then (v, s.readRaw p l.d i) else (v.round .b32, (convert .b32 v).1))

/-- Elements of a chain register. -/
def Pair.chainVals (d : Pair) (k : Nat) (is : List Nat) : List (Val × Nat) :=
  is.map (fun i => (decode .b32 (d.crAt k i), d.crAt k i))

/-- One group of elements of the operand at a handle. -/
def State.deckRead (s : State) (p i h : Nat) (l : Held) (is : List Nat) : List (Val × Nat) :=
  if isChain h then (s.pair p i).chainVals (h - 0x3FF8) is else s.deckTensor p l is

/-- One group of the second operand (Table 5-1). -/
def State.deckSecond (s : State) (p i w : Nat) (a : DArgs) (hd : Held) (is : List Nat) : List (Val × Nat) :=
  let x := dkS2 w
  if x < 8 then (s.pair p i).chainVals x is
  else if x = 8 then s.deckRead p i (dkHd w) hd is
  else is.map (fun _ => (decode .b32 a.x, a.x))

/-! ## Writing results (05 R157, R162, R170, R175) -/

/-- DECK_STATUS flags of a result (Table 5-7). [DEDUCED: log entry 14] -/
def statusOf : EVal → Nat
  | .f .nan => 2
  | .f (.inf _) => 4
  | .f .poison => 8
  | .pair hi _ => match decode .b32 hi with | .nan => 2 | .inf _ => 4 | .poison => 8 | _ => 0
  | _ => 0

/-- What a chain register receives of a result. -/
def chainCode : EVal → Nat
  | .f v => (convert .b32 v).1
  | .u n => n
  | .pair hi _ => hi
  | .xa _ _ => 0

/-- Regions that a flight was denied at its latch. -/
def Flight.deniedRegions (f : Flight) : List Nat := f.denied.map (fun d => d.1)

/-- Write results to the destination operand: a chain register, or the tile register file with the watch. An element that lies in
a denied region is discarded, and sets no flag of Table 5-7, which are those of results written. [DEDUCED: log entry 14] -/
def State.deckPut (s : State) (p i : Nat) (f : Flight) (hd : Held) (rs : List (Nat × EVal)) : State :=
  let h := dkHd f.word
  let flags (rs : List (Nat × EVal)) : Nat := rs.foldl (fun a r => a ||| statusOf r.2) 0
  if isChain h then
    let s := s.setPair p i ((s.pair p i).raise (flags rs))
    s.setPair p i (rs.foldl (fun d r => d.setCr (h - 0x3FF8) r.1 (chainCode r.2)) (s.pair p i))
  else
    let kept := rs.filter (fun r => !s.barred p 2 f.deniedRegions (hd.d.addr r.1) (elemSize hd.d.fmt))
    let s := s.setPair p i ((s.pair p i).raise (flags kept))
    let o := s.writeElemsBut p 2 f.deniedRegions hd rs
    let s := if o.2.any (fun w => w.sat) then o.1.setPair p i ((o.1.pair p i).raise 64) else o.1
    s.watchWrites p ⟨streamOf p (32 + i), f.pc, f.gen⟩ hd.d o.2

/-! ## Groups (Table 5-8) -/

/-- A Deck execution between its groups: results not yet written, the running scan, collected elements. -/
structure DRun where
  s : State
  pend : List (List (Nat × EVal))
  seg : Option Nat
  scan : Option Val
  iscan : Nat
  got : List (Nat × Val × Nat)

/-- Write the results of a group: predicate bits for a compare. -/
def State.deckLand (s : State) (p i : Nat) (f : Flight) (hd : Held) (rs : List (Nat × EVal)) : State :=
  if kindOf (opOf f.word) = .cmp then
    let k := bits 10 8 f.word
    let d := s.pair p i
    s.setPair p i (d.setPred k (rs.foldl (fun m r => setBit r.1 (r.2 = .u 1) m) (d.predAt k)))
  else s.deckPut p i f hd rs

/-- One element of a scan (05 R166): the running value, and the output. -/
def DRun.scanStep (r : DRun) (p i op seg : Nat) (v : Val) (u : Nat) : DRun × EVal :=
  let r := if r.seg = some seg then r else { r with seg := some seg, scan := none, iscan := 0 }
  if op = 0x34 || op = 0x35 then
    let t := r.iscan + u
    let s := if 2 ^ 32 ≤ t then r.s.setPair p i ((r.s.pair p i).raise 32) else r.s
    ({ r with s := s, iscan := t % 2 ^ 32 }, .u (if op = 0x35 then r.iscan else t % 2 ^ 32))
  else
    let nw := match r.scan with
      | none => v
      | some a => if op = 0x32 then a.minmax true v else if op = 0x33 then a.minmax false v else a.add v
    let out := if op = 0x31 then (match r.scan with | none => Val.zero | some a => a.round .b32) else nw.round .b32
    ({ r with scan := some nw }, .f out)

/-- A MOV or BCAST that carries UINT32 elements unchanged into a UINT32 destination. [DEDUCED: log entry 14] -/
def deckCarries (w : Nat) (ops : List Held) : Bool :=
  (opOf w = 0x20 || opOf w = 0x21) && !isChain (dkHd w) && decide ((dkD ops).d.fmt = 9)
    && (isChain (dkHs w) || decide ((dkS ops).d.fmt = 9))

/-- Compute one group whose sources have been read; `u`: their UINT32 codes are carried. [DEDUCED: log entry 14] -/
def DRun.compute (r : DRun) (p i : Nat) (w : Nat) (a : DArgs) (hd : Held) (u : Bool) (segs : List (Nat × Nat))
    (is : List Nat) (xs : List (Val × Nat)) : DRun :=
  let op := opOf w
  match kindOf op with
  | .un => { r with pend := r.pend ++ [(is.zip xs).map (fun e => (e.1, if u then .u e.2.2 else .f (deckUnary op e.2.1)))] }
  | .bcast => { r with pend := r.pend ++ [(is.zip xs).map (fun e => (e.1, if u then .u e.2.2 else .f e.2.1))] }
  | .bin =>
    let ys := r.s.deckSecond p i w a hd is
    let zs := if op = 0x13 || op = 0x53 then r.s.deckRead p i (dkHd w) hd is else xs
    { r with pend := r.pend ++ [(is.zip (xs.zip (ys.zip zs))).map (fun e =>
        (e.1, .f (deckBinary op e.2.1.1 e.2.2.1.1 e.2.2.2.1)))] }
  | .cmp =>
    let ys := r.s.deckSecond p i w a hd is
    { r with pend := r.pend ++ [(is.zip (xs.zip ys)).map (fun e => (e.1, .u (b2n (e.2.1.1.compare op e.2.2.1))))] }
  | .int =>
    let ys := r.s.deckSecond p i w a hd is
    let zs := (is.zip (xs.zip ys)).map (fun e => (e.1, deckInt op e.2.1.2 e.2.2.2))
    let s := if zs.any (fun z => z.2.2) then r.s.setPair p i ((r.s.pair p i).raise 32) else r.s
    { r with s := s, pend := r.pend ++ [zs.map (fun z => (z.1, .u z.2.1))] }
  | .scan =>
    let t := (is.zip xs).foldl (fun (b : DRun × List (Nat × EVal)) e =>
      let o := b.1.scanStep p i op (segs.getD e.1 (0, 0)).1 e.2.1 e.2.2
      (o.1, b.2 ++ [(e.1, o.2)])) (r, [])
    { t.1 with pend := t.1.pend ++ [t.2] }
  | _ => { r with got := r.got ++ (is.zip xs).map (fun e => (e.1, e.2.1, e.2.2)) }

/-- One group: the results whose cycle has come are written, the sources read, the group computed. -/
def DRun.group (r : DRun) (p i : Nat) (f : Flight) (ops : List Held) (a : DArgs) (segs : List (Nat × Nat))
    (n g : Nat) : DRun :=
  let w := f.word
  let hd := dkD ops
  let r := match r.pend with
    | h :: t =>
      if deckLat (opOf w) ≤ t.length && !(isMx hd.d.fmt && !isChain (dkHd w)) then
        { r with s := r.s.deckLand p i f hd h, pend := t }
      else r
    | [] => r
  let wd := deckWidth w ops
  let is := ((List.range (min wd (n - g * wd))).map (g * wd + ·)).filter (deckActive w a)
  let src := if kindOf (opOf w) = .bcast then is.map (fun j => (segs.getD j (0, 0)).1) else is
  r.compute p i w a hd (deckCarries w ops) segs is (r.s.deckRead p i (dkHs w) (dkS ops) src)

/-- Results of a reduction over collected elements: one for each segment. [DEDUCED: log entry 14] -/
def reduceAll (op nseg : Nat) (segs : List (Nat × Nat)) (got : List (Nat × Val × Nat)) : List RedOut :=
  (List.range nseg).map (fun j =>
    let es := got.filter (fun e => (segs.getD e.1 (0, 0)).1 = j)
    reduce op (es.map (fun e => (e.1 - (segs.getD e.1 (0, 0)).2, e.2.1))) (es.map (fun e => e.2.2)))

/-- A reduction result as written in a format. -/
def RedOut.eval (fmt : Nat) (chain : Bool) (r : RedOut) : EVal :=
  if r.int then .u r.hi else if fmt = 7 && !chain then .pair r.hi r.lo else .f (decode .b32 r.hi)

/-- What classes R and X write at the end (Table 5-8, 05 R167 to R170, R177). [DEDUCED: log entry 14] -/
def State.deckFinal (s : State) (p i : Nat) (f : Flight) (ops : List Held) (a : DArgs) (segs : List (Nat × Nat))
    (got : List (Nat × Val × Nat)) : State :=
  let w := f.word
  let op := opOf w
  let hd := dkD ops
  let d := s.pair p i
  match kindOf op with
  | .red =>
    let rs := reduceAll op (deckSegN w segs) segs got
    let st := (if rs.any (fun r => r.empty) then 1 else 0) + (if rs.any (fun r => r.ovf) then 32 else 0)
    (s.setPair p i (d.raise st)).deckPut p i f hd
      ((List.range rs.length).zip (rs.map (RedOut.eval hd.d.fmt (isChain (dkHd w)))))
  | .rabr =>
    let c := (maxInt? (got.filterMap (fun e => e.2.1.ilog2))).getD (-32768)
    s.setPair p i (d.setAbr (dkS2 w) c)
  | .ea =>
    let k := bits 9 8 w
    let o := got.foldl (fun (b : ExSum × Nat) e => match b.1.add (op = 0x49) e.2.1 with
      | some t => (t, b.2)
      | none => (b.1, 16)) (d.eaAt k, 0)
    s.setPair p i ((d.setEa k o.1).raise o.2)
  | .eaout =>
    let o := (d.eaAt (dkS2 w)).out op
    let r : RedOut := ⟨false, o.1, o.2.1, o.2.2, false⟩
    let s := s.setPair p i (d.raise (b2n r.empty))
    if deckElems (dkHd w) hd = 0 then s else s.deckPut p i f hd [(0, r.eval hd.d.fmt (isChain (dkHd w)))]
  | .eaclr => s.setPair p i (d.setEa (dkS2 w) ExSum.zero)
  | .sets => s.setPair p i (d.setDs (bits 43 40 w) (bits 39 8 w))
  | .setvl => s.setPair p i { d with vlr := min (bits 22 8 w) a.vlmax }
  | .lds =>
    let k := dkS2 w % 16
    if deckElems (dkHs w) (dkS ops) = 0 then s.setPair p i ((d.setDs k 0).raise 1)
    else s.setPair p i (d.setDs k (match s.deckRead p i (dkHs w) (dkS ops) [0] with | x :: _ => x.2 | [] => 0))
  | .dstat =>
    let s := s.setPair p i { d with dstat := 0 }
    if deckElems (dkHd w) hd = 0 then s else s.deckPut p i f hd [(0, .u d.dstat)]
  | _ => s

/-! ## Checks (Table 5-9) -/

/-- A destination format that the opcode permits (05 R159, R167). An integer opcode takes UINT32 alone.
[DEDUCED: log entry 14] -/
def deckOutFmt (op fmt : Nat) : Bool :=
  let pairOk := op = 0x38 || op = 0x3F || op = 0x40 || op = 0x41 || kindOf op = .eaout
  if deckIntOut op then fmt = 9
  else if kindOf op = .red then fmt = 6 || (fmt = 7 && pairOk)
  else decide (fmt ≤ 6) || (fmt = 7 && pairOk) || fmt = 9

/-- First operand position at fault (Table 5-9, 06 R204, R210); 7 for a zero segment length. [DEDUCED: log entry 14] -/
def deckFault (i w x : Nat) (a : DArgs) (ops : List Held) (nest : Nest) (n nseg : Nat) : Option Nat :=
  let op := opOf w
  let k := kindOf op
  let mem0 := k.usesHd && !isChain (dkHd w)
  let mem1 := k.usesHs && !isChain (dkHs w)
  let inTrf (l : Held) : Bool := l.d.inPair i && (match l.plane with
    | some pl => (planeRows l.d pl).all (fun r =>
        decide ((2 * 2 ^ 44 + i * 2 ^ 22 : Nat) ≤ r.1) && decide (r.1 + r.2 ≤ (2 * 2 ^ 44 + i * 2 ^ 22 + 2 ^ 22 : Nat)))
    | none => true)
  let hd := dkD ops
  let hs := dkS ops
  if mem0 && (!inTrf hd || !deckOutFmt op hd.d.fmt || (isMx hd.d.fmt && !nest.mxOk x 0)) then some 0
  else if mem1 && (!inTrf hs || !(decide (hs.d.fmt ≤ 6) || hs.d.fmt = 9) || (deckIntIn op && hs.d.fmt ≠ 9)
      || (isMx hs.d.fmt && !nest.mxOk x 1)) then some 1
  else if (k = .bin || k = .un || k = .int || k = .scan) && decide (deckElems (dkHs w) hs < n) then some 1
  else if (k = .red || k = .bcast) && decide (deckElems (dkHd w) hd < nseg) then some 0
  else if k = .bcast && decide (deckElems (dkHs w) hs < nseg) then some 1
  else if (k = .scan || k = .red || k = .bcast) && decide (0x30 ≤ dkS2 w) && a.x = 0 then some 7
  else none

/-! ## Executions -/

/-- Elements whose regions an execution reads, by operand position. -/
def deckReads (w : Nat) (a : DArgs) (ops : List Held) (segs : List (Nat × Nat)) (n : Nat) : List (Nat × Held × List Nat) :=
  let op := opOf w
  let k := kindOf op
  let is := (List.range n).filter (deckActive w a)
  (if k.usesHs && !isChain (dkHs w) then
      [(1, dkS ops, if k = .lds then (if (dkS ops).d.count = 0 then [] else [0])
        else if k = .bcast then is.map (fun j => (segs.getD j (0, 0)).1) else is)]
    else [])
  ++ (if !isChain (dkHd w) && ((k = .bin || k = .int) && dkS2 w = 8 || op = 0x13 || op = 0x53) then [(0, dkD ops, is)]
      else [])

/-- First foreign region that an execution reads: position, region. -/
def State.deckForeign (s : State) (p : Nat) (rs : List (Nat × Held × List Nat)) : Option (Nat × Nat) :=
  (rs.flatMap (fun r => (elemRegions p r.2.1 r.2.2).map (fun x => (r.1, x)))).find? (fun x =>
    s.regionOwner x.2 ≠ 0 && s.regionOwner x.2 ≠ 2)

/-- Run an execution whose checks pass. -/
def State.deckRun (s : State) (p i : Nat) (f : Flight) (ops : List Held) (a : DArgs) (n : Nat)
    (segs : List (Nat × Nat)) : State :=
  let w := f.word
  let g := deckGroups w n ops
  let mine := if (kindOf (opOf w)).usesHd && !isChain (dkHd w) then (dkD ops).regions p else []
  let bad : Option (Nat × Nat × Nat) :=
    match f.denied.find? (fun d => mine.contains d.1) with
    | some d => some (regionAddr d.1, d.2, 0)
    | none => match s.deckForeign p (deckReads w a ops segs n) with
      | some x => some (regionAddr x.2, s.regionOwner x.2, x.1)
      | none => none
  let s := match bad with
    | some e => (s.schedFault p (32 + i) f f.begun e.1 e.2.1 e.2.2).bump32 (eInst p i) 0xF111 7 1
    | none => s
  let s := (s.bump64 (eInst p i) 0xF111 1 1).bump64 (eInst p i) 0xF111 3 g
  let r := (List.range (if (kindOf (opOf w)).counted then g else 0)).foldl
    (fun (r : DRun) j => r.group p i f ops a segs n j) ⟨s, [], none, none, 0, []⟩
  let s := if isMx (dkD ops).d.fmt && !isChain (dkHd w) then r.s.deckLand p i f (dkD ops) r.pend.flatten
    else r.pend.foldl (fun s rs => s.deckLand p i f (dkD ops) rs) r.s
  s.deckFinal p i f ops a segs r.got

/-- Replace flight k of a queue. -/
def State.setFlight (s : State) (p q k : Nat) (f : Flight) : State :=
  s.setFlights p q ((s.queue p q).flights.set k f)

/-- Take flight k out of a queue. -/
def State.dropFlight (s : State) (p q k : Nat) : State :=
  s.setFlights p q ((s.queue p q).flights.eraseIdx k)

/-- Nest position of the k-th latched operand. -/
def deckPos (k : Nat) : Nat := k

/-- Begin the next execution of flight k of Deck i, or raise OPERAND_FAULT (05 R183). [DESIGN CHOICE: log entry 11] -/
def State.deckExec (s : State) (p i k : Nat) (f : Flight) : State :=
  let ops := f.stepped deckPos f.begun
  let a := DArgs.ofList f.args
  let n := deckN f.word a.c ops
  let segs := if 0x30 ≤ dkS2 f.word && a.x = 0 then [] else deckSegs f.word a n
  match deckFault i f.word f.begun a ops f.nest n (deckSegN f.word segs) with
  | some j =>
    let at' := if j < 2 then (ops.getD j Held.none).d.base else 0
    let s := s.release 2 f.owned
    let s := match f.ownedAbr with
      | some r => s.setPair p i { s.pair p i with abrOwn := setBit r false (s.pair p i).abrOwn }
      | none => s
    ((s.dropFlight p (32 + i) k).operandFault p (32 + i) f f.begun j at').bump32 (eInst p i) 0xF111 8 1
  | none =>
    let s := s.deckRun p i f ops a n segs
    s.setFlight p (32 + i) k { f with begun := f.begun + 1, running := true, cycles := deckGroups f.word n ops }

/-! ## Latch (05 R172, R173) -/

/-- Tile-register-file regions that an operand touches over a whole nest. -/
def nestRegions (p : Nat) (f : Flight) (k : Nat) : List Nat :=
  ((List.range f.total).flatMap (fun x => ((f.stepped deckPos x).getD k Held.none).regions p)).eraseDups

/-- Claim the whole destination of an instruction, all its executions, at its latch (05 R174, R176, 06 R216, R218): a region that
another engine owns is denied to it, and its owner kept for the fault records. -/
def State.deckClaim (s : State) (p : Nat) (f : Flight) : State × Flight :=
  if (kindOf (opOf f.word)).usesHd && !isChain (dkHd f.word) then
    let rs := nestRegions p f 0
    let c := s.claim 2 rs
    (c.1, { f with owned := c.2.1,
                   denied := (rs.filter (fun r => !c.2.1.contains r)).map (fun r => (r, s.regionOwner r)) })
  else (s, f)

/-- Positions of the source operands that are tensors: HS1, and HD where its previous value is read. -/
def deckSources (w : Nat) : List Nat :=
  let k := kindOf (opOf w)
  (if k.usesHs && !isChain (dkHs w) then [1] else [])
    ++ (if !isChain (dkHd w) && ((k = .bin || k = .int) && dkS2 w = 8 || opOf w = 0x13 || opOf w = 0x53) then [0] else [])

/-- Operand handles of a Deck word that name descriptors. -/
def deckHandles (w : Nat) : List Nat :=
  let k := kindOf (opOf w)
  (if k.usesHd && !isChain (dkHd w) then [dkHd w] else []) ++ (if k.usesHs && !isChain (dkHs w) then [dkHs w] else [])

/-- Nest position of the k-th of them. -/
def deckHandlePos (w k : Nat) : Nat := if (kindOf (opOf w)).usesHd && !isChain (dkHd w) then k else 1

/-- Registers that an instruction writes, as (kind, number): 0 DS, 1 P, 2 VLR, 3 ABR, 4 EA, 5 CR. -/
def deckWritesReg (w : Nat) : List (Nat × Nat) :=
  match kindOf (opOf w) with
  | .sets => [(0, bits 43 40 w)]
  | .lds => [(0, dkS2 w % 16)]
  | .cmp => [(1, bits 10 8 w)]
  | .setvl => [(2, 0)]
  | .rabr => [(3, dkS2 w)]
  | .ea => [(4, bits 9 8 w)]
  | .eaclr => [(4, dkS2 w)]
  | k => if k.usesHd && isChain (dkHd w) then [(5, dkHd w - 0x3FF8)] else []

/-- Registers that an instruction reads, in the same numbering. -/
def deckReadsReg (w : Nat) : List (Nat × Nat) :=
  let k := kindOf (opOf w)
  let x := dkS2 w
  (if (k = .bin || k = .int || k = .cmp) && decide (0x10 ≤ x) then [(0, x % 16)] else [])
    ++ (if (k = .scan || k = .red || k = .bcast) && decide (0x30 ≤ x) then [(0, x % 16)] else [])
    ++ (if (k = .scan || k = .red || k = .bcast) && decide (0x20 ≤ x) && decide (x < 0x30) then [(1, x - 0x1F)] else [])
    ++ (if k.counted && dkMask w ≠ 0 then [(1, dkMask w)] else [])
    ++ (if k.counted && bit 62 w then [(2, 0)] else [])
    ++ (if k = .eaout then [(4, x)] else [])
    ++ (if (k = .bin || k = .int || k = .cmp) && decide (x < 8) then [(5, x)] else [])
    ++ (if k.usesHs && isChain (dkHs w) then [(5, dkHs w - 0x3FF8)] else [])
    ++ (if isChain (dkHd w) && ((k = .bin || k = .int) && x = 8 || opOf w = 0x13 || opOf w = 0x53) then
          [(5, dkHd w - 0x3FF8)] else [])

/-- An instruction to be latched must wait for flight g (05 R172). -/
def deckDepends (p : Nat) (g : Flight) (f : Flight) : Bool :=
  if g.null then false else
  let kg := kindOf (opOf g.word)
  let kf := kindOf (opOf f.word)
  let gw := if kg.usesHd && !isChain (dkHd g.word) then nestRegions p g 0 else []
  let fr := (if kf.usesHd && !isChain (dkHd f.word) then nestRegions p f 0 else [])
    ++ (if kf.usesHs && !isChain (dkHs f.word) then nestRegions p f 1 else [])
  fr.any (fun r => gw.contains r)
    || (deckWritesReg g.word).any (fun r => (deckReadsReg f.word).contains r && (r.1 ≠ 5 || kg.late))

/-- It reads a chain register that a class A, B or S flight writes (05 R173). -/
def deckChained (g : Flight) (w : Nat) : Bool :=
  !g.null && (deckWritesReg g.word).any (fun r => r.1 = 5 && (deckReadsReg w).contains r)
    && !(kindOf (opOf g.word)).late

/-- Latched scalars of the instruction at the head. -/
def State.deckArgs (s : State) (p i w : Nat) : DArgs :=
  let d := s.pair p i
  let x := dkS2 w
  { c := if bit 62 w then d.vlr else dkCount w,
    x := if 0x10 ≤ x && x ≤ 0x1F || 0x30 ≤ x && x ≤ 0x3F then d.dsAt (x % 16) else 0,
    mask := if dkMask w = 0 then 0 else d.predAt (dkMask w),
    heads := if 0x20 ≤ x && x ≤ 0x26 then d.predAt (x - 0x1F) else 0,
    vlmax := s.odv 0 0xF112 0 }

/-- Operands at HD and HS1: an operand that is no tensor is `Held.none`. -/
def State.deckOps (s : State) (p w : Nat) : Option (List Held) :=
  let k := kindOf (opOf w)
  let a := if k.usesHd && !isChain (dkHd w) then s.latch p (dkHd w) else some Held.none
  let b := if k.usesHs && !isChain (dkHs w) then s.latch p (dkHs w) else some Held.none
  match a, b with
  | some x, some y => some [x, y]
  | _, _ => none

/-- A null completion (05 R151). -/
def deckNull (w c : Nat) (ops : List Held) (nest : Nest) : Bool :=
  let k := kindOf (opOf w)
  k = .nop || decide (nest.total = 0)
    || (k.counted && decide (deckN w c ops = 0) && !(k = .rabr || (k = .red && dkS2 w = 9)))

/-- Latch of a Deck instruction. It waits behind an instruction whose last execution has not begun, and behind one it
depends on. -/
def State.deckLatch (s t : State) (p i w : Nat) : State :=
  let q := 32 + i
  let k := kindOf (opOf w)
  let raw := t.rawNest p (loopOf w)
  let fs := (t.queue p q).flights
  match t.deckOps p w with
  | none => t.descFault p q (deckHandles w) (deckHandlePos w)
  | some ops =>
    if !nestOk raw [k.usesHd && !isChain (dkHd w), k.usesHs && !isChain (dkHs w), false] then t.headFault p q 1 else
    let nest := parseNest raw
    let a := t.deckArgs p i w
    let f := { t.newFlight p q w ops nest false with args := a.toList }
    let open' := fs.any (fun g => !g.null && decide (g.begun < g.total))
    let dep := fs.any (fun g => deckDepends p g f) || (k = .dstat && !fs.isEmpty)
    if open' || dep then s
    else if deckNull w a.c ops nest then
      ((t.setPair p i { t.pair p i with deckWarm := false }).bump64 (eInst p i) 0xF111 2 1).nullHead p q w
    else
      let gf := t.guardCheck p q f (deckSources w)
      let cl := gf.1.deckClaim p gf.2
      let f := if k = .rabr then { cl.2 with ownedAbr := some (dkS2 w) } else cl.2
      let u := if k = .rabr then
          cl.1.setPair p i { cl.1.pair p i with abrOwn := setBit (dkS2 w) true (cl.1.pair p i).abrOwn }
        else cl.1
      let u := if fs.any (fun g => deckChained g w) then u.bump64 (eInst p i) 0xF111 4 1 else u
      let b := u.takeFree 32
      let u := b.2.bump64 (eInst p i) 0xF111 5 b.1
      let u := (u.advance p q w).pushFlight p q f
      let u := u.setPair p i { u.pair p i with deckWarm := false }
      if u.inRun p i true then u.deckExec p i fs.length f else u.beginWake p i true

/-- The row of a Deck opcode. -/
def State.deckIssue (s : State) (p i op : Nat) : State := s.issue p (32 + i) op deckOk (fun t w => s.deckLatch t p i w)

/-- DNOP. -/
def execDnop (p i : Nat) (s : State) : Host.Outcome State Fault Refusal := .next (s.deckIssue p i 0x00)
/-- ADD. -/
def execAdd (p i : Nat) (s : State) : Host.Outcome State Fault Refusal := .next (s.deckIssue p i 0x10)
/-- SUB. -/
def execSub (p i : Nat) (s : State) : Host.Outcome State Fault Refusal := .next (s.deckIssue p i 0x11)
/-- MUL. -/
def execMul (p i : Nat) (s : State) : Host.Outcome State Fault Refusal := .next (s.deckIssue p i 0x12)
/-- FMA. -/
def execFma (p i : Nat) (s : State) : Host.Outcome State Fault Refusal := .next (s.deckIssue p i 0x13)
/-- DIV. -/
def execDiv (p i : Nat) (s : State) : Host.Outcome State Fault Refusal := .next (s.deckIssue p i 0x14)
/-- MIN. -/
def execMin (p i : Nat) (s : State) : Host.Outcome State Fault Refusal := .next (s.deckIssue p i 0x15)
/-- MAX. -/
def execMax (p i : Nat) (s : State) : Host.Outcome State Fault Refusal := .next (s.deckIssue p i 0x16)
/-- ABS. -/
def execAbs (p i : Nat) (s : State) : Host.Outcome State Fault Refusal := .next (s.deckIssue p i 0x17)
/-- NEG. -/
def execNeg (p i : Nat) (s : State) : Host.Outcome State Fault Refusal := .next (s.deckIssue p i 0x18)
/-- SQRT. -/
def execSqrt (p i : Nat) (s : State) : Host.Outcome State Fault Refusal := .next (s.deckIssue p i 0x19)
/-- RSQRT. -/
def execRsqrt (p i : Nat) (s : State) : Host.Outcome State Fault Refusal := .next (s.deckIssue p i 0x1A)
/-- RCP. -/
def execRcp (p i : Nat) (s : State) : Host.Outcome State Fault Refusal := .next (s.deckIssue p i 0x1B)
/-- EXP. -/
def execExp (p i : Nat) (s : State) : Host.Outcome State Fault Refusal := .next (s.deckIssue p i 0x1C)
/-- LOG. -/
def execLog (p i : Nat) (s : State) : Host.Outcome State Fault Refusal := .next (s.deckIssue p i 0x1D)
/-- TANH. -/
def execTanh (p i : Nat) (s : State) : Host.Outcome State Fault Refusal := .next (s.deckIssue p i 0x1E)
/-- SIGM. -/
def execSigm (p i : Nat) (s : State) : Host.Outcome State Fault Refusal := .next (s.deckIssue p i 0x1F)
/-- MOV. -/
def execMov (p i : Nat) (s : State) : Host.Outcome State Fault Refusal := .next (s.deckIssue p i 0x20)
/-- BCAST. -/
def execBcast (p i : Nat) (s : State) : Host.Outcome State Fault Refusal := .next (s.deckIssue p i 0x21)
/-- CMPLT. -/
def execCmplt (p i : Nat) (s : State) : Host.Outcome State Fault Refusal := .next (s.deckIssue p i 0x22)
/-- CMPLE. -/
def execCmple (p i : Nat) (s : State) : Host.Outcome State Fault Refusal := .next (s.deckIssue p i 0x23)
/-- CMPEQ. -/
def execCmpeq (p i : Nat) (s : State) : Host.Outcome State Fault Refusal := .next (s.deckIssue p i 0x24)
/-- CMPNE. -/
def execCmpne (p i : Nat) (s : State) : Host.Outcome State Fault Refusal := .next (s.deckIssue p i 0x25)
/-- IADD. -/
def execIadd (p i : Nat) (s : State) : Host.Outcome State Fault Refusal := .next (s.deckIssue p i 0x26)
/-- IMIN. -/
def execImin (p i : Nat) (s : State) : Host.Outcome State Fault Refusal := .next (s.deckIssue p i 0x27)
/-- IMAX. -/
def execImax (p i : Nat) (s : State) : Host.Outcome State Fault Refusal := .next (s.deckIssue p i 0x28)
/-- SCANSUM. -/
def execScansum (p i : Nat) (s : State) : Host.Outcome State Fault Refusal := .next (s.deckIssue p i 0x30)
/-- SCANSUMX. -/
def execScansumx (p i : Nat) (s : State) : Host.Outcome State Fault Refusal := .next (s.deckIssue p i 0x31)
/-- SCANMAX. -/
def execScanmax (p i : Nat) (s : State) : Host.Outcome State Fault Refusal := .next (s.deckIssue p i 0x32)
/-- SCANMIN. -/
def execScanmin (p i : Nat) (s : State) : Host.Outcome State Fault Refusal := .next (s.deckIssue p i 0x33)
/-- ISCAN. -/
def execIscan (p i : Nat) (s : State) : Host.Outcome State Fault Refusal := .next (s.deckIssue p i 0x34)
/-- ISCANX. -/
def execIscanx (p i : Nat) (s : State) : Host.Outcome State Fault Refusal := .next (s.deckIssue p i 0x35)
/-- RSUM. -/
def execRsum (p i : Nat) (s : State) : Host.Outcome State Fault Refusal := .next (s.deckIssue p i 0x38)
/-- RPROD. -/
def execRprod (p i : Nat) (s : State) : Host.Outcome State Fault Refusal := .next (s.deckIssue p i 0x39)
/-- RMAX. -/
def execRmax (p i : Nat) (s : State) : Host.Outcome State Fault Refusal := .next (s.deckIssue p i 0x3A)
/-- RMIN. -/
def execRmin (p i : Nat) (s : State) : Host.Outcome State Fault Refusal := .next (s.deckIssue p i 0x3B)
/-- RARGMAX. -/
def execRargmax (p i : Nat) (s : State) : Host.Outcome State Fault Refusal := .next (s.deckIssue p i 0x3C)
/-- RARGMIN. -/
def execRargmin (p i : Nat) (s : State) : Host.Outcome State Fault Refusal := .next (s.deckIssue p i 0x3D)
/-- RCOUNT. -/
def execRcount (p i : Nat) (s : State) : Host.Outcome State Fault Refusal := .next (s.deckIssue p i 0x3E)
/-- RNORM. -/
def execRnorm (p i : Nat) (s : State) : Host.Outcome State Fault Refusal := .next (s.deckIssue p i 0x3F)
/-- RMEAN. -/
def execRmean (p i : Nat) (s : State) : Host.Outcome State Fault Refusal := .next (s.deckIssue p i 0x40)
/-- RSSQ. -/
def execRssq (p i : Nat) (s : State) : Host.Outcome State Fault Refusal := .next (s.deckIssue p i 0x41)
/-- IRSUM. -/
def execIrsum (p i : Nat) (s : State) : Host.Outcome State Fault Refusal := .next (s.deckIssue p i 0x42)
/-- RABR. -/
def execRabr (p i : Nat) (s : State) : Host.Outcome State Fault Refusal := .next (s.deckIssue p i 0x43)
/-- EASUM. -/
def execEasum (p i : Nat) (s : State) : Host.Outcome State Fault Refusal := .next (s.deckIssue p i 0x48)
/-- EASSQ. -/
def execEassq (p i : Nat) (s : State) : Host.Outcome State Fault Refusal := .next (s.deckIssue p i 0x49)
/-- EAOUT. -/
def execEaout (p i : Nat) (s : State) : Host.Outcome State Fault Refusal := .next (s.deckIssue p i 0x4A)
/-- EANORM. -/
def execEanorm (p i : Nat) (s : State) : Host.Outcome State Fault Refusal := .next (s.deckIssue p i 0x4B)
/-- EAMEAN. -/
def execEamean (p i : Nat) (s : State) : Host.Outcome State Fault Refusal := .next (s.deckIssue p i 0x4C)
/-- EACLR. -/
def execEaclr (p i : Nat) (s : State) : Host.Outcome State Fault Refusal := .next (s.deckIssue p i 0x4D)
/-- BADD. -/
def execBadd (p i : Nat) (s : State) : Host.Outcome State Fault Refusal := .next (s.deckIssue p i 0x50)
/-- BSUB. -/
def execBsub (p i : Nat) (s : State) : Host.Outcome State Fault Refusal := .next (s.deckIssue p i 0x51)
/-- BMUL. -/
def execBmul (p i : Nat) (s : State) : Host.Outcome State Fault Refusal := .next (s.deckIssue p i 0x52)
/-- BFMA. -/
def execBfma (p i : Nat) (s : State) : Host.Outcome State Fault Refusal := .next (s.deckIssue p i 0x53)
/-- BMIN. -/
def execBmin (p i : Nat) (s : State) : Host.Outcome State Fault Refusal := .next (s.deckIssue p i 0x54)
/-- BMAX. -/
def execBmax (p i : Nat) (s : State) : Host.Outcome State Fault Refusal := .next (s.deckIssue p i 0x55)
/-- SETS. -/
def execSets (p i : Nat) (s : State) : Host.Outcome State Fault Refusal := .next (s.deckIssue p i 0x70)
/-- LDS. -/
def execLds (p i : Nat) (s : State) : Host.Outcome State Fault Refusal := .next (s.deckIssue p i 0x71)
/-- SETVL. -/
def execSetvl (p i : Nat) (s : State) : Host.Outcome State Fault Refusal := .next (s.deckIssue p i 0x72)
/-- DSTAT. -/
def execDstat (p i : Nat) (s : State) : Host.Outcome State Fault Refusal := .next (s.deckIssue p i 0x73)

/-- DECK_EXECUTION_COMPLETE of flight k (Table 5-8): its next execution begins; the last one completes the
instruction, in queue order, and its claims go. [DESIGN CHOICE: log entry 11] -/
def State.deckComplete (s : State) (p i k : Nat) : State :=
  let q := 32 + i
  match (s.queue p q).flights[k]? with
  | none => s
  | some f =>
    if !s.clockRuns p q then s
    else if f.null then (if k = 0 then (s.dropFlight p q 0).finish p 2 f else s)
    else if !f.running then s
    else if f.begun < f.total then
      s.deckExec p i k { f with running := false }
    else if k ≠ 0 then s
    else
      let s := (s.dropFlight p q 0).finish p 2 f
      let d := s.pair p i
      let d := match f.ownedAbr with
        | some r => { d with abrOwn := setBit r false d.abrOwn }
        | none => d
      s.setPair p i { d with deckWarm := bit 63 f.word && (s.queue p q).flights.isEmpty }

/-- DECK_EXECUTION_COMPLETE. -/
def execDeckExecutionComplete (p i k : Nat) (s : State) : Host.Outcome State Fault Refusal := .next (s.deckComplete p i k)

/-- WAKE_COMPLETE (04 R143, 05 R173): the engine is in RUN, its cluster's clock running, and its instruction issues. -/
def State.wakeComplete (s : State) (p i : Nat) (deck : Bool) : State :=
  if s.engine p i deck ≠ .waking || !s.clockRuns p i then s
  else if s.cluster (clusterOf p i) = .off || s.cluster (clusterOf p i) = .restoring then s
  else
    let s := (s.setCluster (clusterOf p i) .gated).setEngine p i deck .run
    if deck then
      let fs := (s.queue p (32 + i)).flights
      match (List.range fs.length).find? (fun k => match fs[k]? with
          | some f => !f.null && f.begun = 0 && !f.running | none => false) with
      | some k => match fs[k]? with | some f => s.deckExec p i k f | none => s
      | none => s
    else
      match (s.queue p i).flights with
      | f :: _ => if f.running then s else s.spanExec p i f
      | [] => s

/-- WAKE_COMPLETE. -/
def execWakeComplete (p i : Nat) (deck : Bool) (s : State) : Host.Outcome State Fault Refusal :=
  .next (s.wakeComplete p i deck)

end Sys2Proof.Machine
end

