-- ==== Sys2Proof/Machine/Host.lean ====
section
/-! DEFINITION. The host attachment: BAR accesses, host-managed memory and its filter, doorbells, interrupts, link and host
resets (16). -/

namespace Sys2Proof.Machine

/-! ## What the host reaches -/

/-- The CXL controller is out of reset: ACTIVE, or RECOVERY (17 Table 17-13, 19 R630). [DEDUCED: log entry 47] -/
def State.hostReady (s : State) : Bool :=
  (decide (s.power.state = .active) || (decide (s.power.state = .waking) && s.sec.recovery)) && !s.power.perstAsserted

/-- Host requests arrive: the link is up. [DEDUCED: log entry 47] -/
def State.hostLinked (s : State) : Bool := s.hostReady && s.host.linkUp

/-- The host cannot reach a Pier: it is in reset, or Pier 0 is, across which Pier 1 is reached; or the module is not ACTIVE
(17 R588, 01 R19). [DEDUCED: log entry 48] -/
def State.pierDown (s : State) (p : Nat) : Bool :=
  decide (s.power.state ≠ .active) || s.p0.inReset || (s.pier p).inReset && decide (p = 1)

/-- A transfer stays in one 4 KiB block and is not empty, as PCIe requires of a request. [DEDUCED: log entry 47] -/
def tlpOk (off n : Nat) : Bool := decide (n ≠ 0) && decide (off % 4096 + n ≤ 4096)

/-- A read of [k, k + n) meets an uncorrectable error. -/
def State.ueIn (s : State) (k n : Nat) : Bool :=
  if pspace k = spSlow then
    s.errs.any (fun m => m.2.slowBad && decide (pspace (m.1 * 128) = spSlow)
      && granIn (poff k / 256) ((poff k + n - 1) / 256) (poff (m.1 * 128) / 256))
  else
    (List.range ((poff k + n + 127) / 128 - poff k / 128)).any (fun i => s.granuleBad (pspace k) ((poff k / 128 + i) * 128))

/-- HOST_WRITE_DROPS. [DEDUCED: log entry 48] -/
def State.dropWrite (s : State) : State := s.bump32 0 0x8010 3 1

/-- A poisoned completion of n bytes, every byte 0xFF (16 R539). [DEDUCED: log entry 48] -/
def State.poison (s : State) (n : Nat) : State :=
  (s.bump32 0 0x8010 5 1).emit (.hostData true (List.replicate n 0xFF))

/-! ## BAR2 (16 R537 to R540) -/

/-- Pier and region-0x0 offset of a BAR2 offset. -/
def bar2Of (off : Nat) : Option (Nat × Nat) :=
  if off < 0x7800000000 then some (0, off)
  else if 0x8000000000 ≤ off && off < 0xF800000000 then some (1, off - 0x8000000000)
  else none

/-- An offset lies in the ring area of its Pier (Table 16-4). -/
def State.inRingArea (s : State) (p off : Nat) : Bool :=
  let b := s.odv 0 0x8001 (p + 1)
  decide (b ≤ off) && decide (off < b + 0x1000000)

/-- A BAR2 write. -/
def State.bar2Write (s : State) (off : Nat) (data : List Byte) : State :=
  match bar2Of off with
  | none => s.dropWrite
  | some (p, o) =>
    if s.pierDown p || s.inRingArea p o then s.dropWrite
    else (s.guardOnce [(pkey (spFast p) o, data.length)]).storeRun (Asker.host p) 0 (pkey (spFast p) o) data

/-- A BAR2 read. [DEDUCED: log entry 47] -/
def State.bar2Read (s : State) (off n : Nat) : State :=
  match bar2Of off with
  | none => s.emit (.hostData false (List.replicate n 0))
  | some (p, o) =>
    if s.pierDown p then s.poison n
    else
      let bad := s.ueIn (pkey (spFast p) o) n
      let r := s.loadRun (Asker.host p) (pkey (spFast p) o) n
      if bad then r.1.poison n else r.1.emit (.hostData false r.2)

/-! ## Doorbells (16 R546, R547) -/

/-- Deliver a command to a queue: counted, and counted again where it is discarded. [DEDUCED: log entry 49] -/
def State.deliverCmd (s : State) (p q code : Nat) : State :=
  let s := s.bump64 0 0x8010 1 1
  if s.pierDown p then s.bump32 0 0x8010 2 1 else
  let r := s.queueCommand p q code
  if r.2 then r.1 else r.1.bump32 0 0x8010 2 1

/-- A command code of Table 6-3. -/
def commandCode (c : Nat) : Bool := decide (1 ≤ c) && decide (c ≤ 4)

/-- DOORBELL (Table 16-5). [DEDUCED: log entry 49] -/
def State.doorbell (s : State) (v : Nat) : State :=
  if 2 ^ 16 ≤ v || 82 ≤ v % 128 || !commandCode (v / 256) then s.bump32 0 0x8010 2 1
  else s.deliverCmd (bits 7 7 v) (v % 128) (v / 256)

/-- LAUNCH_MASK word i. [DEDUCED: log entry 49] -/
def State.launchMask (s : State) (i : Nat) : Nat := Tab.get 0 s.host.launchMask i

/-- Queues of Pier p that the masks name. -/
def State.launched (s : State) (p : Nat) : List Nat :=
  (List.range 82).filter (fun q => bit (q % 64) (s.launchMask (2 * p + q / 64)))

/-- LAUNCH_GO: the command to every queue of the masks, Pier 0 first (16 R547). [DEDUCED: log entry 49] -/
def State.launchGo (s : State) (v : Nat) : State :=
  if !commandCode v then s.bump32 0 0x8010 2 1 else
  let a := s.launched 0
  let b := s.launched 1
  b.foldl (fun s q => s.deliverCmd 1 q v) (a.foldl (fun s q => s.deliverCmd 0 q v) s)

/-! ## Interrupt registers (16 R548) -/

/-- Every vector is looked at again. [DEDUCED: log entry 51] -/
def State.renotify (s : State) : State := s.notifyAll (List.range 32)

/-- INT_CAUSE: a 1 clears its bit. A reserved bit discards the write. [DEDUCED: log entry 51] -/
def State.causeWrite (s : State) (v : Nat) : State :=
  if 2 ^ 32 ≤ v then s else
  { s with host := { s.host with intCause := (List.range 32).foldl (fun c k => if bit k v then setBit k false c else c) s.host.intCause } }

/-- INT_MASK. [DEDUCED: log entry 51] -/
def State.maskWrite (s : State) (v : Nat) : State :=
  if 2 ^ 32 ≤ v then s else { s with host := { s.host with intMask := v } }.renotify

/-- A register of the doorbell page as it reads: DOORBELL and LAUNCH_GO read 0. -/
def State.pageReg (s : State) (r : Nat) : Nat :=
  match r with
  | 1 => s.launchMask 0 | 2 => s.launchMask 1 | 3 => s.launchMask 2 | 4 => s.launchMask 3
  | 6 => s.host.intCause | 7 => s.host.intMask | _ => 0

/-- Write of register r of the doorbell page. -/
def State.pageWrite (s : State) (r v : Nat) : State :=
  match r with
  | 0 => s.doorbell v
  | 5 => s.launchGo v
  | 6 => s.causeWrite v
  | 7 => s.maskWrite v
  | _ =>
    if (r = 2 || r = 4) && 2 ^ 18 ≤ v then s
    else { s with host := { s.host with launchMask := Tab.set 0 s.host.launchMask (r - 1) v } }

/-- A write to the doorbell page, register by register; bytes a write leaves out keep their value in the masks and INT_MASK,
and are 0 in the others. -/
def State.pageBytes (s : State) (off : Nat) (data : List Byte) : State :=
  (List.range 8).foldl (fun s r =>
    if meets off data.length (8 * r) 8 then
      let old := toBytes 8 (if r = 6 then 0 else s.pageReg r)
      s.pageWrite r (ofBytes ((List.range 8).map (fun i =>
        if off ≤ 8 * r + i && 8 * r + i < off + data.length then data.getD (8 * r + i - off) 0 else old.getD i 0)))
    else s) s

/-- A byte of the MSI-X table; bit 0 of byte 12 of an entry is its mask. [PRESUMED: log entry 6] -/
def HostSt.msixByte (h : HostSt) (off : Nat) : Byte :=
  if off % 16 = 12 then BitVec.ofNat 8 (b2n (bit (off / 16) h.msixMasked))
  else if 12 < off % 16 then 0 else Tab.get 0 h.msixTable off

/-- A write to the MSI-X table. [PRESUMED: log entry 6] -/
def State.msixWrite (s : State) (off : Nat) (data : List Byte) : State :=
  let h := (List.range data.length).foldl (fun (h : HostSt) i =>
    let a := off + i
    let b := data.getD i 0
    if 512 ≤ a || 12 < a % 16 then h
    else if a % 16 = 12 then { h with msixMasked := setBit (a / 16) (bit 0 b.toNat) h.msixMasked }
    else { h with msixTable := Tab.set 0 h.msixTable a b }) s.host
  { s with host := h }.renotify

/-! ## BAR0 (16 R536, R538) -/

/-- The HDM decoders that a write of component registers commits or releases: bit 9 of a control register (R541).
[PRESUMED: log entry 6] -/
def State.componentWrite (s : State) (off : Nat) (data : List Byte) : State :=
  [0, 1].foldl (fun (s : State) n =>
    let a := Config.hdmControl n + 1
    if off ≤ a && a < off + data.length then
      { s with host := { s.host with hdmCommitted := setBit n (bit 1 (data.getD (a - off) 0).toNat) s.host.hdmCommitted } }
    else s) s

/-- A BAR0 write. [DEDUCED: log entry 47] -/
def State.bar0Write (s : State) (off : Nat) (data : List Byte) : State :=
  if off < 0x800000 then
    let p := off / 0x400000
    if s.pierDown p then s.dropWrite else s.write (pkey (spCtl p) (off % 0x400000)) data
  else if off < 0x810000 then s.componentWrite (off - 0x800000) data
  else if 0x900000 ≤ off && off < 0x901000 then s.pageBytes (off - 0x900000) data
  else if 0xA00000 ≤ off && off < 0xA01000 then s.msixWrite (off - 0xA00000) data
  else s

/-- A BAR0 read. [PRESUMED: log entry 6; DEDUCED: log entry 47] -/
def State.bar0Read (s : State) (off n : Nat) : State :=
  let give (f : Nat → Byte) : State := s.emit (.hostData false ((List.range n).map f))
  if off < 0x800000 then
    let p := off / 0x400000
    if s.pierDown p then s.poison n else give (fun i => s.ctlByte p (off % 0x400000 + i))
  else if off < 0x820000 then
    let r := s.takeBytes n
    r.2.emit (.hostData false r.1)
  else if 0x900000 ≤ off && off < 0x901000 then
    give (fun i => let a := off - 0x900000 + i; BitVec.ofNat 8 (s.pageReg (a / 8) / 256 ^ (a % 8)))
  else if 0xA00000 ≤ off && off < 0xA01000 then
    give (fun i => let a := off - 0xA00000 + i; if a < 512 then s.host.msixByte a else 0)
  else if 0xA01000 ≤ off && off < 0xA02000 then
    give (fun i => BitVec.ofNat 8 ((s.host.unsent &&& s.host.intCause) / 256 ^ (off - 0xA01000 + i)))
  else give (fun _ => 0)

/-! ## Host-managed memory (16 R541 to R545) -/

/-- Base and size of a window: 0 CHECKPOINT, 1 MIRROR; the size rounded down to 256 MiB. -/
def State.hdmWindow (s : State) (w : Nat) : Nat × Nat :=
  let i := if w = 0 then 0x7002 else 0x7001
  (s.odv 0 i 1, s.odv 0 i 2 / 2 ^ 28 * 2 ^ 28)

/-- A CXL.mem request reaches a window. [DEDUCED: log entry 50] -/
def State.hdmReach (s : State) (w off n : Nat) : Bool :=
  s.hostLinked && decide (s.power.state = .active) && s.host.cxlMode && !s.host.d3hot && decide (w < 2)
    && bit w s.host.hdmCommitted && decide (off + n ≤ (s.hdmWindow w).2) && decide (off % 64 + n ≤ 64) && decide (n ≠ 0)

/-- Lines of the filter of R544. [DEDUCED: log entry 50] -/
def filterSize : Nat := 262144

/-- Answer a read of a line and track the line (16 R542, R544). -/
def State.lineRead (s : State) (l : Nat) : State :=
  let k := pkey spSlow (l * 64)
  let bad := s.ueIn k 64
  let r := s.loadRun (Asker.host 0) k 64
  let s := r.1.emit (.line bad r.2)
  if s.host.filter.contains l then s else { s with host := { s.host with filter := s.host.filter ++ [l] } }

/-- BISnpInv of a line with no write of the module behind it. -/
def State.freeLine (s : State) (l : Nat) : State :=
  let s := s.snoopLine l
  { s with host := { s.host with snoopWait := s.host.snoopWait ++ [(l, [])] } }

/-- Serve a read of a line: it waits for an outstanding snoop of its line, or for that of the oldest entry where the filter
is full. [DEDUCED: log entry 50] -/
def State.lineRequest (s : State) (l : Nat) : State :=
  if s.host.snoopWait.any (fun w => w.1 = l) then
    { s with host := { s.host with readWait := s.host.readWait ++ [(l, l)] } }
  else if s.host.filter.contains l || s.host.filter.length < filterSize then s.lineRead l
  else match s.host.filter with
    | [] => s.lineRead l
    | o :: _ =>
      let s := s.freeLine o
      { s with host := { s.host with readWait := s.host.readWait ++ [(o, l)] } }

/-- A write of part of a line by the host. [DEDUCED: log entry 50] -/
def State.hostLineWrite (s : State) (k : Nat) (data : List Byte) : State :=
  (s.touchWriteRun (Asker.host 0) 0 ffPattern (k, data.length)).setBytes k data

/-- The CXL controller goes to its defaults: Hot Reset and FLR (Table 16-11). [DEDUCED: log entry 52] -/
def State.controllerReset (s : State) : State :=
  { s.endHostCommands with host := { s.host.controllerReset with readWait := [] } }

/-- A CXL Reset that waits completes once no line is tracked or snooped. [DEDUCED: log entry 52] -/
def State.tryCxlReset (s : State) : State :=
  if s.host.cxlReset && s.host.filter.isEmpty && s.host.snoopWait.isEmpty then
    { s with host := { s.host with cxlReset := false } }.controllerReset
  else s

/-- ANSWERs that waited for their rows to be visible and wait no longer complete (09 R318). -/
def State.answersSweep (s : State) : State :=
  [0, 1].foldl (fun s p => (List.range (s.queue p 80).flights.length).reverse.foldl (fun s k => s.answersDone p k) s) s

/-- The response to BISnpInv of a line: dirty data first, then the writes that waited, then the reads (16 R544).
[DEDUCED: log entry 50] -/
def State.snoopResponse (s : State) (l : Nat) (dirty : Option (List Byte)) : State :=
  let w := s.host.snoopWait.filter (fun x => x.1 = l)
  if w.isEmpty then s else
  let rs := s.host.readWait.filter (fun x => x.1 = l)
  let s := { s with host := { s.host with snoopWait := s.host.snoopWait.filter (fun x => !decide (x.1 = l)),
                                          readWait := s.host.readWait.filter (fun x => !decide (x.1 = l)) } }
  let s := match dirty with
    | some d => s.hostLineWrite (pkey spSlow (l * 64)) ((padTo 64 d).take 64)
    | none => s
  let s := s.putBytes (w.flatMap (fun (x : Nat × List (Nat × Byte)) => x.2))
  (rs.foldl (fun s x => s.lineRequest x.2) s.answersSweep).tryCxlReset

/-! ## Link and host resets (16 R533, R554, R555) -/

/-- The link goes: a notify line being written is dropped, and its messages wait; outstanding snoops get no answer; host
requests in flight are discarded (Table 16-12). [DEDUCED: log entry 52] -/
def State.linkGone (s : State) : State :=
  let s := match s.host.notifyWait with
    | none => s
    | some vs =>
      { s with host := { s.host with notifyWait := none, unsent := vs.foldl (fun n v => setBit v true n) s.host.unsent } }.bump32 0 0x8010 8 1
  let s := s.settleSnoops.answersSweep
  { s with host := { s.host with linkUp := false, rate := 0, width := 0, cxlMode := false, cxlReset := false } }.controllerReset

/-! ## Rows -/

/-- BAR_WRITE: BAR 0 or 2, offset, data. -/
def execBarWrite (bar off : Nat) (data : List Byte) (s : State) : Host.Outcome State Fault Refusal :=
  .next (if s.hostLinked && !s.host.d3hot && tlpOk off data.length then
    (if bar = 0 && off < 2 ^ 24 then s.bar0Write off data else if bar = 2 && off < 2 ^ 40 then s.bar2Write off data else s)
  else s)
/-- BAR_READ: BAR 0 or 2, offset, length. -/
def execBarRead (bar off n : Nat) (s : State) : Host.Outcome State Fault Refusal :=
  .next (if s.hostLinked && !s.host.d3hot && tlpOk off n then
    (if bar = 0 && off < 2 ^ 24 then s.bar0Read off n else if bar = 2 && off < 2 ^ 40 then s.bar2Read off n else s)
  else s)
/-- HDM_READ of the line at an offset of a window: 0 CHECKPOINT, 1 MIRROR. -/
def execHdmRead (w off : Nat) (s : State) : Host.Outcome State Fault Refusal :=
  .next (if s.hdmReach w (off / 64 * 64) 64 then s.lineRequest (((s.hdmWindow w).1 + off) / 64) else s)
/-- HDM_WRITE of bytes of one line of a window. -/
def execHdmWrite (w off : Nat) (data : List Byte) (s : State) : Host.Outcome State Fault Refusal :=
  .next (if s.hdmReach w off data.length then
    (if w = 1 then s.bump32 0 0x8010 4 1 else s.hostLineWrite (pkey spSlow ((s.hdmWindow w).1 + off)) data)
  else s)
/-- BISNP_RESPONSE of a line, with the dirty data the host returns. -/
def execBisnpResponse (line : Nat) (dirty : Option (List Byte)) (s : State) : Host.Outcome State Fault Refusal :=
  .next (s.snoopResponse line dirty)
/-- SNOOP. -/
def execSnoop (s : State) : Host.Outcome State Fault Refusal :=
  .next (if s.hostLinked && s.host.cxlMode then s.emit .snoopAnswer else s)
/-- NOTIFY_COMPLETE: the messages go whose conditions still hold; the others, and later events, are looked at again. -/
def execNotifyComplete (s : State) : Host.Outcome State Fault Refusal :=
  .next (match s.host.notifyWait with
    | none => s
    | some vs =>
      let s := { s with host := { s.host with notifyWait := none,
                                              unsent := vs.foldl (fun n v => setBit v true n) s.host.unsent } }
      let now := vs.filter s.host.mayNotify
      let s := { s with host := { s.host with unsent := now.foldl (fun n v => setBit v false n) s.host.unsent } }
      (s.sendAll now).renotify)
/-- INT_HOLDOFF_EXPIRY of a vector. -/
def execIntHoldoffExpiry (v : Nat) (s : State) : Host.Outcome State Fault Refusal :=
  .next (if v < 32 then
    { s with host := { s.host with holdoff := setBit v false s.host.holdoff } }.notifyAll [v]
  else s)
/-- INT_CAUSE_WRITE. -/
def execIntCauseWrite (v : Nat) (s : State) : Host.Outcome State Fault Refusal :=
  .next (if s.hostLinked && !s.host.d3hot then s.causeWrite v else s)
/-- INT_MASK_WRITE. -/
def execIntMaskWrite (v : Nat) (s : State) : Host.Outcome State Fault Refusal :=
  .next (if s.hostLinked && !s.host.d3hot then s.maskWrite v else s)
/-- HOT_RESET. -/
def execHotReset (s : State) : Host.Outcome State Fault Refusal := .next (if s.host.linkUp then s.linkGone else s)
/-- FLR. -/
def execFlr (s : State) : Host.Outcome State Fault Refusal := .next (if s.host.linkUp then s.controllerReset else s)
/-- CXL_RESET: every tracked line is snooped, and the reset follows the last response. -/
def execCxlReset (s : State) : Host.Outcome State Fault Refusal :=
  .next (if s.host.linkUp then
    let s := { s with host := { s.host with cxlReset := true } }
    (if s.host.cxlMode then s.host.filter.foldl (fun s l => s.freeLine l) s
     else { s with host := { s.host with filter := [] } }).tryCxlReset
  else s)
/-- D3HOT. -/
def execD3hot (s : State) : Host.Outcome State Fault Refusal :=
  .next (if s.host.linkUp then { s with host := { s.host with d3hot := true } } else s)
/-- D0_ENTRY. -/
def execD0Entry (s : State) : Host.Outcome State Fault Refusal :=
  .next (if s.host.linkUp && s.host.d3hot then { s with host := { s.host with d3hot := false } }.renotify else s)
/-- HOST_LINK_DOWN. -/
def execHostLinkDown (s : State) : Host.Outcome State Fault Refusal :=
  .next (if s.host.linkUp then (s.bump32 0 0x8010 10 1).linkGone else s)
/-- HOST_LINK_UP: rate code, width, 256-byte flit mode. -/
def execHostLinkUp (rate width : Nat) (flit : Bool) (s : State) : Host.Outcome State Fault Refusal :=
  .next (if s.hostReady && !s.host.linkUp && rate ≤ 5 && [1, 2, 4, 8, 16].contains width then
    { s with host := { s.host with linkUp := true, rate := rate, width := width, cxlMode := decide (4 ≤ rate) && flit } }.renotify
  else s)
/-- CONFIGURATION_REQUEST (17 R592). -/
def execConfigurationRequest (s : State) : Host.Outcome State Fault Refusal :=
  .next (match s.power.state with
    | .toll => s
    | .standby => s
    | .active => s.emit (.config false)
    | _ => s.emit (.config true))

end Sys2Proof.Machine
end

