-- ==== Sys2Proof/Machine/Mailbox.lean ====
section
/-! DEFINITION. The commands of the primary mailbox (16 R551, R552; 19 R629, R630). Layouts that the CXL specification
fixes are `Config.cxlPayload`. -/

namespace Sys2Proof.Machine

/-- A dictionary command of the mailbox has not been answered: the mailbox runs one command at a time.
[DEDUCED: log entry 53] -/
def State.mailboxBusy (s : State) : Bool :=
  (match s.dict.busy with | some a => decide (a.reply = .mailbox) | none => false)
    || s.dict.queue.any (fun a => decide (a.reply = .mailbox))

/-- End a mailbox command with a return code and an output payload; vector 0 (Table 16-6). -/
def State.mailboxDone (s : State) (code : Nat) (out : List Byte) : State := (s.emit (.mailbox code out)).raise 0

/-- A mailbox command arrives: it needs the link and D0; in RECOVERY all but four commands are unsupported (19 R630).
[DEDUCED: log entry 53] -/
def State.mailbox (s : State) (inRecovery : Bool) (f : State → State) : State :=
  if !s.hostLinked || s.host.d3hot || s.mailboxBusy then s
  else if decide (s.power.state ≠ .active) && !inRecovery then s.mailboxDone 3 []
  else f s

/-- A command that answers from the state. [PRESUMED: log entry 7] -/
def State.mailboxGive (s : State) (op : Nat) (what : List (List Byte)) : State := s.mailboxDone 0 (Config.cxlPayload op what)

/-- Event logs of CXL, by number; 2 is the Failure log, the one with records here (Table 16-8). [PRESUMED: log entry 7] -/
def State.logOf (s : State) (log : Nat) : List Nat := if log = 2 then s.host.eventLog else []

/-- An access by a dictionary command; a payload that does not fit Table 16-9 is not serialised. [DEDUCED: log entry 53] -/
def State.odCommand (s : State) (fits : Bool) (a : Access) : State :=
  s.mailbox false (fun s => if fits then s.access a else s.mailboxDone 2 [])

/-! ## Rows -/

/-- IDENTIFY. -/
def execIdentify (s : State) : Host.Outcome State Fault Refusal :=
  .next (s.mailbox true (fun s =>
    s.mailboxGive 0x0001 [toBytes 4 (s.odv 0 0x1000 0), toBytes 1 (s.odv 0 0x1001 0), toBytes 8 Config.serialNumber.toNat]))
/-- BACKGROUND_OPERATION_STATUS: slot and bytes of the transfer in progress. -/
def execBackgroundOperationStatus (s : State) : Host.Outcome State Fault Refusal :=
  .next (s.mailbox false (fun s =>
    s.mailboxGive 0x0002 (match s.sec.xfer with
      | some x => [toBytes 1 (x.1 + 1), toBytes 4 x.2.length]
      | none => [])))
/-- GET_EVENT_RECORDS of a log. -/
def execGetEventRecords (log : Nat) (s : State) : Host.Outcome State Fault Refusal :=
  .next (s.mailbox false (fun s =>
    if log < 4 then s.mailboxGive 0x0100 ((s.logOf log).map (toBytes 8)) else s.mailboxDone 2 []))
/-- CLEAR_EVENT_RECORDS of a log: all, or the n oldest. -/
def execClearEventRecords (log : Nat) (all : Bool) (n : Nat) (s : State) : Host.Outcome State Fault Refusal :=
  .next (s.mailbox false (fun s =>
    if 4 ≤ log || (!all && decide ((s.logOf log).length < n)) then s.mailboxDone 2 []
    else if log = 2 then
      ({ s with host := { s.host with eventLog := if all then [] else s.host.eventLog.drop n } }).mailboxDone 0 []
    else s.mailboxDone 0 []))
/-- GET_EVENT_INTERRUPT_POLICY. -/
def execGetEventInterruptPolicy (s : State) : Host.Outcome State Fault Refusal :=
  .next (s.mailbox false (fun s => s.mailboxGive 0x0102 [s.host.eventPolicy.flatMap (toBytes 1)]))
/-- SET_EVENT_INTERRUPT_POLICY: one byte for each log. -/
def execSetEventInterruptPolicy (policy : List Nat) (s : State) : Host.Outcome State Fault Refusal :=
  .next (s.mailbox false (fun s => ({ s with host := { s.host with eventPolicy := policy } }).mailboxDone 0 []))
/-- GET_FW_INFO: slots, the slot that runs, the slot marked for boot, and each slot's version. -/
def execGetFwInfo (s : State) : Host.Outcome State Fault Refusal :=
  .next (s.mailbox true (fun s =>
    s.mailboxGive 0x0200 [toBytes 1 2, toBytes 1 (if s.sec.booted then s.sec.running + 1 else 0), toBytes 1 (s.sec.boot + 1),
      toBytes 8 (fieldAt 16 8 (s.sec.image 0)), toBytes 8 (fieldAt 16 8 (s.sec.image 1))]))
/-- TRANSFER_FW: action, slot, offset, data. -/
def execTransferFw (action slot off : Nat) (data : List Byte) (s : State) : Host.Outcome State Fault Refusal :=
  .next (s.mailbox true (fun s => let r := s.transferFw action slot off data; r.2.mailboxDone r.1 []))
/-- ACTIVATE_FW of a slot. -/
def execActivateFw (slot : Nat) (s : State) : Host.Outcome State Fault Refusal :=
  .next (s.mailbox true (fun s => let r := s.activateFw slot; r.2.mailboxDone r.1 []))
/-- GET_TIMESTAMP. [DESIGN CHOICE: log entry 54] -/
def execGetTimestamp (s : State) : Host.Outcome State Fault Refusal :=
  .next (s.mailbox false (fun s => let t := s.now; t.2.mailboxGive 0x0300 [toBytes 8 t.1]))
/-- SET_TIMESTAMP. [DESIGN CHOICE: log entry 54] -/
def execSetTimestamp (ns : BitVec 64) (s : State) : Host.Outcome State Fault Refusal :=
  .next (s.mailbox false (fun s => ({ s with host := { s.host with timestamp := some ns.toNat } }).mailboxDone 0 []))
/-- GET_SUPPORTED_LOGS. -/
def execGetSupportedLogs (s : State) : Host.Outcome State Fault Refusal :=
  .next (s.mailbox false (fun s => s.mailboxGive 0x0400 []))
/-- GET_LOG: whether it names the Command Effects Log, offset, length. -/
def execGetLog (effects : Bool) (off len : Nat) (s : State) : Host.Outcome State Fault Refusal :=
  .next (s.mailbox false (fun s =>
    if effects then s.mailboxGive 0x0401 [toBytes 4 off, toBytes 4 len] else s.mailboxDone 2 []))
/-- OD_READ: INDEX, SUBINDEX, OFFSET, LENGTH, and whether a reserved byte is set. -/
def execOdRead (idx sub off len : Nat) (rsv : Bool) (s : State) : Host.Outcome State Fault Refusal :=
  .next (s.odCommand (!rsv && decide (len ≤ 4080)) ⟨1, false, idx, sub, off, len, [], 0, .mailbox⟩)
/-- OD_WRITE. -/
def execOdWrite (idx sub off len : Nat) (rsv : Bool) (data : List Byte) (s : State) : Host.Outcome State Fault Refusal :=
  .next (s.odCommand (!rsv && decide (len = data.length) && decide (16 + data.length ≤ 4096))
    ⟨1, true, idx, sub, off, data.length, data, 0, .mailbox⟩)
/-- OD_WRITE_SIGNED: the data, then the 8 bytes of its TOKEN_REF. -/
def execOdWriteSigned (idx sub off len : Nat) (rsv : Bool) (data : List Byte) (ref : BitVec 64) (s : State) : Host.Outcome State Fault Refusal :=
  .next (s.odCommand (!rsv && decide (len = data.length) && decide (24 + data.length ≤ 4096))
    ⟨1, true, idx, sub, off, data.length, data, ref.toNat, .mailbox⟩)

end Sys2Proof.Machine
end

