-- ==== Sys2Proof/Machine/Wait.lean ====
section
/-! DEFINITION. WAIT_TIMEOUT: a wait field at the head of a queue, or an internal wait of an instruction in flight, unmet
for WAIT_LIMIT cycles (06 Table 6-14, 09 R317, 10 R348, 11 R389, 12 R428). -/

namespace Sys2Proof.Machine

/-- A flight of the Trestle queue stands in an internal wait. [DEDUCED: log entry 72] -/
def State.trestleWaits (s : State) (p : Nat) (f : Flight) : Bool :=
  let e := s.liveAt p (trLive f.word)
  let op := opOf f.word
  if op = 0x13 || op = 0x31 then !s.inboxReady p (inboxJob f)
  else if op = 0x15 || op = 0x33 then !(e.st = .live && e.sent && decide (e.arrived = e.expected))
  else false

/-- A flight of the Ilben queue stands in an internal wait (Table 12-7). [DEDUCED: log entry 72] -/
def State.ilbenWaits (s : State) (f : Flight) : Bool :=
  s.upd.jobs.any (fun j => decide (j.ident = f.args.getD 0 0)
    && (!s.ilReady j || (decide (j.op = 0x13) && decide (s.bucketState j.cfg.nbPier j.cfg.nb ≠ bkReduced))))

/-- A flight stands in an internal wait: of the Trestle, of Ilben, an LFENCE, or a request that is being sent again.
[DEDUCED: log entry 72] -/
def State.waitsInside (s : State) (p q : Nat) (f : Flight) : Bool :=
  !f.null && (if q = 80 then s.trestleWaits p f
    else if q = 81 then s.ilbenWaits f
    else decide (64 ≤ q) && (decide (opOf f.word = 0x22)
      || s.fab.reqs.any (fun x => x.retry && decide (x.ident = f.args.getD 0 0))))

/-- WAIT_TIMEOUT: k = 0 the head, k > 0 the k-th instruction in flight; recorded once per instruction.
[DEDUCED: log entry 72] -/
def State.timeout (s : State) (p q k : Nat) : State :=
  match k with
  | 0 => s.waitTimeout p q
  | n + 1 =>
    match s.flight p q n with
    | none => s
    | some f =>
      if s.odv 0 0xF122 0 ≠ 0 && !f.timedOut && s.waitsInside p q f then
        (s.streamFault p q 6 f.pc f.sc1 0 0 0 7).putFlight p q n { f with timedOut := true }
      else s

/-- WAIT_TIMEOUT of queue q of Pier p. -/
def execWaitTimeout (p q k : Nat) (s : State) : Host.Outcome State Fault Refusal :=
  .next (if p < 2 && q < 82 then s.timeout p q k else s)

end Sys2Proof.Machine
end

