-- ==== Sys2Proof/Machine/Dispatch.lean ====
section
/-! DEFINITION. The effect of each command on everything but the queue of commands: one arm for each constructor. -/

namespace Sys2Proof.Machine

/-- The effect of a command. -/
def exec (i : Instr) (s : State) : Host.Outcome State Fault Refusal :=
  match i with
  | .dictionaryWrite tr idx sub data => Sys2Proof.Machine.execDictionaryWrite tr idx sub data s
  | .watchBankClose p => Sys2Proof.Machine.execWatchBankClose p s
  | .ringTailWrite n p t => Sys2Proof.Machine.execRingTailWrite n p t s
  | .mma p i0 => Sys2Proof.Machine.execMma p i0 s
  | .mmaS p i0 => Sys2Proof.Machine.execMmaS p i0 s
  | .mmaE p i0 => Sys2Proof.Machine.execMmaE p i0 s
  | .mmaSe p i0 => Sys2Proof.Machine.execMmaSe p i0 s
  | .xport p i0 => Sys2Proof.Machine.execXport p i0 s
  | .astat p i0 => Sys2Proof.Machine.execAstat p i0 s
  | .snop p i0 => Sys2Proof.Machine.execSnop p i0 s
  | .spanExecutionComplete p i0 => Sys2Proof.Machine.execSpanExecutionComplete p i0 s
  | .wakeComplete p i0 deck => Sys2Proof.Machine.execWakeComplete p i0 deck s
  | .dnop p i0 => Sys2Proof.Machine.execDnop p i0 s
  | .add p i0 => Sys2Proof.Machine.execAdd p i0 s
  | .sub p i0 => Sys2Proof.Machine.execSub p i0 s
  | .mul p i0 => Sys2Proof.Machine.execMul p i0 s
  | .fma p i0 => Sys2Proof.Machine.execFma p i0 s
  | .div p i0 => Sys2Proof.Machine.execDiv p i0 s
  | .min p i0 => Sys2Proof.Machine.execMin p i0 s
  | .max p i0 => Sys2Proof.Machine.execMax p i0 s
  | .abs p i0 => Sys2Proof.Machine.execAbs p i0 s
  | .neg p i0 => Sys2Proof.Machine.execNeg p i0 s
  | .sqrt p i0 => Sys2Proof.Machine.execSqrt p i0 s
  | .rsqrt p i0 => Sys2Proof.Machine.execRsqrt p i0 s
  | .rcp p i0 => Sys2Proof.Machine.execRcp p i0 s
  | .exp p i0 => Sys2Proof.Machine.execExp p i0 s
  | .log p i0 => Sys2Proof.Machine.execLog p i0 s
  | .tanh p i0 => Sys2Proof.Machine.execTanh p i0 s
  | .sigm p i0 => Sys2Proof.Machine.execSigm p i0 s
  | .mov p i0 => Sys2Proof.Machine.execMov p i0 s
  | .bcast p i0 => Sys2Proof.Machine.execBcast p i0 s
  | .cmplt p i0 => Sys2Proof.Machine.execCmplt p i0 s
  | .cmple p i0 => Sys2Proof.Machine.execCmple p i0 s
  | .cmpeq p i0 => Sys2Proof.Machine.execCmpeq p i0 s
  | .cmpne p i0 => Sys2Proof.Machine.execCmpne p i0 s
  | .iadd p i0 => Sys2Proof.Machine.execIadd p i0 s
  | .imin p i0 => Sys2Proof.Machine.execImin p i0 s
  | .imax p i0 => Sys2Proof.Machine.execImax p i0 s
  | .scansum p i0 => Sys2Proof.Machine.execScansum p i0 s
  | .scansumx p i0 => Sys2Proof.Machine.execScansumx p i0 s
  | .scanmax p i0 => Sys2Proof.Machine.execScanmax p i0 s
  | .scanmin p i0 => Sys2Proof.Machine.execScanmin p i0 s
  | .iscan p i0 => Sys2Proof.Machine.execIscan p i0 s
  | .iscanx p i0 => Sys2Proof.Machine.execIscanx p i0 s
  | .rsum p i0 => Sys2Proof.Machine.execRsum p i0 s
  | .rprod p i0 => Sys2Proof.Machine.execRprod p i0 s
  | .rmax p i0 => Sys2Proof.Machine.execRmax p i0 s
  | .rmin p i0 => Sys2Proof.Machine.execRmin p i0 s
  | .rargmax p i0 => Sys2Proof.Machine.execRargmax p i0 s
  | .rargmin p i0 => Sys2Proof.Machine.execRargmin p i0 s
  | .rcount p i0 => Sys2Proof.Machine.execRcount p i0 s
  | .rnorm p i0 => Sys2Proof.Machine.execRnorm p i0 s
  | .rmean p i0 => Sys2Proof.Machine.execRmean p i0 s
  | .rssq p i0 => Sys2Proof.Machine.execRssq p i0 s
  | .irsum p i0 => Sys2Proof.Machine.execIrsum p i0 s
  | .rabr p i0 => Sys2Proof.Machine.execRabr p i0 s
  | .easum p i0 => Sys2Proof.Machine.execEasum p i0 s
  | .eassq p i0 => Sys2Proof.Machine.execEassq p i0 s
  | .eaout p i0 => Sys2Proof.Machine.execEaout p i0 s
  | .eanorm p i0 => Sys2Proof.Machine.execEanorm p i0 s
  | .eamean p i0 => Sys2Proof.Machine.execEamean p i0 s
  | .eaclr p i0 => Sys2Proof.Machine.execEaclr p i0 s
  | .badd p i0 => Sys2Proof.Machine.execBadd p i0 s
  | .bsub p i0 => Sys2Proof.Machine.execBsub p i0 s
  | .bmul p i0 => Sys2Proof.Machine.execBmul p i0 s
  | .bfma p i0 => Sys2Proof.Machine.execBfma p i0 s
  | .bmin p i0 => Sys2Proof.Machine.execBmin p i0 s
  | .bmax p i0 => Sys2Proof.Machine.execBmax p i0 s
  | .sets p i0 => Sys2Proof.Machine.execSets p i0 s
  | .lds p i0 => Sys2Proof.Machine.execLds p i0 s
  | .setvl p i0 => Sys2Proof.Machine.execSetvl p i0 s
  | .dstat p i0 => Sys2Proof.Machine.execDstat p i0 s
  | .deckExecutionComplete p i0 k => Sys2Proof.Machine.execDeckExecutionComplete p i0 k s
  | .queueStart p q => Sys2Proof.Machine.execQueueStart p q s
  | .queueHalt p q => Sys2Proof.Machine.execQueueHalt p q s
  | .queueResume p q => Sys2Proof.Machine.execQueueResume p q s
  | .queueReset p q => Sys2Proof.Machine.execQueueReset p q s
  | .windowLoaded p q => Sys2Proof.Machine.execWindowLoaded p q s
  | .queueDone p q => Sys2Proof.Machine.execQueueDone p q s
  | .queueDrained p q => Sys2Proof.Machine.execQueueDrained p q s
  | .waitTimeout p q k => Sys2Proof.Machine.execWaitTimeout p q k s
  | .flagMirrorUpdate p => Sys2Proof.Machine.execFlagMirrorUpdate p s
  | .bankRefresh p bank on => Sys2Proof.Machine.execBankRefresh p bank on s
  | .requestAdmit p bank served => Sys2Proof.Machine.execRequestAdmit p bank served s
  | .scrubPass p fresh hours => Sys2Proof.Machine.execScrubPass p fresh hours s
  | .unpin p => Sys2Proof.Machine.execUnpin p s
  | .writeBackInvalidate p => Sys2Proof.Machine.execWriteBackInvalidate p s
  | .cnop p e => Sys2Proof.Machine.execCnop p e s
  | .copy p e => Sys2Proof.Machine.execCopy p e s
  | .gather p e => Sys2Proof.Machine.execGather p e s
  | .scatter p e => Sys2Proof.Machine.execScatter p e s
  | .fill p e => Sys2Proof.Machine.execFill p e s
  | .copyComplete p e => Sys2Proof.Machine.execCopyComplete p e s
  | .guardBaseWrite r v => Sys2Proof.Machine.execGuardBaseWrite r v s
  | .guardSizeWrite r v => Sys2Proof.Machine.execGuardSizeWrite r v s
  | .arbiterRequest c n past who len => Sys2Proof.Machine.execArbiterRequest c n past who len s
  | .arbiterGrant c n cycles beats => Sys2Proof.Machine.execArbiterGrant c n cycles beats s
  | .grantEnd c n cycles beats => Sys2Proof.Machine.execGrantEnd c n cycles beats s
  | .cutoff c n cycles beats => Sys2Proof.Machine.execCutoff c n cycles beats s
  | .quotaWindowEnd c n => Sys2Proof.Machine.execQuotaWindowEnd c n s
  | .adaptClass c => Sys2Proof.Machine.execAdaptClass c s
  | .priorityWrite o v => Sys2Proof.Machine.execPriorityWrite o v s
  | .ledgerClear => Sys2Proof.Machine.execLedgerClear s
  | .tnop p => Sys2Proof.Machine.execTnop p s
  | .gopen p => Sys2Proof.Machine.execGopen p s
  | .gcancel p => Sys2Proof.Machine.execGcancel p s
  | .route p => Sys2Proof.Machine.execRoute p s
  | .routeComplete p k => Sys2Proof.Machine.execRouteComplete p k s
  | .inbox p => Sys2Proof.Machine.execInbox p s
  | .inboxArrivalsComplete p k => Sys2Proof.Machine.execInboxArrivalsComplete p k s
  | .answer p => Sys2Proof.Machine.execAnswer p s
  | .cexport p => Sys2Proof.Machine.execCexport p s
  | .cexportReady p k => Sys2Proof.Machine.execCexportReady p k s
  | .genQuietExpiry p i0 => Sys2Proof.Machine.execGenQuietExpiry p i0 s
  | .answerPacket p => Sys2Proof.Machine.execAnswerPacket p s
  | .gsend p => Sys2Proof.Machine.execGsend p s
  | .gsendComplete p k => Sys2Proof.Machine.execGsendComplete p k s
  | .ginbox p => Sys2Proof.Machine.execGinbox p s
  | .ginboxArrivalsComplete p k => Sys2Proof.Machine.execGinboxArrivalsComplete p k s
  | .ganswer p => Sys2Proof.Machine.execGanswer p s
  | .ggrad p => Sys2Proof.Machine.execGgrad p s
  | .ggradReady p k => Sys2Proof.Machine.execGgradReady p k s
  | .wgstart p => Sys2Proof.Machine.execWgstart p s
  | .reduce p e => Sys2Proof.Machine.execReduce p e s
  | .lacc p e => Sys2Proof.Machine.execLacc p e s
  | .lfence p e => Sys2Proof.Machine.execLfence p e s
  | .lfenceApply => Sys2Proof.Machine.execLfenceApply s
  | .reducePacket p priv => Sys2Proof.Machine.execReducePacket p priv s
  | .reduceComplete p b => Sys2Proof.Machine.execReduceComplete p b s
  | .response p => Sys2Proof.Machine.execResponse p s
  | .reduceRetry tag => Sys2Proof.Machine.execReduceRetry tag s
  | .releaseBucket p b => Sys2Proof.Machine.execReleaseBucket p b s
  | .releaseAllBuckets p => Sys2Proof.Machine.execReleaseAllBuckets p s
  | .curLayoutWrite v => Sys2Proof.Machine.execCurLayoutWrite v s
  | .inop p => Sys2Proof.Machine.execInop p s
  | .uopen p => Sys2Proof.Machine.execUopen p s
  | .pass1 p => Sys2Proof.Machine.execPass1 p s
  | .nexport p => Sys2Proof.Machine.execNexport p s
  | .nexportWrite => Sys2Proof.Machine.execNexportWrite s
  | .norms p => Sys2Proof.Machine.execNorms p s
  | .normsCompute => Sys2Proof.Machine.execNormsCompute s
  | .pass2 p => Sys2Proof.Machine.execPass2 p s
  | .wcopy p => Sys2Proof.Machine.execWcopy p s
  | .uclose p => Sys2Proof.Machine.execUclose p s
  | .updateDone => Sys2Proof.Machine.execUpdateDone s
  | .tagScrub => Sys2Proof.Machine.execTagScrub s
  | .exchangeContribution => Sys2Proof.Machine.execExchangeContribution s
  | .exchUp => Sys2Proof.Machine.execExchUp s
  | .exchToken => Sys2Proof.Machine.execExchToken s
  | .voteSend => Sys2Proof.Machine.execVoteSend s
  | .voteUp => Sys2Proof.Machine.execVoteUp s
  | .voteToken => Sys2Proof.Machine.execVoteToken s
  | .roundTimeout => Sys2Proof.Machine.execRoundTimeout s
  | .abandon => Sys2Proof.Machine.execAbandon s
  | .abandonUpdate => Sys2Proof.Machine.execAbandonUpdate s
  | .inject => Sys2Proof.Machine.execInject s
  | .restore => Sys2Proof.Machine.execRestore s
  | .reseed => Sys2Proof.Machine.execReseed s
  | .mseal => Sys2Proof.Machine.execMseal s
  | .attemptReset => Sys2Proof.Machine.execAttemptReset s
  | .mopen => Sys2Proof.Machine.execMopen s
  | .mdata => Sys2Proof.Machine.execMdata s
  | .mdone => Sys2Proof.Machine.execMdone s
  | .mclose => Sys2Proof.Machine.execMclose s
  | .mack => Sys2Proof.Machine.execMack s
  | .mirrorResend => Sys2Proof.Machine.execMirrorResend s
  | .mread => Sys2Proof.Machine.execMread s
  | .mrdata => Sys2Proof.Machine.execMrdata s
  | .codeword port n symbols => Sys2Proof.Machine.execCodeword port n symbols s
  | .ack port n => Sys2Proof.Machine.execAck port n s
  | .nak port n => Sys2Proof.Machine.execNak port n s
  | .credit port vc n => Sys2Proof.Machine.execCredit port vc n s
  | .stomp port vc => Sys2Proof.Machine.execStomp port vc s
  | .packetForward port => Sys2Proof.Machine.execPacketForward port s
  | .packetExpired port place => Sys2Proof.Machine.execPacketExpired port place s
  | .packetDelivery => Sys2Proof.Machine.execPacketDelivery s
  | .write p => Sys2Proof.Machine.execWrite p s
  | .signalDetected port => Sys2Proof.Machine.execSignalDetected port s
  | .trainingStep port peer => Sys2Proof.Machine.execTrainingStep port peer s
  | .trainingTimeout port => Sys2Proof.Machine.execTrainingTimeout port s
  | .detectRepeat port => Sys2Proof.Machine.execDetectRepeat port s
  | .linkErrorLimit port limit => Sys2Proof.Machine.execLinkErrorLimit port limit s
  | .signalLost port => Sys2Proof.Machine.execSignalLost port s
  | .farEndDetect port => Sys2Proof.Machine.execFarEndDetect port s
  | .selftestPass port => Sys2Proof.Machine.execSelftestPass port s
  | .loopbackFail port lanes => Sys2Proof.Machine.execLoopbackFail port lanes s
  | .retrain port => Sys2Proof.Machine.execRetrain port s
  | .disable port => Sys2Proof.Machine.execDisable port s
  | .enable port => Sys2Proof.Machine.execEnable port s
  | .portEnableWrite v => Sys2Proof.Machine.execPortEnableWrite v s
  | .rwrite p e => Sys2Proof.Machine.execRwrite p e s
  | .permute p e => Sys2Proof.Machine.execPermute p e s
  | .mapData p => Sys2Proof.Machine.execMapData p s
  | .mapSignal p => Sys2Proof.Machine.execMapSignal p s
  | .mapRetry tag => Sys2Proof.Machine.execMapRetry tag s
  | .barWrite bar off data => Sys2Proof.Machine.execBarWrite bar off data s
  | .barRead bar off n => Sys2Proof.Machine.execBarRead bar off n s
  | .hdmRead w off => Sys2Proof.Machine.execHdmRead w off s
  | .hdmWrite w off data => Sys2Proof.Machine.execHdmWrite w off data s
  | .bisnpResponse line dirty => Sys2Proof.Machine.execBisnpResponse line dirty s
  | .snoop => Sys2Proof.Machine.execSnoop s
  | .notifyComplete => Sys2Proof.Machine.execNotifyComplete s
  | .intHoldoffExpiry v => Sys2Proof.Machine.execIntHoldoffExpiry v s
  | .intCauseWrite v => Sys2Proof.Machine.execIntCauseWrite v s
  | .intMaskWrite v => Sys2Proof.Machine.execIntMaskWrite v s
  | .identify => Sys2Proof.Machine.execIdentify s
  | .backgroundOperationStatus => Sys2Proof.Machine.execBackgroundOperationStatus s
  | .getEventRecords log => Sys2Proof.Machine.execGetEventRecords log s
  | .clearEventRecords log all n => Sys2Proof.Machine.execClearEventRecords log all n s
  | .getEventInterruptPolicy => Sys2Proof.Machine.execGetEventInterruptPolicy s
  | .setEventInterruptPolicy policy => Sys2Proof.Machine.execSetEventInterruptPolicy policy s
  | .getFwInfo => Sys2Proof.Machine.execGetFwInfo s
  | .transferFw action slot off data => Sys2Proof.Machine.execTransferFw action slot off data s
  | .activateFw slot => Sys2Proof.Machine.execActivateFw slot s
  | .getTimestamp => Sys2Proof.Machine.execGetTimestamp s
  | .setTimestamp ns => Sys2Proof.Machine.execSetTimestamp ns s
  | .getSupportedLogs => Sys2Proof.Machine.execGetSupportedLogs s
  | .getLog effects off len => Sys2Proof.Machine.execGetLog effects off len s
  | .odRead idx sub off len rsv => Sys2Proof.Machine.execOdRead idx sub off len rsv s
  | .odWrite idx sub off len rsv data => Sys2Proof.Machine.execOdWrite idx sub off len rsv data s
  | .odWriteSigned idx sub off len rsv data ref => Sys2Proof.Machine.execOdWriteSigned idx sub off len rsv data ref s
  | .doeDiscovery index => Sys2Proof.Machine.execDoeDiscovery index s
  | .getVersion tr => Sys2Proof.Machine.execGetVersion tr s
  | .getCapabilities tr => Sys2Proof.Machine.execGetCapabilities tr s
  | .negotiateAlgorithms tr => Sys2Proof.Machine.execNegotiateAlgorithms tr s
  | .getDigests tr => Sys2Proof.Machine.execGetDigests tr s
  | .getCertificate tr slot off len => Sys2Proof.Machine.execGetCertificate tr slot off len s
  | .challenge tr slot nonce => Sys2Proof.Machine.execChallenge tr slot nonce s
  | .getMeasurements tr index sign nonce => Sys2Proof.Machine.execGetMeasurements tr index sign nonce s
  | .keyExchange tr data => Sys2Proof.Machine.execKeyExchange tr data s
  | .finish tr data => Sys2Proof.Machine.execFinish tr data s
  | .spdmHeartbeat tr => Sys2Proof.Machine.execSpdmHeartbeat tr s
  | .keyUpdate tr data => Sys2Proof.Machine.execKeyUpdate tr data s
  | .endSession tr => Sys2Proof.Machine.execEndSession tr s
  | .chunkSend tr last data => Sys2Proof.Machine.execChunkSend tr last data s
  | .chunkGet tr seq => Sys2Proof.Machine.execChunkGet tr seq s
  | .getPqSignature tr => Sys2Proof.Machine.execGetPqSignature tr s
  | .perstAssert => Sys2Proof.Machine.execPerstAssert s
  | .perstDeassert => Sys2Proof.Machine.execPerstDeassert s
  | .hotReset => Sys2Proof.Machine.execHotReset s
  | .flr => Sys2Proof.Machine.execFlr s
  | .cxlReset => Sys2Proof.Machine.execCxlReset s
  | .d3hot => Sys2Proof.Machine.execD3hot s
  | .hostLinkDown => Sys2Proof.Machine.execHostLinkDown s
  | .hostLinkUp rate width flit => Sys2Proof.Machine.execHostLinkUp rate width flit s
  | .inputRise node wakeMode => Sys2Proof.Machine.execInputRise node wakeMode s
  | .undervoltageLockout => Sys2Proof.Machine.execUndervoltageLockout s
  | .overvoltage mv => Sys2Proof.Machine.execOvervoltage mv s
  | .inputLow mv => Sys2Proof.Machine.execInputLow mv s
  | .railPowerGood order => Sys2Proof.Machine.execRailPowerGood order s
  | .railFault order => Sys2Proof.Machine.execRailFault order s
  | .referenceStable => Sys2Proof.Machine.execReferenceStable s
  | .channelTraining fails => Sys2Proof.Machine.execChannelTraining fails s
  | .wake => Sys2Proof.Machine.execWake s
  | .standby => Sys2Proof.Machine.execStandby s
  | .toll => Sys2Proof.Machine.execToll s
  | .gateEntry p i0 deck => Sys2Proof.Machine.execGateEntry p i0 deck s
  | .parkEntry c => Sys2Proof.Machine.execParkEntry c s
  | .retainEntry c => Sys2Proof.Machine.execRetainEntry c s
  | .offEntry c => Sys2Proof.Machine.execOffEntry c s
  | .clusterRestoreComplete c => Sys2Proof.Machine.execClusterRestoreComplete c s
  | .powerLoop p100 p1 pk mv ma => Sys2Proof.Machine.execPowerLoop p100 p1 pk mv ma s
  | .thermalLoop ts => Sys2Proof.Machine.execThermalLoop ts s
  | .stackThrottle p stack t => Sys2Proof.Machine.execStackThrottle p stack t s
  | .ilbenThrottle sensor t => Sys2Proof.Machine.execIlbenThrottle sensor t s
  | .thermalTrip sensor t => Sys2Proof.Machine.execThermalTrip sensor t s
  | .moduleReset => Sys2Proof.Machine.execModuleReset s
  | .moduleResetRelease => Sys2Proof.Machine.execModuleResetRelease s
  | .firmwareVerify => Sys2Proof.Machine.execFirmwareVerify s
  | .pierReset p => Sys2Proof.Machine.execPierReset p s
  | .pierResetRelease p => Sys2Proof.Machine.execPierResetRelease p s
  | .engineReset p e => Sys2Proof.Machine.execEngineReset p e s
  | .canRead node tag idx sub rsv off len => Sys2Proof.Machine.execCanRead node tag idx sub rsv off len s
  | .canWrite node tag idx sub rsv data => Sys2Proof.Machine.execCanWrite node tag idx sub rsv data s
  | .writeInit node tag idx sub rsv total len => Sys2Proof.Machine.execWriteInit node tag idx sub rsv total len s
  | .writeSeg node tag idx sub rsv seq data => Sys2Proof.Machine.execWriteSeg node tag idx sub rsv seq data s
  | .abort node tag idx sub rsv => Sys2Proof.Machine.execAbort node tag idx sub rsv s
  | .transferTimeout => Sys2Proof.Machine.execTransferTimeout s
  | .foreignFrame ident => Sys2Proof.Machine.execForeignFrame ident s
  | .heartbeat => Sys2Proof.Machine.execHeartbeat s
  | .busOff tec interrupted => Sys2Proof.Machine.execBusOff tec interrupted s
  | .busOffRecovery => Sys2Proof.Machine.execBusOffRecovery s
  | .ownerKeyDigestWrite tr digest => Sys2Proof.Machine.execOwnerKeyDigestWrite tr digest s
  | .fwSecurityVersionWrite tr v => Sys2Proof.Machine.execFwSecurityVersionWrite tr v s
  | .fabricIdBaseWrite tr v => Sys2Proof.Machine.execFabricIdBaseWrite tr v s
  | .debugLockoutWrite tr v => Sys2Proof.Machine.execDebugLockoutWrite tr v s
  | .ownerTransfer tr digest ref => Sys2Proof.Machine.execOwnerTransfer tr digest ref s
  | .debugUnlock tr v ref => Sys2Proof.Machine.execDebugUnlock tr v ref s
  | .tokenStage tr piece => Sys2Proof.Machine.execTokenStage tr piece s
  | .tokenBegin tr => Sys2Proof.Machine.execTokenBegin tr s
  | .tokenSeal tr => Sys2Proof.Machine.execTokenSeal tr s
  | .tokenVerifyComplete tr => Sys2Proof.Machine.execTokenVerifyComplete tr s
  | .senseOpen => Sys2Proof.Machine.execSenseOpen s
  | .senseClose => Sys2Proof.Machine.execSenseClose s
  | .ilbenCommandComplete i0 => Sys2Proof.Machine.execIlbenCommandComplete i0 s
  | .fuseProgramComplete => Sys2Proof.Machine.execFuseProgramComplete s
  | .refreshIntervalChange p stack t => Sys2Proof.Machine.execRefreshIntervalChange p stack t s
  | .canBusError tec rec0 => Sys2Proof.Machine.execCanBusError tec rec0 s
  | .d0Entry => Sys2Proof.Machine.execD0Entry s
  | .configurationRequest => Sys2Proof.Machine.execConfigurationRequest s
  | .spdmResponseReady => Sys2Proof.Machine.execSpdmResponseReady s

end Sys2Proof.Machine
end

