-- ==== Sys2Proof/Safety.lean ====
section
/-! DEFINITION. What counts as a safe run: one whose every step ends in a next state. -/

namespace Sys2Proof.Machine

/-- The step at s ends in a next state. -/
def State.Steps (s : State) : Prop := ∃ t, step s = .next t

/-- n steps from s end in next states, and t is the last. -/
inductive Runs : Nat → State → State → Prop where
  | none (s : State) : Runs 0 s s
  | more (n : Nat) (s t u : State) : step s = .next t → Runs n t u → Runs (n + 1) s u

/-- Every run from s may go on: the block never stops. -/
def State.Safe (s : State) : Prop := ∀ n t, Runs n s t → t.Steps

/-- No count-limited object has more fuse-log entries than Table 18-5 allows it writes (18 R604, R607). -/
def State.FusesFit (s : State) : Prop := ∀ idx : Nat, (s.fuses.filter (fun e => e.idx = idx)).length ≤ fuseAllowed idx

/-- Every entry of s's fuse log stands in t's, as it was or now COMPLETE (18 R605, R607). -/
def State.FusesStand (s t : State) : Prop :=
  ∀ (n : Nat) (e : FuseEntry), s.fuses[n]? = some e →
    t.fuses[n]? = some e ∨ (e.complete = false ∧ t.fuses[n]? = some { e with complete := true })

end Sys2Proof.Machine
end

