-- ==== Sys2Proof/WellFormed.lean ====
section
/-! DEFINITION. The operands that a command may carry: numbers of things the module has, and fields that fit their widths.
A meaning is total: given another operand it acts on nothing or takes it as its text says. -/

namespace Sys2Proof

/-- Symbols of codewords of n symbols, at most k in error in each, as the code of the store detects them (07 R267, 12 R418). -/
def Machine.CellErr.wf (e : Machine.CellErr) (n k : Nat) : Bool :=
  e.low.all (fun x => decide (x < n)) && e.high.all (fun x => decide (x < n)) && decide (e.low.length ≤ k) && decide (e.high.length ≤ k)

/-- The command's operands name things that exist and fit their fields. [DESIGN CHOICE: log entries 10, 75] -/
def Instr.wf (i : Instr) : Bool :=
  match i with
  | .dictionaryWrite tr0 idx0 sub0 _ => decide (tr0 < 2) && decide (idx0 < 65536) && decide (sub0 < 256)
  | .watchBankClose p0 => decide (p0 < 2)
  | .ringTailWrite n0 p0 _ => decide (n0 < 7) && decide (p0 < 2)
  | .mma p0 i0 => decide (p0 < 2) && decide (i0 < 32)
  | .mmaS p0 i0 => decide (p0 < 2) && decide (i0 < 32)
  | .mmaE p0 i0 => decide (p0 < 2) && decide (i0 < 32)
  | .mmaSe p0 i0 => decide (p0 < 2) && decide (i0 < 32)
  | .xport p0 i0 => decide (p0 < 2) && decide (i0 < 32)
  | .astat p0 i0 => decide (p0 < 2) && decide (i0 < 32)
  | .snop p0 i0 => decide (p0 < 2) && decide (i0 < 32)
  | .spanExecutionComplete p0 i0 => decide (p0 < 2) && decide (i0 < 32)
  | .wakeComplete p0 i0 _ => decide (p0 < 2) && decide (i0 < 32)
  | .dnop p0 i0 => decide (p0 < 2) && decide (i0 < 32)
  | .add p0 i0 => decide (p0 < 2) && decide (i0 < 32)
  | .sub p0 i0 => decide (p0 < 2) && decide (i0 < 32)
  | .mul p0 i0 => decide (p0 < 2) && decide (i0 < 32)
  | .fma p0 i0 => decide (p0 < 2) && decide (i0 < 32)
  | .div p0 i0 => decide (p0 < 2) && decide (i0 < 32)
  | .min p0 i0 => decide (p0 < 2) && decide (i0 < 32)
  | .max p0 i0 => decide (p0 < 2) && decide (i0 < 32)
  | .abs p0 i0 => decide (p0 < 2) && decide (i0 < 32)
  | .neg p0 i0 => decide (p0 < 2) && decide (i0 < 32)
  | .sqrt p0 i0 => decide (p0 < 2) && decide (i0 < 32)
  | .rsqrt p0 i0 => decide (p0 < 2) && decide (i0 < 32)
  | .rcp p0 i0 => decide (p0 < 2) && decide (i0 < 32)
  | .exp p0 i0 => decide (p0 < 2) && decide (i0 < 32)
  | .log p0 i0 => decide (p0 < 2) && decide (i0 < 32)
  | .tanh p0 i0 => decide (p0 < 2) && decide (i0 < 32)
  | .sigm p0 i0 => decide (p0 < 2) && decide (i0 < 32)
  | .mov p0 i0 => decide (p0 < 2) && decide (i0 < 32)
  | .bcast p0 i0 => decide (p0 < 2) && decide (i0 < 32)
  | .cmplt p0 i0 => decide (p0 < 2) && decide (i0 < 32)
  | .cmple p0 i0 => decide (p0 < 2) && decide (i0 < 32)
  | .cmpeq p0 i0 => decide (p0 < 2) && decide (i0 < 32)
  | .cmpne p0 i0 => decide (p0 < 2) && decide (i0 < 32)
  | .iadd p0 i0 => decide (p0 < 2) && decide (i0 < 32)
  | .imin p0 i0 => decide (p0 < 2) && decide (i0 < 32)
  | .imax p0 i0 => decide (p0 < 2) && decide (i0 < 32)
  | .scansum p0 i0 => decide (p0 < 2) && decide (i0 < 32)
  | .scansumx p0 i0 => decide (p0 < 2) && decide (i0 < 32)
  | .scanmax p0 i0 => decide (p0 < 2) && decide (i0 < 32)
  | .scanmin p0 i0 => decide (p0 < 2) && decide (i0 < 32)
  | .iscan p0 i0 => decide (p0 < 2) && decide (i0 < 32)
  | .iscanx p0 i0 => decide (p0 < 2) && decide (i0 < 32)
  | .rsum p0 i0 => decide (p0 < 2) && decide (i0 < 32)
  | .rprod p0 i0 => decide (p0 < 2) && decide (i0 < 32)
  | .rmax p0 i0 => decide (p0 < 2) && decide (i0 < 32)
  | .rmin p0 i0 => decide (p0 < 2) && decide (i0 < 32)
  | .rargmax p0 i0 => decide (p0 < 2) && decide (i0 < 32)
  | .rargmin p0 i0 => decide (p0 < 2) && decide (i0 < 32)
  | .rcount p0 i0 => decide (p0 < 2) && decide (i0 < 32)
  | .rnorm p0 i0 => decide (p0 < 2) && decide (i0 < 32)
  | .rmean p0 i0 => decide (p0 < 2) && decide (i0 < 32)
  | .rssq p0 i0 => decide (p0 < 2) && decide (i0 < 32)
  | .irsum p0 i0 => decide (p0 < 2) && decide (i0 < 32)
  | .rabr p0 i0 => decide (p0 < 2) && decide (i0 < 32)
  | .easum p0 i0 => decide (p0 < 2) && decide (i0 < 32)
  | .eassq p0 i0 => decide (p0 < 2) && decide (i0 < 32)
  | .eaout p0 i0 => decide (p0 < 2) && decide (i0 < 32)
  | .eanorm p0 i0 => decide (p0 < 2) && decide (i0 < 32)
  | .eamean p0 i0 => decide (p0 < 2) && decide (i0 < 32)
  | .eaclr p0 i0 => decide (p0 < 2) && decide (i0 < 32)
  | .badd p0 i0 => decide (p0 < 2) && decide (i0 < 32)
  | .bsub p0 i0 => decide (p0 < 2) && decide (i0 < 32)
  | .bmul p0 i0 => decide (p0 < 2) && decide (i0 < 32)
  | .bfma p0 i0 => decide (p0 < 2) && decide (i0 < 32)
  | .bmin p0 i0 => decide (p0 < 2) && decide (i0 < 32)
  | .bmax p0 i0 => decide (p0 < 2) && decide (i0 < 32)
  | .sets p0 i0 => decide (p0 < 2) && decide (i0 < 32)
  | .lds p0 i0 => decide (p0 < 2) && decide (i0 < 32)
  | .setvl p0 i0 => decide (p0 < 2) && decide (i0 < 32)
  | .dstat p0 i0 => decide (p0 < 2) && decide (i0 < 32)
  | .deckExecutionComplete p0 i0 _ => decide (p0 < 2) && decide (i0 < 32)
  | .queueStart p0 q0 => decide (p0 < 2) && decide (q0 < 82)
  | .queueHalt p0 q0 => decide (p0 < 2) && decide (q0 < 82)
  | .queueResume p0 q0 => decide (p0 < 2) && decide (q0 < 82)
  | .queueReset p0 q0 => decide (p0 < 2) && decide (q0 < 82)
  | .windowLoaded p0 q0 => decide (p0 < 2) && decide (q0 < 82)
  | .queueDone p0 q0 => decide (p0 < 2) && decide (q0 < 82)
  | .queueDrained p0 q0 => decide (p0 < 2) && decide (q0 < 82)
  | .waitTimeout p0 q0 _ => decide (p0 < 2) && decide (q0 < 82)
  | .flagMirrorUpdate p0 => decide (p0 < 2)
  | .bankRefresh p0 bank0 _ => decide (p0 < 2) && decide (bank0 < 10240)
  | .requestAdmit p0 bank0 served0 => decide (p0 < 2) && decide (bank0 < 10240) && decide (served0 < 10240)
  | .scrubPass p0 fresh0 _ => decide (p0 < 2) && fresh0.fast.all (fun e => decide (e.1 < 2 ^ 32) && e.2.wf 36 3)
      && fresh0.slow.all (fun e => decide (e.1 < 2 ^ 34) && e.2.wf 136 5)
      && fresh0.lines.all (fun e => decide (e.1 < 2 ^ 21) && decide (e.2 < 3)) && fresh0.buffer.all (fun e => decide (e < 2 ^ 20))
  | .unpin p0 => decide (p0 < 2)
  | .writeBackInvalidate p0 => decide (p0 < 2)
  | .cnop p0 e0 => decide (p0 < 2) && decide (e0 < 16)
  | .copy p0 e0 => decide (p0 < 2) && decide (e0 < 16)
  | .gather p0 e0 => decide (p0 < 2) && decide (e0 < 16)
  | .scatter p0 e0 => decide (p0 < 2) && decide (e0 < 16)
  | .fill p0 e0 => decide (p0 < 2) && decide (e0 < 16)
  | .copyComplete p0 e0 => decide (p0 < 2) && decide (e0 < 16)
  | .guardBaseWrite r0 _ => decide (r0 < 512)
  | .guardSizeWrite r0 _ => decide (r0 < 512)
  | .arbiterRequest c0 _ past0 _ _ => decide (c0 < 6) && decide (past0.beats ≤ past0.cycles)
  | .arbiterGrant c0 _ cycles0 beats0 => decide (c0 < 6) && decide (beats0 ≤ cycles0)
  | .grantEnd c0 _ cycles0 beats0 => decide (c0 < 6) && decide (beats0 ≤ cycles0)
  | .cutoff c0 _ cycles0 beats0 => decide (c0 < 6) && decide (beats0 ≤ cycles0)
  | .quotaWindowEnd c0 _ => decide (c0 < 6)
  | .adaptClass c0 => decide (c0 < 6)
  | .priorityWrite _ _ => true
  | .ledgerClear => true
  | .tnop p0 => decide (p0 < 2)
  | .gopen p0 => decide (p0 < 2)
  | .gcancel p0 => decide (p0 < 2)
  | .route p0 => decide (p0 < 2)
  | .routeComplete p0 _ => decide (p0 < 2)
  | .inbox p0 => decide (p0 < 2)
  | .inboxArrivalsComplete p0 _ => decide (p0 < 2)
  | .answer p0 => decide (p0 < 2)
  | .cexport p0 => decide (p0 < 2)
  | .cexportReady p0 _ => decide (p0 < 2)
  | .genQuietExpiry p0 i0 => decide (p0 < 2) && decide (i0 < 64)
  | .answerPacket p0 => decide (p0 < 2)
  | .gsend p0 => decide (p0 < 2)
  | .gsendComplete p0 _ => decide (p0 < 2)
  | .ginbox p0 => decide (p0 < 2)
  | .ginboxArrivalsComplete p0 _ => decide (p0 < 2)
  | .ganswer p0 => decide (p0 < 2)
  | .ggrad p0 => decide (p0 < 2)
  | .ggradReady p0 _ => decide (p0 < 2)
  | .wgstart p0 => decide (p0 < 2)
  | .reduce p0 e0 => decide (p0 < 2) && decide (e0 < 16)
  | .lacc p0 e0 => decide (p0 < 2) && decide (e0 < 16)
  | .lfence p0 e0 => decide (p0 < 2) && decide (e0 < 16)
  | .lfenceApply => true
  | .reducePacket p0 _ => decide (p0 < 2)
  | .reduceComplete p0 b0 => decide (p0 < 2) && decide (b0 < 4096)
  | .response p0 => decide (p0 < 2)
  | .reduceRetry _ => true
  | .releaseBucket p0 b0 => decide (p0 < 2) && decide (b0 < 4096)
  | .releaseAllBuckets p0 => decide (p0 < 2)
  | .curLayoutWrite _ => true
  | .inop p0 => decide (p0 < 2)
  | .uopen p0 => decide (p0 < 2)
  | .pass1 p0 => decide (p0 < 2)
  | .nexport p0 => decide (p0 < 2)
  | .nexportWrite => true
  | .norms p0 => decide (p0 < 2)
  | .normsCompute => true
  | .pass2 p0 => decide (p0 < 2)
  | .wcopy p0 => decide (p0 < 2)
  | .uclose p0 => decide (p0 < 2)
  | .updateDone => true
  | .tagScrub => true
  | .exchangeContribution => true
  | .exchUp => true
  | .exchToken => true
  | .voteSend => true
  | .voteUp => true
  | .voteToken => true
  | .roundTimeout => true
  | .abandon => true
  | .abandonUpdate => true
  | .inject => true
  | .restore => true
  | .reseed => true
  | .mseal => true
  | .attemptReset => true
  | .mopen => true
  | .mdata => true
  | .mdone => true
  | .mclose => true
  | .mack => true
  | .mirrorResend => true
  | .mread => true
  | .mrdata => true
  | .codeword port0 _ symbols0 => decide (port0 < 6) && symbols0.all (fun x => decide (x < 1024))
  | .ack port0 _ => decide (port0 < 6)
  | .nak port0 _ => decide (port0 < 6)
  | .credit port0 vc0 _ => decide (port0 < 6) && decide (vc0 < 16)
  | .stomp port0 vc0 => decide (port0 < 6) && decide (vc0 < 16)
  | .packetForward port0 => decide (port0 < 6)
  | .packetExpired port0 _ => decide (port0 < 6)
  | .packetDelivery => true
  | .write p0 => decide (p0 < 2)
  | .signalDetected port0 => decide (port0 < 6)
  | .trainingStep port0 _ => decide (port0 < 6)
  | .trainingTimeout port0 => decide (port0 < 6)
  | .detectRepeat port0 => decide (port0 < 6)
  | .linkErrorLimit port0 _ => decide (port0 < 6)
  | .signalLost port0 => decide (port0 < 6)
  | .farEndDetect port0 => decide (port0 < 6)
  | .selftestPass port0 => decide (port0 < 6)
  | .loopbackFail port0 _ => decide (port0 < 6)
  | .retrain port0 => decide (port0 < 6)
  | .disable port0 => decide (port0 < 6)
  | .enable port0 => decide (port0 < 6)
  | .portEnableWrite _ => true
  | .rwrite p0 e0 => decide (p0 < 2) && decide (e0 < 16)
  | .permute p0 e0 => decide (p0 < 2) && decide (e0 < 16)
  | .mapData p0 => decide (p0 < 2)
  | .mapSignal p0 => decide (p0 < 2)
  | .mapRetry _ => true
  | .barWrite bar0 _ _ => (decide (bar0 = 0) || decide (bar0 = 2))
  | .barRead bar0 _ _ => (decide (bar0 = 0) || decide (bar0 = 2))
  | .hdmRead w0 _ => decide (w0 < 2)
  | .hdmWrite w0 _ data0 => decide (w0 < 2) && decide (data0.length ≤ 64)
  | .bisnpResponse _ _ => true
  | .snoop => true
  | .notifyComplete => true
  | .intHoldoffExpiry v0 => decide (v0 < 32)
  | .intCauseWrite _ => true
  | .intMaskWrite _ => true
  | .identify => true
  | .backgroundOperationStatus => true
  | .getEventRecords _ => true
  | .clearEventRecords _ _ _ => true
  | .getEventInterruptPolicy => true
  | .setEventInterruptPolicy _ => true
  | .getFwInfo => true
  | .transferFw _ _ _ _ => true
  | .activateFw _ => true
  | .getTimestamp => true
  | .setTimestamp _ => true
  | .getSupportedLogs => true
  | .getLog _ _ _ => true
  | .odRead idx0 sub0 _ _ _ => decide (idx0 < 65536) && decide (sub0 < 256)
  | .odWrite idx0 sub0 _ _ _ _ => decide (idx0 < 65536) && decide (sub0 < 256)
  | .odWriteSigned idx0 sub0 _ _ _ _ _ => decide (idx0 < 65536) && decide (sub0 < 256)
  | .doeDiscovery _ => true
  | .getVersion tr0 => decide (tr0 < 2)
  | .getCapabilities tr0 => decide (tr0 < 2)
  | .negotiateAlgorithms tr0 => decide (tr0 < 2)
  | .getDigests tr0 => decide (tr0 < 2)
  | .getCertificate tr0 _ _ _ => decide (tr0 < 2)
  | .challenge tr0 _ nonce0 => decide (tr0 < 2) && decide (nonce0.length = 32)
  | .getMeasurements tr0 _ _ nonce0 => decide (tr0 < 2) && decide (nonce0.length = 32)
  | .keyExchange tr0 _ => decide (tr0 < 2)
  | .finish tr0 _ => decide (tr0 < 2)
  | .spdmHeartbeat tr0 => decide (tr0 < 2)
  | .keyUpdate tr0 _ => decide (tr0 < 2)
  | .endSession tr0 => decide (tr0 < 2)
  | .chunkSend tr0 _ _ => decide (tr0 < 2)
  | .chunkGet tr0 _ => decide (tr0 < 2)
  | .getPqSignature tr0 => decide (tr0 < 2)
  | .perstAssert => true
  | .perstDeassert => true
  | .hotReset => true
  | .flr => true
  | .cxlReset => true
  | .d3hot => true
  | .hostLinkDown => true
  | .hostLinkUp rate0 width0 _ => decide (rate0 ≤ 5) && [1, 2, 4, 8, 16].contains width0
  | .inputRise node0 _ => decide (node0 < 128)
  | .undervoltageLockout => true
  | .overvoltage _ => true
  | .inputLow _ => true
  | .railPowerGood order0 => decide (1 ≤ order0) && decide (order0 ≤ 12)
  | .railFault order0 => decide (1 ≤ order0) && decide (order0 ≤ 12)
  | .referenceStable => true
  | .channelTraining _ => true
  | .wake => true
  | .standby => true
  | .toll => true
  | .gateEntry p0 i0 _ => decide (p0 < 2) && decide (i0 < 32)
  | .parkEntry c0 => decide (c0 < 8)
  | .retainEntry c0 => decide (c0 < 8)
  | .offEntry c0 => decide (c0 < 8)
  | .clusterRestoreComplete c0 => decide (c0 < 8)
  | .powerLoop _ _ _ _ _ => true
  | .thermalLoop _ => true
  | .stackThrottle p0 stack0 _ => decide (p0 < 2) && decide (stack0 < 10)
  | .ilbenThrottle _ _ => true
  | .thermalTrip _ _ => true
  | .moduleReset => true
  | .moduleResetRelease => true
  | .firmwareVerify => true
  | .pierReset p0 => decide (p0 < 2)
  | .pierResetRelease p0 => decide (p0 < 2)
  | .engineReset p0 e0 => decide (p0 < 2) && decide (e0 < 50)
  | .canRead node0 tag0 idx0 sub0 rsv0 _ _ => decide (node0 < 128) && decide (tag0 < 256) && decide (idx0 < 65536) && decide (sub0 < 256) && decide (rsv0 < 256)
  | .canWrite node0 tag0 idx0 sub0 rsv0 data0 => decide (node0 < 128) && decide (tag0 < 256) && decide (idx0 < 65536) && decide (sub0 < 256) && decide (rsv0 < 256) && decide (data0.length ≤ 56)
  | .writeInit node0 tag0 idx0 sub0 rsv0 _ _ => decide (node0 < 128) && decide (tag0 < 256) && decide (idx0 < 65536) && decide (sub0 < 256) && decide (rsv0 < 256)
  | .writeSeg node0 tag0 idx0 sub0 rsv0 _ data0 => decide (node0 < 128) && decide (tag0 < 256) && decide (idx0 < 65536) && decide (sub0 < 256) && decide (rsv0 < 256) && decide (data0.length ≤ 56)
  | .abort node0 tag0 idx0 sub0 rsv0 => decide (node0 < 128) && decide (tag0 < 256) && decide (idx0 < 65536) && decide (sub0 < 256) && decide (rsv0 < 256)
  | .transferTimeout => true
  | .foreignFrame ident0 => decide (ident0 < 2048)
  | .heartbeat => true
  | .busOff _ _ => true
  | .busOffRecovery => true
  | .ownerKeyDigestWrite tr0 digest0 => decide (tr0 < 2) && decide (digest0.length = 48)
  | .fwSecurityVersionWrite tr0 v0 => decide (tr0 < 2) && decide (v0 < 2 ^ 32)
  | .fabricIdBaseWrite tr0 v0 => decide (tr0 < 2) && decide (v0 < 2 ^ 64)
  | .debugLockoutWrite tr0 v0 => decide (tr0 < 2) && decide (v0 < 256)
  | .ownerTransfer tr0 digest0 _ => decide (tr0 < 2) && decide (digest0.length = 48)
  | .debugUnlock tr0 v0 _ => decide (tr0 < 2) && decide (v0 < 256)
  | .tokenStage tr0 piece0 => decide (tr0 < 2) && decide (piece0.length = 1024)
  | .tokenBegin tr0 => decide (tr0 < 2)
  | .tokenSeal tr0 => decide (tr0 < 2)
  | .tokenVerifyComplete tr0 => decide (tr0 < 2)
  | .senseOpen => true
  | .senseClose => true
  | .ilbenCommandComplete _ => true
  | .fuseProgramComplete => true
  | .refreshIntervalChange p0 stack0 _ => decide (p0 < 2) && decide (stack0 < 10)
  | .canBusError _ _ => true
  | .d0Entry => true
  | .configurationRequest => true
  | .spdmResponseReady => true

end Sys2Proof
end

