-- ==== Sys2Proof/Certificates/Slice0/Obligations.lean ====
section
/-! DEFINITION. The statements for the provers. -/

namespace Sys2Proof.Claims
open Sys2Proof.Machine

/-- The word at the head of queue q of Pier p issues now, is no fetch error, holds no reserved encoding and has opcode op. -/
abbrev Latches (s : State) (p q op : Nat) (ok : Nat → Bool) : Prop :=
  s.ready p q = true ∧ s.headBad p q = false ∧ ok (s.headWord p q) = true ∧ commonOk (s.headWord p q) = true
    ∧ opOf (s.headWord p q) = op

end Sys2Proof.Claims

namespace Sys2Proof.Claims
open Sys2Proof.Machine

/-- The Span's rows, by opcode (Table 4-3). -/
def spanRows : List (Nat × (Nat → Nat → Instr)) :=
  [(0x40, .mma), (0x41, .mmaS), (0x42, .mmaE), (0x43, .mmaSe), (0x44, .xport), (0x45, .astat), (0x46, .snop)]

/-- The Deck's rows of classes N, A and P, by opcode (Table 5-2). -/
def deckRowsA : List (Nat × (Nat → Nat → Instr)) :=
  [(0x00, .dnop), (0x10, .add), (0x11, .sub), (0x12, .mul), (0x13, .fma), (0x14, .div), (0x15, .min), (0x16, .max),
   (0x17, .abs), (0x18, .neg), (0x19, .sqrt), (0x1A, .rsqrt), (0x1B, .rcp), (0x1C, .exp), (0x1D, .log), (0x1E, .tanh),
   (0x1F, .sigm), (0x20, .mov), (0x21, .bcast), (0x22, .cmplt), (0x23, .cmple), (0x24, .cmpeq), (0x25, .cmpne),
   (0x26, .iadd), (0x27, .imin), (0x28, .imax)]

/-- The Deck's other rows, by opcode (Table 5-2). -/
def deckRowsB : List (Nat × (Nat → Nat → Instr)) :=
  [(0x30, .scansum), (0x31, .scansumx), (0x32, .scanmax), (0x33, .scanmin), (0x34, .iscan), (0x35, .iscanx),
   (0x38, .rsum), (0x39, .rprod), (0x3A, .rmax), (0x3B, .rmin), (0x3C, .rargmax), (0x3D, .rargmin), (0x3E, .rcount),
   (0x3F, .rnorm), (0x40, .rmean), (0x41, .rssq), (0x42, .irsum), (0x43, .rabr), (0x48, .easum), (0x49, .eassq),
   (0x4A, .eaout), (0x4B, .eanorm), (0x4C, .eamean), (0x4D, .eaclr), (0x50, .badd), (0x51, .bsub), (0x52, .bmul),
   (0x53, .bfma), (0x54, .bmin), (0x55, .bmax), (0x70, .sets), (0x71, .lds), (0x72, .setvl), (0x73, .dstat)]

/-- The rows of the local copy instructions, by opcode (Table 7-7). -/
def localCopyRows : List (Nat × (Nat → Nat → Instr)) :=
  [(0x00, .cnop), (0x10, .copy), (0x11, .gather), (0x12, .scatter), (0x13, .fill)]

/-- The rows that an engine's queue issues, by the first queue of the engine and the encodings it accepts. -/
def queueRows : List (Nat × (Nat → Bool) × List (Nat × (Nat → Nat → Instr))) :=
  [(0, spanOk, spanRows), (32, deckOk, deckRowsA ++ deckRowsB), (64, copyOk, localCopyRows ++ [(0x20, .reduce), (0x21, .lacc),
    (0x22, .lfence), (0x28, .rwrite), (0x29, .permute)])]

/-- The Trestle's rows, by opcode (Tables 9-1, 10-1). -/
def trestleRows : List (Nat × (Nat → Instr)) :=
  [(0x00, .tnop), (0x10, .gopen), (0x11, .gcancel), (0x12, .route), (0x13, .inbox), (0x14, .answer), (0x15, .cexport),
   (0x30, .gsend), (0x31, .ginbox), (0x32, .ganswer), (0x33, .ggrad), (0x34, .wgstart)]

/-- Ilben's rows, by opcode (Table 12-3). -/
def ilbenRows : List (Nat × (Nat → Instr)) :=
  [(0x00, .inop), (0x10, .uopen), (0x11, .pass1), (0x12, .nexport), (0x13, .norms), (0x14, .pass2), (0x15, .wcopy),
   (0x16, .uclose)]

/-- A Span instruction as it latches: its nest and the Pair's ABR 2k and 2k + 1 latched, its flight in the queue. -/
def spanLatched (s : State) (p i : Nat) (ops : List Held) : State × Flight :=
  let w := s.headWord p i
  let d := s.pair p i
  let f := { s.newFlight p i w ops (parseNest (s.rawNest p (loopOf w))) false with
    args := [(d.abrAt (2 * spAcc w) + 32768).toNat, (d.abrAt (2 * spAcc w + 1) + 32768).toNat] }
  let g := s.guardCheck p i f (if spTerms (opOf w) then [0, 1] else [])
  let t := (g.1.advance p i w).pushFlight p i g.2
  (t.setPair p i { t.pair p i with spanWarm := false }, g.2)

end Sys2Proof.Claims

namespace Sys2Proof.Claims
open Sys2Proof.Machine

/-- An instruction of Deck i must wait behind what is in flight: an execution not yet begun, or a dependence (05 R172). -/
def deckHeld (s : State) (p i : Nat) (f : Flight) : Bool :=
  let fs := (s.queue p (32 + i)).flights
  fs.any (fun g => !g.null && decide (g.begun < g.total)) || fs.any (fun g => deckDepends p g f)
    || (kindOf (opOf f.word) = .dstat && !fs.isEmpty)

/-- The flight of a Deck instruction, as its latch makes it. -/
def deckFlight (s : State) (p i : Nat) (ops : List Held) : Flight :=
  let w := s.headWord p (32 + i)
  { s.newFlight p (32 + i) w ops (parseNest (s.rawNest p (loopOf w))) false with args := (s.deckArgs p i w).toList }

/-- A Deck instruction as it latches: its claims, its register claimed for RABR, its flight in the queue, and the free
number of cycles it waited counted. -/
def deckLatched (s : State) (p i : Nat) (ops : List Held) : State × Flight :=
  let q := 32 + i
  let w := s.headWord p q
  let k := kindOf (opOf w)
  let gf := s.guardCheck p q (deckFlight s p i ops) (deckSources w)
  let cl := gf.1.deckClaim p gf.2
  let f := if k = .rabr then { cl.2 with ownedAbr := some (dkS2 w) } else cl.2
  let u := if k = .rabr then
      cl.1.setPair p i { cl.1.pair p i with abrOwn := setBit (dkS2 w) true (cl.1.pair p i).abrOwn }
    else cl.1
  let u := if (s.queue p q).flights.any (fun g => deckChained g w) then u.bump64 (eInst p i) 0xF111 4 1 else u
  let b := u.takeFree 32
  let u := ((b.2.bump64 (eInst p i) 0xF111 5 b.1).advance p q w).pushFlight p q f
  (u.setPair p i { u.pair p i with deckWarm := false }, f)

/-- A Deck instruction at the head latches: encoding, operands, nest, and nothing in flight that holds it. -/
abbrev DeckLatches (s : State) (p i op : Nat) (ops : List Held) : Prop :=
  let w := s.headWord p (32 + i)
  let k := kindOf op
  i < 32 ∧ Latches s p (32 + i) op deckOk ∧ s.deckOps p w = some ops
    ∧ nestOk (s.rawNest p (loopOf w)) [k.usesHd && !isChain (dkHd w), k.usesHs && !isChain (dkHs w), false] = true
    ∧ deckHeld s p i (deckFlight s p i ops) = false

/-- An instruction in flight none of whose executions has begun. -/
def unbegun (f : Flight) : Bool := !f.null && f.begun = 0 && !f.running

/-- What the row of a Deck instruction does at its latch. -/
def DeckRowLatches (rows : List (Nat × (Nat → Nat → Instr))) : Prop :=
  ∀ r ∈ rows, ∀ (s : State) (p i : Nat) (ops : List Held), DeckLatches s p i r.1 ops →
    let w := s.headWord p (32 + i)
    let null := deckNull w (s.deckArgs p i w).c ops (parseNest (s.rawNest p (loopOf w)))
    (null = true → exec (r.2 p i) s = .next (((s.setPair p i { s.pair p i with deckWarm := false }).bump64
      (eInst p i) 0xF111 2 1).nullHead p (32 + i) w))
    ∧ (null = false →
      let t := deckLatched s p i ops
      exec (r.2 p i) s = .next (if t.1.inRun p i true then t.1.deckExec p i (s.queue p (32 + i)).flights.length t.2
        else t.1.beginWake p i true))

end Sys2Proof.Claims

namespace Sys2Proof.Claims
open Sys2Proof.Machine

/-- The layer entry that a Trestle word names is in use and, once read, holds no reserved value and is l. -/
abbrev LayerAt (s : State) (p w : Nat) (l : Layer) : Prop :=
  s.lteUsed p (trLte w) = true ∧ layerOk ((s.readLayer p w).rawLayer p (trLte w)) = true
    ∧ parseLayer ((s.readLayer p w).rawLayer p (trLte w)) = l

/-- The state once the entry and its backward extension have been read. -/
def readExt (s : State) (p w : Nat) : State :=
  (s.readLayer p w).readTable p ((s.readLayer p w).odv 0 0x5040 (p + 1) + trLte w * 64) 64

/-- That entry and its backward extension. -/
abbrev ExtAt (s : State) (p w : Nat) (l : Layer) (x : BwdExt) : Prop :=
  LayerAt s p w l ∧ extOk l ((readExt s p w).rawExt p (trLte w)) = true ∧ parseExt ((readExt s p w).rawExt p (trLte w)) = x

/-- Slot entries that INBOX and GINBOX accept, with their index operands. -/
abbrev SlotsAt (s : State) (p : Nat) (l : Layer) (slots : List Nat) (idx : List Held) : Prop :=
  slots.all slotOk = true ∧ s.latchAll p (slots.map slotIdx) = some idx ∧ idx.find? (fun x => !idxOk p l x.d) = none
    ∧ (slots.any fun r => (slotPatches r).any patchFault) = false

/-- INBOX or GINBOX as it latches: in flight with its slots, its records tested. -/
def inboxLatched (s : State) (p w ext : Nat) (slots : List Nat) (idx : List Held) : State :=
  let f := { s.newFlight p 80 w idx Nest.one false with
    args := [s.reqIdent p 80, bits 19 8 w, s.rawLayer p (trLte w), ext] ++ slots }
  let t := ((s.advance p 80 w).pushFlight p 80 f).readArrivals p (inboxJob f)
  t.inboxTest p ((t.queue p 80).flights.length - 1)

end Sys2Proof.Claims

namespace Sys2Proof.Claims
open Sys2Proof.Machine

/-- The oldest round message, among the oldest of each source, that is malformed or of a kind: source, packets, message. -/
def roundNext (s : State) (kind : Nat) : Option (Nat × Nat × Option RoundMsg) :=
  let srcs := ((s.fab.inbox0.filter (fun k => decide (k.tc = 1))).map Packet.src).eraseDups
  (srcs.filterMap (fun x => (roundHead (s.roundFrom x)).map (fun h => (x, h.1, h.2.bind parseRound)))).find?
    (fun h => match h.2.2 with | none => true | some m => decide (m.kind = kind))

/-- The state without the first n round packets of a source. -/
def roundCut (s : State) (src n : Nat) : State := { s with fab := { s.fab with inbox0 := dropRound src n s.fab.inbox0 } }

/-- The rows that take a round message, by its kind, and what each does with it. -/
def roundRows : List (Nat × Instr × (State → Nat → RoundMsg → State)) :=
  [(1, .exchUp, fun t src m => t.roundUp false src m), (2, .exchToken, fun t _ m => t.token m),
   (3, .voteUp, fun t src m => t.roundUp true src m), (4, .voteToken, fun t _ m => t.token m)]

/-- The rows that take a mirror message, by its kind, and what each does with it. -/
def mirrorRows : List (Nat × Instr × (State → Packet → MirrorMsg → State)) :=
  [(1, .mopen, State.holdOpen), (2, .mdata, State.holdData), (3, .mdone, State.holdDone),
   (4, .mclose, State.holdClose), (5, .mack, fun t pk m => t.mirrorAck pk.src m), (6, .mread, State.holdRead),
   (7, .mrdata, fun t _ m => t.restoreData m)]

/-- The oldest mirror message of a Pier's half, and the message where it is well formed. -/
def mirrorHead (s : State) (p : Nat) : Option (Packet × Option MirrorMsg) :=
  (s.inboxOf p 5).map (fun pk => (pk, parseMirror pk.body))

/-- The mirror message that a row of a kind takes: the oldest of Pier 0's half where it is of that kind or malformed, or else so of
Pier 1's half, which waits while Pier 1 is in reset: its Pier, packet and message. -/
def mirrorNext (s : State) (kind : Nat) : Option (Nat × Packet × Option MirrorMsg) :=
  let pick (p : Nat) : Option (Nat × Packet × Option MirrorMsg) :=
    match mirrorHead s p with
    | some (pk, none) => some (p, pk, none)
    | some (pk, some m) => if m.kind = kind then some (p, pk, some m) else none
    | none => none
  match pick 0 with
  | some x => some x
  | none => if s.p1.inReset then none else pick 1

/-- A token in a journal slot that ABANDON_UPDATE takes: PROCEED of the step's exchange round. -/
def goesAgain (t : State) : Prop :=
  ∃ m, t.slotToken 0 = some m ∧ m.kind = 2 ∧ m.decision = 3 ∧ m.epoch = t.eNext ∧ t.journalOk = true

end Sys2Proof.Claims

namespace Sys2Proof.Claims
open Sys2Proof.Machine

/-- The rows that take a port from one state to another (Table 14-8), where their condition holds: row, state before,
state after, LAST_CAUSE after as a function of the port. -/
def portMoves (k : Nat) : List (Instr × LinkState × LinkState × (Port → Nat)) :=
  [(.trainingTimeout k, .training, .selftest, fun q => if q.step = 1 then 2 else q.cause),
   (.signalLost k, .active, .selftest, fun q => q.cause), (.signalLost k, .training, .down, fun q => q.cause),
   (.farEndDetect k, .active, .training, fun _ => 6), (.selftestPass k, .selftest, .down, fun _ => 6),
   (.enable k, .disabled, .down, fun q => q.cause)]

/-- The states in which each row of a port acts (Tables 14-8, 14-9). -/
def portActs (k : Nat) (peer : Train) (limit : LinkLimit) (v : Nat) : List (Instr × List LinkState) :=
  [(.signalDetected k, [.down]), (.trainingStep k peer, [.training]), (.trainingTimeout k, [.training]), (.detectRepeat k, [.down]),
   (.linkErrorLimit k limit, [.active]), (.signalLost k, [.active, .training]), (.farEndDetect k, [.active]),
   (.selftestPass k, [.selftest]), (.loopbackFail k v, [.selftest]), (.retrain k, [.down, .training, .active, .selftest]),
   (.disable k, [.down, .training, .active, .selftest]), (.enable k, [.disabled])]

end Sys2Proof.Claims

namespace Sys2Proof.Claims
open Sys2Proof.Machine

/-- A BAR access is taken: the link is up, the function is not in D3hot, and the transfer stays in one 4 KiB block. -/
abbrev BarTaken (s : State) (off n : Nat) : Prop := s.hostLinked = true ∧ s.host.d3hot = false ∧ tlpOk off n = true

/-- The state once the link is gone. -/
def linkOff (s : State) : State :=
  let t := match s.host.notifyWait with
    | none => s
    | some vs => ({ s with host := { s.host with
        notifyWait := none, unsent := vs.foldl (fun n v => setBit v true n) s.host.unsent } } : State).bump32 0 0x8010 8 1
  let t := t.settleSnoops.answersSweep
  { t.endHostCommands with host := { t.host with
      linkUp := false, rate := 0, width := 0, cxlMode := false, cxlReset := false, readWait := [], intMask := 0,
      msixMasked := 2 ^ 32 - 1, msixTable := [], hdmCommitted := 0, launchMask := [], d3hot := false, holdoff := 0 } }

end Sys2Proof.Claims

namespace Sys2Proof.Claims
open Sys2Proof.Machine

/-- The mailbox can take a command: the link is up, the function is in D0 and no command of it is in progress. -/
abbrev MailboxFree (s : State) : Prop := s.hostLinked = true ∧ s.host.d3hot = false ∧ s.mailboxBusy = false

/-- What command `c` does when the mailbox takes it: `t` in ACTIVE; in RECOVERY return code 3; and nothing when the mailbox takes none. -/
def Serves (s : State) (c : Instr) (t : State) : Prop :=
  (MailboxFree s → s.power.state = .active → exec c s = .next t)
  ∧ (MailboxFree s → s.power.state ≠ .active → exec c s = .next ((s.emit (.mailbox 3 [])).raise 0))
  ∧ (¬ MailboxFree s → exec c s = .next s)

/-- The same for one of the four commands that RECOVERY supports: `t` in either state. -/
def ServesBoth (s : State) (c : Instr) (t : State) : Prop :=
  (MailboxFree s → exec c s = .next t) ∧ (¬ MailboxFree s → exec c s = .next s)

end Sys2Proof.Claims

namespace Sys2Proof.Claims
open Sys2Proof.Machine

/-- An SPDM request may be made on a transport: the module is ACTIVE and the port is not BUSY, or the DOE mailbox has its link. -/
abbrev SpdmOpen (s : State) (tr : Nat) : Prop :=
  s.power.state = .active ∧ ((tr = 0 ∧ s.sec.spdm.status ≠ 1) ∨ (tr = 1 ∧ s.host.linkUp = true))

/-- Command `c` makes an SPDM request: where the transport is open it joins the responder's queue, and otherwise nothing happens. -/
def Requests (s : State) (tr : Nat) (c : Instr) (op : Nat) (args : List Nat) (data : List Byte) : Prop :=
  (SpdmOpen s tr → exec c s = .next (s.spdmReceive ⟨tr, op, args, data⟩)) ∧ (¬ SpdmOpen s tr → exec c s = .next s)

end Sys2Proof.Claims

namespace Sys2Proof.Claims
open Sys2Proof.Machine

/-- The module with another power record. -/
abbrev withPower (s : State) (f : Power → Power) : State := { s with power := f s.power }

/-- The Tollhouse as its start leaves it: the fuse log's objects read, the CAN node at its strap, no reset cause, TOLL. -/
def tollOn (s : State) : State :=
  let t := s.fuseLoad
  let n := t.power.nodeStrap % 128
  ({ t with
    can := { t.can with
      nodeId := n, mode := if n = 0 then .silent else .errorActive, txErrors := 0, rxErrors := 0, xfer := none, tx := [] },
    power := { t.power with inputPresent := true, railsUp := [0], state := .toll } } : State).setOd 0 0x2002 0 0

/-- The module with its input lost: everything cleared as by a cold reset with the Tollhouse off, and the Tollhouse off. -/
def inputOff (s : State) : State :=
  let t := s.coldClear true
  { t with
    dict := ⟨none, []⟩,
    can := { t.can with xfer := none, tx := [], lastAlert := [], txErrors := 0, rxErrors := 0 },
    power := { Power.zero with
      inputPresent := false, railsUp := [], senseOpen := s.power.senseOpen, wakeMode := s.power.wakeMode,
      nodeStrap := s.power.nodeStrap, supply := s.power.supply, perstAsserted := s.power.perstAsserted, temps := s.power.temps } }

end Sys2Proof.Claims

namespace Sys2Proof.Claims
open Sys2Proof.Machine

/-- A level that moves: counted, recorded, kept; a level that leaves 0 also raises vector 16. -/
def levelMove (s : State) (sub event key old new : Nat) (first : Bool) (f : Power → Power) : State :=
  let t := withPower ((s.bump32 0 0x2017 sub 1).powerLog event key old new) f
  if first then t.raisePower else t

end Sys2Proof.Claims

namespace Sys2Proof.Claims
open Sys2Proof.Machine

/-- A module reset with its cause: recorded, alerted, the module cleared and held. -/
def resetBy (s : State) (cause : Nat) : State :=
  withPower (((s.setOd 0 0x2002 0 cause).powerLog 9 1 cause 0).alert 8 1 cause).moduleClear
    (fun w => { w with state := .moduleReset, resetCause := cause, released := false })

end Sys2Proof.Claims

namespace Sys2Proof.Claims
open Sys2Proof.Machine

/-- The management port takes a request that names `node`. -/
abbrev PortTakes (s : State) (node : Nat) : Prop :=
  s.power.inputPresent = true ∧ node ≠ 0 ∧ node = s.can.nodeId ∧ (s.can.mode = .errorActive ∨ s.can.mode = .errorPassive)

/-- No transfer is open and no request of the port is unanswered. -/
abbrev PortFree (s : State) : Prop := s.can.xfer = none ∧ s.canUnanswered = false

/-- The module after the port has counted a request. -/
abbrev counted (s : State) : State := s.bump64 0 0x1013 4 1

end Sys2Proof.Claims

namespace Sys2Proof.Claims
open Sys2Proof.Machine

/-- A write through transport `tr` reaches the dictionary: the Tollhouse has power. -/
abbrev Reaches (s : State) (tr : Nat) : Prop := tr < 2 ∧ s.power.inputPresent = true

/-- Command `c` is one access of the dictionary, with nobody to tell, where it reaches it. -/
def Accesses (s : State) (tr : Nat) (c : Instr) (a : Access) : Prop :=
  (Reaches s tr → exec c s = .next (s.access a)) ∧ (¬ Reaches s tr → exec c s = .next s)

/-- The checks of R603 in their order, up to the constraints that an object's own rule adds. -/
def firstFailure (s : State) (a : Access) (r : OdRow) : Nat :=
  if a.off ≠ 0 ∨ a.data.length ≠ r.size then 6
  else if s.reachable a r = false then 2
  else if r.acc = .rwc then (if s.fuseLeft a.idx = 0 then 4 else if s.fuseFits a.idx (ofBytes a.data) = false then 3 else 0)
  else if r.acc = .rws ∧ s.tokenAllows a.tr a.ref a.idx a.sub a.data = false then 5
  else if r.inDomain (ofBytes a.data) = false then 3
  else 0

end Sys2Proof.Claims

namespace Sys2Proof.Claims
open Sys2Proof.Machine

/-- The commands that can reach the fuse log: those that hand an access to the dictionary engine, and its completion. -/
def mayTouchFuses : Instr → Bool
  | .dictionaryWrite .. => true | .ownerKeyDigestWrite .. => true | .fwSecurityVersionWrite .. => true
  | .fabricIdBaseWrite .. => true | .debugLockoutWrite .. => true | .ownerTransfer .. => true | .debugUnlock .. => true
  | .tokenStage .. => true | .tokenBegin .. => true | .tokenSeal .. => true | .fuseProgramComplete => true
  | .canRead .. => true | .canWrite .. => true | .writeSeg .. => true | .odRead .. => true | .odWrite .. => true
  | .odWriteSigned .. => true
  | _ => false

end Sys2Proof.Claims

namespace Sys2Proof.Claims

/-- The commands whose effect stores nothing in any memory of the module. QUEUE_START and QUEUE_RESUME are not among them:
the head word they take may meet a stored error, whose pattern is stored (07 R269); nor is RESTORE, which may record a failure. -/
def storesNothing : Instr → Bool
  | .queueHalt .. | .queueReset .. | .queueDone .. | .queueDrained ..
  | .flagMirrorUpdate .. | .bankRefresh .. | .requestAdmit .. | .unpin .. | .writeBackInvalidate ..
  | .copyComplete .. | .guardBaseWrite .. | .guardSizeWrite .. | .arbiterRequest .. | .arbiterGrant ..
  | .grantEnd .. | .quotaWindowEnd .. | .priorityWrite .. | .ledgerClear .. | .genQuietExpiry ..
  | .gsendComplete .. | .reduceRetry .. | .curLayoutWrite .. | .attemptReset .. | .mirrorResend ..
  | .codeword .. | .ack .. | .nak .. | .credit .. | .stomp .. | .packetForward .. | .packetExpired ..
  | .packetDelivery .. | .signalDetected .. | .trainingStep .. | .trainingTimeout .. | .detectRepeat ..
  | .linkErrorLimit .. | .signalLost .. | .farEndDetect .. | .selftestPass .. | .loopbackFail .. | .retrain ..
  | .disable .. | .enable .. | .portEnableWrite .. | .mapSignal .. | .mapRetry .. | .snoop ..
  | .notifyComplete .. | .intHoldoffExpiry .. | .intCauseWrite .. | .intMaskWrite .. | .identify ..
  | .backgroundOperationStatus .. | .getEventRecords .. | .clearEventRecords .. | .getEventInterruptPolicy ..
  | .setEventInterruptPolicy .. | .getFwInfo .. | .transferFw .. | .activateFw .. | .getTimestamp ..
  | .setTimestamp .. | .getSupportedLogs .. | .getLog .. | .doeDiscovery .. | .getVersion ..
  | .getCapabilities .. | .negotiateAlgorithms .. | .getDigests .. | .getCertificate .. | .challenge ..
  | .getMeasurements .. | .keyExchange .. | .finish .. | .spdmHeartbeat .. | .keyUpdate .. | .endSession ..
  | .chunkSend .. | .chunkGet .. | .getPqSignature .. | .flr .. | .cxlReset .. | .d3hot .. | .hostLinkUp ..
  | .inputLow .. | .railPowerGood .. | .referenceStable .. | .channelTraining .. | .gateEntry .. | .parkEntry ..
  | .retainEntry .. | .powerLoop .. | .thermalLoop .. | .stackThrottle .. | .ilbenThrottle ..
  | .moduleResetRelease .. | .writeInit .. | .abort .. | .transferTimeout .. | .foreignFrame .. | .heartbeat ..
  | .busOff .. | .busOffRecovery .. | .tokenVerifyComplete .. | .refreshIntervalChange .. | .canBusError ..
  | .d0Entry .. | .configurationRequest .. | .spdmResponseReady .. => true
  | _ => false

end Sys2Proof.Claims

section
open Sys2Proof Sys2Proof.Machine Sys2Proof.Claims

/-- For every state whose queue begins with command c, the step is the meaning of c on the state with the rest of the
queue; on an empty queue the block idles (the model's choice, log entry 5). -/
def Obligations.StepRunsFrontCommand : Prop :=
  ∀ (s : State) (c : Instr) (rest : List Instr),
    (s.pending = c :: rest → step s = exec c { s with pending := rest }) ∧ (s.pending = [] → step s = .next s)

/-- In the state after reset the module is in TOLL, PSTATE is EMPTY with COMMITTED and ATTEMPT zero, every port is DOWN,
no link to the host is up, the fuse log is empty, and no command waits; the memory lists nothing and an unlisted
byte reads as zero (the model's choice, log entry 1). -/
def Obligations.ResetState : Prop :=
  State.reset.power.state = .toll ∧ State.reset.commit.pstate = .empty ∧ State.reset.commit.committed = 0
    ∧ State.reset.commit.attempt = 0 ∧ (∀ k : Nat, k < 6 → (State.reset.port k).st = .down) ∧ State.reset.host.linkUp = false
    ∧ State.reset.fuses = [] ∧ State.reset.pending = [] ∧ (∀ k : Nat, State.reset.byte k = 0)
    ∧ (∀ p c : Nat, State.reset.counter p c = 0 ∧ (State.reset.queue p c).st = .idle)

/-- QUEUE_START of an IDLE or DONE queue with a window, under the conditions in which a START is accepted, sets PC, SC1
and SC2 to zero and enters LOAD (Span, Deck; its window copy begins) or RUN (its first word is fetched), begins the
attempt where none runs, and restores a cluster that is OFF; QUEUE_HALT of LOAD or RUN enters HALT; QUEUE_RESUME of
HALT enters RUN and of FAULT enters LOAD or RUN; QUEUE_RESET of LOAD, RUN, HALT or FAULT drains the queue, whose
STATE reads HALT, and discards its suspended transfers; in every other state each command changes nothing. -/
def Obligations.QueueCommandsTaken : Prop :=
  ∀ (s : State) (p q : Nat),
    let u := s.queue p q
    let go : QState := if q < 64 then .load else .run
    let mayStart := (u.st = .idle ∨ u.st = .done) ∧ u.qlen ≠ 0 ∧ u.passLimit ≠ 0 ∧ s.startAllowed p = true
    let fetched (t : State) : State := if q < 64 then t else t.takeHead p q
    let started := fetched (s.beginAttempt.setQueue p q { u with
      st := go, pc := 0, sc1 := 0, sc2 := 0, ended := false, timedOut := false, loading := decide (q < 64), met := false })
    (mayStart → exec (.queueStart p q) s = .next (if q < 64 ∧ started.cluster (clusterOf p (q % 32)) = .off
        then started.setCluster (clusterOf p (q % 32)) .restoring else started))
    ∧ (¬ mayStart → exec (.queueStart p q) s = .next s)
    ∧ (u.st = .load ∨ u.st = .run → exec (.queueHalt p q) s = .next (s.setQueue p q { u with st := .halt }))
    ∧ (¬ (u.st = .load ∨ u.st = .run) → exec (.queueHalt p q) s = .next s)
    ∧ (u.st = .halt → u.draining = false → exec (.queueResume p q) s = .next (s.setQueue p q { u with st := .run }))
    ∧ (u.st = .fault → exec (.queueResume p q) s = .next (fetched (s.setQueue p q { u with
        st := go, timedOut := false, loading := decide (q < 64), met := false })))
    ∧ (u.st = .halt → u.draining = true → exec (.queueResume p q) s = .next s)
    ∧ (¬ (u.st = .halt ∨ u.st = .fault) → exec (.queueResume p q) s = .next s)
    ∧ (u.st = .load ∨ u.st = .run ∨ u.st = .halt ∨ u.st = .fault →
        exec (.queueReset p q) s = .next ((s.setQueue p q { u with st := .halt, draining := true }).arbDiscard
          (fun o => decide (o = q + 128 * p))))
    ∧ (u.st = .idle ∨ u.st = .done → exec (.queueReset p q) s = .next s)

/-- WINDOW_LOADED takes a Span or Deck queue in LOAD, its cluster not restoring, to RUN with its window in the buffer,
and keeps the state of one halted or resumed during the copy, its head met where its wait holds; QUEUE_DONE takes a
RUN queue whose last instruction has latched and whose instructions have completed to DONE; QUEUE_DRAINED takes a
draining queue with none in flight to IDLE; FLAG_MIRROR_UPDATE applies the oldest flag change of the other Pier to
the mirror; RING_TAIL_WRITE of a valid tail sets it and, where records were lost and there is space, writes the LOST
record at HEAD with the next sequence number and sets LOST to zero; WATCH_BANK_CLOSE of the oldest bank that waits
and is in use by no instruction makes its counters the LAST bank, writes the LAST records in the window, and
evaluates the alarms of each set with a counter under the envelopes of its step. Each changes nothing else but what
is named, and where its condition fails, nothing. -/
def Obligations.QueueAdvances : Prop :=
  ∀ (s : State) (p q n v : Nat),
    let u := s.queue p q
    let r := ringOf n p
    let t := s.setOd 0 (r.idx + 1) r.sub v
    let loads := u.st = .load ∨ (u.loading = true ∧ (u.st = .run ∨ u.st = .halt))
    (loads → q < 64 → s.cluster (clusterOf p (q % 32)) ≠ .restoring →
      exec (.windowLoaded p q) s = .next (((s.fetch p q u.qbase (16 * u.qlen)).setQueue p q
        { u with st := if u.st = .load then .run else u.st, loading := false, buf := s.windowBuf p u }).noteWaits p))
    ∧ (u.st = .run → u.ended = true → u.flights = [] →
      exec (.queueDone p q) s = .next (s.setQueue p q { u with st := .done, ended := false }))
    ∧ (¬ loads ∨ 64 ≤ q ∨ s.cluster (clusterOf p (q % 32)) = .restoring → exec (.windowLoaded p q) s = .next s)
    ∧ (u.st ≠ .run ∨ u.ended = false ∨ u.flights ≠ [] → exec (.queueDone p q) s = .next s)
    ∧ (u.draining = false ∨ u.flights ≠ [] → exec (.queueDrained p q) s = .next s)
    ∧ ((s.pier p).mirrorQ = [] → exec (.flagMirrorUpdate p) s = .next s)
    ∧ (u.draining = true → u.flights = [] →
      exec (.queueDrained p q) s = .next (s.setQueue p q { u with
        st := .idle, draining := false, ended := false, timedOut := false, loading := false, head := none, met := false }))
    ∧ (∀ f b t, (s.pier p).mirrorQ = (f, b) :: t →
      exec (.flagMirrorUpdate p) s = .next ((s.modPier p (fun r => { r with mirror := setBit f b r.mirror, mirrorQ := t })).noteWaits p))
    ∧ (v < r.size → s.odv 0 (r.idx + 2) r.sub = 0 ∨ t.ringFull r = true → exec (.ringTailWrite n p v) s = .next t)
    ∧ (v < r.size → s.odv 0 (r.idx + 2) r.sub ≠ 0 → t.ringFull r = false → exec (.ringTailWrite n p v) s =
        .next (((t.advSeq r).ringWrite r (lostRec t r (t.seq r))).setOd 0 (r.idx + 2) r.sub 0))
    ∧ (r.size ≤ v → exec (.ringTailWrite n p v) s = .next s)
    ∧ (∀ c rest, (s.pier p).watchClosing = c :: rest → s.bankInUse p = false →
        let moved := ({ s with watch := Tab.move 0 (watchBank p (wbGen c.gen)) (2 ^ 20) (watchBank p wbLast) s.watch } : State).modPier p
          (fun r => { r with watchClosing := rest })
        let sets := moved.bankSets p wbLast
        exec (.watchBankClose p) s = .next (sets.foldl (fun t k => (t.silentCheck p c k).spillCheck p c k)
          (moved.lastImages p (s.bankSets p wbLast ++ sets).eraseDups)))
    ∧ ((s.pier p).watchClosing = [] ∨ s.bankInUse p = true → exec (.watchBankClose p) s = .next s)

/-- Where the timeout is enabled, an instruction that stands at the head, no fetch error, whose wait is unmet and has
not been met since it came there, and that has not been recorded, is recorded with fault code 6 and marked; an
instruction in flight that waits inside and has not been recorded is recorded and marked likewise. Where it is not
enabled, is recorded already, no such instruction exists or it does not wait, WAIT_TIMEOUT changes nothing. The
queue keeps its state. -/
def Obligations.WaitTimeoutRecorded : Prop :=
  ∀ (s : State) (p q : Nat),
    (p < 2 → q < 82 → s.odv 0 0xF122 0 ≠ 0 → s.standing p q = true → (s.queue p q).timedOut = false →
      s.headBad p q = false → (s.queue p q).met = false → s.waitMet p (s.queue p q) (s.headWord p q) = false →
      exec (.waitTimeout p q 0) s = .next ((s.ringPut (.fault p) (fun _ =>
        faultRec s p q 6 (s.queue p q).pc (s.queue p q).sc1 0 0 0 7)).setQueue p q { s.queue p q with timedOut := true }))
    ∧ (s.odv 0 0xF122 0 = 0 ∨ (s.queue p q).timedOut = true ∨ s.standing p q = false ∨ s.headBad p q = true
        ∨ (s.queue p q).met = true ∨ s.waitMet p (s.queue p q) (s.headWord p q) = true → exec (.waitTimeout p q 0) s = .next s)
    ∧ (∀ n f, p < 2 → q < 82 → s.odv 0 0xF122 0 ≠ 0 → s.flight p q n = some f → f.timedOut = false → s.waitsInside p q f = true →
        exec (.waitTimeout p q (n + 1)) s = .next ((s.ringPut (.fault p) (fun _ => faultRec s p q 6 f.pc f.sc1 0 0 0 7)).putFlight p q n
          { f with timedOut := true }))
    ∧ (∀ n, s.odv 0 0xF122 0 = 0 ∨ s.flight p q n = none → exec (.waitTimeout p q (n + 1)) s = .next s)
    ∧ (∀ n f, s.flight p q n = some f → f.timedOut = true ∨ s.waitsInside p q f = false →
        exec (.waitTimeout p q (n + 1)) s = .next s)

/-- For every row of a Span, Deck, copy, Trestle or Ilben queue: where the head of the queue issues, its fetch meets no
error and its word holds a reserved opcode, bit or condition, the row writes the fault record with code 1 and puts
the queue into FAULT at that instruction, which neither executes nor posts a signal; a row whose opcode is not the
head's changes nothing where the head's word holds no reserved encoding. -/
def Obligations.ReservedEncodingFaults : Prop :=
  (∀ r ∈ queueRows, ∀ x ∈ r.2.2, ∀ (s : State) (p i : Nat),
    let q := r.1 + i
    let w := s.headWord p q
    let ok := r.2.1 w && commonOk w
    (s.ready p q = true → s.headBad p q = false → ok = false →
      exec (x.2 p i) s = .next ((s.headFetch p q).headFault p q 1))
    ∧ (s.ready p q = true → s.headBad p q = true → exec (x.2 p i) s = .next ((s.headFetch p q).headFault p q 5))
    ∧ (s.headBad p q = false → ok = true → opOf w ≠ x.1 → exec (x.2 p i) s = .next s)
    ∧ (s.ready p q = false → exec (x.2 p i) s = .next s))
  ∧ (∀ x ∈ trestleRows, ∀ (s : State) (p : Nat),
    let w := s.headWord p 80
    (s.ready p 80 = true → s.headBad p 80 = false → (trOk w && commonOk w) = false →
      exec (x.2 p) s = .next ((s.headFetch p 80).headFault p 80 1))
    ∧ (s.ready p 80 = false → exec (x.2 p) s = .next s))
  ∧ (∀ x ∈ ilbenRows, ∀ (s : State) (p : Nat),
    let w := s.headWord p 81
    (s.ready p 81 = true → s.headBad p 81 = false → (ilOk w && commonOk w) = false →
      exec (x.2 p) s = .next ((s.headFetch p 81).headFault p 81 1))
    ∧ (s.ready p 81 = false → exec (x.2 p) s = .next s))

/-- For MMA, MMA_S, MMA_E, MMA_SE, XPORT, ASTAT and SNOP: a head that holds the instruction, whose operands latch and
whose loop nest is well formed, with empty work completes as a null completion that the engine counts; otherwise the
queue advances, the instruction is in flight with its latched operands, and its first execution issues where the
Span is in RUN, or the Span begins to wake. -/
def Obligations.SpanLatches : Prop :=
  ∀ r ∈ spanRows, ∀ (s : State) (p i : Nat) (ops : List Held), i < 32 → Latches s p i r.1 spanOk →
    s.latchAll p (spanHandles (s.headWord p i)) = some ops →
    nestOk (s.rawNest p (loopOf (s.headWord p i))) (spanUsed r.1) = true →
    (spanEmpty r.1 ops (parseNest (s.rawNest p (loopOf (s.headWord p i)))) = true →
      exec (r.2 p i) s = .next (((s.setPair p i { s.pair p i with spanWarm := false }).bump64 (eInst p i) 0xF101 2 1).nullHead
        p i (s.headWord p i)))
    ∧ (spanEmpty r.1 ops (parseNest (s.rawNest p (loopOf (s.headWord p i)))) = false →
      let t := spanLatched s p i ops
      exec (r.2 p i) s = .next (if t.1.inRun p i false then t.1.spanExec p i t.2 else t.1.beginWake p i false))

/-- For DNOP and each of the 25 arithmetic, move and compare instructions of the Deck: a head that holds the
instruction, whose operands latch, whose nest is well formed and which nothing in flight holds back, completes at
once, counted, where it has nothing to do, and otherwise is put in flight with its claims, the queue advancing, and
begins its first execution where the Deck is in RUN, or wakes the Deck. -/
def Obligations.DeckElementRowsLatch : Prop :=
  DeckRowLatches deckRowsA

/-- For each of the Deck's other 34 instructions: a head that holds the instruction, whose operands latch, whose nest is
well formed and which nothing in flight holds back, completes at once, counted, where it has nothing to do, and
otherwise is put in flight with its claims (RABR claiming its anchor-base register), the queue advancing, and begins
its first execution where the Deck is in RUN, or wakes the Deck. -/
def Obligations.DeckOtherRowsLatch : Prop :=
  DeckRowLatches deckRowsB

/-- SPAN_EXECUTION_COMPLETE of a running execution, the clock running, releases its claims and begins the next
execution, or after the last takes the instruction out of flight and posts its signal; DECK_EXECUTION_COMPLETE does
the same for a Deck, in queue order; a null completion that waits behind the others completes when it is the oldest;
WAKE_COMPLETE puts a waking engine of a cluster that is neither OFF nor restoring, the clock running, into RUN with
its cluster GATED and begins the oldest instruction in flight that has not begun; where nothing runs, or the clock
stands, each changes nothing. -/
def Obligations.EngineExecutionsComplete : Prop :=
  (∀ (s : State) (p i : Nat) (f : Flight) (fs : List Flight), (s.queue p i).flights = f :: fs → f.running = true →
    s.clockRuns p i = true →
    let g := { f with running := false, owned := [] }
    (f.begun < f.total → exec (.spanExecutionComplete p i) s = .next ((s.release 1 f.owned).spanExec p i g))
    ∧ (f.total ≤ f.begun →
      let t := (((s.release 1 f.owned).setFlights p i []).finish p 1 g)
      exec (.spanExecutionComplete p i) s = .next (t.setPair p i { t.pair p i with spanWarm := spWarm f.word })))
  ∧ (∀ (s : State) (p i : Nat), (∀ f ∈ (s.queue p i).flights.head?, f.running = false) ∨ s.clockRuns p i = false →
    exec (.spanExecutionComplete p i) s = .next s)
  ∧ (∀ (s : State) (p i k : Nat) (f : Flight), (s.queue p (32 + i)).flights[k]? = some f → f.null = false →
    f.running = true → s.clockRuns p (32 + i) = true →
    (f.begun < f.total →
      exec (.deckExecutionComplete p i k) s = .next (s.deckExec p i k { f with running := false }))
    ∧ (f.total ≤ f.begun → k = 0 →
      let t := (s.dropFlight p (32 + i) 0).finish p 2 f
      let d := match f.ownedAbr with
        | some r => { t.pair p i with abrOwn := setBit r false (t.pair p i).abrOwn }
        | none => t.pair p i
      exec (.deckExecutionComplete p i k) s = .next (t.setPair p i { d with
        deckWarm := bit 63 f.word && (t.queue p (32 + i)).flights.isEmpty }))
    ∧ (f.total ≤ f.begun → k ≠ 0 → exec (.deckExecutionComplete p i k) s = .next s))
  ∧ (∀ (s : State) (p i k : Nat) (f : Flight), (s.queue p (32 + i)).flights[k]? = some f → s.clockRuns p (32 + i) = true →
    (f.null = true → exec (.deckExecutionComplete p i k) s = .next (if k = 0 then (s.dropFlight p (32 + i) 0).finish p 2 f else s))
    ∧ (f.null = false → f.running = false → exec (.deckExecutionComplete p i k) s = .next s))
  ∧ (∀ (s : State) (p i k : Nat), (s.queue p (32 + i)).flights[k]? = none ∨ s.clockRuns p (32 + i) = false →
    exec (.deckExecutionComplete p i k) s = .next s)
  ∧ (∀ (s : State) (p i : Nat) (deck : Bool),
    let c := clusterOf p i
    let ok := s.engine p i deck = .waking ∧ s.clockRuns p i = true ∧ s.cluster c ≠ .off ∧ s.cluster c ≠ .restoring
    let u := (s.setCluster c .gated).setEngine p i deck .run
    (¬ ok → exec (.wakeComplete p i deck) s = .next s)
    ∧ (∀ f fs, ok → deck = false → (u.queue p i).flights = f :: fs →
        exec (.wakeComplete p i deck) s = .next (if f.running then u else u.spanExec p i f))
    ∧ (ok → deck = false → (u.queue p i).flights = [] → exec (.wakeComplete p i deck) s = .next u)
    ∧ (∀ k f, ok → deck = true → (u.queue p (32 + i)).flights[k]? = some f → unbegun f = true →
        (∀ j g, j < k → (u.queue p (32 + i)).flights[j]? = some g → unbegun g = false) →
        exec (.wakeComplete p i deck) s = .next (u.deckExec p i k f))
    ∧ (ok → deck = true → (∀ g ∈ (u.queue p (32 + i)).flights, unbegun g = false) →
        exec (.wakeComplete p i deck) s = .next u))

/-- For CNOP, COPY, GATHER, SCATTER and FILL: a head that holds the instruction, whose operands latch and whose nest is
well formed, completes at once where it copies no element; otherwise the queue advances and every execution of its
nest runs in order, the instruction staying in flight until COPY_COMPLETE unless an execution faulted. COPY_COMPLETE
takes the oldest local copy instruction out of flight, once none of its requests waits, is held or stands in a bank
under refresh and no slow-tier write waits for the host, frees its requests and posts its signal; where the oldest
is RWRITE or PERMUTE, it ends that one where it can; until then, and where the oldest is of another kind, it changes
nothing. -/
def Obligations.CopyInstructionsLatch : Prop :=
  (∀ r ∈ localCopyRows, ∀ (s : State) (p e : Nat) (ops : List Held),
    let q := 64 + e
    let w := s.headWord p q
    let u := s.headFetch p q
    let nest := parseNest (u.rawNest p (loopOf w))
    Latches s p q r.1 copyOk → u.latchAll p (copyHandles w) = some ops →
    nestOk (u.rawNest p (loopOf w)) (copyUsed r.1) = true →
    (copyNull r.1 ops nest = true → exec (r.2 p e) s = .next (u.nullHead p q w))
    ∧ (copyNull r.1 ops nest = false →
      let g := u.guardCheck p q { u.newFlight p q w ops nest false with args := [u.reqIdent p q, 0] }
        ((List.range ops.length).drop 1)
      let t := if r.1 = 0x13 then g.1 else g.1.writeSnap p (ops.getD 0 Held.none) (ops.getD 1 Held.none)
      let x := (t.advance p q w).copyAll p q g.2 nest.total 0
      (∀ f, x.2 = some f → exec (r.2 p e) s = .next (x.1.pushFlight p q f))
      ∧ (x.2 = none → exec (r.2 p e) s = .next x.1)))
  ∧ (∀ (s : State) (p e : Nat) (f : Flight) (fs : List Flight), (s.queue p (64 + e)).flights = f :: fs →
    (f.null = true → opOf f.word ≠ 0x28 → opOf f.word ≠ 0x29 →
      exec (.copyComplete p e) s = .next ((s.setFlights p (64 + e) fs).finish p 3 f))
    ∧ (f.null = false → localCopy f.word = true → s.asking (f.args.getD 0 0) = false → s.host.snoopWait = [] →
      exec (.copyComplete p e) s = .next (((s.dropReqs (f.args.getD 0 0)).setFlights p (64 + e) fs).finish p 3 f))
    ∧ (f.null = false → localCopy f.word = true → s.asking (f.args.getD 0 0) = true ∨ s.host.snoopWait ≠ [] →
      exec (.copyComplete p e) s = .next s))
  ∧ (∀ (s : State) (p e : Nat) (f : Flight) (fs : List Flight), (s.queue p (64 + e)).flights = f :: fs →
    (opOf f.word = 0x28 ∨ opOf f.word = 0x29 → exec (.copyComplete p e) s = .next (s.mapDone p (64 + e) (f.args.getD 0 0)))
    ∧ (f.null = false → localCopy f.word = false → opOf f.word ≠ 0x28 → opOf f.word ≠ 0x29 → exec (.copyComplete p e) s = .next s))
  ∧ (∀ (s : State) (p e : Nat), (s.queue p (64 + e)).flights = [] → exec (.copyComplete p e) s = .next s)

/-- REQUEST_ADMIT for a bank that is not refreshing admits the held request of the bank that the memory-channel arbiter
chooses, at once where bank and stack are below their caps and otherwise after the bank that the command says has
served has given up its oldest admitted request, and the sources that waited go on issuing; where none is held that
bank serves its oldest request; where the bank refreshes nothing changes. BANK_REFRESH begins or ends the refresh of
one bank. SCRUB_PASS meets every stored error of the Pier's fast tier, counts one pass for each of its ten stacks,
forgets the marks of more than 24 hours ago, and leaves the errors that have arisen since. UNPIN clears the PINNED
bit of every line; WRITE_BACK_INVALIDATE writes every line back and empties it. Nothing else changes. -/
def Obligations.FastTierCommands : Prop :=
  (∀ (s : State) (p bank b : Nat), (s.pier p).refreshing.contains bank = false →
    let served := s.serveFirst p (fun q => q.bank = b)
    (s.chooseHeld p bank = none → exec (.requestAdmit p bank b) s = .next (served.issueOn p))
    ∧ (∀ j, s.chooseHeld p bank = some j → s.mayAdmit p bank = true →
      exec (.requestAdmit p bank b) s = .next ((s.letIn p j).issueOn p))
    ∧ (∀ i j, s.chooseHeld p bank = some i → s.mayAdmit p bank = false → served.mayAdmit p bank = true →
      served.chooseHeld p bank = some j → exec (.requestAdmit p bank b) s = .next ((served.letIn p j).issueOn p))
    ∧ (∀ i, s.chooseHeld p bank = some i → s.mayAdmit p bank = false → served.mayAdmit p bank = false →
      exec (.requestAdmit p bank b) s = .next served))
  ∧ (∀ (s : State) (p bank b : Nat), (s.pier p).refreshing.contains bank = true →
    exec (.requestAdmit p bank b) s = .next s)
  ∧ (∀ (s : State) (p j : Nat) (q : MemReq), (s.pier p).reqs[j]? = some q → q.who.ident ≠ 0 →
    s.letIn p j = (((s.modPier p (fun r => r.setStage j .admitted)).notePeak p (q.bank / 1024)).present 2 (p * 640 + q.bank / 16)
      q.who 1))
  ∧ (∀ (s : State) (p bank : Nat),
    let others := (s.pier p).refreshing.filter (fun b => !decide (b = bank))
    exec (.bankRefresh p bank true) s = .next (s.modPier p (fun r => { r with refreshing := others ++ [bank] }))
    ∧ exec (.bankRefresh p bank false) s = .next (s.modPier p (fun r => { r with refreshing := others })))
  ∧ (∀ (s : State) (p : Nat) (x : FreshErrors) (hours : Nat),
    let u := { s with hours := s.hours + hours,
                      ceMarks := s.ceMarks.filter (fun m => decide (s.hours + hours + 1 ≤ m.2 + 24)) }
    let met := (u.errs.filter (fun m => decide (pspace (m.1 * 128) = spFast p))).foldl (fun (t : State) (m : Nat × CellErr) =>
      t.meetGranule p (poff (m.1 * 128)) ffPattern (t.findLine p (poff (m.1 * 128))).isSome) u
    let t := (List.range 10).foldl (fun t k => t.bump32 (p * 16 + k) 0x3011 5 1) met
    exec (.scrubPass p x hours) s = .next (t.newErrors p x)
    ∧ (t.newErrors p x).fab.bufBad = (t.fab.bufBad ++ x.buffer).eraseDups
    ∧ (t.newErrors p x).errs
        = x.slow.foldl (fun (e : Tab CellErr) (y : Nat × CellErr) => Tab.set CellErr.none e (pkey spSlow (y.1 * 256) / 128) y.2)
            (x.fast.foldl (fun (e : Tab CellErr) (y : Nat × CellErr) =>
              Tab.set CellErr.none e (pkey (spFast p) (y.1 * 128) / 128) y.2) t.errs))
  ∧ (∀ (s : State) (p : Nat),
    exec (.unpin p) s = .next ((s.pier p).girder.foldl (fun t e => t.setLine p e.1 { t.lineAt p e.1 with pinned := false }) s)
    ∧ exec (.writeBackInvalidate p) s = .next ((s.pier p).girder.foldl
        (fun t e => (t.writeBack p e.1 (Asker.maintenance p)).setLine p e.1 Line.none) s))

/-- GUARD_BASE_WRITE and GUARD_SIZE_WRITE of region r write the object and count one change of the region where the
value is a multiple of 2 MiB, the base inside the tier, and the region would lie inside the tier and meet no other
enabled region of its Pier; otherwise they change nothing. -/
def Obligations.GuardWritesChecked : Prop :=
  ∀ (s : State) (r v : Nat),
    (v % 2 ^ 21 = 0 → v < fastSize → s.guardFits r v (s.odv r 0x3021 2) = true →
      exec (.guardBaseWrite r v) s = .next ((s.setOd r 0x3021 1 v).bump32 r 0x3021 3 1))
    ∧ (v % 2 ^ 21 ≠ 0 ∨ fastSize ≤ v ∨ s.guardFits r v (s.odv r 0x3021 2) = false → exec (.guardBaseWrite r v) s = .next s)
    ∧ (v % 2 ^ 21 = 0 → s.guardFits r (s.odv r 0x3021 1) v = true →
      exec (.guardSizeWrite r v) s = .next ((s.setOd r 0x3021 2 v).bump32 r 0x3021 3 1))
    ∧ (v % 2 ^ 21 ≠ 0 ∨ s.guardFits r (s.odv r 0x3021 1) v = false → exec (.guardSizeWrite r v) s = .next s)

/-- ARBITER_REQUEST of a defined originator for 1 to 4,096 beats at an existing instance lets the cycles pass and
becomes its youngest candidate, at its originator's level, and any other changes nothing. ARBITER_GRANT of an idle
instance lets the cycles pass and gives it to the request that the selection chooses; where the instance is owned, a
chosen request that may pre-empt does so: the owner is suspended and both are counted, and otherwise nothing
changes. A grant makes the request the owner. GRANT_END without an owner, or with one past GRANT_HOLD_LIMIT, and
CUTOFF without one, before GRANT_HOLD_LIMIT, or where the grant has ended by itself, change nothing; GRANT_END with
one releases the instance, whose former owner stays a candidate only with beats left; CUTOFF masks the owner, keeps
its remaining beats a candidate, counts, and records the first of its epoch. QUOTA_WINDOW_END tallies the window,
counts the masked windows, and empties the instance's window counts and masks. ADAPT_CLASS decides the quota of each
originator at levels 1 to 3 once, clamped, and begins a new period. LEDGER_CLEAR clears exactly the ledger's
objects. -/
def Obligations.ArbiterCommands : Prop :=
  (∀ (s : State) (c n cycles beats origin input len : Nat),
    let m := s.comingLen c n origin input len
    let u := s.arbElapse c n cycles (min beats (((s.arbInst c n).owner.map ArbReq.left).getD 0))
    let a := u.arbInst c n
    let v := u.setArbInst c n { a with
      cands := a.cands ++ [{ origin := origin, input := input, len := m.1, moved := 0, burst := 0, hold := 0, preempted := 0,
                             seq := a.nextSeq, wait := 0, level := u.level origin, limit := 0, holdLimit := 0, bascule := 0 }],
      nextSeq := a.nextSeq + 1 }
    (n < arbInstances c → originOk origin = true → 1 ≤ m.1 → m.1 ≤ 4096 →
      exec (.arbiterRequest c n ⟨cycles, beats⟩ ⟨origin, input⟩ len) s = .next { v with arb := { v.arb with coming := m.2 } })
    ∧ (arbInstances c ≤ n ∨ originOk origin = false ∨ m.1 = 0 ∨ 4096 < m.1 →
      exec (.arbiterRequest c n ⟨cycles, beats⟩ ⟨origin, input⟩ len) s = .next s))
  ∧ (∀ (s : State) (c n cycles beats : Nat) (r : ArbReq),
    let a := s.arbInst c n
    let aged := { r with wait := r.wait + cycles }
    (a.owner = none → s.arbSelect a = some (.fresh r) →
      exec (.arbiterGrant c n cycles beats) s = .next ((s.arbElapse c n cycles 0).arbGrantNew c n aged))
    ∧ (a.owner = none → s.arbSelect a = some (.resume r) →
      exec (.arbiterGrant c n cycles beats) s = .next ((s.arbElapse c n cycles 0).arbResume c n aged))
    ∧ (∀ o w, a.owner = some o → s.arbSelect a = some w → s.mayPreempt a o w beats = true → o.overdue cycles = false →
      let u := s.arbElapse c n cycles beats
      ∀ x, (u.arbInst c n).owner = some x →
      let v := ((u.setArbInst c n { u.arbInst c n with
        owner := none, suspended := { x with preempted := x.preempted + 1 } :: (u.arbInst c n).suspended }).ledger
          c w.req.origin 6 1).ledger c o.origin 7 1
      (w = .fresh r → exec (.arbiterGrant c n cycles beats) s = .next (v.arbGrantNew c n aged))
      ∧ (w = .resume r → exec (.arbiterGrant c n cycles beats) s = .next (v.arbResume c n aged)))
    ∧ (∀ o w, a.owner = some o → s.arbSelect a = some w → s.mayPreempt a o w beats = false ∨ o.overdue cycles = true →
      exec (.arbiterGrant c n cycles beats) s = .next s)
    ∧ (s.arbSelect a = none → exec (.arbiterGrant c n cycles beats) s = .next s)
    ∧ ((s.arbGrantNew c n r).arbInst c n).owner = some { r with
        burst := 0, hold := 0, preempted := 0, wait := 0, limit := s.arbOd c 1, holdLimit := s.arbOd c 2,
        bascule := if s.arbOd c 9 = 1 then s.arbOd c 10 else 0 }
    ∧ ((s.arbResume c n r).arbInst c n).owner = some { r with wait := 0 })
  ∧ (∀ (s : State) (c n cycles beats : Nat),
    let a := s.arbInst c n
    let left (x : ArbReq) := { x with burst := 0, hold := 0, preempted := 0, wait := 0 }
    let incl (l : List Nat) (o : Nat) := if l.contains o then l else l ++ [o]
    (a.owner = none → exec (.grantEnd c n cycles beats) s = .next s ∧ exec (.cutoff c n cycles beats) s = .next s)
    ∧ (∀ o, a.owner = some o → o.overdue cycles = true → exec (.grantEnd c n cycles beats) s = .next s)
    ∧ (∀ o x, a.owner = some o → o.overdue cycles = false →
      let t := s.arbElapse c n cycles (min beats o.left)
      (t.arbInst c n).owner = some x →
      (x.len ≤ x.moved → exec (.grantEnd c n cycles beats) s
        = .next ((t.setArbInst c n { t.arbInst c n with owner := none }).channelServed c n x.origin))
      ∧ (x.moved < x.len → exec (.grantEnd c n cycles beats) s = .next (t.setArbInst c n { t.arbInst c n with
          owner := none, cands := (t.arbInst c n).cands ++ [left x] })))
    ∧ (∀ o, a.owner = some o → o.hold + cycles < o.holdLimit ∨ o.left ≤ min beats cycles →
      exec (.cutoff c n cycles beats) s = .next s)
    ∧ (∀ o x, a.owner = some o → o.holdLimit ≤ o.hold + cycles → min beats cycles < o.left →
      let t := s.arbElapse c n cycles beats
      (t.arbInst c n).owner = some x →
        let u := (t.setArbInst c n { t.arbInst c n with
          owner := none, cands := (t.arbInst c n).cands ++ [left x],
          cutMask := incl (t.arbInst c n).cutMask x.origin,
          wasMasked := incl (t.arbInst c n).wasMasked x.origin }).bump32 (ledgerInst c x.origin) 0x3831 8 1
        exec (.cutoff c n cycles beats) s = .next (if u.isFirst 5 (ledgerInst c x.origin) then
          (u.setOnce 5 (ledgerInst c x.origin)).arbEvent c 2 x.origin n x.moved else u)))
  ∧ (∀ (s : State) (c n : Nat),
    let a := s.arbInst c n
    let full := (a.winGrants.map (fun e => e.1)).filter (fun o =>
      decide (s.level o ≠ 0) && decide (s.windowQuota c a o ≤ Tab.get 0 a.winGrants o))
    let pend := (a.maskedPending ++ ((a.cands ++ a.suspended).map (fun r => r.origin)).filter (s.masked a)).eraseDups
    let u := a.wasMasked.foldl (fun (u : State) o => u.ledger c o 5 1) s
    let v : State := { u with arb := { u.arb with
      filled := tally c u.arb.filled full, maskedPending := tally c u.arb.maskedPending pend } }
    exec (.quotaWindowEnd c n) s = .next (v.setArbInst c n { a with
      winGrants := [], quotaMask := [], cutMask := [], wasMasked := [], maskedPending := [],
      adapted := Tab.get 0 v.arb.decisions c }))
  ∧ (∀ (s : State) (c : Nat),
    let starved := s.arb.starved.contains c
    let t := (s.arb.priority.map (fun e => e.1)).foldl (fun t o => t.adaptOne c starved o) s
    exec (.adaptClass c) s = .next { t with arb := { t.arb with
        starved := t.arb.starved.filter (fun x => !decide (x = c)),
        decisions := Tab.set 0 t.arb.decisions c (Tab.get 0 t.arb.decisions c + 1) } })
  ∧ (∀ (s : State) (c o : Nat) (starved : Bool),
    let q := s.quotaOf c o
    let want : Int :=
      if starved = true ∧ 0 < Tab.get 0 s.arb.filled (arbKey c o) then (q : Int) - s.arbOd c 6
      else if starved = false ∧ 0 < Tab.get 0 s.arb.maskedPending (arbKey c o) then (q : Int) + s.arbOd c 6
      else q
    let new : Nat := (min (max want (s.arbOd c 4 : Int)) (s.arbOd c 5 : Int)).toNat
    let u := if (new : Int) = want then s else s.bump32 0 0x3841 (c + 1) 1
    let v := if new = q then u else (u.bump32 0 0x3840 (c + 1) 1).arbEvent c 1 o q new
    s.adaptOne c starved o = { v with arb := { v.arb with
      quota := Tab.set 0 v.arb.quota (arbKey c o) new, oldQuota := Tab.set 0 v.arb.oldQuota (arbKey c o) q,
      filled := Tab.set 0 v.arb.filled (arbKey c o) 0, maskedPending := Tab.set 0 v.arb.maskedPending (arbKey c o) 0 } })
  ∧ (∀ (s : State), exec .ledgerClear s = .next { s with od := s.od.filter (fun e => !decide (e.1 / 256 % 65536 = 0x3831)) })

/-- For a head that holds the instruction and whose checks pass, its tables read: TNOP completes at once; GOPEN opens a
free live entry with its tensors; GCANCEL makes a live entry quiet, and marks the attempt faulted for a backward
one; ROUTE and GSEND select, place and scatter and stay in flight, and every waiting inbox tests its records; INBOX
and GINBOX stay in flight with their slots; ANSWER and GANSWER send an answer for every row of their slot, or
complete at once with none; CEXPORT and GGRAD of a live entry stay in flight, and of an entry not live complete at
once; WGSTART writes the status records and visit words of every slot and completes. GOPEN of a quiet entry waits,
and of a live one, or with unfit tensors, raises OPERAND_FAULT, as do ROUTE and GSEND whose checks fail and an
instruction that names a layer entry not in use. -/
def Obligations.TrestleLatches : Prop :=
  ∀ (s : State) (p : Nat),
    let w := s.headWord p 80
    let u := s.headFetch p 80
    let i := trLive w
    let e := u.liveAt p i
    let null := u.trNull p w
    (Latches s p 80 0x00 trOk → exec (.tnop p) s = .next null)
    ∧ (∀ hc hr : Held, Latches s p 80 0x10 trOk → u.latchAll p [trH0 w, trH1 w] = some [hc, hr] →
      gopenFault p hc.d hr.d = none → e.st = .free →
      exec (.gopen p) s = .next ((u.setLive p i { LiveEntry.zero with
        st := .live, gen := bits 47 36 w, hc := hc.d, hr := hr.d }).nullHead p 80 w))
    ∧ (∀ ops : List Held, Latches s p 80 0x10 trOk → u.latchAll p [trH0 w, trH1 w] = some ops → e.st ≠ .quiet →
      let hc := ops.getD 0 Held.none
      let hr := ops.getD 1 Held.none
      (∀ k, gopenFault p hc.d hr.d = some k →
        exec (.gopen p) s = .next (u.trFault p w k (if k = 0 then hc.d.base else hr.d.base)))
      ∧ (gopenFault p hc.d hr.d = none → e.st = .live → exec (.gopen p) s = .next (u.trFault p w 7 0)))
    ∧ (∀ ops : List Held, Latches s p 80 0x10 trOk → u.latchAll p [trH0 w, trH1 w] = some ops → e.st = .quiet →
      exec (.gopen p) s = .next u)
    ∧ (u.lteUsed p (trLte w) = false →
      let t := u.trFault p w 7 0
      (Latches s p 80 0x13 trOk → exec (.inbox p) s = .next t) ∧ (Latches s p 80 0x14 trOk → exec (.answer p) s = .next t)
      ∧ (Latches s p 80 0x31 trOk → exec (.ginbox p) s = .next t) ∧ (Latches s p 80 0x32 trOk → exec (.ganswer p) s = .next t)
      ∧ (Latches s p 80 0x34 trOk → exec (.wgstart p) s = .next t)
      ∧ (∀ ops : List Held, u.latchAll p [trH0 w, trH1 w] = some ops →
        (Latches s p 80 0x12 trOk → exec (.route p) s = .next ((t.inboxTests 0).inboxTests 1))
        ∧ (Latches s p 80 0x30 trOk → exec (.gsend p) s = .next ((t.inboxTests 0).inboxTests 1))
        ∧ (Latches s p 80 0x33 trOk → exec (.ggrad p) s = .next t)))
    ∧ (Latches s p 80 0x11 trOk → e.st ≠ .live → exec (.gcancel p) s = .next (u.nullHead p 80 w))
    ∧ (Latches s p 80 0x11 trOk → e.st = .live → e.backward = false →
      exec (.gcancel p) s = .next ((u.nullHead p 80 w).quiet p i))
    ∧ (Latches s p 80 0x11 trOk → e.st = .live → e.backward = true →
      exec (.gcancel p) s = .next ((((u.nullHead p 80 w).quiet p i).bump32 0 (0x5050 + p) 8 1).markFaulted))
    ∧ (∀ (ops : List Held) (l : Layer), Latches s p 80 0x12 trOk → u.latchAll p [trH0 w, trH1 w] = some ops → LayerAt u p w l →
      let v := (u.readLayer p w).readMap p l
      (((List.range l.e).map (v.mapEntry p l)).any fun m => decide (m / 2 ^ 28 ≠ 0)) = false →
      (v.routeFault p w l ops = none → exec (.route p) s = .next (((v.routeRun p w l ops).inboxTests 0).inboxTests 1))
      ∧ (∀ k, v.routeFault p w l ops = some k →
        exec (.route p) s = .next (((v.trFaultAt p w k ops).inboxTests 0).inboxTests 1)))
    ∧ (∀ (l : Layer) (idx : List Held), Latches s p 80 0x13 trOk → LayerAt u p w l →
      let v := (u.readLayer p w).readTable p l.slotBase (64 * l.nslot)
      SlotsAt v p l ((List.range l.nslot).map (v.rawSlot p l.slotBase)) idx →
      exec (.inbox p) s = .next (inboxLatched v p w 0 ((List.range l.nslot).map (v.rawSlot p l.slotBase)) idx))
    ∧ (∀ (l : Layer) (hs idx : Held), Latches s p 80 0x14 trOk → LayerAt u p w l → trSlot w < l.nslot →
      let v := (u.readLayer p w).readTable p (l.slotBase + 64 * trSlot w) 64
      let r := v.rawSlot p l.slotBase (trSlot w)
      slotOk r = true → v.latchAll p [trH0 w, slotIdx r] = some [hs, idx] → idxOk p l idx.d = true →
      (hs.d.fmt = 5 ∨ hs.d.fmt = 6) → hs.d.extent 0 = l.h → idx.d.extent 0 ≤ hs.d.extent 1 → hs.d.flat2 = true →
      badPlace p hs = false →
      exec (.answer p) s = .next (if idx.d.extent 0 = 0 then v.trNull p w else v.answerRun p w l (slotNo r) (idx.d.extent 0) [hs, idx]))
    ∧ (∀ hd : Held, Latches s p 80 0x15 trOk → u.latchAll p [trH0 w] = some [hd] → (hd.d.fmt = 6 ∨ hd.d.fmt = 7 ∨ hd.d.fmt = 8) →
      badPlace p hd = false →
      (e.st ≠ .live → exec (.cexport p) s = .next null)
      ∧ (e.st = .live → hd.d.extent 0 = e.hc.extent 0 → hd.d.extent 1 = e.hc.extent 1 → hd.d.flat2 = true →
        exec (.cexport p) s = .next ((u.advance p 80 w).pushFlight p 80
          { u.newFlight p 80 w [hd] Nest.one false with args := [u.reqIdent p 80, e.gen] })))
    ∧ (∀ (ops : List Held) (l : Layer) (x : BwdExt), Latches s p 80 0x30 trOk → u.latchAll p [trH0 w, trH1 w] = some ops →
      ExtAt u p w l x →
      let a := readExt u p w
      let n := (ops.getD 0 Held.none).d.extent 1
      let v := if (a.liveAt p i).st = .live then
          (a.readRoute p (Asker.trestle p) (a.liveAt p i).hr (n * l.k)).readTable p l.mapBase (8 * l.e)
        else a
      ((v.liveAt p i).st = .live → v.gsendMapBad p w l n = false) →
      (v.gsendFault p w l x ops = none → exec (.gsend p) s = .next (((v.gsendRun p w l x ops).inboxTests 0).inboxTests 1))
      ∧ (∀ k, v.gsendFault p w l x ops = some k →
        exec (.gsend p) s = .next (((v.trFaultAt p w k ops).inboxTests 0).inboxTests 1)))
    ∧ (∀ (l : Layer) (x : BwdExt) (idx : List Held), Latches s p 80 0x31 trOk → ExtAt u p w l x →
      let v := (readExt u p w).readTable p x.slotBase (64 * l.nslot)
      SlotsAt v p l ((List.range l.nslot).map (v.rawSlot p x.slotBase)) idx →
      exec (.ginbox p) s = .next (inboxLatched v p w ((readExt u p w).rawExt p (trLte w))
        ((List.range l.nslot).map (v.rawSlot p x.slotBase)) idx))
    ∧ (∀ (l : Layer) (x : BwdExt) (hs hp idx : Held), Latches s p 80 0x32 trOk → ExtAt u p w l x → trSlot w < l.nslot →
      trGbank w < x.banks →
      let v := (readExt u p w).readTable p (x.slotBase + 64 * trSlot w) 64
      let r := v.rawSlot p x.slotBase (trSlot w)
      slotOk r = true → v.latchAll p [trH0 w, trH1 w, slotIdx r] = some [hs, hp, idx] → idx.d.fmt = 9 →
      hs.d.fmt = x.dxFmt → hs.d.extent 0 = l.h → idx.d.extent 0 ≤ hs.d.extent 1 → hs.d.flat2 = true → badPlace p hs = false →
      hp.d.fmt = 6 → idx.d.extent 0 ≤ hp.d.count → badPlace p hp = false →
      exec (.ganswer p) s = .next (if idx.d.extent 0 = 0 then v.trNull p w
        else v.ganswerRun p w l x (slotNo r) (idx.d.extent 0) [hs, hp, idx]))
    ∧ (∀ (l : Layer) (x : BwdExt) (hd hs : Held), Latches s p 80 0x33 trOk → u.latchAll p [trH0 w, trH1 w] = some [hd, hs] →
      ExtAt u p w l x →
      let v := readExt u p w
      let e := v.liveAt p i
      let t := if e.st = .live then e.hc.extent 1 else hd.d.extent 1
      (∀ d ∈ [hd, hs], d.d.fmt = 6 ∧ d.d.extent 0 = l.e ∧ d.d.extent 1 = t ∧ d.d.flat2 = true ∧ badPlace p d = false) →
      (e.st ≠ .live → exec (.ggrad p) s = .next (v.trNull p w))
      ∧ (e.st = .live → e.backward = false → exec (.ggrad p) s = .next (v.trFault p w 7 0))
      ∧ (e.st = .live → e.backward = true →
        let g := v.guardCheck p 80 { v.newFlight p 80 w [hd, hs] Nest.one false with
          args := [v.reqIdent p 80, e.gen, v.rawLayer p (trLte w)] } [1]
        exec (.ggrad p) s = .next ((g.1.advance p 80 w).pushFlight p 80 g.2)))
    ∧ (∀ (l : Layer) (x : BwdExt), Latches s p 80 0x34 trOk → ExtAt u p w l x →
      (∀ k < l.nslot, x.wgBase + k * x.wgStride + x.areaSize ≤ fastSize) →
      let v := readExt u p w
      let a := (v.advance p 80 w).writesBy p { v.newFlight p 80 w [] Nest.one false with args := [v.reqIdent p 80] } 0
        ((List.range l.nslot).flatMap (fun k => wgStats p x k ++ [(pkey (spFast p) (x.visitBase + 16 * k), toBytes 16 0)]))
      let t := a.1.pushFlight p 80 a.2
      exec (.wgstart p) s = .next (t.workDone p 80 ((t.queue p 80).flights.length - 1)))

/-- ROUTE_COMPLETE and GSEND_COMPLETE of an instruction whose writes are all visible set what the live entry expects,
count, and end its work; INBOX_ARRIVALS_COMPLETE and GINBOX_ARRIVALS_COMPLETE of one whose arrival records are all
valid build the index lists and visit words; CEXPORT_READY and GGRAD_READY of an entry whose answers have all
arrived export the combined rows or the gate gradients, the entry freed once no GGRAD of it is to complete; these
four end the instruction's work once its writes are visible. GEN_QUIET_EXPIRY frees a quiet entry; ANSWER_PACKET
takes the oldest answer, whole or the last segment of one, and responds, or stages a segment. Each changes nothing
where its condition does not hold, but for the test of the records. -/
def Obligations.TrestleWorkCompletes : Prop :=
  (∀ (s : State) (p k : Nat) (f : Flight), s.flight p 80 k = some f →
    let n (j : Nat) : Nat := f.args.getD j 0
    let i := trLive f.word
    let e := s.liveAt p i
    let told := if e.st = .live ∧ e.gen = n 1 then s.setLive p i { e with expected := n 3, sent := true } else s
    (f.null = false → opOf f.word = 0x12 → s.allVisible (n 0) = true →
      let a := told.addWords p f f.adds
      let t := a.1.putFlight p 80 k a.2
      exec (.routeComplete p k) s = .next (((((((t.bump64 0 (0x5010 + p) 1 1).bump64 0 (0x5010 + p) 2 (n 2)).bump64 0
        (0x5010 + p) 3 (n 3)).bump64 0 (0x5010 + p) 4 (n 4)).bump64 0 (0x5010 + p) 5 (n 5)).workDone p 80 k)))
    ∧ (f.null = true ∨ opOf f.word ≠ 0x12 ∨ s.allVisible (n 0) = false → exec (.routeComplete p k) s = .next s)
    ∧ (f.null = false → opOf f.word = 0x30 → s.allVisible (n 0) = true →
      exec (.gsendComplete p k) s
        = .next (((told.bump64 0 (0x5050 + p) 1 1).bump64 0 (0x5050 + p) 2 (n 3)).workDone p 80 k))
    ∧ (f.null = true ∨ opOf f.word ≠ 0x30 ∨ s.allVisible (n 0) = false → exec (.gsendComplete p k) s = .next s)
    ∧ (f.null = true ∨ opOf f.word ≠ 0x13 → exec (.inboxArrivalsComplete p k) s = .next s)
    ∧ (f.null = true ∨ opOf f.word ≠ 0x31 → exec (.ginboxArrivalsComplete p k) s = .next s)
    ∧ (f.null = true ∨ opOf f.word ≠ 0x15 → exec (.cexportReady p k) s = .next s)
    ∧ (f.null = true ∨ opOf f.word ≠ 0x33 → exec (.ggradReady p k) s = .next s))
  ∧ (∀ (s : State) (p k : Nat), s.flight p 80 k = none → ∀ c ∈ [Instr.routeComplete p k, .gsendComplete p k,
      .inboxArrivalsComplete p k, .ginboxArrivalsComplete p k, .cexportReady p k, .ggradReady p k], exec c s = .next s)
  ∧ (∀ (s : State) (p k : Nat) (f : Flight), s.flight p 80 k = some f → f.null = false → f.running = true →
    (opOf f.word = 0x13 → exec (.inboxArrivalsComplete p k) s = .next (s.whenVisible p k))
    ∧ (opOf f.word = 0x31 → exec (.ginboxArrivalsComplete p k) s = .next (s.whenVisible p k))
    ∧ (opOf f.word = 0x15 → exec (.cexportReady p k) s = .next (s.whenVisible p k))
    ∧ (opOf f.word = 0x33 → exec (.ggradReady p k) s = .next (s.ggradDone p k (trLive f.word))))
  ∧ (∀ (s : State) (p k : Nat) (g f : Flight), s.flight p 80 k = some g → g.null = false → g.running = false →
    let j := inboxJob g
    let u := (s.readArrivals p j).inboxTest p k
    u.flight p 80 k = some f →
    (opOf g.word = 0x13 → u.inboxReady p j = true →
      let r := (j.slots.zip j.idx).foldl (fun (a : State × Flight) x =>
        let o := a.1.inboxSlot p a.2 j x.1 x.2
        o.1.addWords p o.2.1 [(pkey (spFast p) (j.l.loadBase + 32 * slotExpert x.1 + 16), o.2.2)]) (u, f)
      exec (.inboxArrivalsComplete p k) s = .next ((r.1.putFlight p 80 k r.2.wrote).whenVisible p k))
    ∧ (opOf g.word = 0x31 → u.inboxReady p j = true →
      let r := ((List.range j.slots.length).zip (j.slots.zip j.idx)).foldl (fun (a : State × Flight) y =>
        let o := a.1.inboxSlot p a.2 j y.2.1 y.2.2
        o.1.visit p o.2.1 (parseExt (g.args.getD 3 0)) y.1 o.2.2) (u, f)
      exec (.ginboxArrivalsComplete p k) s = .next ((r.1.putFlight p 80 k r.2.wrote).whenVisible p k))
    ∧ (opOf g.word = 0x13 → u.inboxReady p j = false → exec (.inboxArrivalsComplete p k) s = .next u)
    ∧ (opOf g.word = 0x31 → u.inboxReady p j = false → exec (.ginboxArrivalsComplete p k) s = .next u))
  ∧ (∀ (s : State) (p k : Nat) (f : Flight), s.flight p 80 k = some f → f.null = false → f.running = false →
    let i := trLive f.word
    let e := s.liveAt p i
    let who := f.trestle p
    let hd := f.ops.getD 0 Held.none
    (e.st = .live → e.sent = true → e.arrived = e.expected →
      (opOf f.word = 0x15 →
        let wr : Writer := ⟨streamOf p 80, f.pc, f.gen⟩
        let t := (s.readOperand p who ⟨0, e.hc, 0, none, false⟩).touchReadRun who 0 ffPattern
          (pkey (spFast p) (combStat e.hc 0), 8 * e.hc.extent 1)
        let rows := (List.range (e.hc.extent 1)).map (t.combRow p e.hc hd.d.fmt)
        let g := t.guardRuns f.guards (physRuns p hd.runs)
        let o := (g.1.writeOperand p who hd).writeElems p 0 hd (rows.flatMap (·.1))
        let v := rows.foldl (fun t r => t.watchExport p wr hd.d r.2.wspill r.2) (o.1.watchWrites p wr hd.d o.2)
        let v := if v.gradPending p i then v.setLive p i { e with freeing := true } else v.setLive p i LiveEntry.zero
        exec (.cexportReady p k) s = .next ((v.putFlight p 80 k { f with guards := g.2, running := true }).whenVisible p k))
      ∧ (opOf f.word = 0x33 →
        let l := parseLayer (f.args.getD 2 0)
        let hs := f.ops.getD 1 Held.none
        let u := ((((s.trSched p f [(1, hs)]).readOperand p who hs).readRoute p who e.hr (e.hc.extent 1 * l.k)).readOperand p who
          ⟨0, e.hg, 0, none, false⟩).readMap p l
        let toks := u.tokens p l hs
        let rows := ((List.range toks.length).zip toks).flatMap (fun t =>
          gradRow l t.2 ((List.range l.k).map (u.routeRec p l.k e.hr t.1))
            ((List.range l.k).map (fun r => u.readVal p 0 ⟨0, e.hg, 0, none, false⟩ (t.1 * l.k + r))))
        let g := u.guardRuns f.guards (physRuns p hd.runs)
        let o := (g.1.writeOperand p who hd).writeElems p 0 hd (((List.range rows.length).zip rows).map (fun x => (x.1, .f x.2)))
        let t := (o.1.bump64 0 (0x5050 + p) 9 1).putFlight p 80 k { f with guards := g.2, running := true }
        exec (.ggradReady p k) s = .next (t.ggradDone p k i)))
    ∧ (e.st ≠ .live ∨ e.sent = false ∨ e.arrived ≠ e.expected →
      exec (.cexportReady p k) s = .next s ∧ exec (.ggradReady p k) s = .next s))
  ∧ (∀ (s : State) (p k i : Nat),
    let t := s.whenVisible p k
    s.ggradDone p k i = if (t.liveAt p i).freeing = true ∧ t.gradPending p i = false then t.setLive p i LiveEntry.zero else t)
  ∧ (∀ (s : State) (p k : Nat),
    ((s.liveAt p k).st = .quiet → exec (.genQuietExpiry p k) s = .next (s.setLive p k LiveEntry.zero))
    ∧ ((s.liveAt p k).st ≠ .quiet → exec (.genQuietExpiry p k) s = .next s))
  ∧ (∀ (s : State) (p : Nat) (pk : Packet), s.inboxOf p 2 = some pk →
    let t := s.takeInbox p 2
    let hdr := pk.body.take 32
    let h := ofBytes hdr
    let data := pk.body.drop 32
    let taken (u : State) (runs : List (Nat × Nat)) (d : List Byte) : State :=
      let a := parseAnswer h d
      let r := (u.guardOnce (runs ++ u.answerRuns p a)).takeAnswer p (Asker.fabric p 2) a
      r.1.respond pk r.2
    (pk.proto = 2 → pk.nseg ≤ 1 → exec (.answerPacket p) s = .next (taken t [] data))
    ∧ (∀ whole, pk.proto = 2 → 1 < pk.nseg → (t.stage p h pk.nseg hdr data).2 = some whole →
      exec (.answerPacket p) s = .next (taken (t.stage p h pk.nseg hdr data).1 (t.stageRuns p h data.length) whole))
    ∧ (pk.proto = 2 → 1 < pk.nseg → (t.stage p h pk.nseg hdr data).2 = none →
      exec (.answerPacket p) s = .next ((t.stage p h pk.nseg hdr data).1.guardOnce (t.stageRuns p h data.length)))
    ∧ (pk.proto ≠ 2 → exec (.answerPacket p) s = .next s))
  ∧ (∀ (s : State) (p : Nat), s.inboxOf p 2 = none → exec (.answerPacket p) s = .next s)

/-- For a head that holds the command: INOP completes at once. UOPEN of Pier 0 in IDLE, whose named groups hold no value
outside their domain, opens the update with the objects and the whole group table as they stand, counts it, opens
the mirror stream and completes at once. PASS1 and NEXPORT in OPENED, NORMS in EXPORTED, PASS2 and UCLOSE in NORMED
and WCOPY in IDLE, whose tensors latch without error, are put in flight with what they latched; NEXPORT waits for
the PASS1 commands in flight and UCLOSE for the PASS2 commands; PASS2 marks its tensors named. A command whose
tensors do not latch raises the fault of the first that fails; NEXPORT and NORMS whose norm vector is not a fit one,
and NORMS whose norm bucket is HELD or FAILED, raise OPERAND_FAULT; in another update state, or a module-wide
command of Pier 1, each raises OPERAND_FAULT after its latch. -/
def Obligations.IlbenLatches : Prop :=
  ∀ (s : State) (p : Nat),
    let w := s.headWord p 81
    let u := s.headFetch p 81
    let c := u.upd.cfg
    (Latches s p 81 0x00 ilOk → exec (.inop p) s = .next ((u.advance p 81 w).postSignal p w))
    ∧ (Latches s p 81 0x10 ilOk → u.upd.st = .idle → p = 0 →
      let d := u.updObjects
      let base := u.odv 0 0x7006 0
      let k := Asker.queue p 81 0
      let t := (u.touchReadRun k 0 ffPattern (pkey spSlow d.table, 128 * d.count)).touchReadRun k 0 ffPattern (pkey spSlow base, 16384)
      let entry (g : Nat) : Nat := t.num (pkey spSlow (base + 64 * g)) 64
      ((t.groupsNamed d).all (fun g => groupOk (entry g)) = true →
        let v := t.modUpd (fun x => { x with
          st := .opened, eNext := t.eNext, cfg := d, anchor := bkAnchor (t.bucketRaw d.nbPier d.nb), words := [], stats := [],
          named := [], groups := (List.range 256).foldl (fun t g => Tab.set 0 t g (entry g)) [], updated := 0, skipped := 0 })
        exec (.uopen p) s = .next (((v.bump32 0 0x7021 1 1).advance p 81 w).openStream.postSignal p w))
      ∧ ((t.groupsNamed d).all (fun g => groupOk (entry g)) = false → exec (.uopen p) s = .next (t.headFault p 81 1)))
    ∧ (∀ v r, Latches s p 81 0x11 ilOk → u.upd.st = .opened → u.namedTensors p c w = (v, r) →
      (∀ ts, r = .ok ts → exec (.pass1 p) s = .next (v.ilPush p w false c ts []))
      ∧ (∀ e, r = .error e → exec (.pass1 p) s = .next (v.ilError p w e)))
    ∧ (Latches s p 81 0x12 ilOk → u.upd.st = .opened → p = 0 → u.normOk c = true →
      exec (.nexport p) s = .next (u.ilPush p w false c [] (u.ilIdents 0x11)))
    ∧ (u.upd.st = .opened → p = 0 → u.normOk c = false → Latches s p 81 0x12 ilOk → exec (.nexport p) s = .next (u.ilFault p w 0))
    ∧ (u.upd.st = .exported → p = 0 → Latches s p 81 0x13 ilOk →
      u.normOk c = false ∨ u.bucketState c.nbPier c.nb = bkHeld ∨ u.bucketState c.nbPier c.nb = bkFailed →
      exec (.norms p) s = .next (u.ilFault p w 0))
    ∧ (Latches s p 81 0x13 ilOk → u.upd.st = .exported → p = 0 → u.normOk c = true →
      u.bucketState c.nbPier c.nb ≠ bkHeld → u.bucketState c.nbPier c.nb ≠ bkFailed →
      let v := u.readTensors p c 0x13 (List.range c.count)
      (∀ ts, v.latchTensors c 0x13 false (List.range c.count) = .ok ts → exec (.norms p) s = .next (v.ilPush p w false c ts []))
      ∧ (∀ e, v.latchTensors c 0x13 false (List.range c.count) = .error e → exec (.norms p) s = .next (v.ilError p w e)))
    ∧ (∀ v r, Latches s p 81 0x14 ilOk → u.upd.st = .normed → u.namedTensors p c w = (v, r) →
      (∀ ts, r = .ok ts → exec (.pass2 p) s
        = .next ((v.modUpd (fun x => { x with named := x.named ++ ts.map (·.ix) })).ilPush p w (ilAdopt w) c ts []))
      ∧ (∀ e, r = .error e → exec (.pass2 p) s = .next (v.ilError p w e)))
    ∧ (∀ v r, Latches s p 81 0x15 ilOk → u.upd.st = .idle → u.namedTensors p u.updObjects w = (v, r) →
      (∀ ts, r = .ok ts → exec (.wcopy p) s = .next (v.ilPush p w false u.updObjects ts []))
      ∧ (∀ e, r = .error e → exec (.wcopy p) s = .next (v.ilError p w e)))
    ∧ (Latches s p 81 0x16 ilOk → u.upd.st = .normed → p = 0 →
      exec (.uclose p) s = .next (u.ilPush p w false c [] (u.ilIdents 0x14)))
    ∧ (∀ r ∈ [(0x10, UpdState.idle, Instr.uopen p), (0x11, .opened, .pass1 p), (0x12, .opened, .nexport p),
        (0x13, .exported, .norms p), (0x14, .normed, .pass2 p), (0x15, .idle, .wcopy p), (0x16, .normed, .uclose p)],
      Latches s p 81 r.1 ilOk → (u.upd.st ≠ r.2.1 ∨ (p ≠ 0 ∧ r.1 ∈ [0x10, 0x12, 0x13, 0x16])) → exec r.2.2 s = .next (u.ilFault p w 0))

/-- ILBEN_COMMAND_COMPLETE of a PASS1, PASS2 or WCOPY runs what is left of its work items, and completes it once all are
done and no slow-tier write waits for the host. NEXPORT_WRITE of the oldest NEXPORT that waits no more writes the
norm words and status records and enters EXPORTED; NORMS_COMPUTE of the oldest NORMS, its norm bucket REDUCED,
writes the factors and enters NORMED, and waits while the bucket is neither REDUCED nor HELD nor FAILED; UPDATE_DONE
of the oldest UCLOSE that waits no more enters CLOSED, records the counts and finishes the stream. Without such a
command each changes nothing. TAG_SCRUB, with the update IDLE and no attempt, reads the tensors' entries and state
blocks and empties and counts every TAG above COMMITTED; otherwise it changes nothing. -/
def Obligations.IlbenWorkCompletes : Prop :=
  (∀ (s : State) (i : Nat) (j : UpdJob), s.upd.jobs[i]? = some j →
    (j.op = 0x11 ∨ j.op = 0x14 ∨ j.op = 0x15 →
      let t := s.ilWork j (j.items.length - j.did)
      (∀ x, t.upd.jobs[i]? = some x → x.did = x.items.length → t.host.snoopWait = [] →
        exec (.ilbenCommandComplete i) s = .next (t.ilDone x))
      ∧ ((∀ x ∈ t.upd.jobs[i]?, x.did ≠ x.items.length ∨ t.host.snoopWait ≠ []) →
        exec (.ilbenCommandComplete i) s = .next t))
    ∧ (¬ (j.op = 0x11 ∨ j.op = 0x14 ∨ j.op = 0x15) → exec (.ilbenCommandComplete i) s = .next s))
  ∧ (∀ (s : State) (j : UpdJob), s.ilNext 0x12 = some j →
    let n := j.cfg.nnorm
    let k := pkey (spFast j.cfg.nbPier) j.cfg.hs
    let t := (s.ilWrite k ((List.range n).flatMap (fun i => toBytes 16 (Tab.get 0 s.upd.words i)))).ilWrite
      (k + 32768 * ceilDiv n 2048) ((List.range (ceilDiv n 2048)).flatMap (fun t => toBytes 8 (s.upd.stat (2048 * t)).toNat))
    exec .nexportWrite s = .next ((t.modUpd (fun u => { u with st := .exported })).ilDone j))
  ∧ (∀ (s : State) (j : UpdJob), s.ilNext 0x13 = some j → s.bucketState j.cfg.nbPier j.cfg.nb = bkReduced →
    exec .normsCompute s = .next (((s.normsRun j).modUpd (fun u => { u with st := .normed })).ilDone j))
  ∧ (∀ (s : State) (j : UpdJob), s.ilNext 0x13 = some j →
    s.bucketState j.cfg.nbPier j.cfg.nb ∉ [bkReduced, bkHeld, bkFailed] → exec .normsCompute s = .next s)
  ∧ (∀ (s : State) (j : UpdJob), s.ilNext 0x16 = some j →
    let t := (s.modUpd (fun u => { u with st := .closed })).ilDone j
    exec .updateDone s = .next (t.ilbenEvent 5 0 t.upd.updated t.upd.skipped).streamDone)
  ∧ (∀ (s : State), (s.ilNext 0x12 = none → exec .nexportWrite s = .next s)
    ∧ (s.ilNext 0x13 = none → exec .normsCompute s = .next s) ∧ (s.ilNext 0x16 = none → exec .updateDone s = .next s))
  ∧ (∀ (s : State), (s.upd.st = .idle → s.commit.pstate = .idle →
      exec .tagScrub s = .next ((List.range s.updObjects.count).foldl (fun t k =>
        [0, 1].foldl (fun (t : State) b =>
          let r := t.rawTensor s.updObjects k
          let o := tnState r + 64 * b
          let tag := t.num (pkey spSlow o) 8
          if tag ≠ 2 ^ 64 - 1 ∧ t.commit.committed < tag then
            let v := (t.storeRun (Asker.queue 0 81 0) 0 (pkey spSlow o) (toBytes 8 (2 ^ 64 - 1))).bump64 0 0x7810 5 1
            { v with commit := { v.commit with scrubbed := v.commit.scrubbed ++ [(wcPier r, o)] } }
          else t) t) (s.readTensors 0 s.updObjects 0 (List.range s.updObjects.count))))
    ∧ (s.upd.st ≠ .idle ∨ s.commit.pstate ≠ .idle → exec .tagScrub s = .next s))

/-- For a head that holds the instruction, whose operands latch and whose checks pass: REDUCE opens its bucket, sends
its contributions and stays in flight; LACC adds its source into the area, execution by execution; LFENCE of the
current layout completes at once, of another waits as a fence; RWRITE sends its packets, execution by execution;
PERMUTE handles each entry of its table and completes once no request is outstanding. With nothing to do, LACC (its
area sound), RWRITE and PERMUTE complete at once. COPY_COMPLETE of an RWRITE or PERMUTE counts it and ends it once
its packets are answered and its reads and writes are done. A REDUCE of an entry past the table, or whose checks
fail, raises OPERAND_FAULT at the operand at fault. -/
def Obligations.RemoteCopyInstructionsLatch : Prop :=
  ∀ (s : State) (p e : Nat),
    let q := 64 + e
    let w := s.headWord p q
    let u := s.headFetch p q
    let nest := parseNest (u.rawNest p (loopOf w))
    let after (x : State × Option Flight) : State := match x.2 with | some f => x.1.pushFlight p q f | none => x.1
    (∀ ops, Latches s p q 0x20 copyOk → u.latchAll p [cpHd w, cpHs w] = some ops → redBucket w < u.bucketCount p →
      let b := redBucket w
      let v := u.touchReadRun (Asker.queue p q 0) 0 ffPattern (u.bucketAddr p b, 128)
      let r := v.bucketRaw p b
      v.bucketCount p = u.bucketCount p → (bucketOk r && bucketRestOk (v.bucketRest p b)) = true →
      (v.redFault p b r ops = none → exec (.reduce p e) s = .next (v.redRun p q w r ops))
      ∧ (∀ k, v.redFault p b r ops = some k → exec (.reduce p e) s = .next ((v.advance p q w).operandFault p q
          (v.newFlight p q w ops Nest.one false) 0 k (if k < 7 then (ops.getD k Held.none).d.base else 0))))
    ∧ (∀ ops, Latches s p q 0x20 copyOk → u.latchAll p [cpHd w, cpHs w] = some ops → u.bucketCount p ≤ redBucket w →
      exec (.reduce p e) s = .next ((u.advance p q w).operandFault p q (u.newFlight p q w ops Nest.one false) 0 7 0))
    ∧ (∀ ops, Latches s p q 0x21 copyOk → u.latchAll p [cpHd w, cpHs w] = some ops →
      nestOk (u.rawNest p (loopOf w)) [true, true, false] = true →
      (nest.total = 0 ∨ ((ops.getD 0 Held.none).d.count = 0 ∧ laccFault p ops = none) →
        exec (.lacc p e) s = .next (u.nullHead p q w))
      ∧ (nest.total ≠ 0 → (ops.getD 0 Held.none).d.count ≠ 0 ∨ laccFault p ops ≠ none →
        let g := u.guardCheck p q { u.newFlight p q w ops nest false with args := [u.reqIdent p q, 0] } [1]
        exec (.lacc p e) s = .next (after ((g.1.advance p q w).laccAll p q g.2 nest.total 0))))
    ∧ (Latches s p q 0x22 copyOk →
      (fenceLayout w = u.curLayout → exec (.lfence p e) s = .next (u.nullHead p q w))
      ∧ (fenceLayout w ≠ u.curLayout →
        let t := (u.advance p q w).pushFlight p q { u.newFlight p q w [] Nest.one false with args := [u.reqIdent p q] }
        exec (.lfence p e) s = .next { t with fab := { t.fab with
          fences := t.fab.fences ++ [⟨p, q, u.reqIdent p q, fenceLayout w⟩] } }))
    ∧ (∀ ops, Latches s p q 0x28 copyOk → u.latchAll p [cpHd w, cpHs w] = some ops →
      nestOk (u.rawNest p (loopOf w)) [true, true, false] = true →
      (nest.total = 0 → exec (.rwrite p e) s = .next (u.nullHead p q w))
      ∧ (nest.total ≠ 0 →
        let g := u.guardCheck p q { u.newFlight p q w ops nest false with args := [u.reqIdent p q, 0, 0] } [1]
        exec (.rwrite p e) s = .next (after ((g.1.advance p q w).rwAll p q g.2 nest.total 0))))
    ∧ (∀ ops, Latches s p q 0x29 copyOk → u.latchAll p [cpHd w, cpHs w] = some ops →
      let ident := u.reqIdent p q
      let who := Asker.queue p q ident
      let f := { u.newFlight p q w ops Nest.one false with args := [ident, 0, 0] }
      let ht := ops.getD 0 Held.none
      let v := u.readOperand p who ht
      (∀ j, v.permFault p ops = some j → exec (.permute p e) s
        = .next (((v.dropReqs ident).advance p q w).operandFault p q f 0 j (ops.getD j Held.none).d.base))
      ∧ (v.permFault p ops = none → ht.d.count = 0 → exec (.permute p e) s = .next (v.nullHead p q w))
      ∧ (v.permFault p ops = none → ht.d.count ≠ 0 →
        let g := v.guardCheck p q f [0, 1]
        let src := g.2.ops.getD 1 Held.none
        src.stale = true ∨ g.1.firstForeign p 3 [(1, src)] = none →
        let t := (g.1.advance p q w).readOperand p who src
        let a := ((List.range (ht.d.count / 8)).map (fun k => (k, t.permEntry p ht k))).foldl
          (fun (a : State × Flight) x => a.1.permRun p a.2 src x.1 x.2) (t, g.2)
        exec (.permute p e) s = .next ((a.1.pushFlight p q { a.2 with running := true }).mapDone p q ident)))
    ∧ (∀ f l k, (s.queue p q).flights = f :: l → opOf f.word = 0x28 ∨ opOf f.word = 0x29 →
      s.flightOf p q (f.args.getD 0 0) = some k →
      (s.allVisible (f.args.getD 0 0) = true → ∀ g, s.flight p q k = some g → exec (.copyComplete p e) s
        = .next ((s.bump64 0 (0x6041 + p) (if opOf g.word = 0x28 then 1 else 2) 1).workDone p q k))
      ∧ (s.allVisible (f.args.getD 0 0) = false → exec (.copyComplete p e) s = .next s))

/-- REDUCE_PACKET judges the oldest reduction packet of a Pier, or of the reduce contexts, and responds. REDUCE_COMPLETE
of a bucket whose result is whole or rejected, which awaits no response, none of whose requests waits and with no
slow-tier write waiting for the host, records it REDUCED or FAILED and ends the REDUCE, unless an engine reset has
ended it. REDUCE_RETRY sends again a request that waits for its retry, counted. LFENCE_APPLY of a drained module
sets the layout of the oldest fence and ends its LFENCE. RELEASE_BUCKET of an entry in use that is not OPEN makes it
IDLE, RELEASE_ALL_BUCKETS does so for every such entry, and CUR_LAYOUT_WRITE of a 16-bit value with no bucket OPEN
and no PERMUTE in flight sets the layout. Each changes nothing where its condition does not hold. -/
def Obligations.ReductionCommands : Prop :=
  (∀ (s : State) (p : Nat) (pk : Packet) (l : List Packet),
    (s.fab.inboxR = pk :: l →
      let r := ({ s with fab := { s.fab with inboxR := l } } : State).redJudge pk.destPier true pk
      exec (.reducePacket p true) s = .next (r.1.respond pk r.2))
    ∧ (s.fab.inboxR = [] → exec (.reducePacket p true) s = .next s)
    ∧ (s.inboxOf p 3 = some pk →
      let r := (s.takeInbox p 3).redJudge p false pk
      exec (.reducePacket p false) s = .next (r.1.respond pk r.2))
    ∧ (s.inboxOf p 3 = none → exec (.reducePacket p false) s = .next s))
  ∧ (∀ (s : State) (p b : Nat) (j : Red),
    (s.redOf p b = some j → j.ended = false → (j.full = true ∨ j.rejected = true) →
      (s.fab.reqs.any fun x => x.ident = j.ident) = false → s.asking j.ident = false → s.host.snoopWait = [] →
      exec (.reduceComplete p b) s = .next ((s.redRecord p j (if j.rejected then bkFailed else bkReduced)).redEnd p j))
    ∧ (s.redOf p b = none → exec (.reduceComplete p b) s = .next s)
    ∧ (s.redOf p b = some j → j.ended = true ∨ (j.full = false ∧ j.rejected = false)
        ∨ (s.fab.reqs.any fun x => x.ident = j.ident) = true ∨ s.asking j.ident = true ∨ s.host.snoopWait ≠ [] →
      exec (.reduceComplete p b) s = .next s)
    ∧ (b < s.bucketCount p → s.bucketState p b ≠ bkOpen → exec (.releaseBucket p b) s = .next (s.setBucketState p b bkIdle))
    ∧ (s.bucketCount p ≤ b ∨ s.bucketState p b = bkOpen → exec (.releaseBucket p b) s = .next s)
    ∧ exec (.releaseAllBuckets p) s = .next ((List.range (s.bucketCount p)).foldl
        (fun (t : State) k => if t.bucketState p k = bkOpen then t else t.setBucketState p k bkIdle) s))
  ∧ (∀ (s : State) (tag : Nat) (r : Req),
    (s.fab.reqs.find? (fun x => decide (x.tag = tag) && x.retry && decide (x.kind = .reduce)) = some r →
      let t : State := { s with fab := { s.fab with
        reqs := s.fab.reqs.map (fun (x : Req) => if x.tag = tag then { x with retry := false } else x) } }
      exec (.reduceRetry tag) s = .next ((t.bump64 0 (0x5810 + r.pkt.srcPier) 7 1).toRouter r.pkt))
    ∧ (s.fab.reqs.find? (fun x => decide (x.tag = tag) && x.retry && decide (x.kind = .reduce)) = none →
      exec (.reduceRetry tag) s = .next s))
  ∧ (∀ (s : State) (f : Fence) (l : List Fence), s.fab.fences = f :: l →
    (s.drained = true →
      let t := (({ s with fab := { s.fab with fences := l } } : State).setLayout f.layout).redEvent f.pier 9 0 s.curLayout f.layout
      (∀ k, t.flightOf f.pier f.queue f.ident = some k → exec .lfenceApply s = .next (t.workDone f.pier f.queue k))
      ∧ (t.flightOf f.pier f.queue f.ident = none → exec .lfenceApply s = .next t))
    ∧ (s.drained = false → exec .lfenceApply s = .next s))
  ∧ (∀ s : State, s.fab.fences = [] → exec .lfenceApply s = .next s)
  ∧ (∀ (s : State) (v : Nat),
    (v < 2 ^ 16 → s.p0.reds = [] → s.p1.reds = [] → s.permuting = false →
      exec (.curLayoutWrite v) s = .next ((s.setOd 0 0x6040 0 s.curLayout).setOd 0 0x5801 0 v))
    ∧ (2 ^ 16 ≤ v ∨ s.p0.reds ≠ [] ∨ s.p1.reds ≠ [] ∨ s.permuting = true → exec (.curLayoutWrite v) s = .next s))

/-- WRITE takes the oldest write packet of a Pier: inside the fast tier its bytes are stored and every inbox tests its
records, and it is answered 0; outside it is answered 4. RESPONSE takes the oldest response and hands its code to
the request with its TAG, by the request's kind, and drops one whose TAG no request of the Pier has. MAP_DATA and
MAP_SIGNAL take the oldest map packet: one that fails its checks is answered with their code, data is stored and a
signal raises its counter, each answered 0. MAP_RETRY sends again a map request that waits for its retry. With
nothing to take each changes nothing. -/
def Obligations.PacketsTakenAndAnswered : Prop :=
  (∀ (s : State) (p : Nat) (pk : Packet), s.inboxOf p 2 = some pk → pk.proto = 1 →
    let t := s.takeInbox p 2
    (pk.addr + pk.body.length ≤ fastSize → pk.body ≠ [] →
      let k := pkey (spFast p) pk.addr
      exec (.write p) s = .next (((((t.guardOnce [(k, pk.body.length)]).storeRun (Asker.fabric p 2) 0 k pk.body).inboxTests p).respond
        pk 0)))
    ∧ (pk.addr ≤ fastSize → pk.body = [] → exec (.write p) s = .next (t.respond pk 0))
    ∧ (fastSize < pk.addr + pk.body.length → exec (.write p) s = .next (t.respond pk 4)))
  ∧ (∀ (s : State) (p : Nat), s.inboxOf p 2 = none → exec (.write p) s = .next s)
  ∧ (∀ (s : State) (p : Nat) (pk : Packet), s.inboxOf p 2 = some pk → pk.proto ≠ 1 → exec (.write p) s = .next s)
  ∧ (∀ (s : State) (p : Nat), s.inboxOf p 6 = none → exec (.mapData p) s = .next s ∧ exec (.mapSignal p) s = .next s)
  ∧ (∀ (s : State) (tag : Nat),
    s.fab.reqs.find? (fun x => decide (x.tag = tag) && x.retry && (x.kind = .mapData || x.kind = .mapSignal)) = none →
    exec (.mapRetry tag) s = .next s)
  ∧ (∀ (s : State) (p : Nat) (pk : Packet), s.inboxOf p 0 = some pk →
    let t := s.takeInbox p 0
    let v := ofBytes (pk.body.take 8)
    let code := bits 35 32 v
    let mine := t.fab.reqs.find? (fun r => decide (r.tag = bits 31 0 v) && decide (r.pkt.srcPier = p))
    (mine = none → exec (.response p) s = .next t)
    ∧ (∀ r, mine = some r →
      (r.kind = .row ∨ r.kind = .arrival → exec (.response p) s = .next (t.rowResponse r code))
      ∧ (r.kind = .answer → exec (.response p) s = .next (t.answerResponse r))
      ∧ (r.kind = .reduce → exec (.response p) s = .next (t.redResponse r code))
      ∧ (r.kind = .mapData ∨ r.kind = .mapSignal → exec (.response p) s = .next (t.mapResponse r code))))
  ∧ (∀ (s : State) (p : Nat), s.inboxOf p 0 = none → exec (.response p) s = .next s)
  ∧ (∀ (s : State) (p : Nat) (pk : Packet), s.inboxOf p 6 = some pk →
    let h := ofBytes (pk.body.take 32)
    let t := s.takeInbox p 6
    let n := (pk.body.drop 32).length
    let off := bits 127 64 h
    (bits 7 0 h ≠ 2 → s.mapJudge p pk = (s, 0) →
      (bit 11 h = false → exec (.mapData p) s
        = .next (((t.guardOnce [(pkey (spFast p) off, n)]).storeRun (Asker.fabric p 6) 0 (pkey (spFast p) off) (pk.body.drop 32)).respond
            pk 0))
      ∧ (bit 11 h = true → s.runHeld off n = false →
        exec (.mapData p) s = .next ((t.storeRun (Asker.fabric p 6) 0 (pkey spSlow off) (pk.body.drop 32)).respond pk 0))
      ∧ (bit 11 h = true → s.runHeld off n = true → exec (.mapData p) s = .next (s.invalidateRun off n)))
    ∧ (bits 7 0 h = 2 → s.mapJudge p pk = (s, 0) →
      exec (.mapSignal p) s = .next (((t.addCounter p (bits 57 48 h) 1).bump64 0 (0x6041 + p) 4 1).respond pk 0))
    ∧ ((s.mapJudge p pk).2 ≠ 0 →
      let v := ((s.mapJudge p pk).1.takeInbox p 6).respond pk (s.mapJudge p pk).2
      (bits 7 0 h ≠ 2 → exec (.mapData p) s = .next v) ∧ (bits 7 0 h = 2 → exec (.mapSignal p) s = .next v))
    ∧ (bits 7 0 h = 2 → exec (.mapData p) s = .next s) ∧ (bits 7 0 h ≠ 2 → exec (.mapSignal p) s = .next s))
  ∧ (∀ (s : State) (tag : Nat) (r : Req),
    s.fab.reqs.find? (fun x => decide (x.tag = tag) && x.retry && (x.kind = .mapData || x.kind = .mapSignal)) = some r →
    let t : State := { s with fab := { s.fab with
      reqs := s.fab.reqs.map (fun (x : Req) => if x.tag = tag then { x with retry := false } else x) } }
    exec (.mapRetry tag) s = .next ((t.bump64 0 (0x6041 + r.pkt.srcPier) 5 1).toRouter r.pkt))

/-- EXCH_UP, EXCH_TOKEN, VOTE_UP and VOTE_TOKEN take the oldest whole message of their kind: an up message of a module
that is neither the parent nor this module and has not contributed to that round is kept as a contribution, one that
has is discarded; a token that does not match the module is counted and discarded, and one that does goes on to the
children that contributed and is acted on. A malformed message is dropped; with none they change nothing.
EXCHANGE_CONTRIBUTION of a running attempt whose contribution is not yet sent, faulted or with its counter met,
reads the plan tables and forms the contribution. VOTE_SEND of an exchanged attempt whose vote is not yet sent and
whose conditions hold enters VOTED and forms the vote, with MIRRORLESS and its count where MDONE's acknowledgement
is waived. ROUND_TIMEOUT of a round that waits for its token counts and records the first time. In every other case
these three change nothing. A round whose own contribution and those of all children are there is combined: up to
the parent, or decided at the root; until then nothing is sent. -/
def Obligations.RoundMessagesTaken : Prop :=
  (∀ r ∈ roundRows, ∀ (s : State) (src n : Nat) (m : RoundMsg),
    (roundNext s r.1 = some (src, n, some m) → exec r.2.1 s = .next (r.2.2 (roundCut s src n) src m))
    ∧ (roundNext s r.1 = some (src, n, none) → exec r.2.1 s = .next (roundCut s src n))
    ∧ (roundNext s r.1 = none → exec r.2.1 s = .next s))
  ∧ (∀ (s : State) (src : Nat) (m : RoundMsg), ∀ vote ∈ [false, true],
    let c := s.commit
    let kept := if vote then c.voteIn else c.exchIn
    let again := kept.any (fun y => decide (y.sender = src) && decide (y.epoch = m.epoch) && decide (y.attempt = m.attempt))
    let x : Contrib := ⟨src, m.epoch, m.attempt, m.flags, m.count, m.maxs, m.sums⟩
    (again = true ∨ src = s.eff 0x7802 0 ∨ src = s.moduleId → s.roundUp vote src m = s)
    ∧ (again = false → src ≠ s.eff 0x7802 0 → src ≠ s.moduleId → s.roundUp vote src m
        = ({ s with commit := if vote then { c with voteIn := c.voteIn ++ [x] } else { c with exchIn := c.exchIn ++ [x] } } : State).tryCombine
            vote)
    ∧ (s.tokenMatches m = false → s.token m = s.bump64 0 0x7810 4 1)
    ∧ (s.tokenMatches m = true → s.token m
        = ((if m.kind = 2 then c.exchKids else c.voteKids).foldl (fun t k => t.sendRound k m) s).actToken m))
  ∧ (∀ (s : State), ∀ vote ∈ [false, true],
    let c := s.commit
    let own := if vote then c.voteOwn else c.exchOwn
    let done := if vote then c.voteDone else c.exchDone
    let ups := (if vote then c.voteIn else c.exchIn).filter (fun x => decide (x.epoch = s.eNext) && decide (x.attempt = c.attempt))
    let n := s.eff 0x7803 0
    (own = none ∨ done = true ∨ ups.length < n → s.tryCombine vote = s)
    ∧ (∀ o, own = some o → done = false → n ≤ ups.length →
      let all := (ups.take n).foldl Contrib.add o
      let kids := (ups.take n).map (·.sender)
      let t : State := { s with commit := if vote then { c with voteDone := true, voteKids := kids } else { c with exchDone := true, exchKids := kids } }
      let up := if vote then 3 else 1
      let good := all.count = s.eff 0x7801 0 ∧ bits 3 0 all.flags = 0
      (s.eff 0x7802 0 ≠ 0xFFFF → s.tryCombine vote = t.sendRound (s.eff 0x7802 0) (all.msg up 0 0))
      ∧ (s.eff 0x7802 0 = 0xFFFF → good → s.tryCombine vote = t.token (all.msg (up + 1) (if vote then 1 else 3) s.moduleId))
      ∧ (s.eff 0x7802 0 = 0xFFFF → ¬ good → s.tryCombine vote = t.token (all.msg (up + 1) 2 s.moduleId))))
  ∧ (∀ (s : State),
    let c := s.commit
    let met := s.attemptFaulted = true ∨ counterMet (s.counter 0 (bits 9 0 (s.eff 0x7805 1))) (s.eff 0x7805 2) = true
    let r : State := (s.readPlan.touchReadRun (Asker.abutment 0) 0 ffPattern
      (pkey (spFast 0) (s.eff 0x7808 1), 4 * s.eff 0x7808 2)).touchBias false
    let t : State := { r with commit := { r.commit with planFault := r.planBad, exchSent := true } }
    let less := s.mdoneWaived
    let v := if less then s.bump64 0 0x7810 8 1 else s
    let exch := c.pstate = .running ∧ c.exchOwn.isSome = true
    (c.pstate = .running → c.exchSent = false → met →
      exec .exchangeContribution s
        = .next (({ t with commit := { t.commit with exchOwn := some t.exchContrib } } : State).tryCombine false))
    ∧ (c.pstate ≠ .running ∨ c.exchSent = true ∨ ¬ met → exec .exchangeContribution s = .next s)
    ∧ (c.pstate = .exchanged → c.voteSent = false → s.voteReady = true →
      exec .voteSend s = .next (({ v with commit := { c with
        pstate := .voted, voteSent := true,
        voteOwn := some ⟨v.moduleId, v.eNext, c.attempt, v.ownFlags + b2n less * 16, 1, [], []⟩ } } : State).tryCombine true))
    ∧ (c.pstate ≠ .exchanged ∨ c.voteSent = true ∨ s.voteReady = false → exec .voteSend s = .next s)
    ∧ ((exch ∨ c.pstate = .voted) → c.timedOut = false →
      exec .roundTimeout s = .next ((({ s with commit := { c with timedOut := true } } : State).bump64 0 0x7810 3 1).commitEvent
        4 0 (if exch then 1 else 2) 0))
    ∧ (¬ (exch ∨ c.pstate = .voted) ∨ c.timedOut = true → exec .roundTimeout s = .next s))

/-- ABANDON runs in an attempt or in INVALID: the attempt ends, its marks, contributions and stream go, and PSTATE is
IDLE. ABANDON_UPDATE reads slot 0 and runs in EXCHANGED or VOTED with the step's token in it: the update ends, the
tags are scrubbed, the next attempt starts in EXCHANGED. INJECT reads slot 3 and acts on the token in it where it
matches, or takes its scales in IDLE. RESTORE with a buddy in EMPTY, IDLE or INVALID takes the commit objects and
asks for the mirror header, or fails at once under a slow-tier fault. ATTEMPT_RESET after exhaustion sets ATTEMPT to
zero. MSEAL reads the header and slot 3 and seals a done stream whose token matches. RESEED with a buddy, no stream
and no reseed pending opens a reseed and sends the tensors that no PASS2 names, and after the last of them both
copies of every plan range and the marker. MIRROR_RESEND sends unacknowledged markers again. Where the condition
fails the module is unchanged but for those reads. -/
def Obligations.AttemptCommands : Prop :=
  ∀ (s : State),
    let c := s.commit
    let t0 := s.readSlot 0
    let t3 := s.readSlot 3
    let e := s.abandon s.ownFlags 0
    ((c.inAttempt = true ∨ c.pstate = .invalid) → exec .abandon s = .next e ∧ e.commit.pstate = .idle ∧ e.once = []
      ∧ e.commit.faulted = false ∧ e.commit.exchSent = false ∧ e.commit.voteSent = false ∧ e.commit.exchOwn = none
      ∧ e.commit.voteOwn = none ∧ e.commit.streamOpen = false ∧ e.commit.mdoneWait = none)
    ∧ (c.inAttempt = false → c.pstate ≠ .invalid → exec .abandon s = .next s)
    ∧ (goesAgain t0 → (t0.commit.pstate = .exchanged ∨ t0.commit.pstate = .voted) →
      let t := t0.updAbandon.tagScrub.nextAttempt.endMarks
      exec .abandonUpdate s = .next { t with
        commit := { t.commit.endStream with pstate := .exchanged, exchSent := true, updReplay := true } } ∧ t.once = [])
    ∧ (¬ goesAgain t0 ∨ ¬ (t0.commit.pstate = .exchanged ∨ t0.commit.pstate = .voted) → exec .abandonUpdate s = .next t0)
    ∧ (t3.slotToken 3 = none → exec .inject s = .next t3)
    ∧ (∀ m, t3.slotToken 3 = some m →
      let good := t3.journalOk = true ∧ (m.kind = 2 ∨ m.kind = 4)
      let scales := m.kind = 2 ∧ (m.decision = 3 ∨ m.decision = 2) ∧ m.epoch = t3.eNext ∧ m.attempt < t3.commit.attempt
      (good → t3.commit.pstate = .idle → scales → exec .inject s = .next (t3.scalesFromToken m.maxs))
      ∧ (good → t3.commit.pstate ≠ .idle → t3.tokenMatches m = true → exec .inject s = .next (t3.actToken m))
      ∧ (¬ good → exec .inject s = .next t3)
      ∧ (t3.commit.pstate = .idle → ¬ scales → exec .inject s = .next t3)
      ∧ (t3.commit.pstate ≠ .idle → t3.tokenMatches m = false → exec .inject s = .next t3))
    ∧ ((c.pstate = .empty ∨ c.pstate = .idle ∨ c.pstate = .invalid) → s.odv 0 0x780B 0 ≠ 0xFFFF →
      let t : State := { s with commit := { c with
        live := s.commitObjects, restoring := 1, restoreWant := [], restoreImage := [], restoreBytes := 0 } }
      (t.slowFailed = false → exec .restore s = .next (t.pull 0 0 256))
      ∧ (t.slowFailed = true → exec .restore s = .next (({ t with commit := { t.commit with
          restoring := 0, restoreWant := [], restoreImage := [], restoreBytes := 0 } } : State).commitEvent 8 t.buddy 0 0)))
    ∧ (¬ (c.pstate = .empty ∨ c.pstate = .idle ∨ c.pstate = .invalid) ∨ s.odv 0 0x780B 0 = 0xFFFF → exec .restore s = .next s)
    ∧ (c.exhausted = true → exec .attemptReset s = .next { s with commit := { c with exhausted := false, attempt := 0 } })
    ∧ (c.exhausted = false → exec .attemptReset s = .next s)
    ∧ (let r := s.readHdr.readSlot 3
      let h := r.heldHdr
      let k := r.journal 3
      let ok := r.holds = true ∧ h.mstate = 2 ∧ h.done = 1 ∧ r.num (k + 9) 1 = 2 ∧ r.num k 8 = h.epoch ∧ r.num (k + 8) 1 % 8 = h.attempt
      (ok → exec .mseal s = .next ((r.storeRun (Asker.mirror 0) 0 (r.mirrorBase + 0x1000)
        (r.bytes k (min (64 + 2 * r.num (k + 16) 4 + 8 * r.num (k + 20) 4) (2 ^ 21)))).setHeldHdr { h with mstate := 3 }))
      ∧ (¬ ok → exec .mseal s = .next r))
    ∧ (s.hasBuddy = true → c.streamOpen = false → c.reseedWait = none → c.reseedLeft = none →
      let r := s.readPlan
      let t := r.sendMirror 0 r.buddy (r.ownMsg 1 0 (stateImage r.plan + r.odv 0 0x7000 2) true [])
      exec .reseed s = .next (({ t with commit := { t.commit with
          streamBytes := 0, reseed := true, reseedAcked := false,
          reseedLeft := some (List.range (t.odv 0 0x7005 0)) } } : State).reseedOn))
    ∧ (∀ ts, c.reseedLeft = some ts →
      let left := ts.filter s.inPass2
      let t := (ts.filter (fun k => !left.contains k)).foldl (fun (t : State) k => t.reseedTensor k) s
      let u := [0, 1].foldl (fun (t : State) k =>
        (t.sendRanges false k t.eNext t.commit.attempt true).sendRanges true k t.eNext t.commit.attempt true) t
      let v := u.sendMarker (u.ownMsg 3 0 0 true [])
      (left ≠ [] → s.reseedOn = { t with commit := { t.commit with reseedLeft := some left } })
      ∧ (left = [] → s.reseedOn = { v with commit := { v.commit with
          reseedLeft := none, reseedWait := some (v.commit.markBytes, v.eNext, v.commit.attempt) } }))
    ∧ (s.hasBuddy = false ∨ c.streamOpen = true ∨ c.reseedWait.isSome = true ∨ c.reseedLeft.isSome = true → exec .reseed s = .next s)
    ∧ (let a := match c.reseedWait with
        | some (n, e, k) => s.sendMirror 0 s.buddy ⟨3, k, true, s.moduleId, e, 0, n, []⟩
        | none => s
      let b := match c.mdoneWait with
        | some (n, e, k) => a.sendMirror 0 a.buddy ⟨3, k, false, a.moduleId, e, 0, n, []⟩
        | none => a
      exec .mirrorResend s = .next (if c.mcloseWait = true then
        b.sendMirror 0 b.buddy ⟨4, c.closeAttempt, false, b.moduleId, c.closeEpoch, 0, c.closeBytes, []⟩ else b))

/-- MOPEN, MDATA, MDONE, MCLOSE, MACK, MREAD and MRDATA take the oldest mirror message of Pier 0's half where it is of
their kind, or else of Pier 1's half while Pier 1 is out of reset, and do with it what the holder or the owner does;
MDONE and MCLOSE only once every byte of the mirror is visible. A malformed message that stands first is dropped. A
message of another kind is left, and with none of theirs waiting they change nothing. -/
def Obligations.MirrorMessagesTaken : Prop :=
  ∀ r ∈ mirrorRows, ∀ (s : State),
    (∀ p pk m, mirrorNext s r.1 = some (p, pk, some m) → (r.1 = 3 ∨ r.1 = 4 → s.mirrorVisible = true) →
      exec r.2.1 s = .next (r.2.2 (s.takeInbox p 5) pk m))
    ∧ (∀ p pk, mirrorNext s r.1 = some (p, pk, none) → (r.1 = 3 ∨ r.1 = 4 → s.mirrorVisible = true) →
      exec r.2.1 s = .next (s.takeInbox p 5))
    ∧ (mirrorNext s r.1 = none → exec r.2.1 s = .next s)
    ∧ ((r.1 = 3 ∨ r.1 = 4) → s.mirrorVisible = false → exec r.2.1 s = .next s)

/-- At an ACTIVE port: CODEWORD out of sequence is discarded, an uncorrectable one is counted and answered by a NAK, a
good one moves the expected number on, takes its five slots, and every 64th is acknowledged; ACK drops the codewords
before the one it names from the replay buffer, or all where it names the next to be sent; NAK of one in it sends it
and those after it again and counts one replay; an ACK or NAK of no such codeword changes nothing; CREDIT gives
slots of a VC back; STOMP voids the packet in progress on a VC, and with none changes nothing. At a port not ACTIVE
these change nothing. PACKET_FORWARD takes the oldest packet of the input buffer, returns its credits, adds a hop
and routes it. PACKET_EXPIRED discards the packet at the place that it names: the input buffer, a port in training,
an output, where a packet already begun is stomped, or the ejection; with none there it changes nothing.
PACKET_DELIVERY discards a corrupt packet, loses one for a Pier in reset, but for Pier 1's half of the mirror
traffic, and else hands the packet to the reduce contexts or to its Pier. With none it changes nothing. -/
def Obligations.LinkLayerCommands : Prop :=
  (∀ (s : State) (k n : Nat) (symbols : List Nat),
    let q := s.port k
    (q.st ≠ .active ∨ q.rxNext ≠ n → exec (.codeword k n symbols) s = .next s)
    ∧ (q.st = .active → q.rxNext = n → decodeCodeword symbols = none →
      exec (.codeword k n symbols) s
        = .next (((s.setPort k { q with discarding := true }).bump64 k 0x6011 5 1).sendControl k (ctlNum 2 n)))
    ∧ (∀ fixed header data, q.st = .active → q.rxNext = n → decodeCodeword symbols = some (fixed, header, data) →
      let ack := decide (64 ≤ q.sinceAck + 1)
      let t := s.setPort k { q with
        rxNext := wrap32 (n + 1), discarding := false, sinceAck := if ack then 0 else q.sinceAck + 1 }
      let t := (if fixed = 0 then t else t.bump64 k 0x6011 4 1).takeSlots k header data
      exec (.codeword k n symbols) s = .next (if ack then t.sendControl k (ctlNum 1 (n + 1)) else t)))
  ∧ (∀ (s : State) (k n vc : Nat),
    let q := s.port k
    (q.st = .active → n = q.txNext → exec (.ack k n) s = .next ((s.setPort k { q with replay := [] }).pumpAll k))
    ∧ (q.st = .active → n ≠ q.txNext → (q.replay.any fun c => c.num = n) = true →
      exec (.ack k n) s = .next ((s.setPort k { q with replay := q.replay.dropWhile (fun c => c.num ≠ n) }).pumpAll k))
    ∧ (q.st = .active → (q.replay.any fun c => c.num = n) = true →
      exec (.nak k n) s = .next ((q.replay.dropWhile (fun c => c.num ≠ n)).foldl (fun t c => t.emit (.codeword k c))
        ((s.setPort k { q with
          nakOf := n, nakCount := if q.nakCount ≠ 0 ∧ q.nakOf = n then q.nakCount + 1 else 1 }).bump64 k 0x6011 6 1)))
    ∧ (n ≠ q.txNext → (q.replay.any fun c => c.num = n) = false → exec (.ack k n) s = .next s)
    ∧ ((q.replay.any fun c => c.num = n) = false → exec (.nak k n) s = .next s)
    ∧ (q.partials.find? (fun x => x.1 = vc) = none → exec (.stomp k vc) s = .next s)
    ∧ (q.st = .active → exec (.credit k vc n) s
        = .next ((s.setPort k { q with spent := Tab.set 0 q.spent vc (Tab.get 0 q.spent vc - n) }).pumpAll k))
    ∧ (∀ x, q.st = .active → q.partials.find? (fun x => x.1 = vc) = some x →
      exec (.stomp k vc) s = .next (((s.setPort k { q with
        partials := q.partials.filter (fun y => y.1 ≠ vc) }).bump32 0 0x6020 6 1).sendControl k (ctlCredit vc (x.2.length / 64))))
    ∧ (q.st ≠ .active → exec (.ack k n) s = .next s ∧ exec (.nak k n) s = .next s ∧ exec (.credit k vc n) s = .next s
        ∧ exec (.stomp k vc) s = .next s))
  ∧ (∀ (s : State) (k vc : Nat) (pk : Packet) (l : List (Nat × Packet)), (s.port k).arrived = (vc, pk) :: l →
    let t := (s.setPort k { s.port k with arrived := l }).returnCredit k vc pk
    let moved := pk.change (setBits 47 42 (min (pk.hops + 1) 63) pk.hdr)
    exec (.packetForward k) s
      = .next ((if t.inTransit moved then t.bump64 0 0x6020 1 1 else t).routePacket moved (some k))
    ∧ exec (.packetExpired k .input) s = .next (t.dropPacket 2))
  ∧ (∀ (s : State) (k : Nat), (s.port k).arrived = [] →
    exec (.packetForward k) s = .next s ∧ exec (.packetExpired k .input) s = .next s)
  ∧ (∀ (s : State) (k : Nat) (pk : Packet) (l : List (Nat × Packet)), s.fab.eject = (k, pk) :: l →
    let t : State := { s with fab := { s.fab with eject := l } }
    (pk.good = false → exec .packetDelivery s = .next (t.dropPacket 5))
    ∧ (pk.good = true → (s.pier pk.destPier).inReset = false ∨ (pk.proto = 6 ∧ pk.destPier = 1) →
      exec .packetDelivery s = .next ({ t with fab :=
        if pk.proto = 3 ∧ pk.tc = 4 then { t.fab with inboxR := t.fab.inboxR ++ [pk] }
        else if pk.destPier = 0 then { t.fab with inbox0 := t.fab.inbox0 ++ [pk] }
        else { t.fab with inbox1 := t.fab.inbox1 ++ [pk] } }))
    ∧ (pk.good = true → (s.pier pk.destPier).inReset = true → ¬ (pk.proto = 6 ∧ pk.destPier = 1) →
      exec .packetDelivery s = .next (if k < 6 then t.bump32 k 0x6011 7 1 else t))
    ∧ exec (.packetExpired k .ejection) s = .next (t.dropPacket 2))
  ∧ (∀ (s : State) (k : Nat), s.fab.eject = [] → exec .packetDelivery s = .next s ∧ exec (.packetExpired k .ejection) s = .next s)
  ∧ (∀ (s : State) (k vc : Nat),
    let q := s.port k
    (∀ i, s.fab.held.findIdx? (fun x => x.1 = k) = some i → exec (.packetExpired k .training) s
      = .next (({ s with fab := { s.fab with held := s.fab.held.eraseIdx i } } : State).dropPacket 2))
    ∧ (s.fab.held.findIdx? (fun x => x.1 = k) = none → exec (.packetExpired k .training) s = .next s)
    ∧ (∀ x, q.txWait.find? (fun x => x.vc = vc) = some x →
      let t := (s.setPort k { q with txWait := dropSlots vc (x.left + 1) q.txWait }).dropPacket 2
      exec (.packetExpired k (.output vc)) s = .next (if x.first = true then t else t.sendControl k (ctlStomp vc)))
    ∧ (q.txWait.find? (fun x => x.vc = vc) = none → exec (.packetExpired k (.output vc)) s = .next s))

/-- SIGNAL_DETECTED trains a DOWN port that is not barred. TRAINING_STEP of a TRAINING port passes a step; at VERIFY a
far end of another identity base or in the wrong place bars the port, and the right one makes it ACTIVE.
DETECT_REPEAT of a DOWN port sets LAST_CAUSE 1. LINK_ERROR_LIMIT of an ACTIVE port over its limit sends it to
SELFTEST. TRAINING_TIMEOUT, SIGNAL_LOST, FAR_END_DETECT, SELFTEST_PASS and ENABLE move it from the one state to the
other. LOOPBACK_FAIL of a port in SELFTEST makes it FAILED and records the fabric fault. RETRAIN and DISABLE take
any port that is neither FAILED nor DISABLED to DOWN and DISABLED. PORT_ENABLE_WRITE of six bits writes the object
and enables or disables each port. In a state in which a row does not act the port and the module are unchanged. -/
def Obligations.PortStateCommands : Prop :=
  ∀ (s : State) (k : Nat) (peer : Train) (limit : LinkLimit) (v : Nat),
    let q := s.port k
    (∀ r ∈ portMoves k, (q.st = r.2.1 → exec r.1 s = .next (s.portEnter k r.2.2.1 (r.2.2.2 q) false)))
    ∧ (∀ r ∈ portActs k peer limit v, q.st ∉ r.2 → exec r.1 s = .next s)
    ∧ (q.st = .down → q.barred = false → exec (.signalDetected k) s = .next (s.portEnter k .training q.cause false))
    ∧ (q.st = .down → q.barred = true → exec (.signalDetected k) s = .next s)
    ∧ (q.st = .training → q.step < 3 → exec (.trainingStep k peer) s = .next (s.setPort k { q with step := q.step + 1 }))
    ∧ (q.st = .training → 3 ≤ q.step → peer.base ≠ s.odv 0 0xA012 0 →
      exec (.trainingStep k peer) s = .next (s.portEnter k .down 3 true))
    ∧ (q.st = .training → 3 ≤ q.step → peer.base = s.odv 0 0xA012 0 → s.peerOk k peer = false →
      exec (.trainingStep k peer) s = .next (s.portEnter k .down 4 true))
    ∧ (q.st = .training → 3 ≤ q.step → peer.base = s.odv 0 0xA012 0 → s.peerOk k peer = true →
      exec (.trainingStep k peer) s = .next (s.portActive k (s.peerId peer)))
    ∧ (q.st = .down → exec (.detectRepeat k) s = .next (s.setPort k { q with cause := 1 }))
    ∧ (q.st = .active → s.overLimit k limit = true → exec (.linkErrorLimit k limit) s = .next (s.portEnter k .selftest 5 false))
    ∧ (q.st = .active → s.overLimit k limit = false → exec (.linkErrorLimit k limit) s = .next s)
    ∧ (q.st = .selftest →
      let t := s.portEnter k .failed q.cause false
      let w := 1 + k % 8 * 2 + (v % 2 ^ 16) * 16 + 2 ^ 20
      (t.fabFailed = true → exec (.loopbackFail k v) s = .next t.markFaulted)
      ∧ (t.fabFailed = false →
        let u := t.setOd 0 0x6008 0 w
        exec (.loopbackFail k v) s = .next (((({ u with host := { u.host with
          eventLog := u.host.eventLog ++ [w + 2 ^ 32] } } : State).raise 15).alert 2 0 w).markFaulted)))
    ∧ (q.st ≠ .failed → q.st ≠ .disabled → exec (.retrain k) s = .next (s.portEnter k .down 7 false)
        ∧ exec (.disable k) s = .next (s.portEnter k .disabled 7 false))
    ∧ (v < 64 → exec (.portEnableWrite v) s
        = .next ((List.range 6).foldl (fun t j => t.portCommand j (if bit j v then 3 else 2)) (s.setOd 0 0x6004 0 v)))
    ∧ (64 ≤ v → exec (.portEnableWrite v) s = .next s)

/-- A BAR0 write that is taken reaches a Pier's control window, the component registers, a register of the doorbell page
or the MSI-X table, and a read gives what stands there, free values for component registers, and zeros elsewhere. A
BAR2 access reaches the fast tiers, a read with an uncorrectable error being poisoned. A write to a Pier that the
host cannot reach, to a ring area or to a hole of BAR2 is dropped and counted, a read of such a Pier is answered
poisoned, and of a hole by zeros. One that is not taken, or of another BAR or offset, changes nothing. HDM_READ of a
committed window asks for the line; HDM_WRITE writes the line of CHECKPOINT, and in MIRROR is only counted; outside
the windows they change nothing. BISNP_RESPONSE of a line that is snooped puts the dirty data, then the writes that
waited, and serves the reads that waited; of another line it changes nothing. SNOOP is answered in CXL mode, and
else changes nothing. -/
def Obligations.HostAccesses : Prop :=
  (∀ (s : State) (off : Nat) (data : List Byte), BarTaken s off data.length →
    (∀ p, p < 2 → p * 0x400000 ≤ off → off < (p + 1) * 0x400000 →
      (s.pierDown p = true → exec (.barWrite 0 off data) s = .next (s.bump32 0 0x8010 3 1))
      ∧ (s.pierDown p = false → exec (.barWrite 0 off data) s = .next (s.write (pkey (spCtl p) (off % 0x400000)) data)))
    ∧ (0x800000 ≤ off → off < 0x810000 → exec (.barWrite 0 off data) s = .next (s.componentWrite (off - 0x800000) data))
    ∧ (∀ r v, r < 8 → off = 0x900000 + 8 * r → data = toBytes 8 v → v < 2 ^ 64 → exec (.barWrite 0 off data) s = .next (s.pageWrite r v))
    ∧ (0x900000 ≤ off → off < 0x901000 → exec (.barWrite 0 off data) s = .next (s.pageBytes (off - 0x900000) data))
    ∧ (0xA00000 ≤ off → off < 0xA01000 → exec (.barWrite 0 off data) s = .next (s.msixWrite (off - 0xA00000) data))
    ∧ ((0x810000 ≤ off ∧ off < 0x900000) ∨ (0x901000 ≤ off ∧ off < 0xA00000) ∨ (0xA01000 ≤ off ∧ off < 2 ^ 24) →
      exec (.barWrite 0 off data) s = .next s)
    ∧ (∀ p o, off < 2 ^ 40 → bar2Of off = some (p, o) → s.pierDown p = false → s.inRingArea p o = false →
      exec (.barWrite 2 off data) s
        = .next ((s.guardOnce [(pkey (spFast p) o, data.length)]).storeRun (Asker.host p) 0 (pkey (spFast p) o) data))
    ∧ (∀ p o, off < 2 ^ 40 → bar2Of off = some (p, o) → (s.pierDown p = true ∨ s.inRingArea p o = true) →
      exec (.barWrite 2 off data) s = .next (s.bump32 0 0x8010 3 1))
    ∧ (off < 2 ^ 40 → bar2Of off = none → exec (.barWrite 2 off data) s = .next (s.bump32 0 0x8010 3 1)))
  ∧ (∀ (s : State) (off n : Nat), BarTaken s off n →
    let give (f : Nat → Byte) : State := s.emit (.hostData false ((List.range n).map f))
    (∀ p, p < 2 → p * 0x400000 ≤ off → off < (p + 1) * 0x400000 →
      (s.pierDown p = true →
        exec (.barRead 0 off n) s = .next ((s.bump32 0 0x8010 5 1).emit (.hostData true (List.replicate n 0xFF))))
      ∧ (s.pierDown p = false → exec (.barRead 0 off n) s = .next (give (fun i => s.ctlByte p (off % 0x400000 + i)))))
    ∧ (0x800000 ≤ off → off < 0x820000 → exec (.barRead 0 off n) s = .next ((s.takeBytes n).2.emit (.hostData false (s.takeBytes n).1)))
    ∧ (0x900000 ≤ off → off < 0x901000 → exec (.barRead 0 off n) s = .next (give (fun i =>
        BitVec.ofNat 8 (s.pageReg ((off - 0x900000 + i) / 8) / 256 ^ ((off - 0x900000 + i) % 8)))))
    ∧ (0xA00000 ≤ off → off < 0xA01000 → exec (.barRead 0 off n) s = .next (give (fun i =>
        if off - 0xA00000 + i < 512 then s.host.msixByte (off - 0xA00000 + i) else 0)))
    ∧ (0xA01000 ≤ off → off < 0xA02000 → exec (.barRead 0 off n) s = .next (give (fun i =>
        BitVec.ofNat 8 ((s.host.unsent &&& s.host.intCause) / 256 ^ (off - 0xA01000 + i)))))
    ∧ ((0x820000 ≤ off ∧ off < 0x900000) ∨ (0x901000 ≤ off ∧ off < 0xA00000) ∨ (0xA02000 ≤ off ∧ off < 2 ^ 24) →
      exec (.barRead 0 off n) s = .next (give (fun _ => 0)))
    ∧ (∀ p o, off < 2 ^ 40 → bar2Of off = some (p, o) → s.pierDown p = true →
      exec (.barRead 2 off n) s = .next ((s.bump32 0 0x8010 5 1).emit (.hostData true (List.replicate n 0xFF))))
    ∧ (∀ p o, off < 2 ^ 40 → bar2Of off = some (p, o) → s.pierDown p = false →
      let r := s.loadRun (Asker.host p) (pkey (spFast p) o) n
      exec (.barRead 2 off n) s = .next (if s.ueIn (pkey (spFast p) o) n = true then
        (r.1.bump32 0 0x8010 5 1).emit (.hostData true (List.replicate n 0xFF)) else r.1.emit (.hostData false r.2)))
    ∧ (off < 2 ^ 40 → bar2Of off = none → exec (.barRead 2 off n) s = .next (s.emit (.hostData false (List.replicate n 0)))))
  ∧ (∀ (s : State) (bar off : Nat) (data : List Byte), ¬ BarTaken s off data.length →
    exec (.barWrite bar off data) s = .next s ∧ exec (.barRead bar off data.length) s = .next s)
  ∧ (∀ (s : State) (bar off n : Nat) (data : List Byte), ¬ (bar = 0 ∧ off < 2 ^ 24) → ¬ (bar = 2 ∧ off < 2 ^ 40) →
    exec (.barWrite bar off data) s = .next s ∧ exec (.barRead bar off n) s = .next s)
  ∧ (∀ (s : State) (w off : Nat) (data : List Byte),
    (s.hdmReach w (off / 64 * 64) 64 = true → exec (.hdmRead w off) s = .next (s.lineRequest (((s.hdmWindow w).1 + off) / 64)))
    ∧ (s.hdmReach w (off / 64 * 64) 64 = false → exec (.hdmRead w off) s = .next s)
    ∧ (let k := pkey spSlow ((s.hdmWindow 0).1 + off)
      s.hdmReach 0 off data.length = true →
        exec (.hdmWrite 0 off data) s = .next ((s.touchWriteRun (Asker.host 0) 0 ffPattern (k, data.length)).setBytes k data))
    ∧ (s.hdmReach 1 off data.length = true → exec (.hdmWrite 1 off data) s = .next (s.bump32 0 0x8010 4 1))
    ∧ (s.hdmReach w off data.length = false → exec (.hdmWrite w off data) s = .next s))
  ∧ (∀ (s : State) (l : Nat) (dirty : Option (List Byte)),
    let waiting := s.host.snoopWait.filter (fun x => x.1 = l)
    (waiting = [] → exec (.bisnpResponse l dirty) s = .next s)
    ∧ (waiting ≠ [] →
      let t : State := { s with host := { s.host with
        snoopWait := s.host.snoopWait.filter (fun x => !decide (x.1 = l)),
        readWait := s.host.readWait.filter (fun x => !decide (x.1 = l)) } }
      let put (t : State) := t.putBytes (waiting.flatMap (fun (x : Nat × List (Nat × Byte)) => x.2))
      let done (t : State) :=
        ((s.host.readWait.filter (fun x => x.1 = l)).foldl (fun t x => t.lineRequest x.2) t.answersSweep).tryCxlReset
      (dirty = none → exec (.bisnpResponse l dirty) s = .next (done (put t)))
      ∧ (∀ d, dirty = some d → exec (.bisnpResponse l dirty) s
          = .next (done (put (t.hostLineWrite (pkey spSlow (l * 64)) ((padTo 64 d).take 64)))))))
  ∧ (∀ (s : State), (s.hostLinked = true → s.host.cxlMode = true → exec .snoop s = .next (s.emit .snoopAnswer))
    ∧ (s.hostLinked = false ∨ s.host.cxlMode = false → exec .snoop s = .next s))

/-- NOTIFY_COMPLETE of a notify line being written sends the messages whose conditions still hold. INT_HOLDOFF_EXPIRY
ends a vector's hold-off and looks at it again. INT_CAUSE_WRITE clears the bits written as one, INT_MASK_WRITE sets
the mask. With the link up: HOT_RESET takes it down without counting, HOST_LINK_DOWN counts too: the messages being
written wait again and count, writes that waited for a snoop are made, and the controller goes to its defaults with
rate and width 0; FLR resets the controller and ends the host's commands, CXL_RESET resets it once every tracked
line has been snooped, D3HOT and D0_ENTRY move between the device states. HOST_LINK_UP of a ready module without a
link takes the rate and width, in CXL mode from rate code 4 with 256-byte flits. CONFIGURATION_REQUEST is answered
in ACTIVE, answered with a retry while starting, and not in TOLL or STANDBY. Elsewhere nothing changes. -/
def Obligations.HostInterruptsAndLinks : Prop :=
  ∀ (s : State),
    let h := s.host
    (∀ vs, h.notifyWait = some vs →
      let t : State := { s with host := { h with notifyWait := none, unsent := vs.foldl (fun n v => setBit v true n) h.unsent } }
      let now := vs.filter t.host.mayNotify
      exec .notifyComplete s = .next ((({ t with host := { t.host with
        unsent := now.foldl (fun n v => setBit v false n) t.host.unsent } } : State).sendAll now).renotify))
    ∧ (h.notifyWait = none → exec .notifyComplete s = .next s)
    ∧ (∀ v, (v < 32 → exec (.intHoldoffExpiry v) s
          = .next (({ s with host := { h with holdoff := setBit v false h.holdoff } } : State).notifyAll [v]))
        ∧ (32 ≤ v → exec (.intHoldoffExpiry v) s = .next s)
        ∧ (s.hostLinked = true → h.d3hot = false → v < 2 ^ 32 →
          exec (.intCauseWrite v) s = .next { s with host := { h with
            intCause := (List.range 32).foldl (fun c k => if bit k v then setBit k false c else c) h.intCause } }
          ∧ exec (.intMaskWrite v) s = .next (({ s with host := { h with intMask := v } } : State).renotify))
        ∧ (s.hostLinked = false ∨ h.d3hot = true ∨ 2 ^ 32 ≤ v →
          exec (.intCauseWrite v) s = .next s ∧ exec (.intMaskWrite v) s = .next s))
    ∧ (h.linkUp = true →
      exec .hotReset s = .next (linkOff s) ∧ exec .hostLinkDown s = .next (linkOff (s.bump32 0 0x8010 10 1))
      ∧ exec .flr s = .next { s.endHostCommands with host := { h with
          readWait := [], intMask := 0, msixMasked := 2 ^ 32 - 1, msixTable := [], hdmCommitted := 0, launchMask := [],
          d3hot := false, holdoff := 0 } }
      ∧ exec .d3hot s = .next { s with host := { h with d3hot := true } }
      ∧ (h.cxlMode = true → exec .cxlReset s
          = .next ((h.filter.foldl (fun (t : State) l => t.freeLine l)
              ({ s with host := { h with cxlReset := true } } : State)).tryCxlReset))
      ∧ (h.cxlMode = false → exec .cxlReset s
          = .next (({ s with host := { h with cxlReset := true, filter := [] } } : State).tryCxlReset))
      ∧ (h.d3hot = true → exec .d0Entry s = .next (({ s with host := { h with d3hot := false } } : State).renotify))
      ∧ (h.d3hot = false → exec .d0Entry s = .next s))
    ∧ (h.linkUp = false → ∀ c ∈ [Instr.hotReset, .hostLinkDown, .flr, .d3hot, .cxlReset, .d0Entry], exec c s = .next s)
    ∧ (∀ rate width flit, s.hostReady = true → h.linkUp = false → rate ≤ 5 → width ∈ [1, 2, 4, 8, 16] →
      exec (.hostLinkUp rate width flit) s = .next (({ s with host := { h with
        linkUp := true, rate := rate, width := width, cxlMode := decide (4 ≤ rate) && flit } } : State).renotify))
    ∧ (∀ rate width flit, s.hostReady = false ∨ h.linkUp = true ∨ 5 < rate ∨ width ∉ [1, 2, 4, 8, 16] →
      exec (.hostLinkUp rate width flit) s = .next s)
    ∧ (s.power.state = .active → exec .configurationRequest s = .next (s.emit (.config false)))
    ∧ (s.power.state = .toll ∨ s.power.state = .standby → exec .configurationRequest s = .next s)
    ∧ (s.power.state ≠ .active → s.power.state ≠ .toll → s.power.state ≠ .standby →
      exec .configurationRequest s = .next (s.emit (.config true)))

/-- A mailbox command is taken when the link is up, the function is in D0 and the mailbox is free, and otherwise changes
nothing. Identify, Get FW Info, Transfer FW and Activate FW are served in RECOVERY also; every other command ends
there with return code 3. The dictionary commands hand one access to the dictionary, or end with code 2 where their
payload does not fit. Transfer FW starts, continues, ends or aborts a transfer into a slot that is not marked for
boot, a whole or last part that fails its checks leaving the slot empty, and ends with code 2 where the parts do not
follow each other; Activate FW marks a slot that holds an image. Event records exist in log 2 alone; clearing more
than there are, or a log above 3, ends with code 2. -/
def Obligations.MailboxCommands : Prop :=
  (∀ s : State, ServesBoth s .identify (s.mailboxGive 0x0001
      [toBytes 4 (s.odv 0 0x1000 0), toBytes 1 (s.odv 0 0x1001 0), toBytes 8 Config.serialNumber.toNat]))
  ∧ (∀ s : State, ServesBoth s .getFwInfo (s.mailboxGive 0x0200
      [toBytes 1 2, toBytes 1 (if s.sec.booted then s.sec.running + 1 else 0), toBytes 1 (s.sec.boot + 1),
        toBytes 8 (fieldAt 16 8 (s.sec.image 0)), toBytes 8 (fieldAt 16 8 (s.sec.image 1))]))
  ∧ (∀ (s : State) (action slot off : Nat) (data : List Byte), ServesBoth s (.transferFw action slot off data)
      ((s.transferFw action slot off data).2.mailboxDone (s.transferFw action slot off data).1 []))
  ∧ (∀ (s : State) (slot : Nat), ServesBoth s (.activateFw slot) ((s.activateFw slot).2.mailboxDone (s.activateFw slot).1 []))
  ∧ (∀ (s : State) (action slot off : Nat) (data : List Byte),
    let t := slot - 1
    let bad := (slot ≠ 1 ∧ slot ≠ 2) ∨ t = s.sec.boot ∨ 3968 < data.length
    let r := s.transferFw action slot off data
    let put (g : List Byte) : Nat × State :=
      if s.imageOk g = true then (0, { s with sec := { s.sec.setImage t g with xfer := none } })
      else (2, { s with sec := { s.sec.setImage t [] with xfer := none } })
    let first : State := { s with sec := { s.sec.setImage t [] with xfer := some (t, data) } }
    (4 < action → r = (2, s)) ∧ (action = 4 → r = (0, { s with sec := { s.sec with xfer := none } }))
    ∧ (action < 4 → bad → r = (2, s))
    ∧ (action < 2 → off ≠ 0 → r = (2, s))
    ∧ (action = 1 → ¬ bad → off = 0 → r = (0, first))
    ∧ (action = 0 → ¬ bad → off = 0 → r = if first.imageOk data = true then
        (0, { first with sec := { first.sec.setImage t data with xfer := none } })
      else (2, { first with sec := { first.sec.setImage t [] with xfer := none } }))
    ∧ (action = 2 ∨ action = 3 → ¬ bad → s.sec.xfer = none → r = (2, s))
    ∧ (∀ x, action = 2 ∨ action = 3 → ¬ bad → s.sec.xfer = some x →
      (x.1 ≠ t ∨ off ≠ x.2.length ∨ 67108864 < off + data.length → r = (2, s))
      ∧ (x.1 = t → off = x.2.length → off + data.length ≤ 67108864 →
        (action = 2 → r = (0, { s with sec := { s.sec with xfer := some (t, x.2 ++ data) } }))
        ∧ (action = 3 → r = put (x.2 ++ data)))))
  ∧ (∀ (s : State) (slot : Nat),
    let marks := (slot = 1 ∨ slot = 2) ∧ s.sec.image (slot - 1) ≠ []
    (marks → s.activateFw slot = (0, { s with sec := { s.sec with boot := slot - 1, activate := true } }))
    ∧ (¬ marks → s.activateFw slot = (2, s)))
  ∧ (∀ s : State,
    (s.sec.xfer = none → Serves s .backgroundOperationStatus (s.mailboxGive 0x0002 []))
    ∧ (∀ x, s.sec.xfer = some x → Serves s .backgroundOperationStatus
        (s.mailboxGive 0x0002 [toBytes 1 (x.1 + 1), toBytes 4 x.2.length])))
  ∧ (∀ (s : State) (log : Nat), Serves s (.getEventRecords log)
      (if log < 4 then s.mailboxGive 0x0100 (if log = 2 then s.host.eventLog.map (toBytes 8) else []) else s.mailboxDone 2 []))
  ∧ (∀ (s : State) (log n : Nat),
    (4 ≤ log → Serves s (.clearEventRecords log true n) (s.mailboxDone 2 []) ∧ Serves s (.clearEventRecords log false n) (s.mailboxDone 2 []))
    ∧ (log < 4 → log ≠ 2 → Serves s (.clearEventRecords log true n) (s.mailboxDone 0 [])
      ∧ Serves s (.clearEventRecords log false n) (s.mailboxDone (if n = 0 then 0 else 2) []))
    ∧ Serves s (.clearEventRecords 2 true n) (({ s with host := { s.host with eventLog := [] } }).mailboxDone 0 [])
    ∧ (n ≤ s.host.eventLog.length → Serves s (.clearEventRecords 2 false n)
        (({ s with host := { s.host with eventLog := s.host.eventLog.drop n } }).mailboxDone 0 []))
    ∧ (s.host.eventLog.length < n → Serves s (.clearEventRecords 2 false n) (s.mailboxDone 2 [])))
  ∧ (∀ s : State, Serves s .getEventInterruptPolicy (s.mailboxGive 0x0102 [s.host.eventPolicy.flatMap (toBytes 1)]))
  ∧ (∀ (s : State) (policy : List Nat), Serves s (.setEventInterruptPolicy policy)
      (({ s with host := { s.host with eventPolicy := policy } }).mailboxDone 0 []))
  ∧ (∀ s : State, Serves s .getTimestamp (s.now.2.mailboxGive 0x0300 [toBytes 8 s.now.1]))
  ∧ (∀ (s : State) (ns : BitVec 64), Serves s (.setTimestamp ns)
      (({ s with host := { s.host with timestamp := some ns.toNat } }).mailboxDone 0 []))
  ∧ (∀ s : State, Serves s .getSupportedLogs (s.mailboxGive 0x0400 []))
  ∧ (∀ (s : State) (off len : Nat), Serves s (.getLog true off len) (s.mailboxGive 0x0401 [toBytes 4 off, toBytes 4 len])
      ∧ Serves s (.getLog false off len) (s.mailboxDone 2 []))
  ∧ (∀ (s : State) (idx sub off len : Nat) (data : List Byte) (ref : BitVec 64),
    (len ≤ 4080 → Serves s (.odRead idx sub off len false) (s.access ⟨1, false, idx, sub, off, len, [], 0, .mailbox⟩))
    ∧ (4080 < len → Serves s (.odRead idx sub off len false) (s.mailboxDone 2 []))
    ∧ Serves s (.odRead idx sub off len true) (s.mailboxDone 2 [])
    ∧ (data.length ≤ 4080 → Serves s (.odWrite idx sub off data.length false data)
        (s.access ⟨1, true, idx, sub, off, data.length, data, 0, .mailbox⟩))
    ∧ (len ≠ data.length ∨ 4080 < data.length → Serves s (.odWrite idx sub off len false data) (s.mailboxDone 2 []))
    ∧ Serves s (.odWrite idx sub off len true data) (s.mailboxDone 2 [])
    ∧ (data.length ≤ 4072 → Serves s (.odWriteSigned idx sub off data.length false data ref)
        (s.access ⟨1, true, idx, sub, off, data.length, data, ref.toNat, .mailbox⟩))
    ∧ (len ≠ data.length ∨ 4072 < data.length → Serves s (.odWriteSigned idx sub off len false data ref) (s.mailboxDone 2 []))
    ∧ Serves s (.odWriteSigned idx sub off len true data ref) (s.mailboxDone 2 []))

/-- Each SPDM request that its transport can take counts, makes the management port BUSY where it came that way, and
joins the responder's queue with its arguments; one that cannot be taken changes nothing. When a response is ready
the request at the front is answered and leaves, but GET_PQ_SIGNATURE after a signed response is first answered by
ResponseNotReady, and a response longer than its transport carries is kept and answered by LargeResponse. DOE
Discovery answers the protocol of its index and raises vector 0. -/
def Obligations.SpdmCommands : Prop :=
  (∀ (s : State) (tr : Nat),
    Requests s tr (.getVersion tr) 0 [] [] ∧ Requests s tr (.getCapabilities tr) 1 [] []
    ∧ Requests s tr (.negotiateAlgorithms tr) 2 [] [] ∧ Requests s tr (.getDigests tr) 3 [] []
    ∧ Requests s tr (.spdmHeartbeat tr) 9 [] [] ∧ Requests s tr (.endSession tr) 11 [] []
    ∧ Requests s tr (.getPqSignature tr) 14 [] [])
  ∧ (∀ (s : State) (tr slot off len seq : Nat) (last : Bool) (data : List Byte),
    Requests s tr (.getCertificate tr slot off len) 4 [slot, off, len] []
    ∧ Requests s tr (.challenge tr slot data) 5 [slot] data
    ∧ Requests s tr (.getMeasurements tr slot last data) 6 [slot, if last then 1 else 0] data
    ∧ Requests s tr (.keyExchange tr data) 7 [] data ∧ Requests s tr (.finish tr data) 8 [] data
    ∧ Requests s tr (.keyUpdate tr data) 10 [] data
    ∧ Requests s tr (.chunkSend tr last data) 12 [if last then 1 else 0] data
    ∧ Requests s tr (.chunkGet tr seq) 13 [seq] [])
  ∧ (∀ (s : State) (r : SpdmReq),
    let t := s.spdmReceive r
    t = (s.bump32 0 0xA040 4 1).modSpdm (fun k => if r.tr = 0 then { k with queue := k.queue ++ [r], status := 1, rx := [] }
        else { k with queue := k.queue ++ [r] })
    ∧ t.sec.spdm.queue = s.sec.spdm.queue ++ [r]
    ∧ (r.tr = 0 → t.sec.spdm.status = 1 ∧ t.sec.spdm.rx = [])
    ∧ (r.tr ≠ 0 → t.sec.spdm.status = s.sec.spdm.status ∧ t.sec.spdm.rx = s.sec.spdm.rx))
  ∧ (∀ (s : State),
    (s.sec.spdm.queue = [] → exec .spdmResponseReady s = .next s)
    ∧ (∀ r rest, s.sec.spdm.queue = r :: rest → r.op = 14 → s.sec.spdm.deferred = false → s.sec.spdm.signed.isSome = true →
      exec .spdmResponseReady s = .next ((s.modSpdm (fun k => { k with deferred := true })).spdmDeliver r.tr (spdmError 0x42)))
    ∧ (∀ r rest, s.sec.spdm.queue = r :: rest → (r.op ≠ 14 ∨ s.sec.spdm.deferred = true ∨ s.sec.spdm.signed = none) →
      let u := (s.modSpdm (fun k => { k with queue := rest, deferred := false })).spdmAnswer r
      (u.1.length ≤ spdmTransfer r.tr ∨ r.op = 13 → exec .spdmResponseReady s = .next (u.2.spdmDeliver r.tr u.1))
      ∧ (spdmTransfer r.tr < u.1.length → r.op ≠ 13 → exec .spdmResponseReady s
          = .next ((u.2.modSpdm (fun k => { k with large := u.1 })).spdmDeliver r.tr (spdmError 0x0F)))))
  ∧ (∀ (s : State) (index : Nat),
    (s.power.state = .active → s.host.linkUp = true → exec (.doeDiscovery index) s
      = .next ((s.emit (.doe (toBytes 1 (min index 3) ++ toBytes 1 (if index < 2 then index + 1 else 0)))).raise 0))
    ∧ (s.power.state ≠ .active ∨ s.host.linkUp = false → exec (.doeDiscovery index) s = .next s))

/-- The rise of the input records the straps and starts the Tollhouse unless a sense loop is open, and in wake mode is
also a wake event; a lockout, or an opened loop, clears everything as a cold reset does and the Tollhouse with it;
closing the loop starts the Tollhouse where 48 V is present; a second rise, and a loop that is not open, change
nothing. An overvoltage above 62.0 V is recorded and alerted once and, outside TOLL, is a cold reset with cause 1.
Entry to 36 to 40 V is recorded with the effective cap. A wake leaves TOLL, or STANDBY with the effects of a module
reset, and not while an overvoltage holds. -/
def Obligations.InputEvents : Prop :=
  (∀ (s : State) (node : Nat) (wm : Bool), s.power.inputPresent = false →
    let t := withPower s (fun w => { w with supply := true, nodeStrap := node % 128, wakeMode := wm })
    (s.power.senseOpen = false → exec (.inputRise node wm) s = .next (if wm = true then (tollOn t).wake else tollOn t))
    ∧ (s.power.senseOpen = true → exec (.inputRise node wm) s = .next t))
  ∧ (∀ (s : State) (node : Nat) (wm : Bool), s.power.inputPresent = true → exec (.inputRise node wm) s = .next s)
  ∧ (∀ s : State, s.power.inputPresent = true →
    exec .undervoltageLockout s = .next (withPower (inputOff s) (fun w => { w with supply := false }))
    ∧ exec .senseOpen s = .next (withPower (inputOff s) (fun w => { w with senseOpen := true })))
  ∧ (∀ s : State, s.power.inputPresent = false →
    exec .undervoltageLockout s = .next (withPower s (fun w => { w with supply := false }))
    ∧ exec .senseOpen s = .next (withPower s (fun w => { w with senseOpen := true })))
  ∧ (∀ s : State,
    let t := withPower s (fun w => { w with senseOpen := false })
    (s.power.senseOpen = false → exec .senseClose s = .next s)
    ∧ (s.power.senseOpen = true → s.power.supply = false → exec .senseClose s = .next t)
    ∧ (s.power.senseOpen = true → s.power.supply = true → exec .senseClose s
        = .next (if s.power.wakeMode = true then (tollOn t).wake else tollOn t)))
  ∧ (∀ (s : State) (mv : Nat), s.power.inputPresent = true → 62000 < mv →
    let t := withPower s (fun w => { w with millivolts := mv, overvoltage := true })
    (s.power.overvoltage = true → exec (.overvoltage mv) s = .next t)
    ∧ (s.power.overvoltage = false → s.power.state = .toll → exec (.overvoltage mv) s = .next ((t.powerLog 8 0 mv 0).alert 5 0 mv))
    ∧ (s.power.overvoltage = false → s.power.state ≠ .toll →
        exec (.overvoltage mv) s = .next (((t.powerLog 8 0 mv 0).alert 5 0 mv).coldReset 1)))
  ∧ (∀ (s : State) (mv : Nat), (s.power.inputPresent = false ∨ mv ≤ 62000) → exec (.overvoltage mv) s = .next s)
  ∧ (∀ (s : State) (mv : Nat),
    let t := withPower s (fun w => { w with millivolts := mv, inputLow := true })
    (s.power.inputPresent = true → 36000 ≤ mv → mv < 40000 → s.power.inputLow = false →
      exec (.inputLow mv) s = .next (((t.powerLog 5 0 mv (t.effectiveCap mv)).raisePower).alert 6 0 mv))
    ∧ (s.power.inputPresent = false ∨ mv < 36000 ∨ 40000 ≤ mv ∨ s.power.inputLow = true → exec (.inputLow mv) s = .next s))
  ∧ (∀ s : State, s.power.inputPresent = true → (s.power.overvoltage = false ∨ s.power.millivolts < 60000) →
    (s.power.state = .toll → exec .wake s = .next (withPower s (fun w => { w with
        overvoltage := false, state := .waking, fromStandby := false, refStable := false, trained := false, railPending := none })))
    ∧ (s.power.state = .standby →
        let t := (((withPower s (fun w => { w with overvoltage := false })).setOd 0 0x2002 0 7).powerLog 9 1 7 0).moduleClear
        exec .wake s = .next (withPower t (fun w => { w with
          state := .waking, fromStandby := true, refStable := false, railPending := none })))
    ∧ (s.power.state ≠ .toll → s.power.state ≠ .standby → exec .wake s = .next (withPower s (fun w => { w with overvoltage := false }))))
  ∧ (∀ s : State, (s.power.inputPresent = false ∨ (s.power.overvoltage = true ∧ 60000 ≤ s.power.millivolts)) →
    exec .wake s = .next s)

/-- While the module wakes, the stable reference starts order 1; each power good of the pending order adds that rail and
starts the next (order 8 after order 1 on the way from STANDBY), and after order 12 Keystone is released with fresh
nonces. A fault of a rail that is up or pending is recorded, alerted and a cold reset with cause 3; a power good out
of order does nothing. Channel training, with every rail up and not on the way from STANDBY, records a persistent
error for each channel that failed. FIRMWARE_VERIFY of a Keystone that is released boots the marked slot where its
image is good, else the other with one failure counted, and with neither good enters RECOVERY with two; the module
then is ACTIVE. Elsewhere these change nothing. -/
def Obligations.PowerUpEvents : Prop :=
  (∀ s : State,
    (s.power.state = .waking → s.power.refStable = false → s.sec.recovery = false →
      exec .referenceStable s = .next (withPower s (fun w => { w with refStable := true, railPending := some 1 })))
    ∧ (s.power.state ≠ .waking ∨ s.power.refStable = true ∨ s.sec.recovery = true → exec .referenceStable s = .next s))
  ∧ (∀ (s : State) (order : Nat),
    let next := if s.power.fromStandby = true ∧ order = 1 then 8 else order + 1
    (s.power.railPending = some order → next ≤ 12 → exec (.railPowerGood order) s
      = .next (withPower s (fun w => { w with railsUp := w.railsUp ++ [order], railPending := some next })))
    ∧ (s.power.railPending = some order → 12 < next → exec (.railPowerGood order) s
      = .next (withPower s (fun w => { w with railsUp := w.railsUp ++ [order], railPending := none })).keystoneRelease)
    ∧ (s.power.railPending ≠ some order → exec (.railPowerGood order) s = .next s))
  ∧ (∀ (s : State) (order : Nat),
    (1 ≤ order → (s.power.railPending = some order ∨ order ∈ s.power.railsUp) →
      exec (.railFault order) s = .next (((s.powerLog 7 order 0 0).alert 4 order 0).coldReset 3))
    ∧ (order = 0 ∨ (s.power.railPending ≠ some order ∧ order ∉ s.power.railsUp) → exec (.railFault order) s = .next s))
  ∧ (∀ (s : State) (fails : List (Nat × Nat × Nat)),
    (s.power.state = .waking → s.power.fromStandby = false → s.power.trained = false → 12 ∈ s.power.railsUp →
      exec (.channelTraining fails) s = .next (fails.foldl (fun t f =>
        (if 2 ≤ f.1 then ({ t with slowFailed := true } : State) else t).persistentMem (f.1 % 2) (f.2.1 % 10) (f.2.2 % 64) 3)
        (withPower s (fun w => { w with trained := true }))))
    ∧ (s.power.state ≠ .waking ∨ s.power.fromStandby = true ∨ s.power.trained = true ∨ 12 ∉ s.power.railsUp →
      exec (.channelTraining fails) s = .next s))
  ∧ (∀ s : State,
    let ready := s.power.released = true ∧ (s.power.state = .waking → s.power.fromStandby = false → s.power.trained = true)
    let done (t : State) : State := { t.becomeActive with sec := { t.becomeActive.sec with recovery := false } }
    (¬ ready → exec .firmwareVerify s = .next s)
    ∧ (ready →
        let t := s.bump32 0 0xA040 3 1
        let u := t.bump32 0 0xA040 3 1
        exec .firmwareVerify s = .next (
          if s.imageOk (s.sec.image s.sec.boot) = true then done (s.boot s.sec.boot false)
          else if t.imageOk (t.sec.image (1 - s.sec.boot)) = true then done (t.boot (1 - s.sec.boot) true)
          else { u with
            sec := { u.sec with recovery := true, booted := false, fallback := false, activate := false },
            power := { u.power with state := .waking, released := false } }))
    ∧ (let t := if s.power.state = .waking ∧ s.power.fromStandby = false ∧ s.sec.recovery = false then s.powerUpDefaults.portsReset false else s
      let u := ((if t.commit.pstate = .flipped then t.redoApply else t).startClusters 0).startClusters 1
      s.becomeActive = withPower u (fun w => { w with state := .active, released := false, fromStandby := false })
      ∧ s.keystoneRelease = withPower ((s.renewNonce 0).renewNonce 1) (fun w => { w with released := true })))

/-- STANDBY enters from ACTIVE while PSTATE is IDLE, EMPTY or INVALID, is recorded, has the effects of a module reset
and turns off rail 1 and rails 8 to 12; TOLL is a cold reset with cause 4 from ACTIVE or STANDBY unless a commit is
in FLIPPED. An idle engine that runs is gated; a cluster parks when its engines are gated and idle and DEPTH_MAX
allows it, goes likewise from PARKED to RETAIN, and from RETAIN to OFF when its queues are quiet, losing its
registers; a restore ends with a restored, gated cluster when its clock runs. In every other case the state is
unchanged. -/
def Obligations.PowerStateCommands : Prop :=
  (∀ s : State,
    let calm := s.commit.pstate = .idle ∨ s.commit.pstate = .empty ∨ s.commit.pstate = .invalid
    let t := (s.powerLog 9 1 0 0).moduleClear
    (s.power.state = .active → calm → exec .standby s = .next (withPower t (fun w => { w with
        state := .standby, released := false, railsUp := w.railsUp.filter (fun r => !(decide (r = 1) || decide (8 ≤ r))) })))
    ∧ (s.power.state ≠ .active ∨ ¬ calm → exec .standby s = .next s))
  ∧ (∀ s : State,
    ((s.power.state = .active ∨ s.power.state = .standby) → s.commit.pstate ≠ .flipped → exec .toll s = .next (s.coldReset 4))
    ∧ (¬ (s.power.state = .active ∨ s.power.state = .standby) ∨ s.commit.pstate = .flipped → exec .toll s = .next s))
  ∧ (∀ (s : State) (p i : Nat) (deck : Bool),
    (s.engine p i deck = .run → s.engineIdle p i deck = true → exec (.gateEntry p i deck) s = .next (s.setEngine p i deck .gated))
    ∧ (s.engine p i deck ≠ .run ∨ s.engineIdle p i deck = false → exec (.gateEntry p i deck) s = .next s))
  ∧ (∀ (s : State) (c : Nat),
    (s.depthOk c 1 = true → (s.cluster c = .gated ∨ s.cluster c = .run) → s.clusterGated c = true →
      exec (.parkEntry c) s = .next (s.setCluster c .parked))
    ∧ (s.depthOk c 1 = false ∨ ¬ (s.cluster c = .gated ∨ s.cluster c = .run) ∨ s.clusterGated c = false →
      exec (.parkEntry c) s = .next s)
    ∧ (s.depthOk c 2 = true → s.cluster c = .parked → s.clusterGated c = true →
      exec (.retainEntry c) s = .next (s.setCluster c .retain))
    ∧ (s.depthOk c 2 = false ∨ s.cluster c ≠ .parked ∨ s.clusterGated c = false → exec (.retainEntry c) s = .next s)
    ∧ (s.depthOk c 3 = true → s.cluster c = .retain → s.clusterQuiet c = true →
      exec (.offEntry c) s = .next ((s.clusterRestored c).setCluster c .off))
    ∧ (s.depthOk c 3 = false ∨ s.cluster c ≠ .retain ∨ s.clusterQuiet c = false → exec (.offEntry c) s = .next s)
    ∧ (c < 8 → s.cluster c = .restoring → s.clockRuns (c / 4) (c % 4 * 8) = true →
      exec (.clusterRestoreComplete c) s = .next ((s.clusterRestored c).setCluster c .gated))
    ∧ (8 ≤ c ∨ s.cluster c ≠ .restoring ∨ s.clockRuns (c / 4) (c % 4 * 8) = false →
      exec (.clusterRestoreComplete c) s = .next s))

/-- A period of the power loop delivers the measures and the peak; in ACTIVE its level rises by 2 above 3,400 W, by 1
above the effective cap, falls by 1 below the cap less the hysteresis, and stays from 0 to 6, each move counted and
recorded, the first above 0 raising vector 16; a rise past 6 is counted, recorded and raised as saturation. The
thermal loop delivers readings and, in ACTIVE, moves the level of each cluster in order: up 2 at 5 °C above the
limit, up 1 at the limit, down 1 at 3 °C below it, from 0 to 7, each move counted and recorded. A stack's divisor is
4 at 5 °C above the limit, 2 at the limit, 1 at 3 °C below it, and else unchanged, each change counted and recorded;
Ilben runs at half rate from its limit until 3 °C below it, each change counted. A sensor at its trip temperature is
recorded, alerted and a cold reset with cause 2. A stack above 85 °C refreshes twice as often. Readings of what does
not exist, and readings for the throttles outside ACTIVE, change nothing. -/
def Obligations.LoopCommands : Prop :=
  (∀ (s : State) (p100 p1 pk mv ma : Nat), s.power.inputPresent = true →
    let a := withPower s (fun w => { w with millivolts := mv, milliamps := ma, watts := p1, inputLow := w.inputLow && decide (mv < 40000) })
    let b := a.setOd 0 0x2004 4 (max (a.odv 0 0x2004 4) (min pk 65535))
    let old := s.power.pLevel
    let low := (p1 : Int) < (b.effectiveCap mv : Int) - b.odv 0 0x2011 0
    let movedTo (new : Nat) : State := levelMove b 1 1 0 old new (decide (old = 0)) (fun w => { w with pLevel := new })
    let c (want : Nat) : State := ((b.bump32 0 0x2017 3 1).powerLog 3 0 want 6).raisePower
    let cappedTo (want : Nat) : State := levelMove (c want) 1 1 0 old 6 (decide (old = 0)) (fun w => { w with pLevel := 6 })
    (s.power.state ≠ .active → exec (.powerLoop p100 p1 pk mv ma) s = .next b)
    ∧ (s.power.state = .active → pk ≤ 3400 → p100 ≤ b.effectiveCap mv → (¬ low ∨ old = 0) → old ≤ 6 →
        exec (.powerLoop p100 p1 pk mv ma) s = .next b)
    ∧ (s.power.state = .active → 3400 < pk → old ≤ 4 → exec (.powerLoop p100 p1 pk mv ma) s = .next (movedTo (old + 2)))
    ∧ (s.power.state = .active → 3400 < pk → old = 5 → exec (.powerLoop p100 p1 pk mv ma) s = .next (cappedTo 7))
    ∧ (s.power.state = .active → 3400 < pk → old = 6 → exec (.powerLoop p100 p1 pk mv ma) s = .next (c 8))
    ∧ (s.power.state = .active → pk ≤ 3400 → b.effectiveCap mv < p100 → old ≤ 5 →
        exec (.powerLoop p100 p1 pk mv ma) s = .next (movedTo (old + 1)))
    ∧ (s.power.state = .active → pk ≤ 3400 → b.effectiveCap mv < p100 → old = 6 →
        exec (.powerLoop p100 p1 pk mv ma) s = .next (c 7))
    ∧ (s.power.state = .active → pk ≤ 3400 → p100 ≤ b.effectiveCap mv → low → 0 < old → old ≤ 6 →
        exec (.powerLoop p100 p1 pk mv ma) s = .next (movedTo (old - 1))))
  ∧ (∀ (s : State) (p100 p1 pk mv ma : Nat), s.power.inputPresent = false → exec (.powerLoop p100 p1 pk mv ma) s = .next s)
  ∧ (∀ (s : State) (ts : List (Nat × Int)),
    (s.power.state = .active →
      exec (.thermalLoop ts) s = .next ((List.range 8).foldl (fun t c => t.thermalOne c) (s.readTemps ts)))
    ∧ (s.power.state ≠ .active → exec (.thermalLoop ts) s = .next (s.readTemps ts)))
  ∧ (∀ (s : State) (c : Nat),
    let t := max (max (max (s.temp (4 * c)) (s.temp (4 * c + 1))) (s.temp (4 * c + 2))) (s.temp (4 * c + 3))
    let lim := s.limit16 0x2012
    let old := Tab.get 0 s.power.tLevel c
    let movedTo (new : Nat) : State :=
      levelMove s 2 2 c old new (decide (old = 0)) (fun w => { w with tLevel := Tab.set 0 w.tLevel c new })
    (lim + 80 ≤ t → old ≤ 5 → s.thermalOne c = movedTo (old + 2)) ∧ (lim + 80 ≤ t → old = 6 → s.thermalOne c = movedTo 7)
    ∧ (lim ≤ t → t < lim + 80 → old ≤ 6 → s.thermalOne c = movedTo (old + 1)) ∧ (lim ≤ t → old = 7 → s.thermalOne c = s)
    ∧ (t ≤ lim - 48 → 0 < old → old ≤ 7 → s.thermalOne c = movedTo (old - 1)) ∧ (t ≤ lim - 48 → old = 0 → s.thermalOne c = s)
    ∧ (lim - 48 < t → t < lim → old ≤ 7 → s.thermalOne c = s))
  ∧ (∀ (s : State) (p stack : Nat) (t : Int),
    let k := p * 10 + stack
    let r := s.readTemps [(36 + k, t)]
    let lim := r.limit16 0x2013
    let old := r.power.divisor k
    let movedTo (d : Nat) : State :=
      if d = old then r else levelMove r 2 4 (36 + k) old d (decide (old = 1)) (fun w => { w with stackDiv := Tab.set 1 w.stackDiv k d })
    (p < 2 → stack < 10 → s.power.state = .active →
      (lim + 80 ≤ t → exec (.stackThrottle p stack t) s = .next (movedTo 4))
      ∧ (lim ≤ t → t < lim + 80 → exec (.stackThrottle p stack t) s = .next (movedTo 2))
      ∧ (t ≤ lim - 48 → exec (.stackThrottle p stack t) s = .next (movedTo 1))
      ∧ (lim - 48 < t → t < lim → exec (.stackThrottle p stack t) s = .next r))
    ∧ (2 ≤ p ∨ 10 ≤ stack ∨ s.power.state ≠ .active → exec (.stackThrottle p stack t) s = .next s))
  ∧ (∀ (s : State) (sensor : Nat) (t : Int),
    let r := s.readTemps [(sensor, t)]
    let hot := max (r.temp 56) (r.temp 57)
    let lim := r.limit16 0x2014
    let movedTo (half : Bool) : State :=
      if half = r.power.ilbenHalf then r else withPower (r.bump32 0 0x2017 2 1) (fun w => { w with ilbenHalf := half })
    ((sensor = 56 ∨ sensor = 57) → s.power.state = .active →
      (lim ≤ hot → exec (.ilbenThrottle sensor t) s = .next (movedTo true))
      ∧ (hot ≤ lim - 48 → exec (.ilbenThrottle sensor t) s = .next (movedTo false))
      ∧ (lim - 48 < hot → hot < lim → exec (.ilbenThrottle sensor t) s = .next r))
    ∧ (¬ (sensor = 56 ∨ sensor = 57) ∨ s.power.state ≠ .active → exec (.ilbenThrottle sensor t) s = .next s))
  ∧ (∀ (s : State) (sensor : Nat) (t : Int),
    (∀ lim, tripTemp sensor = some lim → 16 * lim ≤ t → s.power.state ≠ .toll → s.power.inputPresent = true →
      exec (.thermalTrip sensor t) s = .next ((((s.readTemps [(sensor, t)]).powerLog 6 sensor (ofSigned 64 t) 0).alert 3 sensor (ofSigned 64 t)).coldReset 2))
    ∧ (∀ lim, tripTemp sensor = some lim → (t < 16 * lim ∨ s.power.state = .toll ∨ s.power.inputPresent = false) →
      exec (.thermalTrip sensor t) s = .next s)
    ∧ (tripTemp sensor = none → exec (.thermalTrip sensor t) s = .next s))
  ∧ (∀ (s : State) (p stack : Nat) (t : Int),
    let k := p * 10 + stack
    let r := s.readTemps [(36 + k, t)]
    let rest := r.power.fastRefresh.filter (fun x => !decide (x = k))
    (p < 2 → stack < 10 →
      (1360 < t → exec (.refreshIntervalChange p stack t) s = .next (withPower r (fun w => { w with fastRefresh := rest ++ [k] })))
      ∧ (t ≤ 1360 → exec (.refreshIntervalChange p stack t) s = .next (withPower r (fun w => { w with fastRefresh := rest }))))
    ∧ (2 ≤ p ∨ 10 ≤ stack → exec (.refreshIntervalChange p stack t) s = .next s))

/-- PERST# and RESET_CONTROL module assert a module reset (causes 5 and 6) of a module that can be reset: it is recorded
with its cause, alerted, clears the module and holds it; during a module reset a further one is merged. The release,
or the deassertion of PERST# after its own reset, releases Keystone; a deassertion outside a module reset is a wake
event. A Pier reset of an ACTIVE module is recorded, clears the Pier and holds it; its release loads the mirror of
the other Pier's flags, lets Pier 1's half of the mirror stream go on, and goes on with a commit in FLIPPED. An
engine reset is recorded, clears the engine, takes its queues to IDLE, discards its requests at the arbiters and
marks the attempt faulted. Otherwise nothing changes but PERST# itself. -/
def Obligations.ResetCommands : Prop :=
  (∀ s : State,
    let t := withPower s (fun w => { w with perstAsserted := true })
    (s.resettable = true → exec .perstAssert s = .next (resetBy t 5))
    ∧ (s.resettable = false → exec .perstAssert s = .next t))
  ∧ (∀ s : State,
    let t := withPower s (fun w => { w with perstAsserted := false })
    (s.power.state = .moduleReset → s.power.resetCause = 5 → s.power.released = false → exec .perstDeassert s = .next t.keystoneRelease)
    ∧ (s.power.state = .moduleReset → s.power.resetCause ≠ 5 ∨ s.power.released = true → exec .perstDeassert s = .next t)
    ∧ (s.power.state ≠ .moduleReset → exec .perstDeassert s = .next t.wake))
  ∧ (∀ s : State,
    (s.resettable = true → exec .moduleReset s = .next (resetBy s 6))
    ∧ (s.resettable = false → exec .moduleReset s = .next s))
  ∧ (∀ s : State,
    let held := s.power.resetCause = 5 ∧ s.power.perstAsserted = true
    (s.power.state = .moduleReset → s.power.released = false → ¬ held → exec .moduleResetRelease s = .next s.keystoneRelease)
    ∧ (s.power.state ≠ .moduleReset ∨ s.power.released = true ∨ held → exec .moduleResetRelease s = .next s))
  ∧ (∀ s : State,
    let t (p : Nat) := ((s.powerLog 9 (2 + p) 0 0).pierClear p).updReset
    (s.power.state = .active → (s.pier 0).inReset = false →
      exec (.pierReset 0) s = .next ((t 0).commitReset.modPier 0 (fun r => { r with inReset := true })))
    ∧ (s.power.state = .active → (s.pier 1).inReset = false →
      exec (.pierReset 1) s = .next ((t 1).markFaulted.modPier 1 (fun r => { r with inReset := true })))
    ∧ (∀ p, s.power.state ≠ .active ∨ 2 ≤ p ∨ (s.pier p).inReset = true → exec (.pierReset p) s = .next s))
  ∧ (∀ (s : State) (p : Nat),
    let u := (s.modPier p (fun r => { r with inReset := false, mirror := (s.pier (other p)).flags, mirrorQ := [] })).startClusters p
    let t := if p = 1 then u.resumeMirror else u
    (p < 2 → (s.pier p).inReset = true → t.commit.pstate ≠ .flipped → exec (.pierResetRelease p) s = .next t)
    ∧ (p = 0 → (s.pier p).inReset = true → t.commit.pstate = .flipped → exec (.pierResetRelease p) s = .next t.redoApply)
    ∧ (p = 1 → (s.pier p).inReset = true → t.commit.pstate = .flipped → exec (.pierResetRelease p) s = .next t.finishApply)
    ∧ (2 ≤ p ∨ (s.pier p).inReset = false → exec (.pierResetRelease p) s = .next s))
  ∧ (∀ s : State,
    (s.commit.pstate = .flipped → s.p0.inReset = false → s.p1.inReset = false → s.finishApply = s.applySteps)
    ∧ (s.p0.inReset = true ∨ s.p1.inReset = true → s.finishApply = s)
    ∧ (s.p1.inReset = true → s.redoApply = s)
    ∧ (s.commit.pstate = .flipped → s.p1.inReset = false →
      let t := (s.readSlot 0).readPlan.applySteps
      s.redoApply = t.commitEventAt s.commit.committed s.commit.closedAttempt 9 0 s.commit.committed 0))
  ∧ (∀ (s : State) (p e : Nat),
    let t := (engineQueues e).foldl (fun t q => t.idleQueue p q) (((s.powerLog 9 4 0 e).ownerClear p e).engineClear p e)
    (p < 2 → e < 50 → s.power.state = .active → (s.pier p).inReset = false →
      exec (.engineReset p e) s = .next ((t.arbDiscard (fun o => (engineQueues e).any (fun q => o = streamOf p q))).markFaulted))
    ∧ (2 ≤ p ∨ 50 ≤ e ∨ s.power.state ≠ .active ∨ (s.pier p).inReset = true → exec (.engineReset p e) s = .next s))

/-- A request that names this node, on a port in ERROR_ACTIVE or ERROR_PASSIVE, counts. A read or a write with a
reserved value or a bad length is answered 0x13, one behind an open transfer or an unanswered request 0x12, and any
other is one access of the dictionary, a write's TOKEN_REF apart from its data; code 0x13 counts as a bad request.
WRITE_INIT opens a transfer of the size its object takes, and answers 0x01 or 0x06 otherwise. A segment that is out
of order ends the transfer with 0x10, one that is too short is answered 0x13, the last one writes the object, and
every 16th is acknowledged. ABORT ends the transfer. A request that names another node changes nothing here. -/
def Obligations.CanRequests : Prop :=
  (∀ (s : State) (node tag idx sub off len : Nat), PortTakes s node →
    (PortFree s → 1 ≤ len → len ≤ 52 → exec (.canRead node tag idx sub 0 off len) s
      = .next ((counted s).access ⟨0, false, idx, sub, off, len, [], 0, .can 1 tag 0⟩))
    ∧ (¬ PortFree s → 1 ≤ len → len ≤ 52 → exec (.canRead node tag idx sub 0 off len) s
      = .next ((counted s).canStatus 1 tag idx sub 0x12 0))
    ∧ (∀ rsv, rsv ≠ 0 ∨ len = 0 ∨ 52 < len → exec (.canRead node tag idx sub rsv off len) s
      = .next ((counted s).canStatus 1 tag idx sub 0x13 0)))
  ∧ (∀ (s : State) (node tag idx sub : Nat) (data : List Byte), PortTakes s node →
    (PortFree s → data ≠ [] → data.length ≤ 56 → exec (.canWrite node tag idx sub 0 data) s
      = .next ((counted s).canWriteAccess 2 tag 0 idx sub data))
    ∧ (¬ PortFree s → data ≠ [] → data.length ≤ 56 → exec (.canWrite node tag idx sub 0 data) s
      = .next ((counted s).canStatus 2 tag idx sub 0x12 0))
    ∧ (∀ rsv, rsv ≠ 0 ∨ data = [] ∨ 56 < data.length → exec (.canWrite node tag idx sub rsv data) s
      = .next ((counted s).canStatus 2 tag idx sub 0x13 0)))
  ∧ (∀ (s : State) (node tag idx sub total : Nat), PortTakes s node → 1 ≤ total → total ≤ 4104 →
    (PortFree s → objectAt idx sub = none → exec (.writeInit node tag idx sub 0 total 0) s
      = .next ((counted s).canStatus 3 tag idx sub 1 0))
    ∧ (∀ r, PortFree s → objectAt idx sub = some r → total = canTotal r → exec (.writeInit node tag idx sub 0 total 0) s
      = .next (((counted s).setXfer (some ⟨idx, sub, tag, total, 0, []⟩)).canStatus 3 tag idx sub 0 0))
    ∧ (∀ r, PortFree s → objectAt idx sub = some r → total ≠ canTotal r → exec (.writeInit node tag idx sub 0 total 0) s
      = .next ((counted s).canStatus 3 tag idx sub 6 0))
    ∧ (¬ PortFree s → exec (.writeInit node tag idx sub 0 total 0) s = .next ((counted s).canStatus 3 tag idx sub 0x12 0)))
  ∧ (∀ (s : State) (node tag idx sub rsv total len : Nat), PortTakes s node → rsv ≠ 0 ∨ len ≠ 0 ∨ total = 0 ∨ 4104 < total →
    exec (.writeInit node tag idx sub rsv total len) s = .next ((counted s).canStatus 3 tag idx sub 0x13 0))
  ∧ (∀ (s : State) (node tag idx sub seq : Nat) (data : List Byte), PortTakes s node → s.canUnanswered = false →
    (s.can.xfer = none → exec (.writeSeg node tag idx sub 0 seq data) s = .next ((counted s).canStatus 4 tag idx sub 0x10 seq))
    ∧ (∀ x, s.can.xfer = some x → (seq ≠ x.next ∨ idx ≠ x.idx ∨ sub ≠ x.sub ∨ tag ≠ x.tag) →
      exec (.writeSeg node tag idx sub 0 seq data) s = .next (((counted s).setXfer none).canStatus 4 tag idx sub 0x10 seq))
    ∧ (∀ x, s.can.xfer = some x → seq = x.next → idx = x.idx → sub = x.sub → tag = x.tag →
      let n := min 56 (x.total - 56 * seq)
      let d := x.data ++ data.take n
      (data.length < n → exec (.writeSeg node tag idx sub 0 seq data) s = .next ((counted s).canStatus 4 tag idx sub 0x13 seq))
      ∧ (n ≤ data.length → x.total ≤ 56 * (seq + 1) → exec (.writeSeg node tag idx sub 0 seq data) s
          = .next (((counted s).setXfer none).canWriteAccess 4 tag seq idx sub d))
      ∧ (n ≤ data.length → 56 * (seq + 1) < x.total → seq % 16 ≠ 15 → exec (.writeSeg node tag idx sub 0 seq data) s
          = .next ((counted s).setXfer (some { x with next := seq + 1, data := d })))
      ∧ (n ≤ data.length → 56 * (seq + 1) < x.total → seq % 16 = 15 → exec (.writeSeg node tag idx sub 0 seq data) s
          = .next (((counted s).setXfer (some { x with next := seq + 1, data := d })).canStatus 4 tag idx sub 0 seq))))
  ∧ (∀ (s : State) (node tag idx sub seq : Nat) (data : List Byte), PortTakes s node →
    (∀ rsv, rsv ≠ 0 → exec (.writeSeg node tag idx sub rsv seq data) s = .next ((counted s).canStatus 4 tag idx sub 0x13 seq)
      ∧ exec (.abort node tag idx sub rsv) s = .next ((counted s).canStatus 5 tag idx sub 0x13 0))
    ∧ (s.canUnanswered = true → exec (.writeSeg node tag idx sub 0 seq data) s = .next ((counted s).canStatus 4 tag idx sub 0x12 seq)
      ∧ exec (.abort node tag idx sub 0) s = .next ((counted s).canStatus 5 tag idx sub 0x12 0))
    ∧ (s.canUnanswered = false → exec (.abort node tag idx sub 0) s = .next (((counted s).setXfer none).canStatus 5 tag idx sub 0 0)))
  ∧ (∀ (s : State) (node a b c d e f : Nat) (data : List Byte), ¬ PortTakes s node →
    exec (.canRead node a b c d e f) s = .next s ∧ exec (.canWrite node a b c d data) s = .next s
    ∧ exec (.writeInit node a b c d e f) s = .next s ∧ exec (.writeSeg node a b c d e data) s = .next s
    ∧ exec (.abort node a b c d) s = .next s)
  ∧ (∀ (s : State) (cmd tag seq idx sub code : Nat) (d : List Byte),
    s.canWriteAccess cmd tag seq idx sub d
      = s.access ⟨0, true, idx, sub, 0, (canData idx sub d).1.length, (canData idx sub d).1, (canData idx sub d).2, .can cmd tag seq⟩
    ∧ s.canStatus cmd tag idx sub code seq
      = (if code = 0x13 then s.bump32 0 0x1013 6 1 else s).canRespond (canOut cmd tag idx sub code seq []))

/-- A stalled transfer ends with the answer 0x11; with none nothing changes. A frame that carries this node's own
identifier, from another sender, counts and leaves the port in LISTEN_ONLY. The heartbeat sends eight bytes of state
while its period is not zero. A transmit error count of 256 is bus-off, which keeps an interrupted frame for later;
recovery clears the counters and sends what waited; smaller counts choose ERROR_ACTIVE or ERROR_PASSIVE. Frames of
other identifiers, and bus errors of a port that takes no requests, change nothing. -/
def Obligations.CanBusEvents : Prop :=
  (∀ s : State,
    (s.can.xfer = none → exec .transferTimeout s = .next s)
    ∧ (∀ x, s.can.xfer = some x → exec .transferTimeout s = .next ((s.setXfer none).canStatus 4 x.tag x.idx x.sub 0x11 x.next)))
  ∧ (∀ (s : State) (ident : Nat),
    (PortTakes s (ident % 128) → (ident / 128 = 1 ∨ ident / 128 = 0xA ∨ ident / 128 = 0xE) → exec (.foreignFrame ident) s
      = .next (let t := counted s; { t with can := { t.can with mode := .listenOnly } }))
    ∧ (¬ PortTakes s (ident % 128) ∨ (ident / 128 ≠ 1 ∧ ident / 128 ≠ 0xA ∧ ident / 128 ≠ 0xE) → exec (.foreignFrame ident) s = .next s))
  ∧ (∀ s : State,
    (s.power.inputPresent = true → s.odv 0 0x1012 0 ≠ 0 → exec .heartbeat s = .next (s.canSend 2 (0x700 + s.can.nodeId) s.heartbeat))
    ∧ (s.power.inputPresent = false ∨ s.odv 0 0x1012 0 = 0 → exec .heartbeat s = .next s))
  ∧ (∀ (s : State) (tec rx : Nat), PortTakes s s.can.nodeId →
    (256 ≤ tec → exec (.busOff tec false) s
      = .next (let t := s.bump32 0 0x1013 3 1; { t with can := { t.can with mode := .busOff, txErrors := tec } }))
    ∧ (tec < 256 → (∀ b, exec (.busOff tec b) s = .next s) ∧ exec (.canBusError tec rx) s = .next { s with can := { s.can with
        txErrors := tec, rxErrors := rx, mode := if 128 ≤ tec ∨ 128 ≤ rx then .errorPassive else .errorActive } })
    ∧ (256 ≤ tec → exec (.canBusError tec rx) s = .next s))
  ∧ (∀ (s : State) (tec rx : Nat) (b : Bool), ¬ PortTakes s s.can.nodeId →
    exec (.busOff tec b) s = .next s ∧ exec (.canBusError tec rx) s = .next s)
  ∧ (∀ (s : State) (tec : Nat), PortTakes s s.can.nodeId → 256 ≤ tec →
    let t := s.bump32 0 0x1013 3 1
    let u : State := { t with can := { t.can with mode := .busOff, txErrors := tec } }
    (takeBack u.out = none → exec (.busOff tec true) s = .next u)
    ∧ (∀ f rest, takeBack u.out = some (f, rest) → exec (.busOff tec true) s
        = .next (let v : State := { u with out := rest, can := { u.can with tx := canEnqueue f u.can.tx } };
          v.setOd 0 0x1013 5 (v.odv 0 0x1013 5 - 1))))
  ∧ (∀ s : State,
    (s.can.mode = .busOff → exec .busOffRecovery s = .next (State.sendQueued { s with can := { s.can with
        mode := .errorActive, txErrors := 0, rxErrors := 0, tx := [] } } s.can.tx))
    ∧ (s.can.mode ≠ .busOff → exec .busOffRecovery s = .next s))

/-- A dictionary write, a write of a count-limited object, an owner transfer or debug unlock with its TOKEN_REF, and a
token command, are each one access to the object they name through their transport. An access joins the queue while
the engine is busy and is served at once otherwise. A served write whose checks pass starts the programming of a
count-limited object, or has its object's effect, spends the token of an RWS object, counts and is answered: BEGIN
empties a staging area and opens it, a piece is appended to an open one that is not full, SEAL hands an open one to
Keystone, OWNER_TRANSFER takes its value, DEBUG_UNLOCK opens debug and marks the attempt faulted.
TOKEN_VERIFY_COMPLETE of a sealed area ends it READY with a new TOKEN_REF or FAILED. Without the Tollhouse's power a
command changes nothing. -/
def Obligations.DictionaryWrites : Prop :=
  (∀ (s : State) (tr idx sub v ref : Nat) (data : List Byte),
    Accesses s tr (.dictionaryWrite tr idx sub data) ⟨tr, true, idx, sub, 0, data.length, data, 0, .none⟩
    ∧ Accesses s tr (.ownerKeyDigestWrite tr data) ⟨tr, true, 0xA010, 0, 0, data.length, data, 0, .none⟩
    ∧ Accesses s tr (.fwSecurityVersionWrite tr v) ⟨tr, true, 0xA011, 0, 0, 4, toBytes 4 v, 0, .none⟩
    ∧ Accesses s tr (.fabricIdBaseWrite tr v) ⟨tr, true, 0xA012, 0, 0, 8, toBytes 8 v, 0, .none⟩
    ∧ Accesses s tr (.debugLockoutWrite tr v) ⟨tr, true, 0xA013, 0, 0, 1, toBytes 1 v, 0, .none⟩
    ∧ Accesses s tr (.ownerTransfer tr data ref) ⟨tr, true, 0xA020, 0, 0, data.length, data, ref, .none⟩
    ∧ Accesses s tr (.debugUnlock tr v ref) ⟨tr, true, 0xA021, 0, 0, 1, toBytes 1 v, ref, .none⟩
    ∧ Accesses s tr (.tokenStage tr data) ⟨tr, true, 0xA0F0, tr + 1, 0, data.length, data, 0, .none⟩
    ∧ Accesses s tr (.tokenBegin tr) ⟨tr, true, 0xA0F1, tr + 1, 0, 1, [1], 0, .none⟩
    ∧ Accesses s tr (.tokenSeal tr) ⟨tr, true, 0xA0F1, tr + 1, 0, 1, [2], 0, .none⟩)
  ∧ (∀ (s : State) (a : Access),
    (s.dict.busy = none → s.access a = s.serve a)
    ∧ (∀ b, s.dict.busy = some b → s.access a = { s with dict := { s.dict with queue := s.dict.queue ++ [a] } }))
  ∧ (∀ (s : State) (a : Access) (r : OdRow), a.write = true → objectAt a.idx a.sub = some r → firstFailure s a r = 0 →
    let x := s.apply a.tr a.idx a.sub a.data r
    (r.acc = .rwc → s.serve a = s.fuseStart a)
    ∧ (r.acc ≠ .rwc → x.1 = 0 → s.serve a
        = ((if r.acc = .rws then x.2.tokenSpend a.tr else x.2).countAccess a.tr 0).replyTo a 0 r.size []))
  ∧ (∀ (s : State) (tr v : Nat) (piece : List Byte) (r : OdRow),
    let g := s.staging tr
    let sealed' : Nat × State := if g.status = 1 then (0, s.setStaging tr { g with status := 2 }) else (2, s)
    s.apply tr 0xA0F1 (tr + 1) [1] r = (0, s.setStaging tr { g with status := 1, data := [], ref := 0 })
    ∧ s.apply tr 0xA0F1 (tr + 1) [2] r = sealed'
    ∧ s.apply tr 0xA0F0 (tr + 1) piece r = (if g.status ≠ 1 then (2, s) else if 32768 ≤ g.data.length then (3, s)
        else (0, s.setStaging tr { g with data := g.data ++ piece }))
    ∧ s.apply tr 0xA020 0 piece r = (if s.valueFits 0xA020 0 (ofBytes piece) then (0, s.keep tr 0xA020 0 (ofBytes piece) r) else (3, s))
    ∧ s.apply tr 0xA021 0 (toBytes 1 v) r
        = (0, (({ s with sec := { s.sec with debugOpen := true } } : State).setOd 0 0xA021 0 (ofBytes (toBytes 1 v))).markFaulted))
  ∧ (∀ (s : State) (tr : Nat),
    ((s.staging tr).status ≠ 2 → exec (.tokenVerifyComplete tr) s = .next s)
    ∧ ((s.staging tr).status = 2 → exec (.tokenVerifyComplete tr) s = .next (if s.tokenOk tr = true then
          (((s.takeFree 64).2).setStaging tr { s.staging tr with status := 3, ref := max (s.takeFree 64).1 1 }).bump32 0 0xA040 1 1
        else (s.setStaging tr { s.staging tr with status := 4 }).bump32 0 0xA040 2 1)))

/-- A write that the dictionary engine refuses, with any code, leaves the whole state as it was: the fuse log, every
remaining count and the object are the same. Its service adds only what Table 18-12 counts of every access. For a
write command that means that the next state is the old one with ACCESSES of its transport and ACCESSES_REFUSED one
higher. -/
def Obligations.RefusedWriteChangesNothing : Prop :=
  (∀ (s : State) (a : Access), (s.odWrite a).1 ≠ 0 →
    (s.odWrite a).2.1 = s ∧ (s.odWrite a).2.1.fuses = s.fuses ∧ ∀ idx, (s.odWrite a).2.1.fuseLeft idx = s.fuseLeft idx)
  ∧ (∀ (s : State) (tr idx sub : Nat) (data : List Byte), Reaches s tr → s.dict.busy = none →
    (s.odWrite (writeOf tr idx sub data 0)).1 ≠ 0 →
    exec (.dictionaryWrite tr idx sub data) s = .next ((s.bump64 0 0x1050 (tr + 1) 1).bump64 0 0x1050 3 1))

/-- A write of an object that no chapter defines ends with 0x01. Otherwise, where one of the ordered checks of length,
access and availability, remaining count, token and range fails, the write ends with the code of the first that
fails; where none fails, a count-limited write is accepted, and any other ends with the code that the object's own
rule gives. -/
def Obligations.ChecksInOrder : Prop :=
  ∀ (s : State) (a : Access),
    (objectAt a.idx a.sub = none → (s.odWrite a).1 = 1)
    ∧ (∀ r, objectAt a.idx a.sub = some r → firstFailure s a r ≠ 0 → (s.odWrite a).1 = firstFailure s a r)
    ∧ (∀ r, objectAt a.idx a.sub = some r → firstFailure s a r = 0 → r.acc = .rwc → s.odWrite a = (0, s.fuseStart a, false))
    ∧ (∀ r, objectAt a.idx a.sub = some r → firstFailure s a r = 0 → r.acc ≠ .rwc →
        (s.odWrite a).1 = (s.apply a.tr a.idx a.sub a.data r).1)

/-- An accepted count-limited write appends one INCOMPLETE entry that carries the value, spends one count, leaves every
object as it is and keeps the engine busy. FUSE_PROGRAM_COMPLETE makes that entry COMPLETE and only then gives the
object its value, tells the outcome, and serves the accesses that waited in order; with no write in progress it
changes nothing. When one count remains, the write that takes it leaves none, so that a second reachable write of
the object, of the right length, is refused with 0x04. -/
def Obligations.CountLimitedWrite : Prop :=
  (∀ (s : State) (a : Access), ∃ e : FuseEntry,
    (s.fuseStart a).fuses = s.fuses ++ [e] ∧ e.complete = false ∧ e.idx = a.idx ∧ e.transport = a.tr ∧ e.value = a.data
    ∧ e.remaining = s.fuseLeft a.idx - 1 ∧ (s.fuseStart a).fuseLeft a.idx = s.fuseLeft a.idx - 1
    ∧ (s.fuseStart a).od = s.od ∧ (s.fuseStart a).dict.busy = some a)
  ∧ (∀ (s : State) (a b : Access) (r : OdRow), s.fuseLeft a.idx = 1 → objectAt b.idx b.sub = some r → r.acc = .rwc → b.idx = a.idx →
    b.off = 0 → b.data.length = r.size → (s.fuseStart a).reachable b r = true → ((s.fuseStart a).odWrite b).1 = 4)
  ∧ (∀ s : State, s.dict.busy = none → exec .fuseProgramComplete s = .next s)
  ∧ (∀ (s : State) (a : Access), s.dict.busy = some a →
    let t : State := { s with
      fuses := s.fuses.mapIdx (fun i e => if i = s.fuses.length - 1 then { e with complete := true } else e), dict := ⟨none, []⟩ }
    let u := (t.setOd 0 a.idx 0 (ofBytes a.data)).fuseEffect a.idx
    exec .fuseProgramComplete s
      = .next (((u.countAccess a.tr 0).replyTo a 0 (sizeAt a.idx a.sub) []).serveAll s.dict.queue))

/-- A write of levels 1 to 3 for an originator at level 0, with fewer than 32 high, gives it the level and, in every
class, the class's QUOTA_MAX, also in windows that have begun, and leaves every other level and quota, the grant
counts of every window and the rest of the module, but HIGH_COUNT; where a window's grant count has already reached
the quota the originator is masked there from the next sample. Between high levels only the level moves. A write of
level 0 removes its level and its quotas, and at no instance is it masked by its quota; grant counts stay. A
reserved originator or level, and a 33rd high originator, are refused. -/
def Obligations.PriorityWrite : Prop :=
  ∀ (s : State) (o v : Nat),
    (originOk o = true → 1 ≤ v → v ≤ 3 → s.level o = 0 → s.highCount < 32 → ∃ t : State,
      exec (.priorityWrite o v) s = .next t ∧ t.level o = v ∧ (∀ o', o' ≠ o → t.level o' = s.level o')
      ∧ (∀ c, c < 6 → 0 < s.arbOd c 5 → t.quotaOf c o = s.arbOd c 5)
      ∧ (∀ c o', o' ≠ o → o' < 2 ^ 16 → t.quotaOf c o' = s.quotaOf c o')
      ∧ (∀ c a, c < 6 → 0 < s.arbOd c 5 → t.windowQuota c a o = s.arbOd c 5)
      ∧ (∀ a : ArbInst, (a.maskQuota o).winGrants = a.winGrants ∧ o ∈ (a.maskQuota o).quotaMask)
      ∧ t.arb.insts = (s.mapInsts (fun c a => if s.arbOd c 5 ≤ Tab.get 0 a.winGrants o then a.maskQuota o else a)).arb.insts
      ∧ t.odv 0 0x3803 0 = t.highCount ∧ (∀ k, k ≠ odk 0 0x3803 0 → Tab.get 0 t.od k = Tab.get 0 s.od k)
      ∧ t = { s with od := t.od, arb := { s.arb with
          priority := t.arb.priority, quota := t.arb.quota, oldQuota := t.arb.oldQuota, insts := t.arb.insts } })
    ∧ (originOk o = true → 1 ≤ v → v ≤ 3 → s.level o ≠ 0 → exec (.priorityWrite o v) s
      = .next (let t : State := { s with arb := { s.arb with priority := Tab.set 0 s.arb.priority o v } }
               t.setOd 0 0x3803 0 t.highCount))
    ∧ (originOk o = true → ∃ t : State, exec (.priorityWrite o 0) s = .next t
      ∧ t.arb.priority = Tab.set 0 s.arb.priority o 0 ∧ (∀ e ∈ t.arb.insts, o ∉ e.2.quotaMask)
      ∧ t.arb.quota = (List.range 6).foldl (fun q c => Tab.set 0 q (arbKey c o) 0) s.arb.quota
      ∧ t.arb.oldQuota = (List.range 6).foldl (fun q c => Tab.set 0 q (arbKey c o) 0) s.arb.oldQuota
      ∧ t.arb.insts = (s.mapInsts (fun _ a => { a with quotaMask := a.quotaMask.filter (fun x => !decide (x = o)) })).arb.insts
      ∧ t = { s with od := t.od, arb := { s.arb with
          priority := t.arb.priority, quota := t.arb.quota, oldQuota := t.arb.oldQuota, insts := t.arb.insts } })
    ∧ (originOk o = false ∨ 3 < v ∨ (s.level o = 0 ∧ v ≠ 0 ∧ 32 ≤ s.highCount) → exec (.priorityWrite o v) s = .next s)

/-- From every state in which no count-limited object has more fuse-log entries than Table 18-5 allows it writes, a step
of any command gives such a state: a write at count zero never programs an entry, whatever the transports do (R14,
R16, R604, R605). -/
def Obligations.FuseCountsHold : Prop :=
  ∀ s t : State, s.FusesFit → step s = .next t → t.FusesFit

/-- After a step of any command, in any state, every entry of the fuse log stands at its number as it was, or was
INCOMPLETE and is now COMPLETE: programmed bits are never taken back (R605 to R607). -/
def Obligations.FuseLogStands : Prop :=
  ∀ s t : State, step s = .next t → s.FusesStand t

/-- From every state whose memory lists its addresses strictly rising and no byte that an unlisted address reads as, a
step of any command gives such a state, so that equal memories are equal data (the form is the model's own, log
entry 1). -/
def Obligations.MemoryCanonical : Prop :=
  ∀ s t : State, Memory.wf s.mem = true → step s = .next t → Memory.wf t.mem = true

/-- At State.reset no count-limited object has more fuse-log entries than it is allowed writes, and the memory is in
canonical form. -/
def Obligations.ResetMeetsInvariants : Prop :=
  State.reset.FusesFit ∧ Memory.wf State.reset.mem = true

/-- In every state every command of the table ends in a next state, whose queue of waiting commands is the same; so a
step never faults or refuses, and the block never stops. -/
def Obligations.NoCommandStops : Prop :=
  (∀ (c : Instr) (s : State), ∃ t, exec c s = .next t ∧ t.pending = s.pending) ∧ (∀ s : State, s.Safe)

/-- Every command but the seventeen that hand an access to the dictionary engine or complete its count-limited write
leaves the fuse log exactly as it was; in particular no reset, no loss of the input and no packet changes it. -/
def Obligations.OnlyTheDictionaryTouchesFuses : Prop :=
  ∀ (c : Instr) (s t : State), mayTouchFuses c = false → exec c s = .next t → t.fuses = s.fuses

/-- In a state whose memory is canonical (MemoryCanonical), after a run of bytes is written, each address of the run
reads its byte of the run and every other address reads as before; and a number written in n bytes reads back,
little-endian, modulo 256 to the n. -/
def Obligations.BytesReadBack : Prop :=
  ∀ (s : State) (k : Nat) (l : List Byte), Memory.wf s.mem = true →
    (∀ j, (s.setBytes k l).byte j = if k ≤ j ∧ j < k + l.length then l.getD (j - k) 0 else s.byte j)
    ∧ (∀ n v, (s.setNum k n v).num k n = v % 256 ^ n)

/-- After each of 110 commands that store nothing (the arbiters but their cut-off and adaptation, the commands of Table
6-3, refresh and guard writes, the link layer and the state of the ports, the power and thermal loops, the mailbox
and the SPDM responder, the interrupt registers and others named in the list), every byte of every memory reads as
before. -/
def Obligations.CommandsThatStoreNothing : Prop :=
  ∀ (c : Instr) (s t : State) (a : Nat), storesNothing c = true → exec c s = .next t → t.byte a = s.byte a

/-- A BAR2 write that is taken, to a Pier that is up and outside its ring area, in a memory that is canonical, ends in a
state in which each byte from the addressed offset of that Pier's fast tier reads as written; every byte of every
store outside the granules that hold them reads as before, and where the memory holds no stored error and no Girder
line of the Pier an uncorrectable one, every other byte does. -/
def Obligations.HostWriteReachesMemory : Prop :=
  ∀ (s : State) (off p o : Nat) (data : List Byte), BarTaken s off data.length → off < 2 ^ 40 → bar2Of off = some (p, o) →
    s.pierDown p = false → s.inRingArea p o = false → Memory.wf s.mem = true →
    ∃ t, exec (.barWrite 2 off data) s = .next t
      ∧ (∀ j, j < data.length → t.byte (pkey (spFast p) o + j) = data.getD j 0)
      ∧ (∀ a, ¬ (pkey (spFast p) (o / 128 * 128) ≤ a ∧ a < pkey (spFast p) ((o + data.length + 127) / 128 * 128)) →
          t.byte a = s.byte a)
      ∧ (s.errs = [] → (∀ e ∈ (s.pier p).girder, e.2.flaw < 2) →
          ∀ a, ¬ (pkey (spFast p) o ≤ a ∧ a < pkey (spFast p) o + data.length) → t.byte a = s.byte a)

/-- Where HEAD + 1 equals TAIL modulo the ring's size, a new record only advances the sequence number and the LOST
count. Otherwise, in a canonical memory, the 32 bytes at HEAD of the ring's place in its Pier's fast tier hold the
record, made with the ring's sequence number; every byte outside the granules that hold the record stays, and where
the memory holds no stored error and no Girder line of the Pier an uncorrectable one, every other byte stays. A
write of TAIL that frees space while LOST is not zero writes one LOST record with the count, and clears the count;
one that frees none, or with nothing lost, only moves TAIL. -/
def Obligations.RingRecords : Prop :=
  (∀ (s : State) (r : Ring) (rec : Nat → Nat), s.ringFull r = true →
    s.ringPut r rec = (s.advSeq r).bump32 0 (r.idx + 2) r.sub 1)
  ∧ (∀ (s : State) (r : Ring) (rec : Nat → Nat), Memory.wf s.mem = true → s.ringFull r = false →
    let o := poff (s.odv 0 0x8001 (r.pier + 1)) + r.off + 32 * s.odv 0 r.idx r.sub
    let place := pkey (spFast r.pier) o
    (s.ringPut r rec).num place 32 = rec (s.seq r) % 2 ^ 256
    ∧ (∀ j, ¬ (pkey (spFast r.pier) (o / 128 * 128) ≤ j ∧ j < pkey (spFast r.pier) ((o + 32 + 127) / 128 * 128)) →
        (s.ringPut r rec).byte j = s.byte j)
    ∧ (s.errs = [] → (∀ e ∈ (s.pier r.pier).girder, e.2.flaw < 2) →
        ∀ j, ¬ (place ≤ j ∧ j < place + 32) → (s.ringPut r rec).byte j = s.byte j))
  ∧ (∀ (s : State) (r : Ring) (tail : Nat),
    let t := s.setOd 0 (r.idx + 1) r.sub tail
    (t.odv 0 (r.idx + 2) r.sub = 0 ∨ t.ringFull r = true → s.ringTail r tail = t)
    ∧ (t.odv 0 (r.idx + 2) r.sub ≠ 0 → t.ringFull r = false →
        s.ringTail r tail = ((t.advSeq r).ringWrite r (lostRec t r (t.seq r))).setOd 0 (r.idx + 2) r.sub 0))

/-- The threshold of a wait is WAIT_VALUE, plus SC1 × MUL1 where WAIT_BASE is 0b01 or 0b11, plus SC2 × MUL2 where it is
0b10 or 0b11, modulo 2^32; the wait is met when the counter less the threshold, modulo 2^32, is below 2^31. -/
def Obligations.CounterWait : Prop :=
  (∀ (u : Queue) (w : Nat),
    let base := bits 77 76 w
    let value := BitVec.ofNat 32 (bits 93 78 w)
    let one := BitVec.ofNat 32 u.sc1 * BitVec.ofNat 32 u.mul1
    let two := BitVec.ofNat 32 u.sc2 * BitVec.ofNat 32 u.mul2
    BitVec.ofNat 32 (threshold u w) =
      if base = 0 then value else if base = 1 then value + one else if base = 2 then value + two else value + one + two)
  ∧ (∀ c th : Nat, c < 2 ^ 32 → th < 2 ^ 32 →
    (counterMet c th = true ↔ (BitVec.ofNat 32 c - BitVec.ofNat 32 th).toNat < 2 ^ 31))
  ∧ (∀ (s : State) (p : Nat) (u : Queue) (w : Nat), bits 65 64 w = 1 →
    s.waitMet p u w = counterMet (s.counter p (bits 75 66 w)) (threshold u w))

/-- SIG_KIND 0b01 adds SIG_INC + 1 to the counter that SIG_ID names; 0b10 and 0b11 set and clear the flag; 0b00 does
neither; and the IRQ bit raises the Pier's vector. A flag set to a value reads it, every other flag and every
counter of either Pier stays, and where the value is a change it goes to the end of the other Pier's mirror queue,
whose front FLAG_MIRROR_UPDATE applies. -/
def Obligations.SignalsAndFlags : Prop :=
  (∀ (s : State) (p w : Nat), bit 119 w = false →
    (bits 95 94 w = 0 → s.postSignal p w = s)
    ∧ (bits 95 94 w = 1 → s.postSignal p w = s.setCounter p (bits 105 96 w) (s.counter p (bits 105 96 w) + (bits 107 106 w + 1)))
    ∧ (bits 95 94 w = 2 → s.postSignal p w = s.setFlag p (bits 105 96 w % 256) true)
    ∧ (bits 95 94 w = 3 → s.postSignal p w = s.setFlag p (bits 105 96 w % 256) false))
  ∧ (∀ (s : State) (p w : Nat), bit 119 w = true → ∃ t, s.postSignal p w = t.raise (1 + p)
    ∧ (bits 95 94 w = 0 → t = s))
  ∧ (∀ (s : State) (p f : Nat) (b : Bool), p < 2 →
    let t := s.setFlag p f b
    (bit f (t.pier p).flags = b)
    ∧ (∀ g, g ≠ f → bit g (t.pier p).flags = bit g (s.pier p).flags)
    ∧ (t.pier (1 - p)).flags = (s.pier (1 - p)).flags
    ∧ (∀ q c, t.counter q c = s.counter q c)
    ∧ (t.pier (1 - p)).mirrorQ = (s.pier (1 - p)).mirrorQ ++ (if bit f (s.pier p).flags = b then [] else [(f, b)]))

/-- A packet made from a destination, a source, the two Piers, a class, a protocol, a segment of a number of segments,
an address, a tag and a body reads back each of these in the width of Table 14-5, with DL and HOPS zero and LENGTH
the body's, and its CRC is that of its header and body. -/
def Obligations.PacketHeader : Prop :=
  ∀ (dest src dp sp tc proto seg nseg addr tag : Nat) (body : List Byte),
    let k := mkPacket dest src dp sp tc proto seg nseg addr tag body
    k.dest = dest % 2 ^ 16 ∧ k.src = src % 2 ^ 16 ∧ k.destPier = dp % 2 ∧ k.srcPier = sp % 2 ∧ k.tc = tc % 8 ∧ k.dl = 0
    ∧ k.proto = proto % 16 ∧ k.hops = 0 ∧ k.len = body.length % 2 ^ 13 ∧ k.seg = seg % 2 ^ 16 ∧ k.nseg = nseg % 2 ^ 16
    ∧ k.addr = addr % 2 ^ 48 ∧ k.tag = tag % 2 ^ 32 ∧ k.good = true ∧ k.body = body

/-- The sum and the product of any value and schedule poison are schedule poison, a NaN among the operands or not; of
NaN and a value that is not poison they are NaN; schedule poison and the canonical NaN of every format are read as
such, and a finite value of either FP8 format converts back to its own encoding without saturation. -/
def Obligations.PoisonDominates : Prop :=
  (∀ v : Val, Val.add .poison v = .poison ∧ Val.add v .poison = .poison ∧ Val.mul .poison v = .poison ∧ Val.mul v .poison = .poison)
  ∧ (∀ v : Val, v ≠ .poison → Val.add .nan v = .nan ∧ Val.add v .nan = .nan ∧ Val.mul .nan v = .nan ∧ Val.mul v .nan = .nan)
  ∧ (∀ f : FFmt, decode f f.nanCode = .nan ∧ (f.isFp8 = false → decode f f.poisonCode = .poison))
  ∧ (∀ f : FFmt, f.isFp8 = true → ∀ c : Nat, c < 256 → (decode f c).isFin = true → convert f (decode f c) = (c, false))

/-- A record made when POWER_EVENT_SEQ is n, and fewer than 2^32 − 1 have been made, is the record with number n until
256 more are made, and advances POWER_EVENT_SEQ by one; the log never holds more than 256; a number that no record
has reads none. The removal of VTOLL clears the log, and a cold reset with VTOLL powered adds its own record to it. -/
def Obligations.PowerLogRecords : Prop :=
  (∀ (s : State) (event key d0 d1 : Nat), s.power.logSeq + 1 < 2 ^ 32 →
    let t := s.powerLog event key d0 d1
    t.power.logSeq = s.power.logSeq + 1 ∧ t.power.log.length ≤ 256
    ∧ t.power.record s.power.logSeq = some ⟨s.recEpoch, key, event, d0, d1⟩
    ∧ t.power.record (s.power.logSeq + 1) = none
    ∧ (∀ n r, n < s.power.logSeq → s.power.record n = some r → s.power.logSeq < n + 256 → t.power.record n = some r))
  ∧ (∀ s : State, s.inputLost.power.log = [] ∧ s.inputLost.power.logSeq = 0)
  ∧ (∀ (s : State) (cause : Nat), (s.coldReset cause).power.log = (s.powerLog 9 0 cause 0).power.log)

/-- At an input voltage in the range, in mV, the effective cap is the smaller of POWER_CAP and 70 A times the voltage in
whole watts; the entry into the range leaves the power state as it was and makes one record; a second event within
the range changes nothing. -/
def Obligations.InputLowCap : Prop :=
  ∀ (s : State) (mv : Nat), 36000 ≤ mv → mv < 40000 → s.power.inputPresent = true →
    s.effectiveCap mv = min (s.odv 0 0x2010 0) (70 * mv / 1000)
    ∧ (s.power.inputLow = false → ∃ t, exec (.inputLow mv) s = .next t ∧ t.power.state = s.power.state
        ∧ t.power.inputLow = true ∧ t.power.logSeq = (s.power.logSeq + 1) % 2 ^ 32
        ∧ t.power.log.getLast? = some ⟨s.recEpoch, 0, 5, mv, min (s.odv 0 0x2010 0) (70 * mv / 1000)⟩)
    ∧ (s.power.inputLow = true → exec (.inputLow mv) s = .next s)

/-- A read or a write of an index and subindex at which no chapter defines an object ends with code 0x01; the engine
changes no state, and the service adds only what is counted of every access and tells the outcome to whoever waits
for it. -/
def Obligations.UndefinedObject : Prop :=
  ∀ (s : State) (a : Access), objectAt a.idx a.sub = none →
    (a.write = true → s.odWrite a = (1, s, true)) ∧ (a.write = false → s.odRead a = (1, 0, []))
    ∧ s.serve a = (s.countAccess a.tr 1).replyTo a 1 0 []

end
end

