-- ==== Sys2Proof/Laws/Tab.lean ====
section
/-! SUPPORT. Laws of the sparse table: reads after writes, and its canonical form. -/

namespace Sys2Proof

/-- A write leaves every other key alone. -/
@[simp] theorem Tab.get_put_ne {α : Type} (d : α) (keep : Bool) (t : Tab α) {k j : Nat} (v : α) (h : j ≠ k) :
    Tab.get d (Tab.put keep k v t) j = Tab.get d t j := by
  induction t with
  | nil => cases keep <;> simp [Tab.put, Tab.get, h]
  | cons e t ih =>
    obtain ⟨a, w⟩ := e
    simp only [Tab.put]
    split
    · cases keep <;> simp [Tab.get, h]
    · split
      · subst k; cases keep <;> simp [Tab.get, h]
      · simp [Tab.get, ih]

/-- A write leaves every other key alone. -/
@[simp] theorem Tab.get_set_ne {α : Type} [DecidableEq α] (d : α) (t : Tab α) {k j : Nat} (v : α) (h : j ≠ k) :
    Tab.get d (Tab.set d t k v) j = Tab.get d t j := Tab.get_put_ne d _ t v h

/-- A kept entry reads back. -/
theorem Tab.get_put_self {α : Type} (d : α) (t : Tab α) (k : Nat) (v : α) : Tab.get d (Tab.put true k v t) k = v := by
  induction t with
  | nil => simp [Tab.put, Tab.get]
  | cons e t ih =>
    obtain ⟨a, w⟩ := e
    simp only [Tab.put]
    split
    · simp [Tab.get]
    · split
      · simp [Tab.get]
      · simp [Tab.get, ih, *]

/-- A written entry that is not the default reads back in any table. -/
theorem Tab.get_set_self {α : Type} [DecidableEq α] {d v : α} (t : Tab α) (k : Nat) (h : v ≠ d) :
    Tab.get d (Tab.set d t k v) k = v := by
  have : (!decide (v = d)) = true := by simpa using h
  rw [Tab.set, this, Tab.get_put_self]

/-- Below every key a table reads as the default. -/
theorem Tab.get_low {α : Type} (d : α) {lo k : Nat} {t : Tab α} (ht : Tab.risesFrom lo t = true) (h : k < lo) : Tab.get d t k = d := by
  induction t generalizing lo with
  | nil => rfl
  | cons e t ih =>
    obtain ⟨a, w⟩ := e
    simp only [Tab.risesFrom, Bool.and_eq_true, decide_eq_true_eq] at ht
    simp only [Tab.get]
    rw [if_neg (by omega)]
    exact ih ht.2 (by omega)

/-- Keys that rise from a bound rise from a lower one. -/
theorem Tab.risesFrom_mono {α : Type} {lo lo' : Nat} {t : Tab α} (h : lo' ≤ lo) (ht : Tab.risesFrom lo t = true) : Tab.risesFrom lo' t = true := by
  cases t with
  | nil => rfl
  | cons e t => simp only [Tab.risesFrom, Bool.and_eq_true, decide_eq_true_eq] at *; exact ⟨by omega, ht.2⟩
/-- A filtered table still rises. -/
theorem Tab.risesFrom_filter {α : Type} (p : Nat × α → Bool) {lo : Nat} {t : Tab α} (ht : Tab.risesFrom lo t = true) : Tab.risesFrom lo (t.filter p) = true := by
  induction t generalizing lo with
  | nil => rfl
  | cons e t ih =>
    simp only [Tab.risesFrom, Bool.and_eq_true, decide_eq_true_eq] at ht
    rw [List.filter_cons]; split
    · simp only [Tab.risesFrom, Bool.and_eq_true, decide_eq_true_eq]; exact ⟨ht.1, ih ht.2⟩
    · exact Tab.risesFrom_mono (by omega) (ih ht.2)
/-- A filtered table keeps the canonical form. -/
theorem Tab.wf_filter {α : Type} [DecidableEq α] {d : α} (p : Nat × α → Bool) {t : Tab α} (ht : Tab.wf d t = true) : Tab.wf d (t.filter p) = true := by
  simp only [Tab.wf, Bool.and_eq_true, List.all_eq_true] at *
  exact ⟨Tab.risesFrom_filter p ht.1, fun e he => ht.2 e (List.mem_filter.mp he).1⟩
/-- An insertion keeps the keys rising. -/
theorem Tab.risesFrom_put {α : Type} (keep : Bool) (k : Nat) (v : α) {lo : Nat} {t : Tab α} (hk : lo ≤ k) (ht : Tab.risesFrom lo t = true) :
    Tab.risesFrom lo (Tab.put keep k v t) = true := by
  induction t generalizing lo with
  | nil => cases keep <;> simp [Tab.put, Tab.risesFrom, hk]
  | cons e t ih =>
    obtain ⟨a, w⟩ := e
    simp only [Tab.risesFrom, Bool.and_eq_true, decide_eq_true_eq] at ht
    simp only [Tab.put]
    split
    · split <;> simp [Tab.risesFrom, hk, ht.1, ht.2]; omega
    · split
      · subst k; split
        · simp [Tab.risesFrom, ht.1, ht.2]
        · exact Tab.risesFrom_mono (by omega) ht.2
      · simp only [Tab.risesFrom, Bool.and_eq_true, decide_eq_true_eq]
        exact ⟨ht.1, ih (by omega) ht.2⟩
/-- What an insertion holds was there or is the new entry. -/
theorem Tab.mem_put {α : Type} {keep : Bool} {k : Nat} {v : α} {t : Tab α} {e : Nat × α} (h : e ∈ Tab.put keep k v t) : e ∈ t ∨ (keep = true ∧ e = (k, v)) := by
  induction t with
  | nil => cases keep <;> simp_all [Tab.put]
  | cons x t ih =>
    obtain ⟨a, w⟩ := x
    simp only [Tab.put] at h
    split at h
    · split at h <;> simp_all <;> grind
    · split at h
      · split at h <;> simp_all <;> grind
      · rcases List.mem_cons.mp h with h | h
        · simp [h]
        · rcases ih h with h | h
          · simp [h]
          · simp [h]
/-- Writing an entry keeps the canonical form. -/
theorem Tab.wf_set {α : Type} [DecidableEq α] {d : α} {t : Tab α} (k : Nat) (v : α) (ht : Tab.wf d t = true) : Tab.wf d (Tab.set d t k v) = true := by
  simp only [Tab.wf, Bool.and_eq_true, List.all_eq_true] at *
  refine ⟨Tab.risesFrom_put _ k v (Nat.zero_le _) ht.1, fun e he => ?_⟩
  rcases Tab.mem_put he with h | ⟨h, rfl⟩
  · exact ht.2 e h
  · simpa using h

/-- A removed entry reads as the default. -/
theorem Tab.get_put_gone {α : Type} (d : α) {lo k : Nat} {t : Tab α} (v : α) (ht : Tab.risesFrom lo t = true) :
    Tab.get d (Tab.put false k v t) k = d := by
  induction t generalizing lo with
  | nil => rfl
  | cons e t ih =>
    obtain ⟨a, w⟩ := e
    simp only [Tab.risesFrom, Bool.and_eq_true, decide_eq_true_eq] at ht
    simp only [Tab.put]
    split
    · rw [if_neg (by simp)]
      simp only [Tab.get]
      rw [if_neg (by omega)]
      exact Tab.get_low d ht.2 (by omega)
    · split
      · subst k; rw [if_neg (by simp)]; exact Tab.get_low d ht.2 (by omega)
      · simp only [Tab.get]; rw [if_neg (by assumption)]; exact ih ht.2

/-- In a canonical table a write reads back, whatever the value. -/
theorem Tab.get_set_wf {α : Type} [DecidableEq α] (d : α) {t : Tab α} (k : Nat) (v : α) (ht : Tab.wf d t = true) :
    Tab.get d (Tab.set d t k v) k = v := by
  by_cases h : v = d
  · subst h
    simp only [Tab.wf, Bool.and_eq_true] at ht
    have : (!decide (v = v)) = false := by simp
    rw [Tab.set, this]
    exact Tab.get_put_gone v v ht.1
  · exact Tab.get_set_self t k h

end Sys2Proof
end

