-- ==== Sys2Proof/Laws/Keeps.lean ====
section
/-! SUPPORT. What every operation of the model but the count-limited writes leaves alone: the fuse log, the waiting
commands, the canonical form of the memory. One lemma for each operation that answers a state. -/

namespace Sys2Proof.Machine

/-- Writing a byte keeps the canonical form of the memory. -/
theorem Memory.wf_set {m : Tab Byte} (k : Nat) (b : Byte) (h : Memory.wf m = true) : Memory.wf (Tab.set 0 m k b) = true :=
  Tab.wf_set k b h

/-- Clearing a run keeps it. -/
theorem Memory.wf_without {m : Tab Byte} (k n : Nat) (h : Memory.wf m = true) : Memory.wf (Tab.without k n m) = true :=
  Tab.wf_filter _ h

/-- A memory that lists nothing has it. -/
theorem Memory.wf_nil : Memory.wf [] = true := rfl

/-- What an operation may do to the memory: nothing (true), or only what keeps its canonical form (false). -/
def Memory.Kept : Bool → Tab Byte → Tab Byte → Prop
  | true, m, n => n = m
  | false, m, n => Memory.wf m = true → Memory.wf n = true

/-- Nothing done. -/
theorem Memory.Kept.refl {κ : Bool} (m : Tab Byte) : Memory.Kept κ m m := by cases κ; exacts [id, rfl]
/-- One after the other. -/
theorem Memory.Kept.trans {κ : Bool} {a b c : Tab Byte} (x : Memory.Kept κ a b) (y : Memory.Kept κ b c) : Memory.Kept κ a c := by
  cases κ; exacts [fun h => y (x h), Eq.trans y x]
/-- Memory that stays is canonical as before. -/
theorem Memory.Kept.wf {κ : Bool} {a b : Tab Byte} (x : Memory.Kept κ a b) : Memory.wf a = true → Memory.wf b = true := by
  cases κ; exacts [x, fun h => (show b = a from x) ▸ h]
/-- A run cleared. -/
theorem Memory.kept_without {m x : Tab Byte} {k n : Nat} (h : Memory.Kept false m x) : Memory.Kept false m (Tab.without k n x) :=
  fun a => Memory.wf_without k n (h a)
/-- Nothing listed. -/
theorem Memory.kept_nil {m : Tab Byte} : Memory.Kept false m [] := fun _ => rfl

/-- What no command but the count-limited writes does: nothing of the fuse log or the waiting commands changes; and the
memory keeps its canonical form, or, with κ true, all of its contents. -/
structure State.Keeps (κ : Bool) (s t : State) : Prop where
  fuses : t.fuses = s.fuses
  pending : t.pending = s.pending
  mem : Memory.Kept κ s.mem t.mem

variable {κ : Bool}

/-- Nothing done keeps all. -/
theorem State.Keeps.refl (s : State) : s.Keeps κ s := ⟨rfl, rfl, .refl _⟩
/-- One after the other. -/
theorem State.Keeps.trans {s t u : State} (a : s.Keeps κ t) (b : t.Keeps κ u) : s.Keeps κ u :=
  ⟨b.1.trans a.1, b.2.trans a.2, a.3.trans b.3⟩
/-- A record update of other fields. -/
theorem keeps_mk {s t : State} {m : Tab Byte}
    {a0 a1 a2 a3 a4 a5 a6 a7 a8 a9 b0 b1 b2 b3 b4 b5 b6 b7 b8 b9 c0 c1 c2 c3}
    (hm : Memory.Kept κ t.mem m) (h : s.Keeps κ t) :
    s.Keeps κ ⟨m, a0, a1, a2, a3, a4, a5, a6, a7, a8, a9, b0, b1, b2, b3, b4, b5, b6, b7, b8, b9, t.fuses, c0, c1, c2, c3, t.pending⟩ :=
  ⟨h.1, h.2, h.3.trans hm⟩
/-- Either way. -/
theorem keeps_ite {s a b : State} (c : Prop) [Decidable c] (ha : s.Keeps κ a) (hb : s.Keeps κ b) : s.Keeps κ (if c then a else b) := by
  split <;> assumption
/-- A step repeated. -/
theorem keeps_foldl {α : Type} {s t : State} {f : State → α → State} {l : List α} (h : s.Keeps κ t)
    (hf : ∀ u a, State.Keeps κ u (f u a)) : s.Keeps κ (l.foldl f t) := by
  induction l generalizing t with
  | nil => exact h
  | cons a l ih => exact ih (h.trans (hf _ _))
/-- A step repeated on the first part of a pair. -/
theorem keeps_foldl_fst {α β : Type} {s : State} {t : State × β} {f : State × β → α → State × β} {l : List α} (h : s.Keeps κ t.1)
    (hf : ∀ u a, State.Keeps κ u.1 (f u a).1) : s.Keeps κ (l.foldl f t).1 := by
  induction l generalizing t with
  | nil => exact h
  | cons a l ih => exact ih (h.trans (hf _ _))
/-- The first part of a pair, said so that the pair itself is compared and not computed. -/
def State.KeepsFst (κ : Bool) {β : Type} (s : State) (x : State × β) : Prop := s.Keeps κ x.1
/-- A step repeated, said of the pair. -/
theorem keeps_foldl_pair {α β : Type} {s : State} {t : State × β} {f : State × β → α → State × β} {l : List α} (h : s.Keeps κ t.1)
    (hf : ∀ u a, State.KeepsFst κ u.1 (f u a)) : s.KeepsFst κ (l.foldl f t) := by
  induction l generalizing t with
  | nil => exact h
  | cons a l ih => exact ih (h.trans (hf _ _))
/-- Either way, on the first part of a pair. -/
theorem keeps_ite_fst {β : Type} {s : State} {a b : State × β} (c : Prop) [Decidable c] (ha : s.Keeps κ a.1) (hb : s.Keeps κ b.1) :
    s.Keeps κ (if c then a else b).1 := by
  split <;> assumption

theorem keeps_modPier {orig s : State} {p : Nat} {f : Pier → Pier} (hk : orig.Keeps κ s) :
    orig.Keeps κ (State.modPier s p f) := by
  unfold State.modPier
  try dsimp only
  repeat' with_reducible first
    | exact State.Keeps.refl _ | assumption | split | fail_if_no_progress refine keeps_mk (Memory.Kept.refl _) ?_

theorem keeps_setQueue {orig s : State} {p q : Nat} {v : Queue} (hk : orig.Keeps κ s) :
    orig.Keeps κ (State.setQueue s p q v) := by
  unfold State.setQueue
  try dsimp only
  repeat' with_reducible first | exact State.Keeps.refl _ | assumption | apply keeps_modPier

theorem keeps_setPair {orig s : State} {p i : Nat} {v : Pair} (hk : orig.Keeps κ s) :
    orig.Keeps κ (State.setPair s p i v) := by
  unfold State.setPair
  try dsimp only
  repeat' with_reducible first | exact State.Keeps.refl _ | assumption | apply keeps_modPier

theorem keeps_setByte {orig s : State} {k : Nat} {b : Byte} (hk : orig.Keeps false s) :
    orig.Keeps false (State.setByte s k b) := ⟨hk.1, hk.2, fun x => Memory.wf_set _ _ (hk.3 x)⟩

theorem keeps_setBytes {orig s : State} {k : Nat} {x2 : List Byte} (hk : orig.Keeps false s) :
    orig.Keeps false (State.setBytes s k x2) := by
  induction x2 generalizing s k with
  | nil => exact hk
  | cons b t ih =>
    exact ih (keeps_setByte hk)

theorem keeps_setNum {orig s : State} {k n v : Nat} (hk : orig.Keeps false s) :
    orig.Keeps false (State.setNum s k n v) := by
  unfold State.setNum
  try dsimp only
  repeat' with_reducible first | exact State.Keeps.refl _ | assumption | apply keeps_setBytes

theorem keeps_setOd {orig s : State} {inst idx sub v : Nat} (hk : orig.Keeps κ s) :
    orig.Keeps κ (State.setOd s inst idx sub v) := by
  unfold State.setOd
  try dsimp only
  repeat' with_reducible first
    | exact State.Keeps.refl _ | assumption | split | fail_if_no_progress refine keeps_mk (Memory.Kept.refl _) ?_

theorem keeps_bump64 {orig s : State} {inst idx sub n : Nat} (hk : orig.Keeps κ s) :
    orig.Keeps κ (State.bump64 s inst idx sub n) := by
  unfold State.bump64
  try dsimp only
  repeat' with_reducible first | exact State.Keeps.refl _ | assumption | apply keeps_setOd

theorem keeps_bump32 {orig s : State} {inst idx sub n : Nat} (hk : orig.Keeps κ s) :
    orig.Keeps κ (State.bump32 s inst idx sub n) := by
  unfold State.bump32
  try dsimp only
  repeat' with_reducible first | exact State.Keeps.refl _ | assumption | apply keeps_setOd

theorem keeps_emit {orig s : State} {o : Out} (hk : orig.Keeps κ s) :
    orig.Keeps κ (State.emit s o) := by
  unfold State.emit
  try dsimp only
  repeat' with_reducible first
    | exact State.Keeps.refl _ | assumption | split | fail_if_no_progress refine keeps_mk (Memory.Kept.refl _) ?_

theorem keeps_takeFree {orig s : State} {w : Nat} (hk : orig.Keeps κ s) :
    orig.Keeps κ (State.takeFree s w).2 := by
  unfold State.takeFree
  try dsimp only
  repeat' with_reducible first
    | exact State.Keeps.refl _ | assumption | split | fail_if_no_progress refine keeps_mk (Memory.Kept.refl _) ?_

theorem keeps_setOnce {orig s : State} {kind ident : Nat} (hk : orig.Keeps κ s) :
    orig.Keeps κ (State.setOnce s kind ident) := by
  unfold State.setOnce
  try dsimp only
  repeat' with_reducible first
    | exact State.Keeps.refl _ | assumption | split | fail_if_no_progress refine keeps_mk (Memory.Kept.refl _) ?_

theorem keeps_markFaulted {orig s : State}  (hk : orig.Keeps κ s) :
    orig.Keeps κ (State.markFaulted s) := by
  unfold State.markFaulted
  try dsimp only
  repeat' with_reducible first
    | exact State.Keeps.refl _ | assumption | split | fail_if_no_progress refine keeps_mk (Memory.Kept.refl _) ?_

theorem keeps_writeNotify {orig s : State}  (hk : orig.Keeps κ s) :
    orig.Keeps κ (State.writeNotify s) := by
  unfold State.writeNotify
  try dsimp only
  repeat' with_reducible first
    | exact State.Keeps.refl _ | assumption | apply keeps_emit | apply keeps_bump64 | split
    | fail_if_no_progress refine keeps_mk (Memory.Kept.refl _) ?_

theorem keeps_sendMsix {orig s : State} {v : Nat} (hk : orig.Keeps κ s) :
    orig.Keeps κ (State.sendMsix s v) := by
  unfold State.sendMsix
  try dsimp only
  repeat' with_reducible first
    | exact State.Keeps.refl _ | assumption | apply keeps_emit | apply keeps_bump64 | split
    | fail_if_no_progress refine keeps_mk (Memory.Kept.refl _) ?_

theorem keeps_sendAll {orig s : State} {vs : List Nat} (hk : orig.Keeps κ s) :
    orig.Keeps κ (State.sendAll s vs) := by
  unfold State.sendAll
  try dsimp only
  repeat' with_reducible first
    | exact State.Keeps.refl _ | assumption | apply keeps_sendMsix | split | apply keeps_foldl
    | apply keeps_foldl_fst | intro _

theorem keeps_notifyAll {orig s : State} {vs : List Nat} (hk : orig.Keeps κ s) :
    orig.Keeps κ (State.notifyAll s vs) := by
  unfold State.notifyAll
  try dsimp only
  repeat' with_reducible first
    | exact State.Keeps.refl _ | assumption | apply keeps_writeNotify | apply keeps_sendAll | split
    | apply keeps_foldl | apply keeps_foldl_fst | fail_if_no_progress refine keeps_mk (Memory.Kept.refl _) ?_

theorem keeps_raise {orig s : State} {v : Nat} (hk : orig.Keeps κ s) :
    orig.Keeps κ (State.raise s v) := by
  unfold State.raise
  try dsimp only
  repeat' with_reducible first
    | exact State.Keeps.refl _ | assumption | apply keeps_notifyAll | split
    | fail_if_no_progress refine keeps_mk (Memory.Kept.refl _) ?_

theorem keeps_canSend {orig s : State} {cls ident : Nat} {data : List Byte} (hk : orig.Keeps κ s) :
    orig.Keeps κ (State.canSend s cls ident data) := by
  unfold State.canSend
  try dsimp only
  repeat' with_reducible first
    | exact State.Keeps.refl _ | assumption | apply keeps_emit | apply keeps_bump64 | split
    | fail_if_no_progress refine keeps_mk (Memory.Kept.refl _) ?_

theorem keeps_alert {orig s : State} {code key data : Nat} (hk : orig.Keeps κ s) :
    orig.Keeps κ (State.alert s code key data) := by
  unfold State.alert
  try dsimp only
  repeat' with_reducible first
    | exact State.Keeps.refl _ | assumption | apply keeps_bump32 | apply keeps_canSend | split
    | fail_if_no_progress refine keeps_mk (Memory.Kept.refl _) ?_

theorem keeps_present {orig s : State} {c n : Nat} {k : Asker} {len : Nat} (hk : orig.Keeps κ s) :
    orig.Keeps κ (State.present s c n k len) := by
  unfold State.present
  try dsimp only
  repeat' with_reducible first
    | exact State.Keeps.refl _ | assumption | split | fail_if_no_progress refine keeps_mk (Memory.Kept.refl _) ?_

theorem keeps_arbDiscard {orig s : State} {f : Nat → Bool} (hk : orig.Keeps κ s) :
    orig.Keeps κ (State.arbDiscard s f) := by
  unfold State.arbDiscard
  try dsimp only
  repeat' with_reducible first
    | exact State.Keeps.refl _ | assumption | split | fail_if_no_progress refine keeps_mk (Memory.Kept.refl _) ?_

theorem keeps_notePeak {orig s : State} {p stack : Nat} (hk : orig.Keeps κ s) :
    orig.Keeps κ (State.notePeak s p stack) := by
  unfold State.notePeak
  try dsimp only
  repeat' with_reducible first | exact State.Keeps.refl _ | assumption | apply keeps_setOd | split

theorem keeps_admit {orig s : State} {p j : Nat} (hk : orig.Keeps κ s) :
    orig.Keeps κ (State.letIn s p j) := by
  unfold State.letIn
  try dsimp only
  repeat' with_reducible first
    | exact State.Keeps.refl _ | assumption | apply keeps_modPier | apply keeps_notePeak | apply keeps_present
    | split

theorem keeps_serveFirst {orig s : State} {p : Nat} {f : MemReq → Bool} (hk : orig.Keeps κ s) :
    orig.Keeps κ (State.serveFirst s p f) := by
  unfold State.serveFirst
  try dsimp only
  repeat' with_reducible first | exact State.Keeps.refl _ | assumption | apply keeps_modPier

theorem keeps_issueReq {orig s : State} {p j : Nat} (hk : orig.Keeps κ s) :
    orig.Keeps κ (State.issueReq s p j) := by
  unfold State.issueReq
  try dsimp only
  repeat' with_reducible first
    | exact State.Keeps.refl _ | assumption | apply keeps_modPier | apply keeps_admit | apply keeps_bump64 | split

theorem keeps_issueAll {orig s : State} {p source x3 : Nat} (hk : orig.Keeps κ s) :
    orig.Keeps κ (State.issueAll s p source x3) := by
  induction x3 generalizing s with
  | zero => exact hk
  | succ n ih =>
    unfold State.issueAll
    try dsimp only
    repeat' with_reducible first
      | apply ih | exact State.Keeps.refl _ | assumption | apply keeps_serveFirst | apply keeps_issueReq | split

theorem keeps_issueOn {orig s : State} {p : Nat} (hk : orig.Keeps κ s) :
    orig.Keeps κ (State.issueOn s p) := by
  unfold State.issueOn
  try dsimp only
  repeat' with_reducible first
    | exact State.Keeps.refl _ | assumption | apply keeps_issueAll | split | apply keeps_foldl
    | apply keeps_foldl_fst | intro _

theorem keeps_request {orig s : State} {p : Nat} {k : Asker} {granule : Nat} {fill : Bool} (hk : orig.Keeps κ s) :
    orig.Keeps κ (State.request s p k granule fill) := by
  unfold State.request
  try dsimp only
  repeat' with_reducible first | exact State.Keeps.refl _ | assumption | apply keeps_modPier | apply keeps_issueAll

theorem keeps_endReqs {orig s : State} {f : Nat → Bool} (hk : orig.Keeps κ s) :
    orig.Keeps κ (State.endReqs s f) := by
  unfold State.endReqs
  try dsimp only
  repeat' with_reducible first | exact State.Keeps.refl _ | assumption | apply keeps_modPier | apply keeps_issueOn

theorem keeps_dropReqs {orig s : State} {ident : Nat} (hk : orig.Keeps κ s) :
    orig.Keeps κ (State.dropReqs s ident) := by
  unfold State.dropReqs
  try dsimp only
  repeat' with_reducible first | exact State.Keeps.refl _ | assumption | apply keeps_endReqs

theorem keeps_setLine {orig s : State} {p k : Nat} {l : Line} (hk : orig.Keeps κ s) :
    orig.Keeps κ (State.setLine s p k l) := by
  unfold State.setLine
  try dsimp only
  repeat' with_reducible first | exact State.Keeps.refl _ | assumption | apply keeps_modPier

theorem keeps_persistentMem {orig s : State} {p stack channel cause : Nat} (hk : orig.Keeps κ s) :
    orig.Keeps κ (State.persistentMem s p stack channel cause) := by
  unfold State.persistentMem
  try dsimp only
  repeat' with_reducible first
    | exact State.Keeps.refl _ | assumption | apply keeps_markFaulted | apply keeps_setOd | apply keeps_raise
    | apply keeps_alert | split | fail_if_no_progress refine keeps_mk (Memory.Kept.refl _) ?_

theorem keeps_cureCells {orig s : State} {p off : Nat} (hk : orig.Keeps κ s) :
    orig.Keeps κ (State.cureCells s p off) := by
  unfold State.cureCells
  try dsimp only
  repeat' with_reducible first
    | exact State.Keeps.refl _ | assumption | split | fail_if_no_progress refine keeps_mk (Memory.Kept.refl _) ?_

theorem keeps_correctOne {orig s : State} {p off : Nat} {c : Nat × Nat} (hk : orig.Keeps κ s) :
    orig.Keeps κ (State.correctOne s p off c) := by
  unfold State.correctOne
  try dsimp only
  repeat' with_reducible first
    | exact State.Keeps.refl _ | assumption | apply keeps_bump64 | apply keeps_setOd | apply keeps_persistentMem
    | split | fail_if_no_progress refine keeps_mk (Memory.Kept.refl _) ?_

theorem keeps_uncorrectable {orig s : State} {p off : Nat} {e : CellErr} {pattern : List Byte} {kept : Bool} (hk :
    orig.Keeps false s) :
    orig.Keeps false (State.uncorrectable s p off e pattern kept) := by
  unfold State.uncorrectable
  try dsimp only
  repeat' with_reducible first
    | exact State.Keeps.refl _ | assumption | apply keeps_bump32 | apply keeps_setOd | apply keeps_raise
    | apply keeps_markFaulted | apply keeps_setBytes | apply keeps_persistentMem | apply keeps_cureCells | split

theorem keeps_meetGranule {orig s : State} {p off : Nat} {pattern : List Byte} {kept : Bool} (hk : orig.Keeps false s) :
    orig.Keeps false (State.meetGranule s p off pattern kept) := by
  unfold State.meetGranule
  try dsimp only
  repeat' with_reducible first
    | exact State.Keeps.refl _ | assumption | apply keeps_uncorrectable | apply keeps_correctOne
    | apply keeps_cureCells | split | apply keeps_foldl | apply keeps_foldl_fst | intro _

theorem keeps_bankRead {orig s : State} {p off : Nat} {k : Asker} {fill : Bool} {pattern : List Byte} (hk :
    orig.Keeps false s) :
    orig.Keeps false (State.bankRead s p off k fill pattern) := by
  unfold State.bankRead
  try dsimp only
  repeat' with_reducible first | exact State.Keeps.refl _ | assumption | apply keeps_meetGranule | apply keeps_request

theorem keeps_bankWrite {orig s : State} {p off : Nat} {k : Asker} (hk : orig.Keeps κ s) :
    orig.Keeps κ (State.bankWrite s p off k) := by
  unfold State.bankWrite
  try dsimp only
  repeat' with_reducible first | exact State.Keeps.refl _ | assumption | apply keeps_cureCells | apply keeps_request

theorem keeps_writeBack {orig s : State} {p j : Nat} {k : Asker} (hk : orig.Keeps κ s) :
    orig.Keeps κ (State.writeBack s p j k) := by
  unfold State.writeBack
  try dsimp only
  repeat' with_reducible first
    | exact State.Keeps.refl _ | assumption | apply keeps_bump64 | apply keeps_setLine | apply keeps_bankWrite
    | split

theorem keeps_victim {orig s : State} {p off : Nat} (hk : orig.Keeps κ s) :
    orig.Keeps κ (State.victim s p off).1 := by
  unfold State.victim
  try dsimp only
  repeat' with_reducible first
    | exact State.Keeps.refl _ | assumption | apply keeps_setLine | split | apply keeps_foldl
    | apply keeps_foldl_fst | fail_if_no_progress refine keeps_mk (Memory.Kept.refl _) ?_ | intro _

theorem keeps_girderFill {orig s : State} {p off age : Nat} {pin dirty : Bool} {k : Asker} (hk : orig.Keeps κ s) :
    orig.Keeps κ (State.girderFill s p off age pin dirty k) := by
  unfold State.girderFill
  try dsimp only
  repeat' with_reducible first
    | exact State.Keeps.refl _ | assumption | apply keeps_bump32 | apply keeps_victim | apply keeps_writeBack
    | apply keeps_setLine | split

theorem keeps_lineFlaw {orig s : State} {p off j : Nat} {k : Asker} {pattern : List Byte} (hk : orig.Keeps false s) :
    orig.Keeps false (State.lineFlaw s p off j k pattern) := by
  unfold State.lineFlaw
  try dsimp only
  repeat' with_reducible first
    | exact State.Keeps.refl _ | assumption | apply keeps_setLine | apply keeps_uncorrectable | apply keeps_bankRead
    | split

theorem keeps_girder {orig s : State} {p off : Nat} {wr whole : Bool} {hint : Nat} {k : Asker} {pattern : List
    Byte} (hk : orig.Keeps false s) :
    orig.Keeps false (State.girder s p off wr whole hint k pattern) := by
  unfold State.girder
  try dsimp only
  repeat' with_reducible first
    | exact State.Keeps.refl _ | assumption | apply keeps_present | apply keeps_bump64 | apply keeps_setLine
    | apply keeps_bankWrite | apply keeps_lineFlaw | apply keeps_bump32 | apply keeps_girderFill
    | apply keeps_bankRead | split

theorem keeps_adderEvict {orig s : State} {p off : Nat} {k : Asker} {pattern : List Byte} (hk : orig.Keeps false s) :
    orig.Keeps false (State.adderEvict s p off k pattern) := by
  unfold State.adderEvict
  try dsimp only
  repeat' with_reducible first
    | exact State.Keeps.refl _ | assumption | apply keeps_writeBack | apply keeps_setLine | apply keeps_bump64
    | apply keeps_present | apply keeps_bankRead | split

theorem keeps_girderRun {orig s : State} {p off n : Nat} {wr : Bool} {hint : Nat} {k : Asker} {pattern : List
    Byte} (hk : orig.Keeps false s) :
    orig.Keeps false (State.girderRun s p off n wr hint k pattern) := by
  unfold State.girderRun
  try dsimp only
  repeat' with_reducible first
    | exact State.Keeps.refl _ | assumption | apply keeps_girder | split | apply keeps_foldl | apply keeps_foldl_fst
    | intro _

theorem keeps_advSeq {orig s : State} {r : Ring} (hk : orig.Keeps κ s) :
    orig.Keeps κ (State.advSeq s r) := by
  unfold State.advSeq
  try dsimp only
  repeat' with_reducible first
    | exact State.Keeps.refl _ | assumption | split | fail_if_no_progress refine keeps_mk (Memory.Kept.refl _) ?_

theorem keeps_ringWrite {orig s : State} {r : Ring} {record : Nat} (hk : orig.Keeps false s) :
    orig.Keeps false (State.ringWrite s r record) := by
  unfold State.ringWrite
  try dsimp only
  repeat' with_reducible first
    | exact State.Keeps.refl _ | assumption | apply keeps_girderRun | apply keeps_setNum | apply keeps_setOd
    | apply keeps_raise

theorem keeps_ringPut {orig s : State} {r : Ring} {record : Nat → Nat} (hk : orig.Keeps false s) :
    orig.Keeps false (State.ringPut s r record) := by
  unfold State.ringPut
  try dsimp only
  repeat' with_reducible first
    | exact State.Keeps.refl _ | assumption | apply keeps_advSeq | apply keeps_bump32 | apply keeps_ringWrite
    | split

theorem keeps_ringTail {orig s : State} {r : Ring} {t : Nat} (hk : orig.Keeps false s) :
    orig.Keeps false (State.ringTail s r t) := by
  unfold State.ringTail
  try dsimp only
  repeat' with_reducible first
    | exact State.Keeps.refl _ | assumption | apply keeps_setOd | apply keeps_advSeq | apply keeps_ringWrite | split

theorem keeps_streamFault {orig s : State} {p q code pc sc1 exec addr owner operand : Nat} (hk : orig.Keeps false s) :
    orig.Keeps false (State.streamFault s p q code pc sc1 exec addr owner operand) := by
  unfold State.streamFault
  try dsimp only
  repeat' with_reducible first
    | exact State.Keeps.refl _ | assumption | apply keeps_ringPut | apply keeps_markFaulted | split

theorem keeps_queueFault {orig s : State} {p q pc sc1 sc2 : Nat} (hk : orig.Keeps κ s) :
    orig.Keeps κ (State.queueFault s p q pc sc1 sc2) := by
  unfold State.queueFault
  try dsimp only
  repeat' with_reducible first | exact State.Keeps.refl _ | assumption | apply keeps_setQueue | split

theorem keeps_noteWaits {orig s : State} {p : Nat} (hk : orig.Keeps κ s) :
    orig.Keeps κ (State.noteWaits s p) := by
  unfold State.noteWaits
  try dsimp only
  repeat' with_reducible first | exact State.Keeps.refl _ | assumption | apply keeps_modPier

theorem keeps_setCounter {orig s : State} {p c v : Nat} (hk : orig.Keeps κ s) :
    orig.Keeps κ (State.setCounter s p c v) := by
  unfold State.setCounter
  try dsimp only
  repeat' with_reducible first | exact State.Keeps.refl _ | assumption | apply keeps_modPier | apply keeps_noteWaits

theorem keeps_addCounter {orig s : State} {p c n : Nat} (hk : orig.Keeps κ s) :
    orig.Keeps κ (State.addCounter s p c n) := by
  unfold State.addCounter
  try dsimp only
  repeat' with_reducible first | exact State.Keeps.refl _ | assumption | apply keeps_setCounter

theorem keeps_setFlag {orig s : State} {p f : Nat} {b : Bool} (hk : orig.Keeps κ s) :
    orig.Keeps κ (State.setFlag s p f b) := by
  unfold State.setFlag
  try dsimp only
  repeat' with_reducible first
    | exact State.Keeps.refl _ | assumption | apply keeps_modPier | apply keeps_noteWaits | split

theorem keeps_postSignal {orig s : State} {p w : Nat} (hk : orig.Keeps κ s) :
    orig.Keeps κ (State.postSignal s p w) := by
  unfold State.postSignal
  try dsimp only
  repeat' with_reducible first
    | exact State.Keeps.refl _ | assumption | apply keeps_addCounter | apply keeps_setFlag | apply keeps_raise
    | split

theorem keeps_guardBegin {orig s : State} {r : Nat} (hk : orig.Keeps κ s) :
    orig.Keeps κ (State.guardBegin s r) := by
  unfold State.guardBegin
  try dsimp only
  repeat' with_reducible first | exact State.Keeps.refl _ | assumption | apply keeps_bump32 | apply keeps_setOd

theorem keeps_guardEnd {orig s : State} {r : Nat} (hk : orig.Keeps κ s) :
    orig.Keeps κ (State.guardEnd s r) := by
  unfold State.guardEnd
  try dsimp only
  repeat' with_reducible first | exact State.Keeps.refl _ | assumption | apply keeps_setOd

theorem keeps_beginAttempt {orig s : State}  (hk : orig.Keeps κ s) :
    orig.Keeps κ (State.beginAttempt s) := by
  unfold State.beginAttempt
  try dsimp only
  repeat' with_reducible first
    | exact State.Keeps.refl _ | assumption | split | fail_if_no_progress refine keeps_mk (Memory.Kept.refl _) ?_

theorem keeps_setCluster {orig s : State} {c : Nat} {v : ClusterState} (hk : orig.Keeps κ s) :
    orig.Keeps κ (State.setCluster s c v) := by
  unfold State.setCluster
  try dsimp only
  repeat' with_reducible first
    | exact State.Keeps.refl _ | assumption | split | fail_if_no_progress refine keeps_mk (Memory.Kept.refl _) ?_

theorem keeps_fetch {orig s : State} {p q off n : Nat} (hk : orig.Keeps false s) :
    orig.Keeps false (State.fetch s p q off n) := by
  unfold State.fetch
  try dsimp only
  repeat' with_reducible first | exact State.Keeps.refl _ | assumption | apply keeps_girderRun

theorem keeps_takeHead {orig s : State} {p q : Nat} (hk : orig.Keeps false s) :
    orig.Keeps false (State.takeHead s p q) := by
  unfold State.takeHead
  try dsimp only
  repeat' with_reducible first
    | exact State.Keeps.refl _ | assumption | apply keeps_fetch | apply keeps_setQueue | apply keeps_noteWaits
    | split

theorem keeps_queueCommand {orig s : State} {p q code : Nat} (hk : orig.Keeps false s) :
    orig.Keeps false (State.queueCommand s p q code).1 := by
  unfold State.queueCommand
  try dsimp only
  repeat' with_reducible first
    | exact State.Keeps.refl _ | assumption | apply keeps_beginAttempt | apply keeps_setQueue | apply keeps_takeHead
    | apply keeps_setCluster | apply keeps_arbDiscard | split

theorem keeps_writeBlock {orig s : State} {p q lo : Nat} {bs : List Byte} (hk : orig.Keeps false s) :
    orig.Keeps false (State.writeBlock s p q lo bs) := by
  unfold State.writeBlock
  try dsimp only
  repeat' with_reducible first
    | exact State.Keeps.refl _ | assumption | apply keeps_setQueue | apply keeps_queueCommand | split

theorem keeps_ctlWriteArea {orig s : State} {p off : Nat} {bs : List Byte} (hk : orig.Keeps false s) :
    orig.Keeps false (State.ctlWriteArea s p off bs) := by
  unfold State.ctlWriteArea
  try dsimp only
  repeat' with_reducible first
    | exact State.Keeps.refl _ | assumption | apply keeps_setBytes | apply keeps_setCounter | apply keeps_setFlag
    | apply keeps_writeBlock | split | apply keeps_foldl | apply keeps_foldl_fst | intro _

theorem keeps_ctlWrite {orig s : State} {p x2 x3 : Nat} {x4 : List Byte} (hk : orig.Keeps false s) :
    orig.Keeps false (State.ctlWrite s p x2 x3 x4) := by
  induction x2 generalizing s x3 x4 with
  | zero => exact hk
  | succ n ih =>
    unfold State.ctlWrite; dsimp only; split
    · exact hk
    · exact ih (keeps_ctlWriteArea hk)

theorem keeps_snoopLine {orig s : State} {l : Nat} (hk : orig.Keeps κ s) :
    orig.Keeps κ (State.snoopLine s l) := by
  unfold State.snoopLine
  try dsimp only
  repeat' with_reducible first
    | exact State.Keeps.refl _ | assumption | apply keeps_emit | apply keeps_bump64 | split
    | fail_if_no_progress refine keeps_mk (Memory.Kept.refl _) ?_

theorem keeps_slowLineWrite {orig s : State} {k : Nat} {bs : List Byte} (hk : orig.Keeps false s) :
    orig.Keeps false (State.slowLineWrite s k bs) := by
  unfold State.slowLineWrite
  try dsimp only
  repeat' with_reducible first
    | exact State.Keeps.refl _ | assumption | apply keeps_snoopLine | apply keeps_setBytes | split
    | fail_if_no_progress refine keeps_mk (Memory.Kept.refl _) ?_

theorem keeps_putBytes {orig s : State} {l : List (Nat × Byte)} (hk : orig.Keeps false s) :
    orig.Keeps false (State.putBytes s l) := by
  unfold State.putBytes
  try dsimp only
  repeat' with_reducible first
    | exact State.Keeps.refl _ | assumption | apply keeps_setBytes | split | apply keeps_foldl
    | apply keeps_foldl_fst | intro _

theorem keeps_settleSnoops {orig s : State}  (hk : orig.Keeps false s) :
    orig.Keeps false (State.settleSnoops s) := by
  unfold State.settleSnoops
  try dsimp only
  repeat' with_reducible first
    | exact State.Keeps.refl _ | assumption | apply keeps_putBytes | split
    | fail_if_no_progress refine keeps_mk (Memory.Kept.refl _) ?_

theorem keeps_slowWrite {orig s : State} {x1 x2 : Nat} {x3 : List Byte} (hk : orig.Keeps false s) :
    orig.Keeps false (State.slowWrite s x1 x2 x3) := by
  induction x1 generalizing s x2 x3 with
  | zero => exact hk
  | succ n ih =>
    unfold State.slowWrite; dsimp only; split
    · exact hk
    · exact ih (keeps_slowLineWrite hk)

theorem keeps_write {orig s : State} {k : Nat} {bs : List Byte} (hk : orig.Keeps false s) :
    orig.Keeps false (State.write s k bs) := by
  unfold State.write
  try dsimp only
  repeat' with_reducible first
    | exact State.Keeps.refl _ | assumption | apply keeps_markFaulted | apply keeps_slowWrite | apply keeps_ctlWrite
    | apply keeps_setBytes | split

theorem keeps_setArbInst {orig s : State} {c n : Nat} {v : ArbInst} (hk : orig.Keeps κ s) :
    orig.Keeps κ (State.setArbInst s c n v) := by
  unfold State.setArbInst
  try dsimp only
  repeat' with_reducible first
    | exact State.Keeps.refl _ | assumption | split | fail_if_no_progress refine keeps_mk (Memory.Kept.refl _) ?_

theorem keeps_ledger {orig s : State} {c o sub n : Nat} (hk : orig.Keeps κ s) :
    orig.Keeps κ (State.ledger s c o sub n) := by
  unfold State.ledger
  try dsimp only
  repeat' with_reducible first | exact State.Keeps.refl _ | assumption | apply keeps_bump64

theorem keeps_arbElapse {orig s : State} {c n cycles beats : Nat} (hk : orig.Keeps κ s) :
    orig.Keeps κ (State.arbElapse s c n cycles beats) := by
  unfold State.arbElapse
  try dsimp only
  repeat' with_reducible first
    | exact State.Keeps.refl _ | assumption | apply keeps_ledger | apply keeps_setArbInst | split
    | apply keeps_foldl | apply keeps_foldl_fst | fail_if_no_progress refine keeps_mk (Memory.Kept.refl _) ?_ | intro _

theorem keeps_arbGrantNew {orig s : State} {c n : Nat} {r : ArbReq} (hk : orig.Keeps κ s) :
    orig.Keeps κ (State.arbGrantNew s c n r) := by
  unfold State.arbGrantNew
  try dsimp only
  repeat' with_reducible first | exact State.Keeps.refl _ | assumption | apply keeps_setArbInst | apply keeps_ledger

theorem keeps_arbResume {orig s : State} {c n : Nat} {r : ArbReq} (hk : orig.Keeps κ s) :
    orig.Keeps κ (State.arbResume s c n r) := by
  unfold State.arbResume
  try dsimp only
  repeat' with_reducible first | exact State.Keeps.refl _ | assumption | apply keeps_setArbInst

theorem keeps_arbTake {orig s : State} {c n : Nat} {x3 : Pick} (hk : orig.Keeps κ s) :
    orig.Keeps κ (State.arbTake s c n x3) := by
  unfold State.arbTake
  try dsimp only
  repeat' with_reducible first
    | exact State.Keeps.refl _ | assumption | apply keeps_arbGrantNew | apply keeps_arbResume | split

theorem keeps_arbRequest {orig s : State} {c n cycles beats origin input len : Nat} (hk : orig.Keeps κ s) :
    orig.Keeps κ (State.arbRequest s c n cycles beats origin input len) := by
  unfold State.arbRequest
  try dsimp only
  repeat' with_reducible first
    | exact State.Keeps.refl _ | assumption | apply keeps_arbElapse | apply keeps_setArbInst | split
    | fail_if_no_progress refine keeps_mk (Memory.Kept.refl _) ?_

theorem keeps_arbGrant {orig s : State} {c n cycles beats : Nat} (hk : orig.Keeps κ s) :
    orig.Keeps κ (State.arbGrant s c n cycles beats) := by
  unfold State.arbGrant
  try dsimp only
  repeat' with_reducible first
    | exact State.Keeps.refl _ | assumption | apply keeps_arbElapse | apply keeps_arbTake | apply keeps_setArbInst
    | apply keeps_ledger | split

theorem keeps_channelServed {orig s : State} {c n origin : Nat} (hk : orig.Keeps κ s) :
    orig.Keeps κ (State.channelServed s c n origin) := by
  unfold State.channelServed
  try dsimp only
  repeat' with_reducible first | exact State.Keeps.refl _ | assumption | apply keeps_serveFirst | split

theorem keeps_arbEnd {orig s : State} {c n cycles beats : Nat} (hk : orig.Keeps κ s) :
    orig.Keeps κ (State.arbEnd s c n cycles beats) := by
  unfold State.arbEnd
  try dsimp only
  repeat' with_reducible first
    | exact State.Keeps.refl _ | assumption | apply keeps_arbElapse | apply keeps_setArbInst
    | apply keeps_channelServed | split

theorem keeps_arbEvent {orig s : State} {c code origin d0 d1 : Nat} (hk : orig.Keeps false s) :
    orig.Keeps false (State.arbEvent s c code origin d0 d1) := by
  unfold State.arbEvent
  try dsimp only
  repeat' with_reducible first | exact State.Keeps.refl _ | assumption | apply keeps_ringPut

theorem keeps_arbCutoff {orig s : State} {c n cycles beats : Nat} (hk : orig.Keeps false s) :
    orig.Keeps false (State.arbCutoff s c n cycles beats) := by
  unfold State.arbCutoff
  try dsimp only
  repeat' with_reducible first
    | exact State.Keeps.refl _ | assumption | apply keeps_arbElapse | apply keeps_setArbInst | apply keeps_bump32
    | apply keeps_setOnce | apply keeps_arbEvent | split

theorem keeps_arbWindow {orig s : State} {c n : Nat} (hk : orig.Keeps κ s) :
    orig.Keeps κ (State.arbWindow s c n) := by
  unfold State.arbWindow
  try dsimp only
  repeat' with_reducible first
    | exact State.Keeps.refl _ | assumption | apply keeps_ledger | apply keeps_setArbInst | split
    | apply keeps_foldl | apply keeps_foldl_fst | fail_if_no_progress refine keeps_mk (Memory.Kept.refl _) ?_ | intro _

theorem keeps_adaptOne {orig s : State} {c : Nat} {starved : Bool} {o : Nat} (hk : orig.Keeps false s) :
    orig.Keeps false (State.adaptOne s c starved o) := by
  unfold State.adaptOne
  try dsimp only
  repeat' with_reducible first
    | exact State.Keeps.refl _ | assumption | apply keeps_bump32 | apply keeps_arbEvent | split
    | fail_if_no_progress refine keeps_mk (Memory.Kept.refl _) ?_

theorem keeps_adaptClass {orig s : State} {c : Nat} (hk : orig.Keeps false s) :
    orig.Keeps false (State.adaptClass s c) := by
  unfold State.adaptClass
  try dsimp only
  repeat' with_reducible first
    | exact State.Keeps.refl _ | assumption | apply keeps_adaptOne | split | apply keeps_foldl
    | apply keeps_foldl_fst | fail_if_no_progress refine keeps_mk (Memory.Kept.refl _) ?_ | intro _

theorem keeps_mapInsts {orig s : State} {f : Nat → ArbInst → ArbInst} (hk : orig.Keeps κ s) :
    orig.Keeps κ (State.mapInsts s f) := by
  unfold State.mapInsts
  try dsimp only
  repeat' with_reducible first
    | exact State.Keeps.refl _ | assumption | split | fail_if_no_progress refine keeps_mk (Memory.Kept.refl _) ?_

theorem keeps_arbRaise {orig s : State} {o : Nat} (hk : orig.Keeps κ s) :
    orig.Keeps κ (State.arbRaise s o) := by
  unfold State.arbRaise
  try dsimp only
  repeat' with_reducible first
    | exact State.Keeps.refl _ | assumption | apply keeps_mapInsts | split | apply keeps_foldl
    | apply keeps_foldl_fst | fail_if_no_progress refine keeps_mk (Memory.Kept.refl _) ?_ | intro _

theorem keeps_arbLower {orig s : State} {o : Nat} (hk : orig.Keeps κ s) :
    orig.Keeps κ (State.arbLower s o) := by
  unfold State.arbLower
  try dsimp only
  repeat' with_reducible first
    | exact State.Keeps.refl _ | assumption | apply keeps_mapInsts | split | apply keeps_foldl
    | apply keeps_foldl_fst | fail_if_no_progress refine keeps_mk (Memory.Kept.refl _) ?_ | intro _

theorem keeps_priorityWrite {orig s : State} {o v : Nat} (hk : orig.Keeps κ s) :
    orig.Keeps κ (State.priorityWrite s o v).2 := by
  unfold State.priorityWrite
  try dsimp only
  repeat' with_reducible first
    | exact State.Keeps.refl _ | assumption | apply keeps_arbLower | apply keeps_arbRaise | apply keeps_setOd
    | split | fail_if_no_progress refine keeps_mk (Memory.Kept.refl _) ?_

theorem keeps_ledgerClear {orig s : State}  (hk : orig.Keeps κ s) :
    orig.Keeps κ (State.ledgerClear s) := by
  unfold State.ledgerClear
  try dsimp only
  repeat' with_reducible first
    | exact State.Keeps.refl _ | assumption | split | fail_if_no_progress refine keeps_mk (Memory.Kept.refl _) ?_

theorem keeps_setRegionOwner {orig s : State} {r o : Nat} (hk : orig.Keeps κ s) :
    orig.Keeps κ (State.setRegionOwner s r o) := by
  unfold State.setRegionOwner
  try dsimp only
  repeat' with_reducible first | exact State.Keeps.refl _ | assumption | apply keeps_modPier

theorem keeps_claim {orig s : State} {self : Nat} {rs : List Nat} (hk : orig.Keeps κ s) :
    orig.Keeps κ (State.claim s self rs).1 := by
  unfold State.claim
  try dsimp only
  repeat' with_reducible first
    | exact State.Keeps.refl _ | assumption | apply keeps_setRegionOwner | split | apply keeps_foldl
    | apply keeps_foldl_fst | intro _

theorem keeps_release {orig s : State} {self : Nat} {rs : List Nat} (hk : orig.Keeps κ s) :
    orig.Keeps κ (State.release s self rs) := by
  unfold State.release
  try dsimp only
  repeat' with_reducible first
    | exact State.Keeps.refl _ | assumption | apply keeps_setRegionOwner | split | apply keeps_foldl
    | apply keeps_foldl_fst | intro _

theorem keeps_putElemBut {orig s : State} {p self : Nat} {dn : List Nat} {a : Int} {n code : Nat} (hk : orig.Keeps false
    s) :
    orig.Keeps false (State.putElemBut s p self dn a n code) := by
  unfold State.putElemBut
  try dsimp only
  repeat' with_reducible first | exact State.Keeps.refl _ | assumption | apply keeps_write | split

theorem keeps_putElem {orig s : State} {p self : Nat} {a : Int} {n code : Nat} (hk : orig.Keeps false s) :
    orig.Keeps false (State.putElem s p self a n code) := by
  unfold State.putElem
  try dsimp only
  repeat' with_reducible first | exact State.Keeps.refl _ | assumption | apply keeps_putElemBut

theorem keeps_writeBlockMx {orig s : State} {p self : Nat} {dn : List Nat} {l : Held} {ws : List (Nat × EVal)} {b
    n : Nat} (hk : orig.Keeps false s) :
    orig.Keeps false (State.writeBlockMx s p self dn l ws b n).1 := by
  unfold State.writeBlockMx
  try dsimp only
  repeat' with_reducible first
    | exact State.Keeps.refl _ | assumption | apply keeps_putElemBut | split | apply keeps_foldl
    | apply keeps_foldl_fst | fail_if_no_progress refine keeps_mk (Memory.Kept.refl _) ?_ | intro _

theorem keeps_writeElemsBut {orig s : State} {p self : Nat} {dn : List Nat} {l : Held} {ws : List (Nat × EVal)}
    (hk : orig.Keeps false s) :
    orig.Keeps false (State.writeElemsBut s p self dn l ws).1 := by
  unfold State.writeElemsBut
  try dsimp only
  repeat' with_reducible first
    | exact State.Keeps.refl _ | assumption | apply keeps_writeBlockMx | apply keeps_putElemBut | split
    | apply keeps_foldl | apply keeps_foldl_fst | fail_if_no_progress refine keeps_mk (Memory.Kept.refl _) ?_ | intro _

theorem keeps_writeElems {orig s : State} {p self : Nat} {l : Held} {ws : List (Nat × EVal)} (hk : orig.Keeps false s) :
    orig.Keeps false (State.writeElems s p self l ws).1 := by
  unfold State.writeElems
  try dsimp only
  repeat' with_reducible first | exact State.Keeps.refl _ | assumption | apply keeps_writeElemsBut

theorem keeps_watchSet {orig s : State} {p bank set c v : Nat} (hk : orig.Keeps κ s) :
    orig.Keeps κ (State.watchSet s p bank set c v) := by
  unfold State.watchSet
  try dsimp only
  repeat' with_reducible first
    | exact State.Keeps.refl _ | assumption | split | fail_if_no_progress refine keeps_mk (Memory.Kept.refl _) ?_

theorem keeps_watchCount {orig s : State} {p gen set : Nat} {c : WCtr} {n : Nat} (hk : orig.Keeps κ s) :
    orig.Keeps κ (State.watchCount s p gen set c n) := by
  unfold State.watchCount
  try dsimp only
  repeat' with_reducible first | exact State.Keeps.refl _ | assumption | apply keeps_watchSet

theorem keeps_watchEventAt {orig s : State} {epoch attempt p code key d0 d1 : Nat} (hk : orig.Keeps false s) :
    orig.Keeps false (State.watchEventAt s epoch attempt p code key d0 d1) := by
  unfold State.watchEventAt
  try dsimp only
  repeat' with_reducible first | exact State.Keeps.refl _ | assumption | apply keeps_bump32 | apply keeps_ringPut

theorem keeps_watchEvent {orig s : State} {p code key d0 d1 : Nat} (hk : orig.Keeps false s) :
    orig.Keeps false (State.watchEvent s p code key d0 d1) := by
  unfold State.watchEvent
  try dsimp only
  repeat' with_reducible first | exact State.Keeps.refl _ | assumption | apply keeps_watchEventAt

theorem keeps_watchFirst {orig s : State} {p kind code set d0 d1 : Nat} (hk : orig.Keeps false s) :
    orig.Keeps false (State.watchFirst s p kind code set d0 d1) := by
  unfold State.watchFirst
  try dsimp only
  repeat' with_reducible first
    | exact State.Keeps.refl _ | assumption | apply keeps_setOnce | apply keeps_watchEvent | split

theorem keeps_watchElem {orig s : State} {p : Nat} {wr : Writer} {fmt set : Nat} {w : Wrote} (hk : orig.Keeps false s) :
    orig.Keeps false (State.watchElem s p wr fmt set w) := by
  unfold State.watchElem
  try dsimp only
  repeat' with_reducible first
    | exact State.Keeps.refl _ | assumption | apply keeps_watchCount | apply keeps_watchFirst | split
    | apply keeps_foldl | apply keeps_foldl_fst | fail_if_no_progress refine keeps_mk (Memory.Kept.refl _) ?_ | intro _

theorem keeps_setScaleExp {orig s : State} {p slot : Nat} {x : Int} (hk : orig.Keeps false s) :
    orig.Keeps false (State.setScaleExp s p slot x) := by
  unfold State.setScaleExp
  try dsimp only
  repeat' with_reducible first | exact State.Keeps.refl _ | assumption | apply keeps_setNum

theorem keeps_saveScale {orig s : State} {p slot : Nat} (hk : orig.Keeps κ s) :
    orig.Keeps κ (State.saveScale s p slot) := by
  unfold State.saveScale
  try dsimp only
  repeat' with_reducible first
    | exact State.Keeps.refl _ | assumption | split | fail_if_no_progress refine keeps_mk (Memory.Kept.refl _) ?_

theorem keeps_markCorrected {orig s : State}  (hk : orig.Keeps κ s) :
    orig.Keeps κ (State.markCorrected s) := by
  unfold State.markCorrected
  try dsimp only
  repeat' with_reducible first
    | exact State.Keeps.refl _ | assumption | split | fail_if_no_progress refine keeps_mk (Memory.Kept.refl _) ?_

theorem keeps_overflow {orig s : State} {p slot : Nat} (hk : orig.Keeps false s) :
    orig.Keeps false (State.overflow s p slot) := by
  unfold State.overflow
  try dsimp only
  repeat' with_reducible first
    | exact State.Keeps.refl _ | assumption | apply keeps_setOnce | apply keeps_watchEvent | apply keeps_saveScale
    | apply keeps_setScaleExp | apply keeps_setNum | apply keeps_markCorrected | split

theorem keeps_measure {orig s : State} {p slot : Nat} {v : Val} (hk : orig.Keeps false s) :
    orig.Keeps false (State.measure s p slot v) := by
  unfold State.measure
  try dsimp only
  repeat' with_reducible first | exact State.Keeps.refl _ | assumption | apply keeps_setNum | split

theorem keeps_trackElem {orig s : State} {p slot : Nat} {w : Wrote} (hk : orig.Keeps false s) :
    orig.Keeps false (State.trackElem s p slot w) := by
  unfold State.trackElem
  try dsimp only
  repeat' with_reducible first
    | exact State.Keeps.refl _ | assumption | apply keeps_measure | apply keeps_overflow | split

theorem keeps_trackCopied {orig s : State} {p : Nat} {d : Desc} {vs : List Val} (hk : orig.Keeps false s) :
    orig.Keeps false (State.trackCopied s p d vs) := by
  unfold State.trackCopied
  try dsimp only
  repeat' with_reducible first
    | exact State.Keeps.refl _ | assumption | apply keeps_measure | split | apply keeps_foldl
    | apply keeps_foldl_fst | intro _

theorem keeps_watchWrites {orig s : State} {p : Nat} {wr : Writer} {d : Desc} {ws : List Wrote} (hk : orig.Keeps false s) :
    orig.Keeps false (State.watchWrites s p wr d ws) := by
  unfold State.watchWrites
  try dsimp only
  repeat' with_reducible first
    | exact State.Keeps.refl _ | assumption | apply keeps_watchElem | apply keeps_trackElem | split
    | apply keeps_foldl | apply keeps_foldl_fst | intro _

theorem keeps_watchExport {orig s : State} {p : Nat} {wr : Writer} {d : Desc} {spill : Nat} {st : XaStat} (hk :
    orig.Keeps false s) :
    orig.Keeps false (State.watchExport s p wr d spill st) := by
  unfold State.watchExport
  try dsimp only
  repeat' with_reducible first
    | exact State.Keeps.refl _ | assumption | apply keeps_watchCount | apply keeps_watchFirst | split

theorem keeps_lastImage {orig s : State} {p set : Nat} (hk : orig.Keeps false s) :
    orig.Keeps false (State.lastImage s p set) := by
  unfold State.lastImage
  try dsimp only
  repeat' with_reducible first
    | exact State.Keeps.refl _ | assumption | apply keeps_girderRun | apply keeps_setNum | split | apply keeps_foldl
    | apply keeps_foldl_fst | intro _

theorem keeps_lastImages {orig s : State} {p : Nat} {sets : List Nat} (hk : orig.Keeps false s) :
    orig.Keeps false (State.lastImages s p sets) := by
  unfold State.lastImages
  try dsimp only
  repeat' with_reducible first
    | exact State.Keeps.refl _ | assumption | apply keeps_lastImage | split | apply keeps_foldl
    | apply keeps_foldl_fst | intro _

theorem keeps_silentCheck {orig s : State} {p : Nat} {c : WatchClose} {set : Nat} (hk : orig.Keeps false s) :
    orig.Keeps false (State.silentCheck s p c set) := by
  unfold State.silentCheck
  try dsimp only
  repeat' with_reducible first
    | exact State.Keeps.refl _ | assumption | apply keeps_watchSet | apply keeps_watchEventAt | split

theorem keeps_spillCheck {orig s : State} {p : Nat} {c : WatchClose} {set : Nat} (hk : orig.Keeps false s) :
    orig.Keeps false (State.spillCheck s p c set) := by
  unfold State.spillCheck
  try dsimp only
  repeat' with_reducible first | exact State.Keeps.refl _ | assumption | apply keeps_watchEventAt | split

theorem keeps_bankClose {orig s : State} {p : Nat} (hk : orig.Keeps false s) :
    orig.Keeps false (State.bankClose s p) := by
  unfold State.bankClose
  try dsimp only
  repeat' with_reducible first
    | exact State.Keeps.refl _ | assumption | apply keeps_modPier | apply keeps_lastImages | apply keeps_silentCheck
    | apply keeps_spillCheck | split | apply keeps_foldl | apply keeps_foldl_fst
    | fail_if_no_progress refine keeps_mk (Memory.Kept.refl _) ?_ | intro _

theorem keeps_bankFlip {orig s : State} {p epoch attempt : Nat} (hk : orig.Keeps κ s) :
    orig.Keeps κ (State.bankFlip s p epoch attempt) := by
  unfold State.bankFlip
  try dsimp only
  repeat' with_reducible first | exact State.Keeps.refl _ | assumption | apply keeps_modPier

theorem keeps_dropOpen {orig s : State} {p : Nat} (hk : orig.Keeps κ s) :
    orig.Keeps κ (State.dropOpen s p) := by
  unfold State.dropOpen
  try dsimp only
  repeat' with_reducible first
    | exact State.Keeps.refl _ | assumption | split | fail_if_no_progress refine keeps_mk (Memory.Kept.refl _) ?_

theorem keeps_watchReset {orig s : State} {p : Nat} (hk : orig.Keeps false s) :
    orig.Keeps false (State.watchReset s p) := by
  unfold State.watchReset
  try dsimp only
  repeat' with_reducible first
    | exact State.Keeps.refl _ | assumption | apply keeps_modPier | apply keeps_lastImages | split
    | fail_if_no_progress refine keeps_mk (Memory.Kept.refl _) ?_

theorem keeps_headFetch {orig s : State} {p q : Nat} (hk : orig.Keeps false s) :
    orig.Keeps false (State.headFetch s p q) := by
  unfold State.headFetch
  try dsimp only
  repeat' with_reducible first | exact State.Keeps.refl _ | assumption | apply keeps_fetch | split

theorem keeps_advance {orig s : State} {p q w : Nat} (hk : orig.Keeps false s) :
    orig.Keeps false (State.advance s p q w) := by
  unfold State.advance
  try dsimp only
  repeat' with_reducible first
    | exact State.Keeps.refl _ | assumption | apply keeps_setQueue | apply keeps_takeHead | apply keeps_bump64

theorem keeps_pushFlight {orig s : State} {p q : Nat} {f : Flight} (hk : orig.Keeps κ s) :
    orig.Keeps κ (State.pushFlight s p q f) := by
  unfold State.pushFlight
  try dsimp only
  repeat' with_reducible first
    | exact State.Keeps.refl _ | assumption | apply keeps_setQueue | apply keeps_modPier | apply keeps_setOd | split

theorem keeps_headFault {orig s : State} {p q code : Nat} (hk : orig.Keeps false s) :
    orig.Keeps false (State.headFault s p q code) := by
  unfold State.headFault
  try dsimp only
  repeat' with_reducible first
    | exact State.Keeps.refl _ | assumption | apply keeps_streamFault | apply keeps_queueFault

theorem keeps_descFault {orig s : State} {p q : Nat} {hs : List Nat} {pos : Nat → Nat} (hk : orig.Keeps false s) :
    orig.Keeps false (State.descFault s p q hs pos) := by
  unfold State.descFault
  try dsimp only
  repeat' with_reducible first
    | exact State.Keeps.refl _ | assumption | apply keeps_streamFault | apply keeps_queueFault

theorem keeps_operandFault {orig s : State} {p q : Nat} {f : Flight} {exec operand : Nat} {addr : Int} (hk :
    orig.Keeps false s) :
    orig.Keeps false (State.operandFault s p q f exec operand addr) := by
  unfold State.operandFault
  try dsimp only
  repeat' with_reducible first
    | exact State.Keeps.refl _ | assumption | apply keeps_streamFault | apply keeps_queueFault

theorem keeps_schedFault {orig s : State} {p q : Nat} {f : Flight} {exec addr owner operand : Nat} (hk :
    orig.Keeps false s) :
    orig.Keeps false (State.schedFault s p q f exec addr owner operand) := by
  unfold State.schedFault
  try dsimp only
  repeat' with_reducible first | exact State.Keeps.refl _ | assumption | apply keeps_streamFault

theorem keeps_setFlights {orig s : State} {p q : Nat} {fs : List Flight} (hk : orig.Keeps κ s) :
    orig.Keeps κ (State.setFlights s p q fs) := by
  unfold State.setFlights
  try dsimp only
  repeat' with_reducible first | exact State.Keeps.refl _ | assumption | apply keeps_setQueue

theorem keeps_issue {orig s : State} {p q op : Nat} {encOk : Nat → Bool} {go : State → Nat → State} (hk :
    orig.Keeps false s)
    (hgo : ∀ u w, State.Keeps false u (go u w)) :
    orig.Keeps false (State.issue s p q op encOk go) := by
  unfold State.issue
  try dsimp only
  repeat' with_reducible first
    | exact State.Keeps.refl _ | assumption | apply keeps_headFetch | apply keeps_headFault | split | intro _
    | dsimp only | exact hgo _ | exact hgo _ _ | exact State.Keeps.trans hk (hgo _)
    | refine State.Keeps.trans ?_ (hgo _) | refine State.Keeps.trans ?_ (hgo _ _)

theorem keeps_guardCheck {orig s : State} {p q : Nat} {f : Flight} {src : List Nat} (hk : orig.Keeps false s) :
    orig.Keeps false (State.guardCheck s p q f src).1 := by
  unfold State.guardCheck
  try dsimp only
  repeat' with_reducible first
    | exact State.Keeps.refl _ | assumption | apply keeps_bump32 | apply keeps_streamFault | split

theorem keeps_guardOnce {orig s : State} {runs : List (Nat × Nat)} (hk : orig.Keeps κ s) :
    orig.Keeps κ (State.guardOnce s runs) := by
  unfold State.guardOnce
  try dsimp only
  repeat' with_reducible first
    | exact State.Keeps.refl _ | assumption | apply keeps_bump32 | split | apply keeps_foldl | apply keeps_foldl_fst
    | intro _

theorem keeps_guardRuns {orig s : State} {gs : List Nat} {runs : List (Nat × Nat)} (hk : orig.Keeps κ s) :
    orig.Keeps κ (State.guardRuns s gs runs).1 := by
  unfold State.guardRuns
  try dsimp only
  repeat' with_reducible first
    | exact State.Keeps.refl _ | assumption | apply keeps_guardBegin | split | apply keeps_foldl
    | apply keeps_foldl_fst | intro _

theorem keeps_finish {orig s : State} {p self : Nat} {f : Flight} (hk : orig.Keeps κ s) :
    orig.Keeps κ (State.finish s p self f) := by
  unfold State.finish
  try dsimp only
  repeat' with_reducible first
    | exact State.Keeps.refl _ | assumption | apply keeps_guardEnd | apply keeps_release | apply keeps_postSignal
    | split | apply keeps_foldl | apply keeps_foldl_fst | intro _

theorem keeps_nullHead {orig s : State} {p q w : Nat} (hk : orig.Keeps false s) :
    orig.Keeps false (State.nullHead s p q w) := by
  unfold State.nullHead
  try dsimp only
  repeat' with_reducible first
    | exact State.Keeps.refl _ | assumption | apply keeps_advance | apply keeps_pushFlight | apply keeps_setFlights
    | apply keeps_postSignal | split

theorem keeps_windowLoaded {orig s : State} {p q : Nat} (hk : orig.Keeps false s) :
    orig.Keeps false (State.windowLoaded s p q) := by
  unfold State.windowLoaded
  try dsimp only
  repeat' with_reducible first
    | exact State.Keeps.refl _ | assumption | apply keeps_fetch | apply keeps_setQueue | apply keeps_takeHead
    | split

theorem keeps_queueDone {orig s : State} {p q : Nat} (hk : orig.Keeps κ s) :
    orig.Keeps κ (State.queueDone s p q) := by
  unfold State.queueDone
  try dsimp only
  repeat' with_reducible first | exact State.Keeps.refl _ | assumption | apply keeps_setQueue | split

theorem keeps_queueDrained {orig s : State} {p q : Nat} (hk : orig.Keeps κ s) :
    orig.Keeps κ (State.queueDrained s p q) := by
  unfold State.queueDrained
  try dsimp only
  repeat' with_reducible first | exact State.Keeps.refl _ | assumption | apply keeps_setQueue | split

theorem keeps_waitTimeout {orig s : State} {p q : Nat} (hk : orig.Keeps false s) :
    orig.Keeps false (State.waitTimeout s p q) := by
  unfold State.waitTimeout
  try dsimp only
  repeat' with_reducible first
    | exact State.Keeps.refl _ | assumption | apply keeps_streamFault | apply keeps_setQueue | split

theorem keeps_mirrorUpdate {orig s : State} {p : Nat} (hk : orig.Keeps κ s) :
    orig.Keeps κ (State.mirrorUpdate s p) := by
  unfold State.mirrorUpdate
  try dsimp only
  repeat' with_reducible first
    | exact State.Keeps.refl _ | assumption | apply keeps_modPier | apply keeps_noteWaits | split

theorem keeps_ilbenEvent {orig s : State} {code key d0 d1 : Nat} (hk : orig.Keeps false s) :
    orig.Keeps false (State.ilbenEvent s code key d0 d1) := by
  unfold State.ilbenEvent
  try dsimp only
  repeat' with_reducible first | exact State.Keeps.refl _ | assumption | apply keeps_ringPut

theorem keeps_meetSlow {orig s : State} {off : Nat} {e : CellErr} {pattern : List Byte} (hk : orig.Keeps false s) :
    orig.Keeps false (State.meetSlow s off e pattern) := by
  unfold State.meetSlow
  try dsimp only
  repeat' with_reducible first
    | exact State.Keeps.refl _ | assumption | apply keeps_bump64 | apply keeps_bump32 | apply keeps_ilbenEvent
    | apply keeps_raise | apply keeps_markFaulted | apply keeps_setBytes | apply keeps_persistentMem | split
    | fail_if_no_progress refine keeps_mk (Memory.Kept.refl _) ?_

theorem keeps_meetSlowRun {orig s : State} {off n : Nat} {pattern : List Byte} (hk : orig.Keeps false s) :
    orig.Keeps false (State.meetSlowRun s off n pattern) := by
  unfold State.meetSlowRun
  try dsimp only
  repeat' with_reducible first
    | exact State.Keeps.refl _ | assumption | apply keeps_meetSlow | split | apply keeps_foldl
    | apply keeps_foldl_fst | intro _

theorem keeps_presentRun {orig s : State} {who : Asker} {wr : Bool} {r : Nat × Nat} (hk : orig.Keeps κ s) :
    orig.Keeps κ (State.presentRun s who wr r) := by
  unfold State.presentRun
  try dsimp only
  repeat' with_reducible first | exact State.Keeps.refl _ | assumption | apply keeps_present | split

theorem keeps_touchReadRun {orig s : State} {who : Asker} {hint : Nat} {pattern : List Byte} {r : Nat × Nat} (hk :
    orig.Keeps false s) :
    orig.Keeps false (State.touchReadRun s who hint pattern r) := by
  unfold State.touchReadRun
  try dsimp only
  repeat' with_reducible first
    | exact State.Keeps.refl _ | assumption | apply keeps_markFaulted | apply keeps_presentRun
    | apply keeps_girderRun | apply keeps_meetSlowRun | apply keeps_bump64 | split

theorem keeps_touchRead {orig s : State} {who : Asker} {hint : Nat} {pattern : List Byte} {rs : List (Nat × Nat)}
    (hk : orig.Keeps false s) :
    orig.Keeps false (State.touchRead s who hint pattern rs) := by
  unfold State.touchRead
  try dsimp only
  repeat' with_reducible first
    | exact State.Keeps.refl _ | assumption | apply keeps_touchReadRun | split | apply keeps_foldl
    | apply keeps_foldl_fst | intro _

theorem keeps_touchWriteRun {orig s : State} {who : Asker} {hint : Nat} {pattern : List Byte} {r : Nat × Nat} (hk
    : orig.Keeps false s) :
    orig.Keeps false (State.touchWriteRun s who hint pattern r) := by
  unfold State.touchWriteRun
  try dsimp only
  repeat' with_reducible first
    | exact State.Keeps.refl _ | assumption | apply keeps_markFaulted | apply keeps_presentRun
    | apply keeps_girderRun | apply keeps_meetSlow | apply keeps_bump64 | split | apply keeps_foldl
    | apply keeps_foldl_fst | fail_if_no_progress refine keeps_mk (Memory.Kept.refl _) ?_ | intro _

theorem keeps_touchWrite {orig s : State} {who : Asker} {hint : Nat} {pattern : List Byte} {rs : List (Nat × Nat)}
    (hk : orig.Keeps false s) :
    orig.Keeps false (State.touchWrite s who hint pattern rs) := by
  unfold State.touchWrite
  try dsimp only
  repeat' with_reducible first
    | exact State.Keeps.refl _ | assumption | apply keeps_touchWriteRun | split | apply keeps_foldl
    | apply keeps_foldl_fst | intro _

theorem keeps_readRows {orig s : State} {p : Nat} {who : Asker} {l : Held} {rs ps : List (Int × Nat)} (hk :
    orig.Keeps false s) :
    orig.Keeps false (State.readRows s p who l rs ps) := by
  unfold State.readRows
  try dsimp only
  repeat' with_reducible first | exact State.Keeps.refl _ | assumption | apply keeps_touchRead | split

theorem keeps_writeRows {orig s : State} {p : Nat} {who : Asker} {l : Held} {rs ps : List (Int × Nat)} (hk :
    orig.Keeps false s) :
    orig.Keeps false (State.writeRows s p who l rs ps) := by
  unfold State.writeRows
  try dsimp only
  repeat' with_reducible first | exact State.Keeps.refl _ | assumption | apply keeps_touchWrite | split

theorem keeps_readOperand {orig s : State} {p : Nat} {who : Asker} {l : Held} (hk : orig.Keeps false s) :
    orig.Keeps false (State.readOperand s p who l) := by
  unfold State.readOperand
  try dsimp only
  repeat' with_reducible first | exact State.Keeps.refl _ | assumption | apply keeps_readRows

theorem keeps_writeOperand {orig s : State} {p : Nat} {who : Asker} {l : Held} (hk : orig.Keeps false s) :
    orig.Keeps false (State.writeOperand s p who l) := by
  unfold State.writeOperand
  try dsimp only
  repeat' with_reducible first | exact State.Keeps.refl _ | assumption | apply keeps_writeRows

theorem keeps_loadRun {orig s : State} {who : Asker} {k n : Nat} (hk : orig.Keeps false s) :
    orig.Keeps false (State.loadRun s who k n).1 := by
  unfold State.loadRun
  try dsimp only
  repeat' with_reducible first | exact State.Keeps.refl _ | assumption | apply keeps_touchReadRun

theorem keeps_storeRun {orig s : State} {who : Asker} {hint k : Nat} {bs : List Byte} (hk : orig.Keeps false s) :
    orig.Keeps false (State.storeRun s who hint k bs) := by
  unfold State.storeRun
  try dsimp only
  repeat' with_reducible first | exact State.Keeps.refl _ | assumption | apply keeps_touchWriteRun | apply keeps_write

theorem keeps_requestAdmit {orig s : State} {p bank served : Nat} (hk : orig.Keeps κ s) :
    orig.Keeps κ (State.requestAdmit s p bank served) := by
  unfold State.requestAdmit
  try dsimp only
  repeat' with_reducible first
    | exact State.Keeps.refl _ | assumption | apply keeps_serveFirst | apply keeps_issueOn | apply keeps_admit
    | split

theorem keeps_scrub {orig s : State} {p : Nat} (hk : orig.Keeps false s) :
    orig.Keeps false (State.scrub s p) := by
  unfold State.scrub
  try dsimp only
  repeat' with_reducible first
    | exact State.Keeps.refl _ | assumption | apply keeps_meetGranule | apply keeps_bump32 | split
    | apply keeps_foldl | apply keeps_foldl_fst | intro _

theorem keeps_newErrors {orig s : State} {p : Nat} {x : FreshErrors} (hk : orig.Keeps κ s) :
    orig.Keeps κ (State.newErrors s p x) := by
  unfold State.newErrors
  try dsimp only
  repeat' with_reducible first
    | exact State.Keeps.refl _ | assumption | apply keeps_setLine | split | apply keeps_foldl
    | apply keeps_foldl_fst | fail_if_no_progress refine keeps_mk (Memory.Kept.refl _) ?_ | intro _

theorem keeps_unpin {orig s : State} {p : Nat} (hk : orig.Keeps κ s) :
    orig.Keeps κ (State.unpin s p) := by
  unfold State.unpin
  try dsimp only
  repeat' with_reducible first
    | exact State.Keeps.refl _ | assumption | apply keeps_girder | apply keeps_setLine | split | apply keeps_foldl
    | apply keeps_foldl_fst | fail_if_no_progress refine keeps_mk (Memory.Kept.refl _) ?_ | intro _

theorem keeps_writeBackAll {orig s : State} {p : Nat} (hk : orig.Keeps κ s) :
    orig.Keeps κ (State.writeBackAll s p) := by
  unfold State.writeBackAll
  try dsimp only
  repeat' with_reducible first
    | exact State.Keeps.refl _ | assumption | apply keeps_girder | apply keeps_writeBack | apply keeps_setLine
    | split | apply keeps_foldl | apply keeps_foldl_fst | intro _

theorem keeps_guardWrite {orig s : State} {r sub v : Nat} (hk : orig.Keeps κ s) :
    orig.Keeps κ (State.guardWrite s r sub v).2 := by
  unfold State.guardWrite
  try dsimp only
  repeat' with_reducible first
    | exact State.Keeps.refl _ | assumption | apply keeps_setOd | apply keeps_bump32 | split

theorem keeps_spanExport {orig s : State} {p i : Nat} {wr : Writer} {k : Nat} {c : Held} (hk : orig.Keeps false s) :
    orig.Keeps false (State.spanExport s p i wr k c) := by
  unfold State.spanExport
  try dsimp only
  repeat' with_reducible first
    | exact State.Keeps.refl _ | assumption | apply keeps_writeElems | apply keeps_watchWrites
    | apply keeps_watchExport | apply keeps_bump32 | apply keeps_setPair | split

theorem keeps_spanRun {orig s : State} {p i : Nat} {f : Flight} {x : Nat} {ops : List Held} (hk : orig.Keeps false s) :
    orig.Keeps false (State.spanRun s p i f x ops).1 := by
  unfold State.spanRun
  try dsimp only
  repeat' with_reducible first
    | exact State.Keeps.refl _ | assumption | apply keeps_claim | apply keeps_schedFault | apply keeps_bump32
    | apply keeps_setPair | apply keeps_bump64 | apply keeps_spanExport | apply keeps_writeElems
    | apply keeps_watchWrites | split

theorem keeps_spanExec {orig s : State} {p i : Nat} {f : Flight} (hk : orig.Keeps false s) :
    orig.Keeps false (State.spanExec s p i f) := by
  unfold State.spanExec
  try dsimp only
  repeat' with_reducible first
    | exact State.Keeps.refl _ | assumption | apply keeps_setFlights | apply keeps_operandFault | apply keeps_bump32
    | apply keeps_spanRun | split

theorem keeps_setEngine {orig s : State} {p i : Nat} {deck : Bool} {e : EngState} (hk : orig.Keeps κ s) :
    orig.Keeps κ (State.setEngine s p i deck e) := by
  unfold State.setEngine
  try dsimp only
  repeat' with_reducible first | exact State.Keeps.refl _ | assumption | apply keeps_setPair

theorem keeps_beginWake {orig s : State} {p i : Nat} {deck : Bool} (hk : orig.Keeps κ s) :
    orig.Keeps κ (State.beginWake s p i deck) := by
  unfold State.beginWake
  try dsimp only
  repeat' with_reducible first
    | exact State.Keeps.refl _ | assumption | apply keeps_bump32 | apply keeps_setEngine | split

theorem keeps_spanLatch {orig s : State} {p i w : Nat} (hk : orig.Keeps false s) :
    orig.Keeps false (State.spanLatch s p i w) := by
  unfold State.spanLatch
  try dsimp only
  repeat' with_reducible first
    | exact State.Keeps.refl _ | assumption | apply keeps_descFault | apply keeps_headFault | apply keeps_setPair
    | apply keeps_bump64 | apply keeps_nullHead | apply keeps_guardCheck | apply keeps_advance
    | apply keeps_pushFlight | apply keeps_spanExec | apply keeps_beginWake | split

theorem keeps_spanIssue {orig s : State} {p i op : Nat} (hk : orig.Keeps false s) :
    orig.Keeps false (State.spanIssue s p i op) := by
  unfold State.spanIssue
  try dsimp only
  repeat' with_reducible first
    | exact State.Keeps.refl _ | assumption | apply keeps_issue | apply keeps_spanLatch | split | intro _

theorem keeps_spanComplete {orig s : State} {p i : Nat} (hk : orig.Keeps false s) :
    orig.Keeps false (State.spanComplete s p i) := by
  unfold State.spanComplete
  try dsimp only
  repeat' with_reducible first
    | exact State.Keeps.refl _ | assumption | apply keeps_release | apply keeps_spanExec | apply keeps_setFlights
    | apply keeps_finish | apply keeps_setPair | split

theorem keeps_copyBytes {orig s : State} {p : Nat} {d src : Held} {prs : List (Nat × Nat)} (hk : orig.Keeps false s) :
    orig.Keeps false (State.copyBytes s p d src prs) := by
  unfold State.copyBytes
  try dsimp only
  repeat' with_reducible first
    | exact State.Keeps.refl _ | assumption | apply keeps_putElem | split | apply keeps_foldl
    | apply keeps_foldl_fst | fail_if_no_progress refine keeps_mk (Memory.Kept.refl _) ?_ | intro _

theorem keeps_copyMove {orig s : State} {p : Nat} {wr : Writer} {d src : Held} {prs : List (Nat × Nat)} (hk :
    orig.Keeps false s) :
    orig.Keeps false (State.copyMove s p wr d src prs) := by
  unfold State.copyMove
  try dsimp only
  repeat' with_reducible first
    | exact State.Keeps.refl _ | assumption | apply keeps_writeElems | apply keeps_watchWrites
    | apply keeps_copyBytes | apply keeps_trackCopied | split

theorem keeps_copyFill {orig s : State} {p : Nat} {wr : Writer} {d : Held} {imm : Nat} (hk : orig.Keeps false s) :
    orig.Keeps false (State.copyFill s p wr d imm) := by
  unfold State.copyFill
  try dsimp only
  repeat' with_reducible first
    | exact State.Keeps.refl _ | assumption | apply keeps_writeElems | apply keeps_watchWrites | split

theorem keeps_copyIndexRead {orig s : State} {p q : Nat} {f : Flight} {ops : List Held} (hk : orig.Keeps false s) :
    orig.Keeps false (State.copyIndexRead s p q f ops) := by
  unfold State.copyIndexRead
  try dsimp only
  repeat' with_reducible first | exact State.Keeps.refl _ | assumption | apply keeps_readOperand | split

theorem keeps_copyRun {orig s : State} {p q : Nat} {f : Flight} {x : Nat} {ops : List Held} (hk : orig.Keeps false s) :
    orig.Keeps false (State.copyRun s p q f x ops).1 := by
  unfold State.copyRun
  try dsimp only
  repeat' with_reducible first
    | exact State.Keeps.refl _ | assumption | apply keeps_release | apply keeps_claim | apply keeps_schedFault
    | apply keeps_readRows | apply keeps_guardRuns | apply keeps_writeRows | apply keeps_copyMove
    | apply keeps_copyFill | split | apply keeps_foldl | apply keeps_foldl_fst
    | fail_if_no_progress refine keeps_mk (Memory.Kept.refl _) ?_ | intro _

theorem keeps_copyAll {orig s : State} {p q : Nat} {f : Flight} {x4 x5 : Nat} (hk : orig.Keeps false s) :
    orig.Keeps false (State.copyAll s p q f x4 x5).1 := by
  induction x4 generalizing s f x5 with
  | zero => exact hk
  | succ n ih =>
    unfold State.copyAll
    try dsimp only
    repeat' with_reducible first
      | apply ih | exact State.Keeps.refl _ | assumption | apply keeps_copyIndexRead | apply keeps_guardEnd
      | apply keeps_release | apply keeps_dropReqs | apply keeps_operandFault | apply keeps_copyRun | split
      | apply keeps_foldl | apply keeps_foldl_fst | fail_if_no_progress refine keeps_mk (Memory.Kept.refl _) ?_ | intro _

theorem keeps_writeSnap {orig s : State} {p : Nat} {d src : Held} (hk : orig.Keeps false s) :
    orig.Keeps false (State.writeSnap s p d src) := by
  unfold State.writeSnap
  try dsimp only
  repeat' with_reducible first | exact State.Keeps.refl _ | assumption | apply keeps_setNum | split

theorem keeps_copyLatch {orig s : State} {p q w : Nat} (hk : orig.Keeps false s) :
    orig.Keeps false (State.copyLatch s p q w) := by
  unfold State.copyLatch
  try dsimp only
  repeat' with_reducible first
    | exact State.Keeps.refl _ | assumption | apply keeps_descFault | apply keeps_headFault | apply keeps_nullHead
    | apply keeps_guardCheck | apply keeps_writeSnap | apply keeps_advance | apply keeps_copyAll
    | apply keeps_pushFlight | split

theorem keeps_copyIssue {orig s : State} {p e op : Nat} (hk : orig.Keeps false s) :
    orig.Keeps false (State.copyIssue s p e op) := by
  unfold State.copyIssue
  try dsimp only
  repeat' with_reducible first
    | exact State.Keeps.refl _ | assumption | apply keeps_issue | apply keeps_copyLatch | split | intro _

theorem keeps_copyComplete {orig s : State} {p e : Nat} (hk : orig.Keeps κ s) :
    orig.Keeps κ (State.copyComplete s p e) := by
  unfold State.copyComplete
  try dsimp only
  repeat' with_reducible first
    | exact State.Keeps.refl _ | assumption | apply keeps_setFlights | apply keeps_finish | apply keeps_dropReqs
    | split

theorem keeps_setPort {orig s : State} {k : Nat} {v : Port} (hk : orig.Keeps κ s) :
    orig.Keeps κ (State.setPort s k v) := by
  unfold State.setPort
  try dsimp only
  repeat' with_reducible first
    | exact State.Keeps.refl _ | assumption | split | fail_if_no_progress refine keeps_mk (Memory.Kept.refl _) ?_

theorem keeps_sendCodeword {orig s : State} {k : Nat} {ds : List TxSlot} {ctl : List Nat} (hk : orig.Keeps κ s) :
    orig.Keeps κ (State.sendCodeword s k ds ctl) := by
  unfold State.sendCodeword
  try dsimp only
  repeat' with_reducible first
    | exact State.Keeps.refl _ | assumption | apply keeps_setPort | apply keeps_emit | apply keeps_bump64

theorem keeps_pump {orig s : State} {k x2 : Nat} (hk : orig.Keeps κ s) :
    orig.Keeps κ (State.pump s k x2) := by
  induction x2 generalizing s with
  | zero => exact hk
  | succ n ih =>
    unfold State.pump
    try dsimp only
    repeat' with_reducible first
      | apply ih | exact State.Keeps.refl _ | assumption | apply keeps_setPort | apply keeps_sendCodeword | split

theorem keeps_pumpAll {orig s : State} {k : Nat} (hk : orig.Keeps κ s) :
    orig.Keeps κ (State.pumpAll s k) := by
  unfold State.pumpAll
  try dsimp only
  repeat' with_reducible first | exact State.Keeps.refl _ | assumption | apply keeps_pump

theorem keeps_sendControl {orig s : State} {k w : Nat} (hk : orig.Keeps κ s) :
    orig.Keeps κ (State.sendControl s k w) := by
  unfold State.sendControl
  try dsimp only
  repeat' with_reducible first | exact State.Keeps.refl _ | assumption | apply keeps_setPort | apply keeps_pumpAll

theorem keeps_transmit {orig s : State} {k : Nat} {pk : Packet} (hk : orig.Keeps κ s) :
    orig.Keeps κ (State.transmit s k pk) := by
  unfold State.transmit
  try dsimp only
  repeat' with_reducible first
    | exact State.Keeps.refl _ | assumption | apply keeps_present | apply keeps_setPort | apply keeps_pumpAll

theorem keeps_dropPacket {orig s : State} {sub : Nat} (hk : orig.Keeps κ s) :
    orig.Keeps κ (State.dropPacket s sub) := by
  unfold State.dropPacket
  try dsimp only
  repeat' with_reducible first | exact State.Keeps.refl _ | assumption | apply keeps_bump32 | apply keeps_markFaulted

theorem keeps_routePacket {orig s : State} {pk : Packet} {inp : Option Nat} (hk : orig.Keeps κ s) :
    orig.Keeps κ (State.routePacket s pk inp) := by
  unfold State.routePacket
  try dsimp only
  repeat' with_reducible first
    | exact State.Keeps.refl _ | assumption | apply keeps_dropPacket | apply keeps_present | apply keeps_transmit
    | split | fail_if_no_progress refine keeps_mk (Memory.Kept.refl _) ?_

theorem keeps_toRouter {orig s : State} {pk : Packet} (hk : orig.Keeps κ s) :
    orig.Keeps κ (State.toRouter s pk) := by
  unfold State.toRouter
  try dsimp only
  repeat' with_reducible first | exact State.Keeps.refl _ | assumption | apply keeps_present | apply keeps_routePacket

theorem keeps_sendPacket {orig s : State} {p dest destPier tc proto seg nseg tag : Nat} {body : List Byte} (hk :
    orig.Keeps κ s) :
    orig.Keeps κ (State.sendPacket s p dest destPier tc proto seg nseg tag body) := by
  unfold State.sendPacket
  try dsimp only
  repeat' with_reducible first | exact State.Keeps.refl _ | assumption | apply keeps_toRouter

theorem keeps_sendReq {orig s : State} {kind : ReqKind} {ident group : Nat} {pk : Nat → Packet} (hk : orig.Keeps κ s) :
    orig.Keeps κ (State.sendReq s kind ident group pk) := by
  unfold State.sendReq
  try dsimp only
  repeat' with_reducible first
    | exact State.Keeps.refl _ | assumption | apply keeps_toRouter | split
    | fail_if_no_progress refine keeps_mk (Memory.Kept.refl _) ?_

theorem keeps_respond {orig s : State} {pk : Packet} {code : Nat} (hk : orig.Keeps κ s) :
    orig.Keeps κ (State.respond s pk code) := by
  unfold State.respond
  try dsimp only
  repeat' with_reducible first | exact State.Keeps.refl _ | assumption | apply keeps_toRouter

theorem keeps_sendWrites {orig s : State} {p dest destPier : Nat} {kind : ReqKind} {ident group x7 x8 : Nat} {x9 :
    List Byte} (hk : orig.Keeps κ s) :
    orig.Keeps κ (State.sendWrites s p dest destPier kind ident group x7 x8 x9) := by
  induction x7 generalizing s x8 x9 with
  | zero => exact hk
  | succ n ih =>
    unfold State.sendWrites
    try dsimp only
    repeat' with_reducible first | apply ih | exact State.Keeps.refl _ | assumption | apply keeps_sendReq | split

theorem keeps_takeInbox {orig s : State} {p tc : Nat} (hk : orig.Keeps κ s) :
    orig.Keeps κ (State.takeInbox s p tc) := by
  unfold State.takeInbox
  try dsimp only
  repeat' with_reducible first
    | exact State.Keeps.refl _ | assumption | split | fail_if_no_progress refine keeps_mk (Memory.Kept.refl _) ?_

theorem keeps_readTable {orig s : State} {p off n : Nat} (hk : orig.Keeps false s) :
    orig.Keeps false (State.readTable s p off n) := by
  unfold State.readTable
  try dsimp only
  repeat' with_reducible first | exact State.Keeps.refl _ | assumption | apply keeps_touchReadRun

theorem keeps_trFault {orig s : State} {p w operand : Nat} {addr : Int} (hk : orig.Keeps false s) :
    orig.Keeps false (State.trFault s p w operand addr) := by
  unfold State.trFault
  try dsimp only
  repeat' with_reducible first
    | exact State.Keeps.refl _ | assumption | apply keeps_advance | apply keeps_operandFault

theorem keeps_trNull {orig s : State} {p w : Nat} (hk : orig.Keeps false s) :
    orig.Keeps false (State.trNull s p w) := by
  unfold State.trNull
  try dsimp only
  repeat' with_reducible first | exact State.Keeps.refl _ | assumption | apply keeps_bump64 | apply keeps_nullHead

theorem keeps_retire {orig s : State} {p q x3 : Nat} (hk : orig.Keeps κ s) :
    orig.Keeps κ (State.retire s p q x3) := by
  induction x3 generalizing s with
  | zero => exact hk
  | succ n ih =>
    unfold State.retire
    try dsimp only
    repeat' with_reducible first
      | apply ih | exact State.Keeps.refl _ | assumption | apply keeps_setFlights | apply keeps_finish | split

theorem keeps_putFlight {orig s : State} {p q k : Nat} {f : Flight} (hk : orig.Keeps κ s) :
    orig.Keeps κ (State.putFlight s p q k f) := by
  unfold State.putFlight
  try dsimp only
  repeat' with_reducible first | exact State.Keeps.refl _ | assumption | apply keeps_setFlights

theorem keeps_workDone {orig s : State} {p q k : Nat} (hk : orig.Keeps κ s) :
    orig.Keeps κ (State.workDone s p q k) := by
  unfold State.workDone
  try dsimp only
  repeat' with_reducible first
    | exact State.Keeps.refl _ | assumption | apply keeps_guardEnd | apply keeps_dropReqs | apply keeps_putFlight
    | apply keeps_retire | split | apply keeps_foldl | apply keeps_foldl_fst
    | fail_if_no_progress refine keeps_mk (Memory.Kept.refl _) ?_ | intro _

theorem keeps_trEvent {orig s : State} {p code key d0 d1 : Nat} (hk : orig.Keeps false s) :
    orig.Keeps false (State.trEvent s p code key d0 d1) := by
  unfold State.trEvent
  try dsimp only
  repeat' with_reducible first | exact State.Keeps.refl _ | assumption | apply keeps_ringPut

theorem keeps_trOnce {orig s : State} {p kind ident code key d0 d1 : Nat} (hk : orig.Keeps false s) :
    orig.Keeps false (State.trOnce s p kind ident code key d0 d1) := by
  unfold State.trOnce
  try dsimp only
  repeat' with_reducible first
    | exact State.Keeps.refl _ | assumption | apply keeps_setOnce | apply keeps_trEvent | split

theorem keeps_setLive {orig s : State} {p i : Nat} {e : LiveEntry} (hk : orig.Keeps κ s) :
    orig.Keeps κ (State.setLive s p i e) := by
  unfold State.setLive
  try dsimp only
  repeat' with_reducible first | exact State.Keeps.refl _ | assumption | apply keeps_modPier

theorem keeps_whenVisible {orig s : State} {p k : Nat} (hk : orig.Keeps κ s) :
    orig.Keeps κ (State.whenVisible s p k) := by
  unfold State.whenVisible
  try dsimp only
  repeat' with_reducible first | exact State.Keeps.refl _ | assumption | apply keeps_workDone | split

theorem keeps_dropWaits {orig s : State} {p i : Nat} (hk : orig.Keeps κ s) :
    orig.Keeps κ (State.dropWaits s p i) := by
  unfold State.dropWaits
  try dsimp only
  repeat' with_reducible first
    | exact State.Keeps.refl _ | assumption | apply keeps_bump64 | apply keeps_setFlights | apply keeps_retire

theorem keeps_quiet {orig s : State} {p i : Nat} (hk : orig.Keeps κ s) :
    orig.Keeps κ (State.quiet s p i) := by
  unfold State.quiet
  try dsimp only
  repeat' with_reducible first
    | exact State.Keeps.refl _ | assumption | apply keeps_setLive | apply keeps_dropWaits | split

theorem keeps_gopen {orig s : State} {p w : Nat} (hk : orig.Keeps false s) :
    orig.Keeps false (State.gopen s p w) := by
  unfold State.gopen
  try dsimp only
  repeat' with_reducible first
    | exact State.Keeps.refl _ | assumption | apply keeps_descFault | apply keeps_quiet | apply keeps_trFault
    | apply keeps_setLive | apply keeps_nullHead | split

theorem keeps_gcancel {orig s : State} {p w : Nat} (hk : orig.Keeps false s) :
    orig.Keeps false (State.gcancel s p w) := by
  unfold State.gcancel
  try dsimp only
  repeat' with_reducible first
    | exact State.Keeps.refl _ | assumption | apply keeps_nullHead | apply keeps_quiet | apply keeps_bump32
    | apply keeps_markFaulted | split

theorem keeps_genQuiet {orig s : State} {p i : Nat} (hk : orig.Keeps κ s) :
    orig.Keeps κ (State.genQuiet s p i) := by
  unfold State.genQuiet
  try dsimp only
  repeat' with_reducible first
    | exact State.Keeps.refl _ | assumption | apply keeps_quiet | apply keeps_setLive | split

theorem keeps_adderTouch {orig s : State} {p off n : Nat} {k : Asker} {pattern : List Byte} (hk : orig.Keeps false s) :
    orig.Keeps false (State.adderTouch s p off n k pattern) := by
  unfold State.adderTouch
  try dsimp only
  repeat' with_reducible first
    | exact State.Keeps.refl _ | assumption | apply keeps_adderEvict | split | apply keeps_foldl
    | apply keeps_foldl_fst | intro _

theorem keeps_combineRow {orig s : State} {p : Nat} {k : Asker} {hc : Desc} {t : Nat} {ys : List Val} (hk :
    orig.Keeps false s) :
    orig.Keeps false (State.combineRow s p k hc t ys) := by
  unfold State.combineRow
  try dsimp only
  repeat' with_reducible first
    | exact State.Keeps.refl _ | assumption | apply keeps_adderTouch | apply keeps_setNum | split
    | apply keeps_foldl | apply keeps_foldl_fst | intro _

theorem keeps_storeP {orig s : State} {p : Nat} {k : Asker} {e : LiveEntry} {a : Answer} (hk : orig.Keeps false s) :
    orig.Keeps false (State.storeP s p k e a) := by
  unfold State.storeP
  try dsimp only
  repeat' with_reducible first | exact State.Keeps.refl _ | assumption | apply keeps_storeRun | split

theorem keeps_writeBy {orig s : State} {p : Nat} {f : Flight} {hint k : Nat} {bs : List Byte} (hk : orig.Keeps false s) :
    orig.Keeps false (State.writeBy s p f hint k bs).1 := by
  unfold State.writeBy
  try dsimp only
  repeat' with_reducible first | exact State.Keeps.refl _ | assumption | apply keeps_guardRuns | apply keeps_storeRun

theorem keeps_writesBy {orig s : State} {p : Nat} {f : Flight} {hint : Nat} {l : List (Nat × List Byte)} (hk :
    orig.Keeps false s) :
    orig.Keeps false (State.writesBy s p f hint l).1 := by
  unfold State.writesBy
  try dsimp only
  repeat' with_reducible first
    | exact State.Keeps.refl _ | assumption | apply keeps_writeBy | split | apply keeps_foldl
    | apply keeps_foldl_fst | intro _

theorem keeps_addWord {orig s : State} {p : Nat} {f : Flight} {x : Nat × Nat} (hk : orig.Keeps false s) :
    orig.Keeps false (State.addWord s p f x).1 := by
  unfold State.addWord
  try dsimp only
  repeat' with_reducible first
    | exact State.Keeps.refl _ | assumption | apply keeps_guardRuns | apply keeps_touchWriteRun | apply keeps_setNum

theorem keeps_addWords {orig s : State} {p : Nat} {f : Flight} {l : List (Nat × Nat)} (hk : orig.Keeps false s) :
    orig.Keeps false (State.addWords s p f l).1 := by
  unfold State.addWords
  try dsimp only
  repeat' with_reducible first
    | exact State.Keeps.refl _ | assumption | apply keeps_addWord | split | apply keeps_foldl
    | apply keeps_foldl_fst | intro _

theorem keeps_writeTo {orig s : State} {p : Nat} {f : Flight} {kind : ReqKind} {ident group m mp off : Nat} {bs :
    List Byte} (hk : orig.Keeps false s) :
    orig.Keeps false (State.writeTo s p f kind ident group m mp off bs).1 := by
  unfold State.writeTo
  try dsimp only
  repeat' with_reducible first
    | exact State.Keeps.refl _ | assumption | apply keeps_writeBy | apply keeps_sendWrites | split

theorem keeps_scatterRow {orig s : State} {p : Nat} {f : Flight} {ident gi : Nat} {lay : InboxLay} {bank q : Nat}
    {r : SRow} (hk : orig.Keeps false s) :
    orig.Keeps false (State.scatterRow s p f ident gi lay bank q r).1 := by
  unfold State.scatterRow
  try dsimp only
  repeat' with_reducible first | exact State.Keeps.refl _ | assumption | apply keeps_writeTo | split

theorem keeps_scatterRecord {orig s : State} {p : Nat} {f : Flight} {ident gi : Nat} {h : Nat × Nat × Nat} {off :
    Nat} {bs : List Byte} (hk : orig.Keeps false s) :
    orig.Keeps false (State.scatterRecord s p f ident gi h off bs).1 := by
  unfold State.scatterRecord
  try dsimp only
  repeat' with_reducible first
    | exact State.Keeps.refl _ | assumption | apply keeps_writeBy | apply keeps_sendWrites | split
    | fail_if_no_progress refine keeps_mk (Memory.Kept.refl _) ?_

theorem keeps_scatter {orig s : State} {p : Nat} {f : Flight} {ident : Nat} {lay : InboxLay} {l : Layer} {gen :
    Nat} {bank : Nat → Nat} {groups : List (Nat × Nat × Nat)} {rows : List SRow} (hk : orig.Keeps false s) :
    orig.Keeps false (State.scatter s p f ident lay l gen bank groups rows).1 := by
  unfold State.scatter
  try dsimp only
  repeat' with_reducible first
    | exact State.Keeps.refl _ | assumption | apply keeps_scatterRow | apply keeps_scatterRecord | split
    | apply keeps_foldl | apply keeps_foldl_fst | intro _

theorem keeps_rowsVisible {orig s : State} {ident gi : Nat} (hk : orig.Keeps κ s) :
    orig.Keeps κ (State.rowsVisible s ident gi) := by
  unfold State.rowsVisible
  try dsimp only
  repeat' with_reducible first
    | exact State.Keeps.refl _ | assumption | apply keeps_sendReq | split
    | fail_if_no_progress refine keeps_mk (Memory.Kept.refl _) ?_

theorem keeps_trSched {orig s : State} {p : Nat} {f : Flight} {ops : List (Nat × Held)} (hk : orig.Keeps false s) :
    orig.Keeps false (State.trSched s p f ops) := by
  unfold State.trSched
  try dsimp only
  repeat' with_reducible first | exact State.Keeps.refl _ | assumption | apply keeps_schedFault | split

theorem keeps_routeEvents {orig s : State} {p : Nat} {l : Layer} {ts : List Token} {spilled dropped : Nat} (hk :
    orig.Keeps false s) :
    orig.Keeps false (State.routeEvents s p l ts spilled dropped) := by
  unfold State.routeEvents
  try dsimp only
  repeat' with_reducible first
    | exact State.Keeps.refl _ | assumption | apply keeps_bump32 | apply keeps_trOnce | split

theorem keeps_routeRun {orig s : State} {p w : Nat} {l : Layer} {ops : List Held} (hk : orig.Keeps false s) :
    orig.Keeps false (State.routeRun s p w l ops) := by
  unfold State.routeRun
  try dsimp only
  repeat' with_reducible first
    | exact State.Keeps.refl _ | assumption | apply keeps_guardCheck | apply keeps_trSched | apply keeps_advance
    | apply keeps_readOperand | apply keeps_addWords | apply keeps_routeEvents | apply keeps_setLive
    | apply keeps_writesBy | apply keeps_scatter | apply keeps_pushFlight

theorem keeps_readLayer {orig s : State} {p w : Nat} (hk : orig.Keeps false s) :
    orig.Keeps false (State.readLayer s p w) := by
  unfold State.readLayer
  try dsimp only
  repeat' with_reducible first | exact State.Keeps.refl _ | assumption | apply keeps_readTable

theorem keeps_withLayer {orig s : State} {p w : Nat} {go : State → Layer → State} (hk : orig.Keeps false s)
    (hgo : ∀ u l, State.Keeps false u (go u l)) :
    orig.Keeps false (State.withLayer s p w go) := by
  unfold State.withLayer
  try dsimp only
  repeat' with_reducible first
    | exact State.Keeps.refl _ | assumption | apply keeps_trFault | apply keeps_readLayer | apply keeps_headFault
    | split | fail_if_no_progress refine keeps_mk (Memory.Kept.refl _) ?_ | intro _ | dsimp only | exact hgo _ | exact hgo _ _
    | exact State.Keeps.trans hk (hgo _) | refine State.Keeps.trans ?_ (hgo _)
    | refine State.Keeps.trans ?_ (hgo _ _)

theorem keeps_withOps {orig s : State} {p : Nat} {hs : List Nat} {own : Nat} {go : List Held → State} (hk :
    orig.Keeps false s)
    (hgo : ∀ l, orig.Keeps false (go l)) :
    orig.Keeps false (State.withOps s p hs own go) := by
  unfold State.withOps
  try dsimp only
  repeat' with_reducible first
    | exact State.Keeps.refl _ | assumption | apply keeps_descFault | split
    | fail_if_no_progress refine keeps_mk (Memory.Kept.refl _) ?_ | intro _ | dsimp only | exact hgo _

theorem keeps_readMap {orig s : State} {p : Nat} {l : Layer} (hk : orig.Keeps false s) :
    orig.Keeps false (State.readMap s p l) := by
  unfold State.readMap
  try dsimp only
  repeat' with_reducible first | exact State.Keeps.refl _ | assumption | apply keeps_readTable

theorem keeps_trFaultAt {orig s : State} {p w k : Nat} {ops : List Held} (hk : orig.Keeps false s) :
    orig.Keeps false (State.trFaultAt s p w k ops) := by
  unfold State.trFaultAt
  try dsimp only
  repeat' with_reducible first | exact State.Keeps.refl _ | assumption | apply keeps_trFault

theorem keeps_route {orig s : State} {p w : Nat} (hk : orig.Keeps false s) :
    orig.Keeps false (State.route s p w) := by
  unfold State.route
  try dsimp only
  repeat' with_reducible first
    | exact State.Keeps.refl _ | assumption | apply keeps_withOps | apply keeps_withLayer | apply keeps_readMap
    | apply keeps_headFault | apply keeps_trFaultAt | apply keeps_routeRun | split
    | fail_if_no_progress refine keeps_mk (Memory.Kept.refl _) ?_ | intro _

theorem keeps_routeComplete {orig s : State} {p k : Nat} (hk : orig.Keeps false s) :
    orig.Keeps false (State.routeComplete s p k) := by
  unfold State.routeComplete
  try dsimp only
  repeat' with_reducible first
    | exact State.Keeps.refl _ | assumption | apply keeps_setLive | apply keeps_addWords | apply keeps_putFlight
    | apply keeps_bump64 | apply keeps_workDone | split

theorem keeps_readArrivals {orig s : State} {p : Nat} {j : InboxJob} (hk : orig.Keeps false s) :
    orig.Keeps false (State.readArrivals s p j) := by
  unfold State.readArrivals
  try dsimp only
  repeat' with_reducible first
    | exact State.Keeps.refl _ | assumption | apply keeps_readTable | split | apply keeps_foldl
    | apply keeps_foldl_fst | intro _

theorem keeps_inboxTest {orig s : State} {p k : Nat} (hk : orig.Keeps κ s) :
    orig.Keeps κ (State.inboxTest s p k) := by
  unfold State.inboxTest
  try dsimp only
  repeat' with_reducible first
    | exact State.Keeps.refl _ | assumption | apply keeps_bump32 | apply keeps_putFlight | split

theorem keeps_inboxTests {orig s : State} {p : Nat} (hk : orig.Keeps κ s) :
    orig.Keeps κ (State.inboxTests s p) := by
  unfold State.inboxTests
  try dsimp only
  repeat' with_reducible first
    | exact State.Keeps.refl _ | assumption | apply keeps_inboxTest | split | apply keeps_foldl
    | apply keeps_foldl_fst | intro _

theorem keeps_patch {orig s : State} {p n w : Nat} (hk : orig.Keeps false s) :
    orig.Keeps false (State.patch s p n w) := by
  unfold State.patch
  try dsimp only
  repeat' with_reducible first | exact State.Keeps.refl _ | assumption | apply keeps_write | split

theorem keeps_inboxSlot {orig s : State} {p : Nat} {f : Flight} {j : InboxJob} {r : Nat} {idx : Held} (hk :
    orig.Keeps false s) :
    orig.Keeps false (State.inboxSlot s p f j r idx).1 := by
  unfold State.inboxSlot
  try dsimp only
  repeat' with_reducible first
    | exact State.Keeps.refl _ | assumption | apply keeps_bump32 | apply keeps_trEvent | apply keeps_writeBy
    | apply keeps_writesBy | apply keeps_write | apply keeps_patch | split | apply keeps_foldl
    | apply keeps_foldl_fst | fail_if_no_progress refine keeps_mk (Memory.Kept.refl _) ?_ | intro _

theorem keeps_inboxLatch {orig s : State} {p w : Nat} {l : Layer} {ext base : Nat} (hk : orig.Keeps false s) :
    orig.Keeps false (State.inboxLatch s p w l ext base) := by
  unfold State.inboxLatch
  try dsimp only
  repeat' with_reducible first
    | exact State.Keeps.refl _ | assumption | apply keeps_readTable | apply keeps_headFault | apply keeps_withOps
    | apply keeps_trFault | apply keeps_advance | apply keeps_pushFlight | apply keeps_readArrivals
    | apply keeps_inboxTest | split | fail_if_no_progress refine keeps_mk (Memory.Kept.refl _) ?_ | intro _

theorem keeps_inbox {orig s : State} {p w : Nat} (hk : orig.Keeps false s) :
    orig.Keeps false (State.inbox s p w) := by
  unfold State.inbox
  try dsimp only
  repeat' with_reducible first
    | exact State.Keeps.refl _ | assumption | apply keeps_withLayer | apply keeps_inboxLatch | split
    | fail_if_no_progress refine keeps_mk (Memory.Kept.refl _) ?_ | intro _

theorem keeps_inboxDone {orig s : State} {p k : Nat} (hk : orig.Keeps false s) :
    orig.Keeps false (State.inboxDone s p k) := by
  unfold State.inboxDone
  try dsimp only
  repeat' with_reducible first
    | exact State.Keeps.refl _ | assumption | apply keeps_whenVisible | apply keeps_readArrivals
    | apply keeps_inboxTest | apply keeps_inboxSlot | apply keeps_addWords | apply keeps_putFlight | split
    | apply keeps_foldl | apply keeps_foldl_fst | fail_if_no_progress refine keeps_mk (Memory.Kept.refl _) ?_ | intro _

theorem keeps_takeAnswer {orig s : State} {p : Nat} {k : Asker} {a : Answer} (hk : orig.Keeps false s) :
    orig.Keeps false (State.takeAnswer s p k a).1 := by
  unfold State.takeAnswer
  try dsimp only
  repeat' with_reducible first
    | exact State.Keeps.refl _ | assumption | apply keeps_combineRow | apply keeps_storeP | apply keeps_bump64
    | apply keeps_setLive | apply keeps_trOnce | split

theorem keeps_sendAnswer {orig s : State} {p : Nat} {f : Flight} {ident m mp fmt : Nat} {a : Answer} {data : List
    Byte} (hk : orig.Keeps false s) :
    orig.Keeps false (State.sendAnswer s p f ident m mp fmt a data).1 := by
  unfold State.sendAnswer
  try dsimp only
  repeat' with_reducible first
    | exact State.Keeps.refl _ | assumption | apply keeps_guardRuns | apply keeps_takeAnswer | apply keeps_sendReq
    | apply keeps_toRouter | split | apply keeps_foldl | apply keeps_foldl_fst
    | fail_if_no_progress refine keeps_mk (Memory.Kept.refl _) ?_ | intro _

theorem keeps_answerRow {orig s : State} {p : Nat} {f : Flight} {ident : Nat} {back : Bool} {k : Nat} {hs : Held}
    {word : Nat → Nat → Nat} {r : Nat} (hk : orig.Keeps false s) :
    orig.Keeps false (State.answerRow s p f ident back k hs word r).1 := by
  unfold State.answerRow
  try dsimp only
  repeat' with_reducible first | exact State.Keeps.refl _ | assumption | apply keeps_sendAnswer

theorem keeps_sendAnswers {orig s : State} {p : Nat} {f : Flight} {back : Bool} {metaBase : Nat} {hs : Held} {idx
    : List Nat} {word : Nat → Nat → Nat} (hk : orig.Keeps false s) :
    orig.Keeps false (State.sendAnswers s p f back metaBase hs idx word).1 := by
  have h : ∀ (u : State × Flight) (r : Nat × Nat), State.KeepsFst false u.1 ((u.1.touchReadRun (f.trestle p) 0 ffPattern
      (pkey (spFast p) (metaBase + 16 * r.2), 16)).answerRow p u.2 (f.args.getD 0 0)
      back (pkey (spFast p) (metaBase + 16 * r.2)) hs word r.1) := fun u r => keeps_answerRow (keeps_touchReadRun (State.Keeps.refl _))
  unfold State.sendAnswers
  exact keeps_foldl_pair hk h

theorem keeps_indexList {orig s : State} {p : Nat} {k : Asker} {l : Held} {n : Nat} (hk : orig.Keeps false s) :
    orig.Keeps false (State.indexList s p k l n).1 := by
  unfold State.indexList
  try dsimp only
  repeat' with_reducible first | exact State.Keeps.refl _ | assumption | apply keeps_touchReadRun | split

theorem keeps_answersDone {orig s : State} {p k : Nat} (hk : orig.Keeps κ s) :
    orig.Keeps κ (State.answersDone s p k) := by
  unfold State.answersDone
  try dsimp only
  repeat' with_reducible first | exact State.Keeps.refl _ | assumption | apply keeps_workDone | split

theorem keeps_answersSent {orig s : State} {p : Nat} {f : Flight} (hk : orig.Keeps κ s) :
    orig.Keeps κ (State.answersSent s p f) := by
  unfold State.answersSent
  try dsimp only
  repeat' with_reducible first
    | exact State.Keeps.refl _ | assumption | apply keeps_pushFlight | apply keeps_answersDone

theorem keeps_answerRun {orig s : State} {p w : Nat} {l : Layer} {slot n : Nat} {ops : List Held} (hk : orig.Keeps false
    s) :
    orig.Keeps false (State.answerRun s p w l slot n ops) := by
  unfold State.answerRun
  try dsimp only
  repeat' with_reducible first
    | exact State.Keeps.refl _ | assumption | apply keeps_guardCheck | apply keeps_trSched | apply keeps_advance
    | apply keeps_readOperand | apply keeps_indexList | apply keeps_sendAnswers | apply keeps_answersSent

theorem keeps_answer {orig s : State} {p w : Nat} (hk : orig.Keeps false s) :
    orig.Keeps false (State.answer s p w) := by
  unfold State.answer
  try dsimp only
  repeat' with_reducible first
    | exact State.Keeps.refl _ | assumption | apply keeps_withLayer | apply keeps_trFault | apply keeps_readTable
    | apply keeps_headFault | apply keeps_withOps | apply keeps_trNull | apply keeps_answerRun | split
    | fail_if_no_progress refine keeps_mk (Memory.Kept.refl _) ?_ | intro _

theorem keeps_cexport {orig s : State} {p w : Nat} (hk : orig.Keeps false s) :
    orig.Keeps false (State.cexport s p w) := by
  unfold State.cexport
  try dsimp only
  repeat' with_reducible first
    | exact State.Keeps.refl _ | assumption | apply keeps_withOps | apply keeps_trFault | apply keeps_trNull
    | apply keeps_advance | apply keeps_pushFlight | split | fail_if_no_progress refine keeps_mk (Memory.Kept.refl _) ?_ | intro _

theorem keeps_cexportReady {orig s : State} {p k : Nat} (hk : orig.Keeps false s) :
    orig.Keeps false (State.cexportReady s p k) := by
  unfold State.cexportReady
  try dsimp only
  repeat' with_reducible first
    | exact State.Keeps.refl _ | assumption | apply keeps_whenVisible | apply keeps_readOperand
    | apply keeps_touchReadRun | apply keeps_guardRuns | apply keeps_writeOperand | apply keeps_writeElems
    | apply keeps_watchWrites | apply keeps_watchExport | apply keeps_setLive | apply keeps_putFlight | split
    | apply keeps_foldl | apply keeps_foldl_fst | fail_if_no_progress refine keeps_mk (Memory.Kept.refl _) ?_ | intro _

theorem keeps_stage {orig s : State} {p h nseg : Nat} {hdr data : List Byte} (hk : orig.Keeps false s) :
    orig.Keeps false (State.stage s p h nseg hdr data).1 := by
  unfold State.stage
  extract_lets who o k w s1 same n whole s2 s3 r
  have h1 : orig.Keeps false s1 := keeps_touchReadRun hk
  have h2 : orig.Keeps false s2 := keeps_storeRun h1
  have h3 : orig.Keeps false s3 := keeps_storeRun h2
  have hr : orig.Keeps false r.1 := keeps_loadRun h3
  exact keeps_ite_fst _ hr h3

theorem keeps_answerWhole {orig s : State} {p : Nat} {pk : Packet} {h : Nat} {runs : List (Nat × Nat)} {data :
    List Byte} (hk : orig.Keeps false s) :
    orig.Keeps false (State.answerWhole s p pk h runs data) := by
  unfold State.answerWhole
  try dsimp only
  repeat' with_reducible first
    | exact State.Keeps.refl _ | assumption | apply keeps_guardOnce | apply keeps_takeAnswer | apply keeps_respond

theorem keeps_answerStaged {orig s : State} {p : Nat} {pk : Packet} {h : Nat} {runs : List (Nat × Nat)} {x5 :
    Option (List Byte)} (hk : orig.Keeps false s) :
    orig.Keeps false (State.answerStaged s p pk h runs x5) := by
  unfold State.answerStaged
  cases x5
  · exact keeps_guardOnce hk
  · exact keeps_answerWhole hk

theorem keeps_answerPacket {orig s : State} {p : Nat} (hk : orig.Keeps false s) :
    orig.Keeps false (State.answerPacket s p) := by
  unfold State.answerPacket
  try dsimp only
  repeat' with_reducible first
    | exact State.Keeps.refl _ | assumption | apply keeps_takeInbox | apply keeps_answerWhole | apply keeps_stage
    | apply keeps_answerStaged | split

theorem keeps_trIssue {orig s : State} {p op : Nat} {go : State → Nat → State} (hk : orig.Keeps false s)
    (hgo : ∀ u w, State.Keeps false u (go u w)) :
    orig.Keeps false (State.trIssue s p op go) := by
  unfold State.trIssue
  try dsimp only
  repeat' with_reducible first | exact State.Keeps.refl _ | assumption | apply keeps_issue

theorem keeps_withExt {orig s : State} {p w : Nat} {go : State → Layer → BwdExt → State} (hk : orig.Keeps false s)
    (hgo : ∀ u l e, State.Keeps false u (go u l e)) :
    orig.Keeps false (State.withExt s p w go) := by
  unfold State.withExt
  try dsimp only
  repeat' with_reducible first
    | exact State.Keeps.refl _ | assumption | apply keeps_withLayer | apply keeps_readTable | apply keeps_headFault
    | split | fail_if_no_progress refine keeps_mk (Memory.Kept.refl _) ?_ | intro _ | dsimp only | exact hgo _ | exact hgo _ _
    | exact State.Keeps.trans hk (hgo _) | refine State.Keeps.trans ?_ (hgo _)
    | refine State.Keeps.trans ?_ (hgo _ _) | refine State.Keeps.trans ?_ (hgo _ _ _)

theorem keeps_readRoute {orig s : State} {p : Nat} {k : Asker} {hr : Desc} {n : Nat} (hk : orig.Keeps false s) :
    orig.Keeps false (State.readRoute s p k hr n) := by
  unfold State.readRoute
  try dsimp only
  repeat' with_reducible first | exact State.Keeps.refl _ | assumption | apply keeps_touchReadRun | split

theorem keeps_gsendRun {orig s : State} {p w : Nat} {l : Layer} {x : BwdExt} {ops : List Held} (hk : orig.Keeps false s) :
    orig.Keeps false (State.gsendRun s p w l x ops) := by
  unfold State.gsendRun
  try dsimp only
  repeat' with_reducible first
    | exact State.Keeps.refl _ | assumption | apply keeps_guardCheck | apply keeps_trSched | apply keeps_advance
    | apply keeps_readOperand | apply keeps_setLive | apply keeps_writesBy | apply keeps_scatter
    | apply keeps_pushFlight

theorem keeps_gsend {orig s : State} {p w : Nat} (hk : orig.Keeps false s) :
    orig.Keeps false (State.gsend s p w) := by
  unfold State.gsend
  try dsimp only
  repeat' with_reducible first
    | exact State.Keeps.refl _ | assumption | apply keeps_withOps | apply keeps_withExt | apply keeps_readRoute
    | apply keeps_readTable | apply keeps_headFault | apply keeps_trFaultAt | apply keeps_gsendRun | split
    | fail_if_no_progress refine keeps_mk (Memory.Kept.refl _) ?_ | intro _

theorem keeps_gsendComplete {orig s : State} {p k : Nat} (hk : orig.Keeps κ s) :
    orig.Keeps κ (State.gsendComplete s p k) := by
  unfold State.gsendComplete
  try dsimp only
  repeat' with_reducible first
    | exact State.Keeps.refl _ | assumption | apply keeps_setLive | apply keeps_bump64 | apply keeps_workDone
    | split

theorem keeps_ginbox {orig s : State} {p w : Nat} (hk : orig.Keeps false s) :
    orig.Keeps false (State.ginbox s p w) := by
  unfold State.ginbox
  try dsimp only
  repeat' with_reducible first
    | exact State.Keeps.refl _ | assumption | apply keeps_withExt | apply keeps_inboxLatch | split
    | fail_if_no_progress refine keeps_mk (Memory.Kept.refl _) ?_ | intro _

theorem keeps_visit {orig s : State} {p : Nat} {f : Flight} {x : BwdExt} {slot n : Nat} (hk : orig.Keeps false s) :
    orig.Keeps false (State.visit s p f x slot n).1 := by
  unfold State.visit
  try dsimp only
  repeat' with_reducible first
    | exact State.Keeps.refl _ | assumption | apply keeps_addWord | apply keeps_bump64 | apply keeps_touchWriteRun
    | apply keeps_setNum | split

theorem keeps_ginboxDone {orig s : State} {p k : Nat} (hk : orig.Keeps false s) :
    orig.Keeps false (State.ginboxDone s p k) := by
  unfold State.ginboxDone
  try dsimp only
  repeat' with_reducible first
    | exact State.Keeps.refl _ | assumption | apply keeps_whenVisible | apply keeps_readArrivals
    | apply keeps_inboxTest | apply keeps_inboxSlot | apply keeps_visit | apply keeps_putFlight | split
    | apply keeps_foldl | apply keeps_foldl_fst | fail_if_no_progress refine keeps_mk (Memory.Kept.refl _) ?_ | intro _

theorem keeps_ganswerRun {orig s : State} {p w : Nat} {l : Layer} {x : BwdExt} {slot n : Nat} {ops : List Held}
    (hk : orig.Keeps false s) :
    orig.Keeps false (State.ganswerRun s p w l x slot n ops) := by
  unfold State.ganswerRun
  try dsimp only
  repeat' with_reducible first
    | exact State.Keeps.refl _ | assumption | apply keeps_guardCheck | apply keeps_trSched | apply keeps_advance
    | apply keeps_readOperand | apply keeps_indexList | apply keeps_sendAnswers | apply keeps_answersSent

theorem keeps_ganswer {orig s : State} {p w : Nat} (hk : orig.Keeps false s) :
    orig.Keeps false (State.ganswer s p w) := by
  unfold State.ganswer
  try dsimp only
  repeat' with_reducible first
    | exact State.Keeps.refl _ | assumption | apply keeps_withExt | apply keeps_trFault | apply keeps_readTable
    | apply keeps_headFault | apply keeps_withOps | apply keeps_trNull | apply keeps_ganswerRun | split
    | fail_if_no_progress refine keeps_mk (Memory.Kept.refl _) ?_ | intro _

theorem keeps_ggrad {orig s : State} {p w : Nat} (hk : orig.Keeps false s) :
    orig.Keeps false (State.ggrad s p w) := by
  unfold State.ggrad
  try dsimp only
  repeat' with_reducible first
    | exact State.Keeps.refl _ | assumption | apply keeps_withOps | apply keeps_withExt | apply keeps_trFault
    | apply keeps_trNull | apply keeps_guardCheck | apply keeps_advance | apply keeps_pushFlight | split
    | fail_if_no_progress refine keeps_mk (Memory.Kept.refl _) ?_ | intro _

theorem keeps_ggradDone {orig s : State} {p k i : Nat} (hk : orig.Keeps κ s) :
    orig.Keeps κ (State.ggradDone s p k i) := by
  unfold State.ggradDone
  try dsimp only
  repeat' with_reducible first
    | exact State.Keeps.refl _ | assumption | apply keeps_whenVisible | apply keeps_setLive | split

theorem keeps_ggradReady {orig s : State} {p k : Nat} (hk : orig.Keeps false s) :
    orig.Keeps false (State.ggradReady s p k) := by
  unfold State.ggradReady
  try dsimp only
  repeat' with_reducible first
    | exact State.Keeps.refl _ | assumption | apply keeps_ggradDone | apply keeps_trSched | apply keeps_readOperand
    | apply keeps_readRoute | apply keeps_readMap | apply keeps_guardRuns | apply keeps_writeOperand
    | apply keeps_writeElems | apply keeps_bump64 | apply keeps_putFlight | split

theorem keeps_wgstart {orig s : State} {p w : Nat} (hk : orig.Keeps false s) :
    orig.Keeps false (State.wgstart s p w) := by
  unfold State.wgstart
  try dsimp only
  repeat' with_reducible first
    | exact State.Keeps.refl _ | assumption | apply keeps_withExt | apply keeps_trFault | apply keeps_advance
    | apply keeps_writesBy | apply keeps_pushFlight | apply keeps_workDone | split
    | fail_if_no_progress refine keeps_mk (Memory.Kept.refl _) ?_ | intro _

theorem keeps_touchBias {orig s : State} {wr : Bool} (hk : orig.Keeps false s) :
    orig.Keeps false (State.touchBias s wr) := by
  unfold State.touchBias
  try dsimp only
  repeat' with_reducible first
    | exact State.Keeps.refl _ | assumption | apply keeps_readTable | apply keeps_touchWriteRun | split
    | apply keeps_foldl | apply keeps_foldl_fst | intro _

theorem keeps_biasAtCommit {orig s : State} {p : Nat} {l : Layer} {epoch : Nat} {sum : Nat → Nat} (hk : orig.Keeps false
    s) :
    orig.Keeps false (State.biasAtCommit s p l epoch sum) := by
  unfold State.biasAtCommit
  try dsimp only
  repeat' with_reducible first
    | exact State.Keeps.refl _ | assumption | apply keeps_setNum | apply keeps_bump32 | apply keeps_trEvent | split
    | apply keeps_foldl | apply keeps_foldl_fst | intro _

theorem keeps_biasCommit {orig s : State} {epoch : Nat} {sum : Nat → Nat → Nat} (hk : orig.Keeps false s) :
    orig.Keeps false (State.biasCommit s epoch sum) := by
  unfold State.biasCommit
  try dsimp only
  repeat' with_reducible first
    | exact State.Keeps.refl _ | assumption | apply keeps_biasAtCommit | apply keeps_touchBias | split
    | apply keeps_foldl | apply keeps_foldl_fst | intro _

theorem keeps_clearDemand {orig s : State}  (hk : orig.Keeps false s) :
    orig.Keeps false (State.clearDemand s) := by
  unfold State.clearDemand
  try dsimp only
  repeat' with_reducible first
    | exact State.Keeps.refl _ | assumption | apply keeps_setNum | apply keeps_touchBias | split | apply keeps_foldl
    | apply keeps_foldl_fst | intro _

theorem keeps_quietAll {orig s : State} {p : Nat} (hk : orig.Keeps κ s) :
    orig.Keeps κ (State.quietAll s p) := by
  unfold State.quietAll
  try dsimp only
  repeat' with_reducible first
    | exact State.Keeps.refl _ | assumption | apply keeps_quiet | split | apply keeps_foldl | apply keeps_foldl_fst
    | intro _

theorem keeps_touchEntry {orig s : State} {p b : Nat} {k : Asker} {at_ n : Nat} (hk : orig.Keeps false s) :
    orig.Keeps false (State.touchEntry s p b k at_ n) := by
  unfold State.touchEntry
  try dsimp only
  repeat' with_reducible first | exact State.Keeps.refl _ | assumption | apply keeps_touchWriteRun

theorem keeps_setBucketState {orig s : State} {p b v : Nat} (hk : orig.Keeps false s) :
    orig.Keeps false (State.setBucketState s p b v) := by
  unfold State.setBucketState
  try dsimp only
  repeat' with_reducible first | exact State.Keeps.refl _ | assumption | apply keeps_touchEntry | apply keeps_setNum

theorem keeps_setLayout {orig s : State} {v : Nat} (hk : orig.Keeps κ s) :
    orig.Keeps κ (State.setLayout s v) := by
  unfold State.setLayout
  try dsimp only
  repeat' with_reducible first | exact State.Keeps.refl _ | assumption | apply keeps_setOd

theorem keeps_zeroRun {orig s : State} {k n : Nat} (hk : orig.Keeps false s) :
    orig.Keeps false (State.zeroRun s k n) := ⟨hk.1, hk.2, fun x => Memory.wf_without _ _ (hk.3 x)⟩

theorem keeps_startArea {orig s : State} {who : Asker} {area n : Nat} {anchor : Int} (hk : orig.Keeps false s) :
    orig.Keeps false (State.startArea s who area n anchor) := by
  unfold State.startArea
  try dsimp only
  repeat' with_reducible first
    | exact State.Keeps.refl _ | assumption | apply keeps_touchWriteRun | apply keeps_setNum | split
    | apply keeps_foldl | apply keeps_foldl_fst | intro _

theorem keeps_setNumBy {orig s : State} {k n v : Nat} (hk : orig.Keeps false s) :
    orig.Keeps false (State.setNumBy s k n v) := by
  unfold State.setNumBy
  try dsimp only
  repeat' with_reducible first | exact State.Keeps.refl _ | assumption | apply keeps_setNum | split

theorem keeps_zeroTile {orig s : State} {k : Nat} (hk : orig.Keeps false s) :
    orig.Keeps false (State.zeroTile s k) := by
  unfold State.zeroTile
  try dsimp only
  repeat' with_reducible first
    | exact State.Keeps.refl _ | assumption | apply keeps_zeroRun | split | apply keeps_foldl
    | apply keeps_foldl_fst | intro _

theorem keeps_bufferTouch {orig s : State} {k n : Nat} (hk : orig.Keeps false s) :
    orig.Keeps false (State.bufferTouch s k n) := by
  unfold State.bufferTouch
  try dsimp only
  repeat' with_reducible first
    | exact State.Keeps.refl _ | assumption | apply keeps_setBytes | split | apply keeps_foldl
    | apply keeps_foldl_fst | fail_if_no_progress refine keeps_mk (Memory.Kept.refl _) ?_ | intro _

theorem keeps_readArea {orig s : State} {who : Asker} {area n : Nat} (hk : orig.Keeps false s) :
    orig.Keeps false (State.readArea s who area n) := by
  unfold State.readArea
  try dsimp only
  repeat' with_reducible first
    | exact State.Keeps.refl _ | assumption | apply keeps_touchReadRun | apply keeps_bufferTouch

theorem keeps_accum {orig s : State} {area n i : Nat} {ts : List Term} {merge : Option XaStat} (hk : orig.Keeps false s) :
    orig.Keeps false (State.accum s area n i ts merge) := by
  unfold State.accum
  try dsimp only
  repeat' with_reducible first
    | exact State.Keeps.refl _ | assumption | apply keeps_zeroTile | apply keeps_setNumBy | split

theorem keeps_adderRun {orig s : State} {who : Asker} {k n : Nat} (hk : orig.Keeps false s) :
    orig.Keeps false (State.adderRun s who k n) := by
  unfold State.adderRun
  try dsimp only
  repeat' with_reducible first
    | exact State.Keeps.refl _ | assumption | apply keeps_adderTouch | apply keeps_bufferTouch | split

theorem keeps_adderArea {orig s : State} {who : Asker} {area n first count : Nat} (hk : orig.Keeps false s) :
    orig.Keeps false (State.adderArea s who area n first count) := by
  unfold State.adderArea
  try dsimp only
  repeat' with_reducible first | exact State.Keeps.refl _ | assumption | apply keeps_adderRun | split

theorem keeps_laccInto {orig s : State} {p area n : Nat} {src : Held} (hk : orig.Keeps false s) :
    orig.Keeps false (State.laccInto s p area n src) := by
  unfold State.laccInto
  try dsimp only
  repeat' with_reducible first
    | exact State.Keeps.refl _ | assumption | apply keeps_accum | split | apply keeps_foldl | apply keeps_foldl_fst
    | intro _

theorem keeps_readSource {orig s : State} {p : Nat} {who : Asker} {l : Held} (hk : orig.Keeps false s) :
    orig.Keeps false (State.readSource s p who l) := by
  unfold State.readSource
  try dsimp only
  repeat' with_reducible first
    | exact State.Keeps.refl _ | assumption | apply keeps_readOperand | apply keeps_touchReadRun | split

theorem keeps_laccRun {orig s : State} {p q : Nat} {f : Flight} {x : Nat} {ops : List Held} (hk : orig.Keeps false s) :
    orig.Keeps false (State.laccRun s p q f x ops).1 := by
  unfold State.laccRun
  try dsimp only
  repeat' with_reducible first
    | exact State.Keeps.refl _ | assumption | apply keeps_release | apply keeps_claim | apply keeps_schedFault
    | apply keeps_readSource | apply keeps_guardRuns | apply keeps_adderArea | apply keeps_laccInto | split

theorem keeps_laccAll {orig s : State} {p q : Nat} {f : Flight} {x4 x5 : Nat} (hk : orig.Keeps false s) :
    orig.Keeps false (State.laccAll s p q f x4 x5).1 := by
  induction x4 generalizing s f x5 with
  | zero => exact hk
  | succ n ih =>
    unfold State.laccAll
    try dsimp only
    repeat' with_reducible first
      | apply ih | exact State.Keeps.refl _ | assumption | apply keeps_guardEnd | apply keeps_release
      | apply keeps_dropReqs | apply keeps_operandFault | apply keeps_laccRun | split | apply keeps_foldl
      | apply keeps_foldl_fst | fail_if_no_progress refine keeps_mk (Memory.Kept.refl _) ?_ | intro _

theorem keeps_laccLatch {orig s : State} {p q w : Nat} (hk : orig.Keeps false s) :
    orig.Keeps false (State.laccLatch s p q w) := by
  unfold State.laccLatch
  try dsimp only
  repeat' with_reducible first
    | exact State.Keeps.refl _ | assumption | apply keeps_descFault | apply keeps_headFault | apply keeps_nullHead
    | apply keeps_guardCheck | apply keeps_advance | apply keeps_laccAll | apply keeps_pushFlight | split

theorem keeps_emitResid {orig s : State} {who : Asker} {bank n : Nat} {sel : List Nat} (hk : orig.Keeps false s) :
    orig.Keeps false (State.emitResid s who bank n sel).1 := by
  unfold State.emitResid
  try dsimp only
  repeat' with_reducible first
    | exact State.Keeps.refl _ | assumption | apply keeps_adderArea | apply keeps_accum | apply keeps_setNum | split
    | apply keeps_foldl | apply keeps_foldl_fst | fail_if_no_progress refine keeps_mk (Memory.Kept.refl _) ?_ | intro _

theorem keeps_thinAdd {orig s : State} {p r e : Nat} {who : Asker} {hs : Held} (hk : orig.Keeps false s) :
    orig.Keeps false (State.thinAdd s p r e who hs) := by
  unfold State.thinAdd
  try dsimp only
  repeat' with_reducible first
    | exact State.Keeps.refl _ | assumption | apply keeps_startArea | apply keeps_readArea | apply keeps_adderArea
    | apply keeps_accum | apply keeps_laccInto | split | apply keeps_foldl | apply keeps_foldl_fst | intro _

theorem keeps_redEvent {orig s : State} {p code key d0 d1 : Nat} (hk : orig.Keeps false s) :
    orig.Keeps false (State.redEvent s p code key d0 d1) := by
  unfold State.redEvent
  try dsimp only
  repeat' with_reducible first | exact State.Keeps.refl _ | assumption | apply keeps_ringPut

theorem keeps_redOnce {orig s : State} {p kind b code d0 d1 : Nat} (hk : orig.Keeps false s) :
    orig.Keeps false (State.redOnce s p kind b code d0 d1) := by
  unfold State.redOnce
  try dsimp only
  repeat' with_reducible first
    | exact State.Keeps.refl _ | assumption | apply keeps_setOnce | apply keeps_redEvent | split

theorem keeps_setBucketHist {orig s : State} {a : Nat} {h : List Int × Nat × Nat} (hk : orig.Keeps false s) :
    orig.Keeps false (State.setBucketHist s a h) := by
  unfold State.setBucketHist
  try dsimp only
  repeat' with_reducible first | exact State.Keeps.refl _ | assumption | apply keeps_setBytes | apply keeps_setNum

theorem keeps_bucketTrack {orig s : State} {p b w : Nat} (hk : orig.Keeps false s) :
    orig.Keeps false (State.bucketTrack s p b w) := by
  unfold State.bucketTrack
  try dsimp only
  repeat' with_reducible first
    | exact State.Keeps.refl _ | assumption | apply keeps_setBucketHist | apply keeps_bump32 | apply keeps_redEvent
    | apply keeps_setNum | split

theorem keeps_bucketTrackCommit {orig s : State} {p b : Nat} {old : Option Nat} (hk : orig.Keeps false s) :
    orig.Keeps false (State.bucketTrackCommit s p b old) := by
  unfold State.bucketTrackCommit
  try dsimp only
  repeat' with_reducible first
    | exact State.Keeps.refl _ | assumption | apply keeps_touchReadRun | apply keeps_touchEntry
    | apply keeps_setBucketHist | apply keeps_bucketTrack | split

theorem keeps_bucketsTrack {orig s : State} {old : Option Nat} (hk : orig.Keeps false s) :
    orig.Keeps false (State.bucketsTrack s old) := by
  unfold State.bucketsTrack
  try dsimp only
  repeat' with_reducible first
    | exact State.Keeps.refl _ | assumption | apply keeps_bucketTrackCommit | split | apply keeps_foldl
    | apply keeps_foldl_fst | intro _

theorem keeps_bucketsIdle {orig s : State}  (hk : orig.Keeps false s) :
    orig.Keeps false (State.bucketsIdle s) := by
  unfold State.bucketsIdle
  try dsimp only
  repeat' with_reducible first
    | exact State.Keeps.refl _ | assumption | apply keeps_setBucketState | split | apply keeps_foldl
    | apply keeps_foldl_fst | intro _

theorem keeps_setRed {orig s : State} {p : Nat} {j : Red} (hk : orig.Keeps κ s) :
    orig.Keeps κ (State.setRed s p j) := by
  unfold State.setRed
  try dsimp only
  repeat' with_reducible first | exact State.Keeps.refl _ | assumption | apply keeps_modPier

theorem keeps_dropRed {orig s : State} {p b : Nat} (hk : orig.Keeps κ s) :
    orig.Keeps κ (State.dropRed s p b) := by
  unfold State.dropRed
  try dsimp only
  repeat' with_reducible first | exact State.Keeps.refl _ | assumption | apply keeps_modPier

theorem keeps_sendChunks {orig s : State} {p : Nat} {j : Red} {k pos : Nat} {ret : Bool} {kind : Nat} {cs : List
    Chunk} {visits : Nat} (hk : orig.Keeps κ s) :
    orig.Keeps κ (State.sendChunks s p j k pos ret kind cs visits) := by
  unfold State.sendChunks
  try dsimp only
  repeat' with_reducible first
    | exact State.Keeps.refl _ | assumption | apply keeps_bump64 | apply keeps_sendReq | split | apply keeps_foldl
    | apply keeps_foldl_fst | intro _

theorem keeps_satfBucket {orig s : State} {p : Nat} {j : Red} {k t : Nat} (hk : orig.Keeps false s) :
    orig.Keeps false (State.satfBucket s p j k t) := by
  unfold State.satfBucket
  try dsimp only
  repeat' with_reducible first
    | exact State.Keeps.refl _ | assumption | apply keeps_redOnce | apply keeps_bump32 | split
    | fail_if_no_progress refine keeps_mk (Memory.Kept.refl _) ?_

theorem keeps_applyChunk {orig s : State} {p : Nat} {j : Red} {who : Asker} {k kind : Nat} {c : Chunk} (hk :
    orig.Keeps false s) :
    orig.Keeps false (State.applyChunk s p j who k kind c) := by
  unfold State.applyChunk
  try dsimp only
  repeat' with_reducible first
    | exact State.Keeps.refl _ | assumption | apply keeps_adderArea | apply keeps_accum | apply keeps_satfBucket
    | split | apply keeps_foldl | apply keeps_foldl_fst | intro _

theorem keeps_raiseCmax {orig s : State} {p b : Nat} {v : Val} (hk : orig.Keeps false s) :
    orig.Keeps false (State.raiseCmax s p b v) := by
  unfold State.raiseCmax
  try dsimp only
  repeat' with_reducible first | exact State.Keeps.refl _ | assumption | apply keeps_setNum | split

theorem keeps_resultVal {orig s : State} {rf e : Nat} {st : XaStat} (hk : orig.Keeps κ s) :
    orig.Keeps κ (State.resultVal s rf e st).2 := by
  unfold State.resultVal
  try dsimp only
  repeat' with_reducible first | exact State.Keeps.refl _ | assumption | apply keeps_takeFree | split

theorem keeps_resultVals {orig s : State} {rf : Nat} {es : List Nat} {st : XaStat} (hk : orig.Keeps κ s) :
    orig.Keeps κ (State.resultVals s rf es st).2 := by
  unfold State.resultVals
  have hg : ∀ (l : List Nat) (a : List Val × State), orig.Keeps κ a.2 →
      orig.Keeps κ (l.foldl (fun a e => let r := a.2.resultVal rf e st; (a.1 ++ [r.1], r.2)) a).2 := by
    intro l
    induction l with
    | nil => exact fun _ h => h
    | cons e l ih => exact fun a h => ih _ (keeps_resultVal h)
  exact hg _ _ hk

theorem keeps_writeFinal {orig s : State} {p : Nat} {j : Red} {g0 : Nat} {es : List Nat} {st : Nat} {meas : List
    Val} (hk : orig.Keeps false s) :
    orig.Keeps false (State.writeFinal s p j g0 es st meas).1 := by
  unfold State.writeFinal
  try dsimp only
  repeat' with_reducible first
    | exact State.Keeps.refl _ | assumption | apply keeps_putElem | apply keeps_watchWrites | apply keeps_raiseCmax
    | apply keeps_touchEntry | apply keeps_watchExport | apply keeps_write | split | apply keeps_foldl
    | apply keeps_foldl_fst | fail_if_no_progress refine keeps_mk (Memory.Kept.refl _) ?_ | intro _

theorem keeps_sendResults {orig s : State} {p : Nat} {j : Red} {k : Nat} (hk : orig.Keeps κ s) :
    orig.Keeps κ (State.sendResults s p j k) := by
  unfold State.sendResults
  try dsimp only
  repeat' with_reducible first
    | exact State.Keeps.refl _ | assumption | apply keeps_sendChunks | split | apply keeps_foldl
    | apply keeps_foldl_fst | intro _

theorem keeps_finalExport {orig s : State} {p : Nat} {j : Red} (hk : orig.Keeps false s) :
    orig.Keeps false (State.finalExport s p j).1 := by
  unfold State.finalExport
  try dsimp only
  repeat' with_reducible first
    | exact State.Keeps.refl _ | assumption | apply keeps_readArea | apply keeps_redOnce | apply keeps_watchFirst
    | apply keeps_writeFinal | split | apply keeps_foldl | apply keeps_foldl_fst | intro _

theorem keeps_retStep {orig s : State} {p : Nat} {j : Red} {k : Nat} (hk : orig.Keeps κ s) :
    orig.Keeps κ (State.retStep s p j k).1 := by
  unfold State.retStep
  try dsimp only
  repeat' with_reducible first | exact State.Keeps.refl _ | assumption | apply keeps_sendResults | split

theorem keeps_retSteps {orig s : State} {p : Nat} {j : Red} (hk : orig.Keeps κ s) :
    orig.Keeps κ (State.retSteps s p j).1 := by
  unfold State.retSteps
  try dsimp only
  repeat' with_reducible first | exact State.Keeps.refl _ | assumption | apply keeps_retStep

theorem keeps_forward {orig s : State} {p : Nat} {j : Red} {k : Nat} (hk : orig.Keeps false s) :
    orig.Keeps false (State.forward s p j k).1 := by
  unfold State.forward
  try dsimp only
  repeat' with_reducible first
    | exact State.Keeps.refl _ | assumption | apply keeps_readArea | apply keeps_applyChunk | apply keeps_sendChunks
    | split | apply keeps_foldl | apply keeps_foldl_fst | intro _

theorem keeps_stageStep {orig s : State} {p : Nat} {j : Red} {k : Nat} (hk : orig.Keeps false s) :
    orig.Keeps false (State.stageStep s p j k).1 := by
  unfold State.stageStep
  try dsimp only
  repeat' with_reducible first
    | exact State.Keeps.refl _ | assumption | apply keeps_forward | apply keeps_finalExport
    | apply keeps_sendResults | split

theorem keeps_redSteps {orig s : State} {p : Nat} {j : Red} (hk : orig.Keeps false s) :
    orig.Keeps false (State.redSteps s p j) := by
  unfold State.redSteps
  try dsimp only
  repeat' with_reducible first
    | exact State.Keeps.refl _ | assumption | apply keeps_setRed | apply keeps_stageStep | apply keeps_retSteps
    | split

theorem keeps_contribute {orig s : State} {p : Nat} {j : Red} {kind q : Nat} {cs : List Chunk} {visits : Nat} (hk
    : orig.Keeps false s) :
    orig.Keeps false (State.contribute s p j kind q cs visits).1 := by
  unfold State.contribute
  try dsimp only
  repeat' with_reducible first
    | exact State.Keeps.refl _ | assumption | apply keeps_applyChunk | apply keeps_sendChunks | split
    | apply keeps_foldl | apply keeps_foldl_fst | intro _

theorem keeps_contribAll {orig s : State} {p : Nat} {j : Red} {visits : Nat} (hk : orig.Keeps false s) :
    orig.Keeps false (State.contribAll s p j visits).1 := by
  unfold State.contribAll
  try dsimp only
  repeat' with_reducible first
    | exact State.Keeps.refl _ | assumption | apply keeps_contribute | split | apply keeps_foldl
    | apply keeps_foldl_fst | intro _

theorem keeps_contribThin {orig s : State} {p : Nat} {j : Red} {e : Nat} (hk : orig.Keeps false s) :
    orig.Keeps false (State.contribThin s p j e).1 := by
  unfold State.contribThin
  try dsimp only
  repeat' with_reducible first
    | exact State.Keeps.refl _ | assumption | apply keeps_readArea | apply keeps_emitResid | apply keeps_contribute
    | split | apply keeps_foldl | apply keeps_foldl_fst | intro _

theorem keeps_openBucket {orig s : State} {p b r : Nat} {who : Asker} (hk : orig.Keeps false s) :
    orig.Keeps false (State.openBucket s p b r who) := by
  unfold State.openBucket
  try dsimp only
  repeat' with_reducible first
    | exact State.Keeps.refl _ | assumption | apply keeps_touchEntry | apply keeps_setNum | apply keeps_startArea
    | split | apply keeps_foldl | apply keeps_foldl_fst | intro _

theorem keeps_redRecord {orig s : State} {p : Nat} {j : Red} {v : Nat} (hk : orig.Keeps false s) :
    orig.Keeps false (State.redRecord s p j v) := by
  unfold State.redRecord
  try dsimp only
  repeat' with_reducible first | exact State.Keeps.refl _ | assumption | apply keeps_touchEntry | apply keeps_setNum

theorem keeps_redEnd {orig s : State} {p : Nat} {j : Red} (hk : orig.Keeps κ s) :
    orig.Keeps κ (State.redEnd s p j) := by
  unfold State.redEnd
  try dsimp only
  repeat' with_reducible first
    | exact State.Keeps.refl _ | assumption | apply keeps_dropRed | apply keeps_release | apply keeps_putFlight
    | apply keeps_workDone | split

theorem keeps_redRun {orig s : State} {p q w r : Nat} {ops : List Held} (hk : orig.Keeps false s) :
    orig.Keeps false (State.redRun s p q w r ops) := by
  unfold State.redRun
  extract_lets ident b fsrc f g hd hs who cl s1 s2 s3 visits s4 gr s5 j src s6 s7 a e s8
  have h0 : orig.Keeps false cl.1 := keeps_claim (keeps_guardCheck hk)
  have h1 : orig.Keeps false s1 := by
    unfold s1
    cases cl.2.2
    · exact h0
    · exact keeps_schedFault h0
  have h2 : orig.Keeps false s2 := by
    unfold s2
    cases (if hs.stale then none else s1.firstForeignOf 3 ((hs.areaRegions p).map (fun r => (1, r))))
    · exact h1
    · exact keeps_schedFault h1
  have h3 : orig.Keeps false s3 := keeps_ite _ (keeps_touchReadRun h2) h2
  have h4 : orig.Keeps false s4 := keeps_bump64 (keeps_openBucket h3)
  have h5 : orig.Keeps false s5 := keeps_writeOperand (keeps_readSource (keeps_guardRuns h4))
  have h7 : orig.Keeps false s7 := keeps_modPier (keeps_pushFlight (keeps_advance h5))
  have h8 : orig.Keeps false s8 := keeps_thinAdd h7
  clear_value s8
  refine keeps_ite _ (keeps_redSteps (keeps_contribAll h7)) (keeps_ite _ ?_ ?_)
  · exact keeps_redSteps (keeps_contribThin h8)
  · exact keeps_redEnd (keeps_bump64 (keeps_redRecord h8))

theorem keeps_redLatch {orig s : State} {p q w : Nat} (hk : orig.Keeps false s) :
    orig.Keeps false (State.redLatch s p q w) := by
  unfold State.redLatch
  try dsimp only
  repeat' with_reducible first
    | exact State.Keeps.refl _ | assumption | apply keeps_descFault | apply keeps_touchReadRun | apply keeps_advance
    | apply keeps_operandFault | apply keeps_headFault | apply keeps_redRun | split

theorem keeps_redComplete {orig s : State} {p b : Nat} (hk : orig.Keeps false s) :
    orig.Keeps false (State.redComplete s p b) := by
  unfold State.redComplete
  try dsimp only
  repeat' with_reducible first
    | exact State.Keeps.refl _ | assumption | apply keeps_redRecord | apply keeps_redEnd | split

theorem keeps_redReject {orig s : State} {p : Nat} {h : RedHdr} {raw src sub mark code : Nat} (hk : orig.Keeps false s) :
    orig.Keeps false (State.redReject s p h raw src sub mark code) := by
  unfold State.redReject
  try dsimp only
  repeat' with_reducible first | exact State.Keeps.refl _ | assumption | apply keeps_bump32 | apply keeps_redOnce

theorem keeps_takeResult {orig s : State} {p : Nat} {j : Red} {h : RedHdr} {c : Chunk} {last : Bool} (hk :
    orig.Keeps false s) :
    orig.Keeps false (State.takeResult s p j h c last) := by
  unfold State.takeResult
  try dsimp only
  repeat' with_reducible first
    | exact State.Keeps.refl _ | assumption | apply keeps_stage | apply keeps_resultVals | apply keeps_guardOnce
    | apply keeps_writeFinal | apply keeps_redSteps | split

theorem keeps_takeContrib {orig s : State} {p : Nat} {j : Red} {h : RedHdr} {c : Chunk} {last : Bool} (hk :
    orig.Keeps false s) :
    orig.Keeps false (State.takeContrib s p j h c last) := by
  unfold State.takeContrib
  try dsimp only
  repeat' with_reducible first
    | exact State.Keeps.refl _ | assumption | apply keeps_guardOnce | apply keeps_stage | apply keeps_applyChunk
    | apply keeps_bump64 | apply keeps_redSteps | apply keeps_setRed | split

theorem keeps_redJudge {orig s : State} {p : Nat} {priv : Bool} {pk : Packet} (hk : orig.Keeps false s) :
    orig.Keeps false (State.redJudge s p priv pk).1 := by
  unfold State.redJudge
  extract_lets raw h data s1 job r st step
  have h1 : orig.Keeps false s1 := keeps_ite _ hk (keeps_touchReadRun hk)
  clear_value raw h data s1 job r st step
  iterate 6 refine keeps_ite_fst _ (by first | exact h1 | exact keeps_redReject h1) ?_
  split
  · exact keeps_redReject h1
  · extract_lets key
    iterate 2 refine keeps_ite_fst _ (keeps_redReject h1) ?_
    extract_lets
    exact keeps_ite _ (keeps_takeResult h1) (keeps_takeContrib h1)

theorem keeps_redPacket {orig s : State} {p : Nat} {priv : Bool} (hk : orig.Keeps false s) :
    orig.Keeps false (State.redPacket s p priv) := by
  unfold State.redPacket
  dsimp only
  split
  · split
    · exact hk
    · rename_i x hx
      refine keeps_respond (keeps_redJudge ?_)
      unfold State.takeContext at hx
      split at hx
      · cases hx
      · cases hx; exact keeps_mk (Memory.Kept.refl _) hk
  · split
    · exact hk
    · exact keeps_respond (keeps_redJudge (keeps_takeInbox hk))

theorem keeps_redResponse {orig s : State} {q : Req} {code : Nat} (hk : orig.Keeps false s) :
    orig.Keeps false (State.redResponse s q code) := by
  unfold State.redResponse
  try dsimp only
  repeat' with_reducible first
    | exact State.Keeps.refl _ | assumption | apply keeps_redOnce | apply keeps_setRed | apply keeps_markFaulted
    | split | fail_if_no_progress refine keeps_mk (Memory.Kept.refl _) ?_

theorem keeps_redRetry {orig s : State} {tag : Nat} (hk : orig.Keeps κ s) :
    orig.Keeps κ (State.redRetry s tag) := by
  unfold State.redRetry
  try dsimp only
  repeat' with_reducible first
    | exact State.Keeps.refl _ | assumption | apply keeps_bump64 | apply keeps_toRouter | split
    | fail_if_no_progress refine keeps_mk (Memory.Kept.refl _) ?_

theorem keeps_fenceLatch {orig s : State} {p q w : Nat} (hk : orig.Keeps false s) :
    orig.Keeps false (State.fenceLatch s p q w) := by
  unfold State.fenceLatch
  try dsimp only
  repeat' with_reducible first
    | exact State.Keeps.refl _ | assumption | apply keeps_nullHead | apply keeps_advance | apply keeps_pushFlight
    | split | fail_if_no_progress refine keeps_mk (Memory.Kept.refl _) ?_

theorem keeps_fenceApply {orig s : State}  (hk : orig.Keeps false s) :
    orig.Keeps false (State.fenceApply s) := by
  unfold State.fenceApply
  try dsimp only
  repeat' with_reducible first
    | exact State.Keeps.refl _ | assumption | apply keeps_setLayout | apply keeps_redEvent | apply keeps_workDone
    | split | fail_if_no_progress refine keeps_mk (Memory.Kept.refl _) ?_

theorem keeps_layoutWrite {orig s : State} {v : Nat} (hk : orig.Keeps κ s) :
    orig.Keeps κ (State.layoutWrite s v).2 := by
  unfold State.layoutWrite
  try dsimp only
  repeat' with_reducible first | exact State.Keeps.refl _ | assumption | apply keeps_setLayout | split

theorem keeps_releaseBucket {orig s : State} {p b : Nat} (hk : orig.Keeps false s) :
    orig.Keeps false (State.releaseBucket s p b).2 := by
  unfold State.releaseBucket
  try dsimp only
  repeat' with_reducible first | exact State.Keeps.refl _ | assumption | apply keeps_setBucketState | split

theorem keeps_releaseAll {orig s : State} {p : Nat} (hk : orig.Keeps false s) :
    orig.Keeps false (State.releaseAll s p) := by
  unfold State.releaseAll
  try dsimp only
  repeat' with_reducible first
    | exact State.Keeps.refl _ | assumption | apply keeps_setBucketState | split | apply keeps_foldl
    | apply keeps_foldl_fst | intro _

theorem keeps_abandonBuckets {orig s : State}  (hk : orig.Keeps false s) :
    orig.Keeps false (State.abandonBuckets s) := by
  unfold State.abandonBuckets
  try dsimp only
  repeat' with_reducible first
    | exact State.Keeps.refl _ | assumption | apply keeps_setBucketState | apply keeps_redEnd | split
    | apply keeps_foldl | apply keeps_foldl_fst | fail_if_no_progress refine keeps_mk (Memory.Kept.refl _) ?_ | intro _

theorem keeps_resetBuckets {orig s : State} {p : Nat} (hk : orig.Keeps false s) :
    orig.Keeps false (State.resetBuckets s p) := by
  unfold State.resetBuckets
  try dsimp only
  repeat' with_reducible first
    | exact State.Keeps.refl _ | assumption | apply keeps_setBucketState | apply keeps_modPier | split
    | apply keeps_foldl | apply keeps_foldl_fst | fail_if_no_progress refine keeps_mk (Memory.Kept.refl _) ?_ | intro _

theorem keeps_sendMapData {orig s : State} {p m dp : Nat} {slow : Bool} {layout ident group x8 x9 : Nat} {x10 :
    List Byte} (hk : orig.Keeps κ s) :
    orig.Keeps κ (State.sendMapData s p m dp slow layout ident group x8 x9 x10) := by
  induction x8 generalizing s x9 x10 with
  | zero => exact hk
  | succ n ih =>
    unfold State.sendMapData
    try dsimp only
    repeat' with_reducible first
      | apply ih | exact State.Keeps.refl _ | assumption | apply keeps_bump64 | apply keeps_sendReq | split

theorem keeps_sendMap {orig s : State} {p m dp : Nat} {slow : Bool} {layout ident group sig addr : Nat} {data :
    List Byte} (hk : orig.Keeps κ s) :
    orig.Keeps κ (State.sendMap s p m dp slow layout ident group sig addr data) := by
  unfold State.sendMap
  try dsimp only
  repeat' with_reducible first
    | exact State.Keeps.refl _ | assumption | apply keeps_sendReq | apply keeps_sendMapData | split
    | fail_if_no_progress refine keeps_mk (Memory.Kept.refl _) ?_

theorem keeps_rwRun {orig s : State} {p q : Nat} {f : Flight} {x : Nat} {ops : List Held} (hk : orig.Keeps false s) :
    orig.Keeps false (State.rwRun s p q f x ops).1 := by
  unfold State.rwRun
  try dsimp only
  repeat' with_reducible first
    | exact State.Keeps.refl _ | assumption | apply keeps_schedFault | apply keeps_readOperand | apply keeps_sendMap
    | split

theorem keeps_rwAll {orig s : State} {p q : Nat} {f : Flight} {x4 x5 : Nat} (hk : orig.Keeps false s) :
    orig.Keeps false (State.rwAll s p q f x4 x5).1 := by
  induction x4 generalizing s f x5 with
  | zero => exact hk
  | succ n ih =>
    unfold State.rwAll
    try dsimp only
    repeat' with_reducible first
      | apply ih | exact State.Keeps.refl _ | assumption | apply keeps_dropReqs | apply keeps_operandFault
      | apply keeps_rwRun | split

theorem keeps_rwLatch {orig s : State} {p q w : Nat} (hk : orig.Keeps false s) :
    orig.Keeps false (State.rwLatch s p q w) := by
  unfold State.rwLatch
  try dsimp only
  repeat' with_reducible first
    | exact State.Keeps.refl _ | assumption | apply keeps_descFault | apply keeps_headFault | apply keeps_nullHead
    | apply keeps_guardCheck | apply keeps_advance | apply keeps_rwAll | apply keeps_pushFlight | split

theorem keeps_permRun {orig s : State} {p : Nat} {f : Flight} {src : Held} {k e : Nat} (hk : orig.Keeps false s) :
    orig.Keeps false (State.permRun s p f src k e).1 := by
  unfold State.permRun
  try dsimp only
  repeat' with_reducible first
    | exact State.Keeps.refl _ | assumption | apply keeps_writeBy | apply keeps_addCounter | apply keeps_sendMap
    | split

theorem keeps_mapDone {orig s : State} {p q ident : Nat} (hk : orig.Keeps κ s) :
    orig.Keeps κ (State.mapDone s p q ident) := by
  unfold State.mapDone
  try dsimp only
  repeat' with_reducible first
    | exact State.Keeps.refl _ | assumption | apply keeps_bump64 | apply keeps_workDone | split

theorem keeps_permLatch {orig s : State} {p q w : Nat} (hk : orig.Keeps false s) :
    orig.Keeps false (State.permLatch s p q w) := by
  unfold State.permLatch
  try dsimp only
  repeat' with_reducible first
    | exact State.Keeps.refl _ | assumption | apply keeps_descFault | apply keeps_readOperand | apply keeps_dropReqs
    | apply keeps_advance | apply keeps_operandFault | apply keeps_nullHead | apply keeps_guardCheck
    | apply keeps_schedFault | apply keeps_permRun | apply keeps_pushFlight | apply keeps_mapDone | split
    | apply keeps_foldl | apply keeps_foldl_fst | fail_if_no_progress refine keeps_mk (Memory.Kept.refl _) ?_ | intro _

theorem keeps_mapSignalNow {orig s : State} {ident group : Nat} (hk : orig.Keeps κ s) :
    orig.Keeps κ (State.mapSignalNow s ident group) := by
  unfold State.mapSignalNow
  try dsimp only
  repeat' with_reducible first
    | exact State.Keeps.refl _ | assumption | apply keeps_sendReq | split
    | fail_if_no_progress refine keeps_mk (Memory.Kept.refl _) ?_

theorem keeps_mapResponse {orig s : State} {r : Req} {code : Nat} (hk : orig.Keeps κ s) :
    orig.Keeps κ (State.mapResponse s r code) := by
  unfold State.mapResponse
  try dsimp only
  repeat' with_reducible first
    | exact State.Keeps.refl _ | assumption | apply keeps_mapSignalNow | apply keeps_mapDone | apply keeps_bump32
    | apply keeps_markFaulted | split | fail_if_no_progress refine keeps_mk (Memory.Kept.refl _) ?_

theorem keeps_mapRetry {orig s : State} {tag : Nat} (hk : orig.Keeps κ s) :
    orig.Keeps κ (State.mapRetry s tag) := by
  unfold State.mapRetry
  try dsimp only
  repeat' with_reducible first
    | exact State.Keeps.refl _ | assumption | apply keeps_bump64 | apply keeps_toRouter | split
    | fail_if_no_progress refine keeps_mk (Memory.Kept.refl _) ?_

theorem keeps_mapJudge {orig s : State} {p : Nat} {pk : Packet} (hk : orig.Keeps κ s) :
    orig.Keeps κ (State.mapJudge s p pk).1 := by
  unfold State.mapJudge
  try dsimp only
  repeat' with_reducible first | exact State.Keeps.refl _ | assumption | apply keeps_bump32 | split

theorem keeps_invalidateRun {orig s : State} {off n : Nat} (hk : orig.Keeps false s) :
    orig.Keeps false (State.invalidateRun s off n) := by
  unfold State.invalidateRun
  try dsimp only
  repeat' with_reducible first
    | exact State.Keeps.refl _ | assumption | apply keeps_slowLineWrite | split | apply keeps_foldl
    | apply keeps_foldl_fst | intro _

theorem keeps_mapData {orig s : State} {p : Nat} (hk : orig.Keeps false s) :
    orig.Keeps false (State.mapData s p) := by
  unfold State.mapData
  try dsimp only
  repeat' with_reducible first
    | exact State.Keeps.refl _ | assumption | apply keeps_mapJudge | apply keeps_takeInbox | apply keeps_respond
    | apply keeps_invalidateRun | apply keeps_storeRun | apply keeps_guardOnce | split

theorem keeps_mapSignal {orig s : State} {p : Nat} (hk : orig.Keeps κ s) :
    orig.Keeps κ (State.mapSignal s p) := by
  unfold State.mapSignal
  try dsimp only
  repeat' with_reducible first
    | exact State.Keeps.refl _ | assumption | apply keeps_mapJudge | apply keeps_takeInbox | apply keeps_respond
    | apply keeps_addCounter | apply keeps_bump64 | split

theorem keeps_copyDone {orig s : State} {p e : Nat} (hk : orig.Keeps κ s) :
    orig.Keeps κ (State.copyDone s p e) := by
  unfold State.copyDone
  try dsimp only
  repeat' with_reducible first
    | exact State.Keeps.refl _ | assumption | apply keeps_mapDone | apply keeps_copyComplete | split

theorem keeps_takeAck {orig s : State} {k n : Nat} (hk : orig.Keeps κ s) :
    orig.Keeps κ (State.takeAck s k n) := by
  unfold State.takeAck
  try dsimp only
  repeat' with_reducible first
    | exact State.Keeps.refl _ | assumption | apply keeps_setPort | apply keeps_pumpAll | split

theorem keeps_takeNak {orig s : State} {k n : Nat} (hk : orig.Keeps κ s) :
    orig.Keeps κ (State.takeNak s k n) := by
  unfold State.takeNak
  try dsimp only
  repeat' with_reducible first
    | exact State.Keeps.refl _ | assumption | apply keeps_emit | apply keeps_setPort | apply keeps_bump64 | split
    | apply keeps_foldl | apply keeps_foldl_fst | fail_if_no_progress refine keeps_mk (Memory.Kept.refl _) ?_ | intro _

theorem keeps_takeCredit {orig s : State} {k vc n : Nat} (hk : orig.Keeps κ s) :
    orig.Keeps κ (State.takeCredit s k vc n) := by
  unfold State.takeCredit
  try dsimp only
  repeat' with_reducible first
    | exact State.Keeps.refl _ | assumption | apply keeps_setPort | apply keeps_pumpAll | split

theorem keeps_takeStomp {orig s : State} {k vc : Nat} (hk : orig.Keeps κ s) :
    orig.Keeps κ (State.takeStomp s k vc) := by
  unfold State.takeStomp
  try dsimp only
  repeat' with_reducible first
    | exact State.Keeps.refl _ | assumption | apply keeps_setPort | apply keeps_bump32 | apply keeps_sendControl
    | split

theorem keeps_takeControl {orig s : State} {k w : Nat} (hk : orig.Keeps κ s) :
    orig.Keeps κ (State.takeControl s k w) := by
  unfold State.takeControl
  try dsimp only
  repeat' with_reducible first
    | exact State.Keeps.refl _ | assumption | apply keeps_takeAck | apply keeps_takeNak | apply keeps_takeCredit
    | apply keeps_takeStomp | split

theorem keeps_takeSlot {orig s : State} {k vc : Nat} {bs : List Byte} (hk : orig.Keeps κ s) :
    orig.Keeps κ (State.takeSlot s k vc bs) := by
  unfold State.takeSlot
  try dsimp only
  repeat' with_reducible first | exact State.Keeps.refl _ | assumption | apply keeps_setPort | apply keeps_bump64

theorem keeps_takeSlots {orig s : State} {k header : Nat} {data : List Byte} (hk : orig.Keeps κ s) :
    orig.Keeps κ (State.takeSlots s k header data) := by
  unfold State.takeSlots
  try dsimp only
  repeat' with_reducible first
    | exact State.Keeps.refl _ | assumption | apply keeps_takeControl | apply keeps_takeSlot | split
    | apply keeps_foldl | apply keeps_foldl_fst | intro _

theorem keeps_codeword {orig s : State} {k n : Nat} {symbols : List Nat} (hk : orig.Keeps κ s) :
    orig.Keeps κ (State.codeword s k n symbols) := by
  unfold State.codeword
  try dsimp only
  repeat' with_reducible first
    | exact State.Keeps.refl _ | assumption | apply keeps_setPort | apply keeps_bump64 | apply keeps_sendControl
    | apply keeps_takeSlots | split

theorem keeps_returnCredit {orig s : State} {k vc : Nat} {pk : Packet} (hk : orig.Keeps κ s) :
    orig.Keeps κ (State.returnCredit s k vc pk) := by
  unfold State.returnCredit
  try dsimp only
  repeat' with_reducible first | exact State.Keeps.refl _ | assumption | apply keeps_sendControl | split

theorem keeps_routerForward {orig s : State} {k : Nat} (hk : orig.Keeps κ s) :
    orig.Keeps κ (State.routerForward s k) := by
  unfold State.routerForward
  try dsimp only
  repeat' with_reducible first
    | exact State.Keeps.refl _ | assumption | apply keeps_setPort | apply keeps_returnCredit | apply keeps_bump64
    | apply keeps_routePacket | split

theorem keeps_expire {orig s : State} {k : Nat} {place : Resides} (hk : orig.Keeps κ s) :
    orig.Keeps κ (State.expire s k place) := by
  unfold State.expire
  try dsimp only
  repeat' with_reducible first
    | exact State.Keeps.refl _ | assumption | apply keeps_setPort | apply keeps_returnCredit
    | apply keeps_dropPacket | apply keeps_sendControl | split | fail_if_no_progress refine keeps_mk (Memory.Kept.refl _) ?_

theorem keeps_handOver {orig s : State} {pk : Packet} (hk : orig.Keeps κ s) :
    orig.Keeps κ (State.handOver s pk) := by
  unfold State.handOver
  try dsimp only
  repeat' with_reducible first
    | exact State.Keeps.refl _ | assumption | split | fail_if_no_progress refine keeps_mk (Memory.Kept.refl _) ?_

theorem keeps_deliver {orig s : State}  (hk : orig.Keeps κ s) :
    orig.Keeps κ (State.deliver s) := by
  unfold State.deliver
  try dsimp only
  repeat' with_reducible first
    | exact State.Keeps.refl _ | assumption | apply keeps_dropPacket | apply keeps_bump32 | apply keeps_handOver
    | split | fail_if_no_progress refine keeps_mk (Memory.Kept.refl _) ?_

theorem keeps_writePacket {orig s : State} {p : Nat} (hk : orig.Keeps false s) :
    orig.Keeps false (State.writePacket s p) := by
  unfold State.writePacket
  try dsimp only
  repeat' with_reducible first
    | exact State.Keeps.refl _ | assumption | apply keeps_takeInbox | apply keeps_guardOnce | apply keeps_storeRun
    | apply keeps_inboxTests | apply keeps_respond | split

theorem keeps_rowResponse {orig s : State} {r : Req} {code : Nat} (hk : orig.Keeps κ s) :
    orig.Keeps κ (State.rowResponse s r code) := by
  unfold State.rowResponse
  try dsimp only
  repeat' with_reducible first
    | exact State.Keeps.refl _ | assumption | apply keeps_rowsVisible | split
    | fail_if_no_progress refine keeps_mk (Memory.Kept.refl _) ?_

theorem keeps_answerResponse {orig s : State} {r : Req} (hk : orig.Keeps κ s) :
    orig.Keeps κ (State.answerResponse s r) := by
  unfold State.answerResponse
  try dsimp only
  repeat' with_reducible first
    | exact State.Keeps.refl _ | assumption | apply keeps_answersDone | split
    | fail_if_no_progress refine keeps_mk (Memory.Kept.refl _) ?_

theorem keeps_response {orig s : State} {p : Nat} (hk : orig.Keeps false s) :
    orig.Keeps false (State.response s p) := by
  unfold State.response
  try dsimp only
  repeat' with_reducible first
    | exact State.Keeps.refl _ | assumption | apply keeps_takeInbox | apply keeps_rowResponse | apply keeps_answer
    | apply keeps_answerResponse | apply keeps_redResponse | apply keeps_mapData | apply keeps_mapResponse
    | apply keeps_mapSignal | split

theorem keeps_portEnter {orig s : State} {k : Nat} {st : LinkState} {cause : Nat} {barred : Bool} (hk : orig.Keeps κ
    s) :
    orig.Keeps κ (State.portEnter s k st cause barred) := by
  unfold State.portEnter
  try dsimp only
  repeat' with_reducible first
    | exact State.Keeps.refl _ | assumption | apply keeps_bump32 | apply keeps_markFaulted | apply keeps_setPort
    | apply keeps_dropPacket | apply keeps_raise | split | apply keeps_foldl | apply keeps_foldl_fst
    | fail_if_no_progress refine keeps_mk (Memory.Kept.refl _) ?_ | intro _

theorem keeps_portActive {orig s : State} {k peer : Nat} (hk : orig.Keeps κ s) :
    orig.Keeps κ (State.portActive s k peer) := by
  unfold State.portActive
  try dsimp only
  repeat' with_reducible first
    | exact State.Keeps.refl _ | assumption | apply keeps_setPort | apply keeps_bump32 | apply keeps_transmit
    | apply keeps_raise | split | apply keeps_foldl | apply keeps_foldl_fst
    | fail_if_no_progress refine keeps_mk (Memory.Kept.refl _) ?_ | intro _

theorem keeps_trainStep {orig s : State} {k : Nat} {t : Train} (hk : orig.Keeps κ s) :
    orig.Keeps κ (State.trainStep s k t) := by
  unfold State.trainStep
  try dsimp only
  repeat' with_reducible first
    | exact State.Keeps.refl _ | assumption | apply keeps_setPort | apply keeps_portEnter | apply keeps_portActive
    | split

theorem keeps_loopbackFail {orig s : State} {k lanes : Nat} (hk : orig.Keeps κ s) :
    orig.Keeps κ (State.loopbackFail s k lanes) := by
  unfold State.loopbackFail
  try dsimp only
  repeat' with_reducible first
    | exact State.Keeps.refl _ | assumption | apply keeps_portEnter | apply keeps_markFaulted | apply keeps_setOd
    | apply keeps_raise | apply keeps_alert | split | fail_if_no_progress refine keeps_mk (Memory.Kept.refl _) ?_

theorem keeps_portCommand {orig s : State} {k cmd : Nat} (hk : orig.Keeps κ s) :
    orig.Keeps κ (State.portCommand s k cmd) := by
  unfold State.portCommand
  try dsimp only
  repeat' with_reducible first | exact State.Keeps.refl _ | assumption | apply keeps_portEnter | split

theorem keeps_portEnable {orig s : State} {v : Nat} (hk : orig.Keeps κ s) :
    orig.Keeps κ (State.portEnable s v) := by
  unfold State.portEnable
  try dsimp only
  repeat' with_reducible first
    | exact State.Keeps.refl _ | assumption | apply keeps_portCommand | apply keeps_setOd | split
    | apply keeps_foldl | apply keeps_foldl_fst | intro _

theorem keeps_commitEventAt {orig s : State} {epoch attempt code key d0 d1 : Nat} (hk : orig.Keeps false s) :
    orig.Keeps false (State.commitEventAt s epoch attempt code key d0 d1) := by
  unfold State.commitEventAt
  try dsimp only
  repeat' with_reducible first | exact State.Keeps.refl _ | assumption | apply keeps_ringPut

theorem keeps_commitEvent {orig s : State} {code key d0 d1 : Nat} (hk : orig.Keeps false s) :
    orig.Keeps false (State.commitEvent s code key d0 d1) := by
  unfold State.commitEvent
  try dsimp only
  repeat' with_reducible first | exact State.Keeps.refl _ | assumption | apply keeps_commitEventAt

theorem keeps_readPlan {orig s : State}  (hk : orig.Keeps false s) :
    orig.Keeps false (State.readPlan s) := by
  unfold State.readPlan
  try dsimp only
  repeat' with_reducible first | exact State.Keeps.refl _ | assumption | apply keeps_touchReadRun

theorem keeps_mirrorOut {orig s : State} {p dest : Nat} {body : List Byte} (hk : orig.Keeps κ s) :
    orig.Keeps κ (State.mirrorOut s p dest body) := by
  unfold State.mirrorOut
  try dsimp only
  repeat' with_reducible first | exact State.Keeps.refl _ | assumption | apply keeps_present | apply keeps_sendPacket

theorem keeps_sendMirror {orig s : State} {p dest : Nat} {m : MirrorMsg} (hk : orig.Keeps κ s) :
    orig.Keeps κ (State.sendMirror s p dest m) := by
  unfold State.sendMirror
  try dsimp only
  repeat' with_reducible first
    | exact State.Keeps.refl _ | assumption | apply keeps_mirrorOut | split
    | fail_if_no_progress refine keeps_mk (Memory.Kept.refl _) ?_

theorem keeps_resumeMirror {orig s : State}  (hk : orig.Keeps κ s) :
    orig.Keeps κ (State.resumeMirror s) := by
  unfold State.resumeMirror
  try dsimp only
  repeat' with_reducible first
    | exact State.Keeps.refl _ | assumption | apply keeps_mirrorOut | split | apply keeps_foldl
    | apply keeps_foldl_fst | fail_if_no_progress refine keeps_mk (Memory.Kept.refl _) ?_ | intro _

theorem keeps_sendData {orig s : State} {p e attempt : Nat} {reseed : Bool} {x5 x6 : Nat} {x7 : List Byte} (hk :
    orig.Keeps κ s) :
    orig.Keeps κ (State.sendData s p e attempt reseed x5 x6 x7) := by
  induction x5 generalizing s x6 x7 with
  | zero => exact hk
  | succ n ih =>
    unfold State.sendData
    try dsimp only
    repeat' with_reducible first
      | apply ih | exact State.Keeps.refl _ | assumption | apply keeps_sendMirror | apply keeps_bump64 | split
      | fail_if_no_progress refine keeps_mk (Memory.Kept.refl _) ?_

theorem keeps_mirrorRun {orig s : State} {p off : Nat} {bs : List Byte} (hk : orig.Keeps κ s) :
    orig.Keeps κ (State.mirrorRun s p off bs) := by
  unfold State.mirrorRun
  try dsimp only
  repeat' with_reducible first | exact State.Keeps.refl _ | assumption | apply keeps_sendData | split

theorem keeps_mirrorSlow {orig s : State} {p o : Nat} {bs : List Byte} (hk : orig.Keeps κ s) :
    orig.Keeps κ (State.mirrorSlow s p o bs) := by
  unfold State.mirrorSlow
  try dsimp only
  repeat' with_reducible first | exact State.Keeps.refl _ | assumption | apply keeps_mirrorRun

theorem keeps_sendMarker {orig s : State} {m : MirrorMsg} (hk : orig.Keeps κ s) :
    orig.Keeps κ (State.sendMarker s m) := by
  unfold State.sendMarker
  try dsimp only
  repeat' with_reducible first
    | exact State.Keeps.refl _ | assumption | apply keeps_sendMirror | split
    | fail_if_no_progress refine keeps_mk (Memory.Kept.refl _) ?_

theorem keeps_openStream {orig s : State}  (hk : orig.Keeps false s) :
    orig.Keeps false (State.openStream s) := by
  unfold State.openStream
  try dsimp only
  repeat' with_reducible first
    | exact State.Keeps.refl _ | assumption | apply keeps_readPlan | apply keeps_sendMirror | apply keeps_mirrorSlow
    | split | apply keeps_foldl | apply keeps_foldl_fst | fail_if_no_progress refine keeps_mk (Memory.Kept.refl _) ?_ | intro _

theorem keeps_sendRanges {orig s : State} {residual : Bool} {c e attempt : Nat} {reseed : Bool} (hk : orig.Keeps false s) :
    orig.Keeps false (State.sendRanges s residual c e attempt reseed) := by
  unfold State.sendRanges
  try dsimp only
  repeat' with_reducible first
    | exact State.Keeps.refl _ | assumption | apply keeps_readPlan | apply keeps_loadRun | apply keeps_sendData
    | split | apply keeps_foldl | apply keeps_foldl_fst | fail_if_no_progress refine keeps_mk (Memory.Kept.refl _) ?_ | intro _

theorem keeps_streamDone {orig s : State}  (hk : orig.Keeps false s) :
    orig.Keeps false (State.streamDone s) := by
  unfold State.streamDone
  try dsimp only
  repeat' with_reducible first
    | exact State.Keeps.refl _ | assumption | apply keeps_sendRanges | apply keeps_sendMarker | split
    | fail_if_no_progress refine keeps_mk (Memory.Kept.refl _) ?_

theorem keeps_streamClose {orig s : State} {e attempt : Nat} (hk : orig.Keeps false s) :
    orig.Keeps false (State.streamClose s e attempt) := by
  unfold State.streamClose
  try dsimp only
  repeat' with_reducible first
    | exact State.Keeps.refl _ | assumption | apply keeps_sendRanges | apply keeps_sendMarker | split
    | fail_if_no_progress refine keeps_mk (Memory.Kept.refl _) ?_

theorem keeps_mirrorResend {orig s : State}  (hk : orig.Keeps κ s) :
    orig.Keeps κ (State.mirrorResend s) := by
  unfold State.mirrorResend
  try dsimp only
  repeat' with_reducible first | exact State.Keeps.refl _ | assumption | apply keeps_sendMirror | split

theorem keeps_mirrorAck {orig s : State} {src : Nat} {m : MirrorMsg} (hk : orig.Keeps false s) :
    orig.Keeps false (State.mirrorAck s src m) := by
  unfold State.mirrorAck
  try dsimp only
  repeat' with_reducible first
    | exact State.Keeps.refl _ | assumption | apply keeps_commitEvent | apply keeps_commitEventAt | split
    | fail_if_no_progress refine keeps_mk (Memory.Kept.refl _) ?_

theorem keeps_readHdr {orig s : State}  (hk : orig.Keeps false s) :
    orig.Keeps false (State.readHdr s) := by
  unfold State.readHdr
  try dsimp only
  repeat' with_reducible first | exact State.Keeps.refl _ | assumption | apply keeps_touchReadRun

theorem keeps_setHeldHdr {orig s : State} {h : MirrorHdr} (hk : orig.Keeps false s) :
    orig.Keeps false (State.setHeldHdr s h) := by
  unfold State.setHeldHdr
  try dsimp only
  repeat' with_reducible first | exact State.Keeps.refl _ | assumption | apply keeps_storeRun

theorem keeps_ack {orig s : State} {pk : Packet} {m : MirrorMsg} {status : Nat} (hk : orig.Keeps κ s) :
    orig.Keeps κ (State.ack s pk m status) := by
  unfold State.ack
  try dsimp only
  repeat' with_reducible first | exact State.Keeps.refl _ | assumption | apply keeps_sendMirror

theorem keeps_mirrorIn {orig s t : State} {p kind : Nat} {go : State → Packet → MirrorMsg → State} (hk : orig.Keeps κ s)
    (hgo : ∀ u m x, State.Keeps κ u (go u m x)) (h : s.mirrorIn p kind go = some t) : orig.Keeps κ t := by
  unfold State.mirrorIn at h
  split at h
  · cases h
  · split at h
    · cases h; exact keeps_takeInbox hk
    · split at h
      · cases h; exact State.Keeps.trans (keeps_takeInbox hk) (hgo _ _ _)
      · cases h

theorem keeps_takeMirror {orig s : State} {kind : Nat} {go : State → Packet → MirrorMsg → State} (hk : orig.Keeps κ s)
    (hgo : ∀ u m x, State.Keeps κ u (go u m x)) :
    orig.Keeps κ (State.takeMirror s kind go) := by
  unfold State.takeMirror
  split
  · exact keeps_mirrorIn hk hgo (by assumption)
  · refine keeps_ite _ hk ?_
    cases h : s.mirrorIn 1 kind go with
    | none => exact hk
    | some t => exact keeps_mirrorIn hk hgo h

theorem keeps_holdOpen {orig s : State} {pk : Packet} {m : MirrorMsg} (hk : orig.Keeps false s) :
    orig.Keeps false (State.holdOpen s pk m) := by
  unfold State.holdOpen
  try dsimp only
  repeat' with_reducible first
    | exact State.Keeps.refl _ | assumption | apply keeps_ack | apply keeps_readHdr | apply keeps_setHeldHdr | split
    | fail_if_no_progress refine keeps_mk (Memory.Kept.refl _) ?_

theorem keeps_holdData {orig s : State} {pk : Packet} {m : MirrorMsg} (hk : orig.Keeps false s) :
    orig.Keeps false (State.holdData s pk m) := by
  unfold State.holdData
  try dsimp only
  repeat' with_reducible first
    | exact State.Keeps.refl _ | assumption | apply keeps_readHdr | apply keeps_bump64 | apply keeps_storeRun
    | split | fail_if_no_progress refine keeps_mk (Memory.Kept.refl _) ?_

theorem keeps_holdDone {orig s : State} {pk : Packet} {m : MirrorMsg} (hk : orig.Keeps false s) :
    orig.Keeps false (State.holdDone s pk m) := by
  unfold State.holdDone
  try dsimp only
  repeat' with_reducible first
    | exact State.Keeps.refl _ | assumption | apply keeps_readHdr | apply keeps_ack | apply keeps_setHeldHdr | split
    | fail_if_no_progress refine keeps_mk (Memory.Kept.refl _) ?_

theorem keeps_holdClose {orig s : State} {pk : Packet} {m : MirrorMsg} (hk : orig.Keeps false s) :
    orig.Keeps false (State.holdClose s pk m) := by
  unfold State.holdClose
  try dsimp only
  repeat' with_reducible first
    | exact State.Keeps.refl _ | assumption | apply keeps_readHdr | apply keeps_ack | apply keeps_setHeldHdr | split
    | fail_if_no_progress refine keeps_mk (Memory.Kept.refl _) ?_

theorem keeps_holdRead {orig s : State} {pk : Packet} {m : MirrorMsg} (hk : orig.Keeps false s) :
    orig.Keeps false (State.holdRead s pk m) := by
  unfold State.holdRead
  try dsimp only
  repeat' with_reducible first
    | exact State.Keeps.refl _ | assumption | apply keeps_loadRun | apply keeps_sendMirror | split
    | apply keeps_foldl | apply keeps_foldl_fst | intro _

theorem keeps_readSlot {orig s : State} {n : Nat} (hk : orig.Keeps false s) :
    orig.Keeps false (State.readSlot s n) := by
  unfold State.readSlot
  try dsimp only
  repeat' with_reducible first | exact State.Keeps.refl _ | assumption | apply keeps_touchReadRun

theorem keeps_mseal {orig s : State}  (hk : orig.Keeps false s) :
    orig.Keeps false (State.mseal s).2 := by
  unfold State.mseal
  extract_lets s1 h tok n s2
  have h1 : orig.Keeps false s1 := keeps_readSlot (keeps_readHdr hk)
  have h2 : orig.Keeps false s2 := keeps_storeRun h1
  clear_value s1 s2
  split
  · exact keeps_setHeldHdr h2
  · exact h1

theorem keeps_reseedTensor {orig s : State} {t : Nat} (hk : orig.Keeps false s) :
    orig.Keeps false (State.reseedTensor s t) := by
  unfold State.reseedTensor
  try dsimp only
  repeat' with_reducible first
    | exact State.Keeps.refl _ | assumption | apply keeps_touchReadRun | apply keeps_loadRun | apply keeps_sendData
    | split

theorem keeps_reseedOn {orig s : State}  (hk : orig.Keeps false s) :
    orig.Keeps false (State.reseedOn s) := by
  unfold State.reseedOn
  try dsimp only
  repeat' with_reducible first
    | exact State.Keeps.refl _ | assumption | apply keeps_reseedTensor | apply keeps_sendRanges
    | apply keeps_sendMarker | split | apply keeps_foldl | apply keeps_foldl_fst
    | fail_if_no_progress refine keeps_mk (Memory.Kept.refl _) ?_ | intro _

theorem keeps_reseed {orig s : State}  (hk : orig.Keeps false s) :
    orig.Keeps false (State.reseed s).2 := by
  unfold State.reseed
  try dsimp only
  repeat' with_reducible first
    | exact State.Keeps.refl _ | assumption | apply keeps_readPlan | apply keeps_sendMirror | apply keeps_reseedOn
    | split | fail_if_no_progress refine keeps_mk (Memory.Kept.refl _) ?_

theorem keeps_ilFault {orig s : State} {p w : Nat} {addr : Int} (hk : orig.Keeps false s) :
    orig.Keeps false (State.ilFault s p w addr) := by
  unfold State.ilFault
  try dsimp only
  repeat' with_reducible first
    | exact State.Keeps.refl _ | assumption | apply keeps_advance | apply keeps_operandFault

theorem keeps_modUpd {orig s : State} {f : Upd → Upd} (hk : orig.Keeps κ s) :
    orig.Keeps κ (State.modUpd s f) := by
  unfold State.modUpd
  try dsimp only
  repeat' with_reducible first
    | exact State.Keeps.refl _ | assumption | split | fail_if_no_progress refine keeps_mk (Memory.Kept.refl _) ?_

theorem keeps_ilPush {orig s : State} {p w : Nat} {adopt : Bool} {cfg : UpdCfg} {ts : List UpdTensor} {waits :
    List Nat} (hk : orig.Keeps false s) :
    orig.Keeps false (State.ilPush s p w adopt cfg ts waits) := by
  unfold State.ilPush
  try dsimp only
  repeat' with_reducible first
    | exact State.Keeps.refl _ | assumption | apply keeps_advance | apply keeps_pushFlight | apply keeps_modUpd

theorem keeps_ilDone {orig s : State} {j : UpdJob} (hk : orig.Keeps false s) :
    orig.Keeps false (State.ilDone s j) := by
  unfold State.ilDone
  try dsimp only
  repeat' with_reducible first
    | exact State.Keeps.refl _ | assumption | apply keeps_modUpd | apply keeps_reseedOn | apply keeps_setFlights
    | apply keeps_finish | split

theorem keeps_readTensors {orig s : State} {p : Nat} {c : UpdCfg} {op : Nat} {ts : List Nat} (hk : orig.Keeps false s) :
    orig.Keeps false (State.readTensors s p c op ts) := by
  unfold State.readTensors
  try dsimp only
  repeat' with_reducible first
    | exact State.Keeps.refl _ | assumption | apply keeps_touchReadRun | split | apply keeps_foldl
    | apply keeps_foldl_fst | intro _

theorem keeps_namedTensors {orig s : State} {p : Nat} {c : UpdCfg} {w : Nat} (hk : orig.Keeps false s) :
    orig.Keeps false (State.namedTensors s p c w).1 := by
  unfold State.namedTensors
  try dsimp only
  repeat' with_reducible first | exact State.Keeps.refl _ | assumption | apply keeps_readTensors | split

theorem keeps_ilError {orig s : State} {p w : Nat} {x3 : IlErr} (hk : orig.Keeps false s) :
    orig.Keeps false (State.ilError s p w x3) := by
  unfold State.ilError
  try dsimp only
  repeat' with_reducible first
    | exact State.Keeps.refl _ | assumption | apply keeps_headFault | apply keeps_ilFault | split

theorem keeps_ilIn {orig s : State} {p w : Nat} {st : UpdState} {wide : Bool} {go : State} (hk : orig.Keeps false s)
    (hgo : orig.Keeps false go) :
    orig.Keeps false (State.ilIn s p w st wide go) := by
  unfold State.ilIn
  try dsimp only
  repeat' with_reducible first | exact State.Keeps.refl _ | assumption | apply keeps_ilFault | split

theorem keeps_uopen {orig s : State} {p w : Nat} (hk : orig.Keeps false s) :
    orig.Keeps false (State.uopen s p w) := by
  unfold State.uopen
  try dsimp only
  repeat' with_reducible first
    | exact State.Keeps.refl _ | assumption | apply keeps_ilIn | apply keeps_touchReadRun | apply keeps_headFault
    | apply keeps_modUpd | apply keeps_bump32 | apply keeps_advance | apply keeps_openStream
    | apply keeps_postSignal | split

theorem keeps_pass1 {orig s : State} {p w : Nat} (hk : orig.Keeps false s) :
    orig.Keeps false (State.pass1 s p w) := by
  unfold State.pass1
  try dsimp only
  repeat' with_reducible first
    | exact State.Keeps.refl _ | assumption | apply keeps_ilIn | apply keeps_namedTensors | apply keeps_ilError
    | apply keeps_ilPush | split

theorem keeps_touchChunk {orig s : State} {p r bank q i n : Nat} {grad : Bool} (hk : orig.Keeps false s) :
    orig.Keeps false (State.touchChunk s p r bank q i n grad) := by
  unfold State.touchChunk
  try dsimp only
  repeat' with_reducible first
    | exact State.Keeps.refl _ | assumption | apply keeps_touchReadRun | split | apply keeps_foldl
    | apply keeps_foldl_fst | intro _

theorem keeps_pass1Chunk {orig s : State} {p : Nat} {t : UpdTensor} {k : Nat} (hk : orig.Keeps false s) :
    orig.Keeps false (State.pass1Chunk s p t k) := by
  unfold State.pass1Chunk
  try dsimp only
  repeat' with_reducible first
    | exact State.Keeps.refl _ | assumption | apply keeps_touchChunk | apply keeps_modUpd | split

theorem keeps_nexport {orig s : State} {p w : Nat} (hk : orig.Keeps false s) :
    orig.Keeps false (State.nexport s p w) := by
  unfold State.nexport
  try dsimp only
  repeat' with_reducible first
    | exact State.Keeps.refl _ | assumption | apply keeps_ilIn | apply keeps_ilFault | apply keeps_ilPush | split

theorem keeps_ilWrite {orig s : State} {k : Nat} {bs : List Byte} (hk : orig.Keeps false s) :
    orig.Keeps false (State.ilWrite s k bs) := by
  unfold State.ilWrite
  try dsimp only
  repeat' with_reducible first | exact State.Keeps.refl _ | assumption | apply keeps_guardOnce | apply keeps_storeRun

theorem keeps_nexportWrite {orig s : State}  (hk : orig.Keeps false s) :
    orig.Keeps false (State.nexportWrite s) := by
  unfold State.nexportWrite
  try dsimp only
  repeat' with_reducible first
    | exact State.Keeps.refl _ | assumption | apply keeps_ilWrite | apply keeps_modUpd | apply keeps_ilDone | split

theorem keeps_norms {orig s : State} {p w : Nat} (hk : orig.Keeps false s) :
    orig.Keeps false (State.norms s p w) := by
  unfold State.norms
  try dsimp only
  repeat' with_reducible first
    | exact State.Keeps.refl _ | assumption | apply keeps_ilIn | apply keeps_ilFault | apply keeps_readTensors
    | apply keeps_ilError | apply keeps_ilPush | split

theorem keeps_freeVal {orig s : State}  (hk : orig.Keeps κ s) :
    orig.Keeps κ (State.freeVal s).2 := by
  unfold State.freeVal
  try dsimp only
  repeat' with_reducible first | exact State.Keeps.refl _ | assumption | apply keeps_takeFree

theorem keeps_clipFactor {orig s : State} {x : Norms} {r : Nat} {clip : Val} (hk : orig.Keeps κ s) :
    orig.Keeps κ (State.clipFactor s x r clip).2 := by
  unfold State.clipFactor
  try dsimp only
  repeat' with_reducible first | exact State.Keeps.refl _ | assumption | apply keeps_freeVal | split

theorem keeps_trustRatio {orig s : State} {x : Norms} {r : Nat} {coef top : Val} (hk : orig.Keeps κ s) :
    orig.Keeps κ (State.trustRatio s x r coef top).2 := by
  unfold State.trustRatio
  try dsimp only
  repeat' with_reducible first | exact State.Keeps.refl _ | assumption | apply keeps_freeVal | split

theorem keeps_skipReason {orig s : State} {x : Norms} {t : UpdTensor} (hk : orig.Keeps κ s) :
    orig.Keeps κ (State.skipReason s x t).2 := by
  unfold State.skipReason
  try dsimp only
  repeat' with_reducible first | exact State.Keeps.refl _ | assumption | apply keeps_takeFree | split

theorem keeps_normsTensor {orig s : State} {x : Norms} {t : UpdTensor} (hk : orig.Keeps false s) :
    orig.Keeps false (State.normsTensor s x t) := by
  unfold State.normsTensor
  try dsimp only
  repeat' with_reducible first
    | exact State.Keeps.refl _ | assumption | apply keeps_clipFactor | apply keeps_trustRatio
    | apply keeps_skipReason | apply keeps_ilbenEvent | apply keeps_bump64 | apply keeps_ilWrite | split

theorem keeps_normsRun {orig s : State} {j : UpdJob} (hk : orig.Keeps false s) :
    orig.Keeps false (State.normsRun s j) := by
  unfold State.normsRun
  try dsimp only
  repeat' with_reducible first
    | exact State.Keeps.refl _ | assumption | apply keeps_touchReadRun | apply keeps_ilbenEvent
    | apply keeps_markFaulted | apply keeps_bump32 | apply keeps_normsTensor | split | apply keeps_foldl
    | apply keeps_foldl_fst | intro _

theorem keeps_normsCompute {orig s : State}  (hk : orig.Keeps false s) :
    orig.Keeps false (State.normsCompute s) := by
  unfold State.normsCompute
  try dsimp only
  repeat' with_reducible first
    | exact State.Keeps.refl _ | assumption | apply keeps_normsRun | apply keeps_modUpd | apply keeps_ilDone
    | apply keeps_setFlights | apply keeps_operandFault | split

theorem keeps_pass2 {orig s : State} {p w : Nat} (hk : orig.Keeps false s) :
    orig.Keeps false (State.pass2 s p w) := by
  unfold State.pass2
  try dsimp only
  repeat' with_reducible first
    | exact State.Keeps.refl _ | assumption | apply keeps_ilIn | apply keeps_namedTensors | apply keeps_ilError
    | apply keeps_modUpd | apply keeps_ilPush | split

theorem keeps_wcopy {orig s : State} {p w : Nat} (hk : orig.Keeps false s) :
    orig.Keeps false (State.wcopy s p w) := by
  unfold State.wcopy
  try dsimp only
  repeat' with_reducible first
    | exact State.Keeps.refl _ | assumption | apply keeps_ilIn | apply keeps_namedTensors | apply keeps_ilError
    | apply keeps_ilPush | split

theorem keeps_workCopy {orig s : State} {j : UpdJob} {r ix seed epoch i : Nat} {x : Int} {ws : List Val} (hk :
    orig.Keeps false s) :
    orig.Keeps false (State.workCopy s j r ix seed epoch i x ws) := by
  unfold State.workCopy
  try dsimp only
  repeat' with_reducible first
    | exact State.Keeps.refl _ | assumption | apply keeps_write | apply keeps_storeRun | apply keeps_watchElem
    | apply keeps_bump64 | apply keeps_setOnce | apply keeps_ilbenEvent | split | apply keeps_foldl
    | apply keeps_foldl_fst | intro _

theorem keeps_writeChunk {orig s : State} {p r bank i : Nat} {xs : List (List Val)} (hk : orig.Keeps false s) :
    orig.Keeps false (State.writeChunk s p r bank i xs) := by
  unfold State.writeChunk
  try dsimp only
  repeat' with_reducible first
    | exact State.Keeps.refl _ | assumption | apply keeps_storeRun | apply keeps_mirrorSlow | split
    | apply keeps_foldl | apply keeps_foldl_fst | intro _

theorem keeps_pass2Chunk {orig s : State} {j : UpdJob} {t : UpdTensor} {k : Nat} (hk : orig.Keeps false s) :
    orig.Keeps false (State.pass2Chunk s j t k) := by
  unfold State.pass2Chunk
  try dsimp only
  repeat' with_reducible first
    | exact State.Keeps.refl _ | assumption | apply keeps_workCopy | apply keeps_touchChunk | apply keeps_mirrorSlow
    | apply keeps_writeChunk | split | apply keeps_foldl | apply keeps_foldl_fst | intro _

theorem keeps_writeBlk {orig s : State} {p : Nat} {t : UpdTensor} {bs : List Byte} (hk : orig.Keeps false s) :
    orig.Keeps false (State.writeBlk s p t bs) := by
  unfold State.writeBlk
  try dsimp only
  repeat' with_reducible first | exact State.Keeps.refl _ | assumption | apply keeps_storeRun | apply keeps_mirrorSlow

theorem keeps_pass2Block {orig s : State} {j : UpdJob} {t : UpdTensor} (hk : orig.Keeps false s) :
    orig.Keeps false (State.pass2Block s j t) := by
  unfold State.pass2Block
  try dsimp only
  repeat' with_reducible first
    | exact State.Keeps.refl _ | assumption | apply keeps_visit | apply keeps_writeBlk | apply keeps_bump32
    | apply keeps_bump64 | apply keeps_modUpd | split

theorem keeps_wcopyChunk {orig s : State} {j : UpdJob} {t : UpdTensor} {k : Nat} (hk : orig.Keeps false s) :
    orig.Keeps false (State.wcopyChunk s j t k) := by
  unfold State.wcopyChunk
  try dsimp only
  repeat' with_reducible first
    | exact State.Keeps.refl _ | assumption | apply keeps_touchChunk | apply keeps_workCopy | split

theorem keeps_ilItem {orig s : State} {j : UpdJob} {x : UpdTensor × Option Nat} (hk : orig.Keeps false s) :
    orig.Keeps false (State.ilItem s j x) := by
  unfold State.ilItem
  try dsimp only
  repeat' with_reducible first
    | exact State.Keeps.refl _ | assumption | apply keeps_pass1Chunk | apply keeps_pass2Chunk
    | apply keeps_pass2Block | apply keeps_wcopyChunk | split

theorem keeps_ilGuards {orig s : State} {j : UpdJob} (hk : orig.Keeps κ s) :
    orig.Keeps κ (State.ilGuards s j) := by
  unfold State.ilGuards
  try dsimp only
  repeat' with_reducible first
    | exact State.Keeps.refl _ | assumption | apply keeps_guardRuns | apply keeps_putFlight | split

theorem keeps_ilItems {orig s : State} {j : UpdJob} {x2 : List (UpdTensor × Option Nat)} {x3 : Nat} (hk :
    orig.Keeps false s) :
    orig.Keeps false (State.ilItems s j x2 x3).1 := by
  induction x2 generalizing s x3 with
  | nil => exact hk
  | cons f t ih =>
    unfold State.ilItems
    try dsimp only
    repeat' with_reducible first | apply ih | exact State.Keeps.refl _ | assumption | apply keeps_ilItem | split

theorem keeps_ilWork {orig s : State} {j : UpdJob} {n : Nat} (hk : orig.Keeps false s) :
    orig.Keeps false (State.ilWork s j n) := by
  unfold State.ilWork
  try dsimp only
  repeat' with_reducible first
    | exact State.Keeps.refl _ | assumption | apply keeps_ilGuards | apply keeps_ilItems | apply keeps_modUpd
    | split

theorem keeps_ilComplete {orig s : State} {i : Nat} (hk : orig.Keeps false s) :
    orig.Keeps false (State.ilComplete s i) := by
  unfold State.ilComplete
  try dsimp only
  repeat' with_reducible first
    | exact State.Keeps.refl _ | assumption | apply keeps_ilWork | apply keeps_ilDone | split

theorem keeps_uclose {orig s : State} {p w : Nat} (hk : orig.Keeps false s) :
    orig.Keeps false (State.uclose s p w) := by
  unfold State.uclose
  try dsimp only
  repeat' with_reducible first | exact State.Keeps.refl _ | assumption | apply keeps_ilIn | apply keeps_ilPush

theorem keeps_updateDone {orig s : State}  (hk : orig.Keeps false s) :
    orig.Keeps false (State.updateDone s) := by
  unfold State.updateDone
  try dsimp only
  repeat' with_reducible first
    | exact State.Keeps.refl _ | assumption | apply keeps_modUpd | apply keeps_ilDone | apply keeps_ilbenEvent
    | apply keeps_streamDone | split

theorem keeps_ilCut {orig s : State} {j : UpdJob} (hk : orig.Keeps false s) :
    orig.Keeps false (State.ilCut s j) := by
  unfold State.ilCut
  try dsimp only
  repeat' with_reducible first
    | exact State.Keeps.refl _ | assumption | apply keeps_takeFree | apply keeps_ilWork | split

theorem keeps_updAbandon {orig s : State}  (hk : orig.Keeps false s) :
    orig.Keeps false (State.updAbandon s) := by
  unfold State.updAbandon
  try dsimp only
  repeat' with_reducible first
    | exact State.Keeps.refl _ | assumption | apply keeps_ilCut | apply keeps_ilDone | apply keeps_modUpd | split
    | apply keeps_foldl | apply keeps_foldl_fst | fail_if_no_progress refine keeps_mk (Memory.Kept.refl _) ?_ | intro _

theorem keeps_ilEndFlights {orig s : State} {p : Nat} (hk : orig.Keeps κ s) :
    orig.Keeps κ (State.ilEndFlights s p) := by
  unfold State.ilEndFlights
  try dsimp only
  repeat' with_reducible first
    | exact State.Keeps.refl _ | assumption | apply keeps_guardEnd | apply keeps_endReqs | apply keeps_setFlights
    | split | apply keeps_foldl | apply keeps_foldl_fst | intro _

theorem keeps_updReset {orig s : State}  (hk : orig.Keeps false s) :
    orig.Keeps false (State.updReset s) := by
  unfold State.updReset
  try dsimp only
  repeat' with_reducible first
    | exact State.Keeps.refl _ | assumption | apply keeps_ilCut | apply keeps_ilEndFlights | apply keeps_reseedOn
    | split | apply keeps_foldl | apply keeps_foldl_fst | fail_if_no_progress refine keeps_mk (Memory.Kept.refl _) ?_ | intro _

theorem keeps_tagScrub {orig s : State}  (hk : orig.Keeps false s) :
    orig.Keeps false (State.tagScrub s) := by
  unfold State.tagScrub
  try dsimp only
  repeat' with_reducible first
    | exact State.Keeps.refl _ | assumption | apply keeps_readTensors | apply keeps_storeRun | apply keeps_bump64
    | split | apply keeps_foldl | apply keeps_foldl_fst | fail_if_no_progress refine keeps_mk (Memory.Kept.refl _) ?_ | intro _

theorem keeps_ilIssue {orig s : State} {p op : Nat} {go : State → Nat → State} (hk : orig.Keeps false s)
    (hgo : ∀ u w, State.Keeps false u (go u w)) :
    orig.Keeps false (State.ilIssue s p op go) := by
  unfold State.ilIssue
  try dsimp only
  repeat' with_reducible first | exact State.Keeps.refl _ | assumption | apply keeps_issue

theorem keeps_sendRound {orig s : State} {dest : Nat} {m : RoundMsg} (hk : orig.Keeps κ s) :
    orig.Keeps κ (State.sendRound s dest m) := by
  unfold State.sendRound
  try dsimp only
  repeat' with_reducible first
    | exact State.Keeps.refl _ | assumption | apply keeps_sendPacket | split | apply keeps_foldl
    | apply keeps_foldl_fst | intro _

theorem keeps_takeRound {orig s : State} {kind : Nat} {go : State → Nat → RoundMsg → State} (hk : orig.Keeps κ s)
    (hgo : ∀ u m x, State.Keeps κ u (go u m x)) :
    orig.Keeps κ (State.takeRound s kind go) := by
  unfold State.takeRound
  try dsimp only
  repeat' with_reducible first
    | exact State.Keeps.refl _ | assumption | split | fail_if_no_progress refine keeps_mk (Memory.Kept.refl _) ?_ | intro _
    | dsimp only | exact hgo _ | exact hgo _ _ | exact State.Keeps.trans hk (hgo _)
    | refine State.Keeps.trans ?_ (hgo _) | refine State.Keeps.trans ?_ (hgo _ _)
    | refine State.Keeps.trans ?_ (hgo _ _ _)

theorem keeps_resetSlot {orig s : State} {p k : Nat} (hk : orig.Keeps false s) :
    orig.Keeps false (State.resetSlot s p k) := by
  unfold State.resetSlot
  try dsimp only
  repeat' with_reducible first | exact State.Keeps.refl _ | assumption | apply keeps_setNum

theorem keeps_takeScale {orig s : State} {p k : Nat} {maxs : List Int} (hk : orig.Keeps false s) :
    orig.Keeps false (State.takeScale s p k maxs) := by
  unfold State.takeScale
  try dsimp only
  repeat' with_reducible first | exact State.Keeps.refl _ | assumption | apply keeps_setScaleExp | split

theorem keeps_scalesFromToken {orig s : State} {maxs : List Int} (hk : orig.Keeps false s) :
    orig.Keeps false (State.scalesFromToken s maxs) := by
  unfold State.scalesFromToken
  try dsimp only
  repeat' with_reducible first
    | exact State.Keeps.refl _ | assumption | apply keeps_takeScale | apply keeps_resetSlot | split
    | apply keeps_foldl | apply keeps_foldl_fst | intro _

theorem keeps_scalesRestored {orig s : State}  (hk : orig.Keeps false s) :
    orig.Keeps false (State.scalesRestored s) := by
  unfold State.scalesRestored
  try dsimp only
  repeat' with_reducible first
    | exact State.Keeps.refl _ | assumption | apply keeps_setScaleExp | apply keeps_resetSlot | split
    | apply keeps_foldl | apply keeps_foldl_fst | intro _

theorem keeps_setSlotHist {orig s : State} {p k : Nat} {h : List Int × Nat × Nat} (hk : orig.Keeps false s) :
    orig.Keeps false (State.setSlotHist s p k h) := by
  unfold State.setSlotHist
  try dsimp only
  repeat' with_reducible first | exact State.Keeps.refl _ | assumption | apply keeps_setBytes | apply keeps_setNum

theorem keeps_trackAtCommit {orig s : State} {p k : Nat} {m : Int} (hk : orig.Keeps false s) :
    orig.Keeps false (State.trackAtCommit s p k m) := by
  unfold State.trackAtCommit
  try dsimp only
  repeat' with_reducible first
    | exact State.Keeps.refl _ | assumption | apply keeps_setSlotHist | apply keeps_watchEvent
    | apply keeps_setScaleExp | apply keeps_resetSlot | split

theorem keeps_tracksCommit {orig s : State} {maxs : List Int} (hk : orig.Keeps false s) :
    orig.Keeps false (State.tracksCommit s maxs) := by
  unfold State.tracksCommit
  try dsimp only
  repeat' with_reducible first
    | exact State.Keeps.refl _ | assumption | apply keeps_setSlotHist | apply keeps_takeScale
    | apply keeps_trackAtCommit | split | apply keeps_foldl | apply keeps_foldl_fst
    | fail_if_no_progress refine keeps_mk (Memory.Kept.refl _) ?_ | intro _

theorem keeps_endMarks {orig s : State}  (hk : orig.Keeps κ s) :
    orig.Keeps κ (State.endMarks s) := by
  unfold State.endMarks
  try dsimp only
  repeat' with_reducible first
    | exact State.Keeps.refl _ | assumption | split | fail_if_no_progress refine keeps_mk (Memory.Kept.refl _) ?_

theorem keeps_nextAttempt {orig s : State}  (hk : orig.Keeps false s) :
    orig.Keeps false (State.nextAttempt s) := by
  unfold State.nextAttempt
  try dsimp only
  repeat' with_reducible first
    | exact State.Keeps.refl _ | assumption | apply keeps_commitEvent | split
    | fail_if_no_progress refine keeps_mk (Memory.Kept.refl _) ?_

theorem keeps_abandon {orig s : State} {flags count : Nat} (hk : orig.Keeps false s) :
    orig.Keeps false (State.abandon s flags count) := by
  unfold State.abandon
  try dsimp only
  repeat' with_reducible first
    | exact State.Keeps.refl _ | assumption | apply keeps_dropOpen | apply keeps_readSlot | apply keeps_clearDemand
    | apply keeps_quietAll | apply keeps_abandonBuckets | apply keeps_updAbandon | apply keeps_scalesFromToken
    | apply keeps_scalesRestored | apply keeps_tagScrub | apply keeps_commitEvent | apply keeps_bump64
    | apply keeps_nextAttempt | apply keeps_endMarks | split | fail_if_no_progress refine keeps_mk (Memory.Kept.refl _) ?_

theorem keeps_abutWrite {orig s : State} {k : Nat} {bs : List Byte} (hk : orig.Keeps false s) :
    orig.Keeps false (State.abutWrite s k bs) := by
  unfold State.abutWrite
  try dsimp only
  repeat' with_reducible first | exact State.Keeps.refl _ | assumption | apply keeps_guardOnce | apply keeps_storeRun

theorem keeps_abutCopy {orig s : State} {dst src n : Nat} (hk : orig.Keeps false s) :
    orig.Keeps false (State.abutCopy s dst src n) := by
  unfold State.abutCopy
  try dsimp only
  repeat' with_reducible first | exact State.Keeps.refl _ | assumption | apply keeps_loadRun | apply keeps_abutWrite

theorem keeps_writePostImages {orig s : State}  (hk : orig.Keeps false s) :
    orig.Keeps false (State.writePostImages s) := by
  unfold State.writePostImages
  try dsimp only
  repeat' with_reducible first
    | exact State.Keeps.refl _ | assumption | apply keeps_abutCopy | split | apply keeps_foldl
    | apply keeps_foldl_fst | intro _

theorem keeps_readPostImages {orig s : State}  (hk : orig.Keeps false s) :
    orig.Keeps false (State.readPostImages s) := by
  unfold State.readPostImages
  try dsimp only
  repeat' with_reducible first
    | exact State.Keeps.refl _ | assumption | apply keeps_abutCopy | split | apply keeps_foldl
    | apply keeps_foldl_fst | intro _

theorem keeps_copySlot {orig s : State}  (hk : orig.Keeps false s) :
    orig.Keeps false (State.copySlot s) := by
  unfold State.copySlot
  try dsimp only
  repeat' with_reducible first | exact State.Keeps.refl _ | assumption | apply keeps_abutCopy | split

theorem keeps_formPostImages {orig s : State} {m : RoundMsg} {epoch : Nat} (hk : orig.Keeps false s) :
    orig.Keeps false (State.formPostImages s m epoch) := by
  unfold State.formPostImages
  try dsimp only
  repeat' with_reducible first
    | exact State.Keeps.refl _ | assumption | apply keeps_tracksCommit | apply keeps_biasCommit
    | apply keeps_bucketsTrack

theorem keeps_envelopes {orig s : State}  (hk : orig.Keeps κ s) :
    orig.Keeps κ (State.envelopes s) := by
  unfold State.envelopes
  try dsimp only
  repeat' with_reducible first
    | exact State.Keeps.refl _ | assumption | split | apply keeps_foldl | apply keeps_foldl_fst
    | fail_if_no_progress refine keeps_mk (Memory.Kept.refl _) ?_ | intro _

theorem keeps_applySteps {orig s : State}  (hk : orig.Keeps false s) :
    orig.Keeps false (State.applySteps s) := by
  unfold State.applySteps
  try dsimp only
  repeat' with_reducible first
    | exact State.Keeps.refl _ | assumption | apply keeps_readPostImages | apply keeps_copySlot
    | apply keeps_bucketsIdle | apply keeps_bankFlip | apply keeps_envelopes | apply keeps_addCounter
    | apply keeps_streamClose | apply keeps_endMarks | split | fail_if_no_progress refine keeps_mk (Memory.Kept.refl _) ?_

theorem keeps_finishApply {orig s : State}  (hk : orig.Keeps false s) :
    orig.Keeps false (State.finishApply s) := by
  unfold State.finishApply
  try dsimp only
  repeat' with_reducible first | exact State.Keeps.refl _ | assumption | apply keeps_applySteps | split

theorem keeps_applyCommit {orig s : State} {vote : RoundMsg} (hk : orig.Keeps false s) :
    orig.Keeps false (State.applyCommit s vote) := by
  unfold State.applyCommit
  try dsimp only
  repeat' with_reducible first
    | exact State.Keeps.refl _ | assumption | apply keeps_readSlot | apply keeps_readPlan
    | apply keeps_formPostImages | apply keeps_writePostImages | apply keeps_commitEventAt | apply keeps_bump64
    | apply keeps_finishApply | split | fail_if_no_progress refine keeps_mk (Memory.Kept.refl _) ?_

theorem keeps_redoApply {orig s : State}  (hk : orig.Keeps false s) :
    orig.Keeps false (State.redoApply s) := by
  unfold State.redoApply
  try dsimp only
  repeat' with_reducible first
    | exact State.Keeps.refl _ | assumption | apply keeps_readSlot | apply keeps_readPlan | apply keeps_applySteps
    | apply keeps_commitEventAt | split

theorem keeps_actToken {orig s : State} {m : RoundMsg} (hk : orig.Keeps false s) :
    orig.Keeps false (State.actToken s m) := by
  unfold State.actToken
  try dsimp only
  repeat' with_reducible first
    | exact State.Keeps.refl _ | assumption | apply keeps_abutWrite | apply keeps_commitEvent | apply keeps_abandon
    | apply keeps_applyCommit | split | fail_if_no_progress refine keeps_mk (Memory.Kept.refl _) ?_

theorem keeps_token {orig s : State} {m : RoundMsg} (hk : orig.Keeps false s) :
    orig.Keeps false (State.token s m) := by
  unfold State.token
  try dsimp only
  repeat' with_reducible first
    | exact State.Keeps.refl _ | assumption | apply keeps_sendRound | apply keeps_actToken | apply keeps_bump64
    | split | apply keeps_foldl | apply keeps_foldl_fst | intro _

theorem keeps_combined {orig s : State} {vote : Bool} {c : Contrib} (hk : orig.Keeps false s) :
    orig.Keeps false (State.combined s vote c) := by
  unfold State.combined
  try dsimp only
  repeat' with_reducible first
    | exact State.Keeps.refl _ | assumption | apply keeps_sendRound | apply keeps_token | split

theorem keeps_tryCombine {orig s : State} {vote : Bool} (hk : orig.Keeps false s) :
    orig.Keeps false (State.tryCombine s vote) := by
  unfold State.tryCombine
  try dsimp only
  repeat' with_reducible first
    | exact State.Keeps.refl _ | assumption | apply keeps_combined | split | apply keeps_foldl
    | apply keeps_foldl_fst | fail_if_no_progress refine keeps_mk (Memory.Kept.refl _) ?_

theorem keeps_exchangeContribution {orig s : State}  (hk : orig.Keeps false s) :
    orig.Keeps false (State.exchangeContribution s) := by
  unfold State.exchangeContribution
  try dsimp only
  repeat' with_reducible first
    | exact State.Keeps.refl _ | assumption | apply keeps_readPlan | apply keeps_touchReadRun
    | apply keeps_touchBias | apply keeps_tryCombine | split | fail_if_no_progress refine keeps_mk (Memory.Kept.refl _) ?_

theorem keeps_voteSend {orig s : State}  (hk : orig.Keeps false s) :
    orig.Keeps false (State.voteSend s) := by
  unfold State.voteSend
  try dsimp only
  repeat' with_reducible first
    | exact State.Keeps.refl _ | assumption | apply keeps_bump64 | apply keeps_tryCombine | split
    | fail_if_no_progress refine keeps_mk (Memory.Kept.refl _) ?_

theorem keeps_roundUp {orig s : State} {vote : Bool} {src : Nat} {m : RoundMsg} (hk : orig.Keeps false s) :
    orig.Keeps false (State.roundUp s vote src m) := by
  unfold State.roundUp
  try dsimp only
  repeat' with_reducible first
    | exact State.Keeps.refl _ | assumption | apply keeps_tryCombine | split
    | fail_if_no_progress refine keeps_mk (Memory.Kept.refl _) ?_

theorem keeps_roundTimeout {orig s : State}  (hk : orig.Keeps false s) :
    orig.Keeps false (State.roundTimeout s) := by
  unfold State.roundTimeout
  try dsimp only
  repeat' with_reducible first
    | exact State.Keeps.refl _ | assumption | apply keeps_bump64 | apply keeps_commitEvent | split
    | fail_if_no_progress refine keeps_mk (Memory.Kept.refl _) ?_

theorem keeps_abandonCommand {orig s : State}  (hk : orig.Keeps false s) :
    orig.Keeps false (State.abandonCommand s).2 := by
  unfold State.abandonCommand
  try dsimp only
  repeat' with_reducible first | exact State.Keeps.refl _ | assumption | apply keeps_abandon | split

theorem keeps_abandonUpdate {orig s : State}  (hk : orig.Keeps false s) :
    orig.Keeps false (State.abandonUpdate s).2 := by
  unfold State.abandonUpdate
  try dsimp only
  repeat' with_reducible first
    | exact State.Keeps.refl _ | assumption | apply keeps_readSlot | apply keeps_updAbandon | apply keeps_tagScrub
    | apply keeps_nextAttempt | apply keeps_endMarks | split | fail_if_no_progress refine keeps_mk (Memory.Kept.refl _) ?_

theorem keeps_injectToken {orig s : State}  (hk : orig.Keeps false s) :
    orig.Keeps false (State.injectToken s).2 := by
  unfold State.injectToken
  try dsimp only
  repeat' with_reducible first
    | exact State.Keeps.refl _ | assumption | apply keeps_scalesFromToken | apply keeps_actToken | split

theorem keeps_inject {orig s : State}  (hk : orig.Keeps false s) :
    orig.Keeps false (State.inject s).2 := by
  unfold State.inject
  try dsimp only
  repeat' with_reducible first
    | exact State.Keeps.refl _ | assumption | apply keeps_readSlot | apply keeps_injectToken

theorem keeps_attemptReset {orig s : State}  (hk : orig.Keeps κ s) :
    orig.Keeps κ (State.attemptReset s).2 := by
  unfold State.attemptReset
  try dsimp only
  repeat' with_reducible first
    | exact State.Keeps.refl _ | assumption | split | fail_if_no_progress refine keeps_mk (Memory.Kept.refl _) ?_

theorem keeps_pull {orig s : State} {p off n : Nat} (hk : orig.Keeps κ s) :
    orig.Keeps κ (State.pull s p off n) := by
  unfold State.pull
  try dsimp only
  repeat' with_reducible first
    | exact State.Keeps.refl _ | assumption | apply keeps_sendMirror | split | apply keeps_foldl
    | apply keeps_foldl_fst | fail_if_no_progress refine keeps_mk (Memory.Kept.refl _) ?_ | intro _

theorem keeps_restoreFailed {orig s : State}  (hk : orig.Keeps false s) :
    orig.Keeps false (State.restoreFailed s) := by
  unfold State.restoreFailed
  try dsimp only
  repeat' with_reducible first
    | exact State.Keeps.refl _ | assumption | apply keeps_commitEvent | split
    | fail_if_no_progress refine keeps_mk (Memory.Kept.refl _) ?_

theorem keeps_restore {orig s : State}  (hk : orig.Keeps false s) :
    orig.Keeps false (State.restore s).2 := by
  unfold State.restore
  try dsimp only
  repeat' with_reducible first
    | exact State.Keeps.refl _ | assumption | apply keeps_restoreFailed | apply keeps_pull | split
    | fail_if_no_progress refine keeps_mk (Memory.Kept.refl _) ?_

theorem keeps_restoreTables {orig s : State}  (hk : orig.Keeps false s) :
    orig.Keeps false (State.restoreTables s) := by
  unfold State.restoreTables
  try dsimp only
  repeat' with_reducible first
    | exact State.Keeps.refl _ | assumption | apply keeps_restoreFailed | apply keeps_readPlan
    | apply keeps_touchReadRun | apply keeps_pull | split | apply keeps_foldl | apply keeps_foldl_fst
    | fail_if_no_progress refine keeps_mk (Memory.Kept.refl _) ?_ | intro _

theorem keeps_restoreBanks {orig s : State}  (hk : orig.Keeps false s) :
    orig.Keeps false (State.restoreBanks s) := by
  unfold State.restoreBanks
  try dsimp only
  repeat' with_reducible first
    | exact State.Keeps.refl _ | assumption | apply keeps_restoreFailed | apply keeps_pull | split
    | apply keeps_foldl | apply keeps_foldl_fst | fail_if_no_progress refine keeps_mk (Memory.Kept.refl _) ?_ | intro _

theorem keeps_restoreTensor {orig s : State} {t : Nat} (hk : orig.Keeps false s) :
    orig.Keeps false (State.restoreTensor s t) := by
  unfold State.restoreTensor
  try dsimp only
  repeat' with_reducible first | exact State.Keeps.refl _ | assumption | apply keeps_storeRun

theorem keeps_restoreFinish {orig s : State}  (hk : orig.Keeps false s) :
    orig.Keeps false (State.restoreFinish s) := by
  unfold State.restoreFinish
  try dsimp only
  repeat' with_reducible first
    | exact State.Keeps.refl _ | assumption | apply keeps_restoreTensor | apply keeps_guardOnce
    | apply keeps_storeRun | apply keeps_formPostImages | apply keeps_writePostImages | apply keeps_copySlot
    | apply keeps_bucketsIdle | apply keeps_endMarks | apply keeps_bump64 | apply keeps_commitEvent | split
    | apply keeps_foldl | apply keeps_foldl_fst | fail_if_no_progress refine keeps_mk (Memory.Kept.refl _) ?_ | intro _

theorem keeps_restoreNext {orig s : State}  (hk : orig.Keeps false s) :
    orig.Keeps false (State.restoreNext s) := by
  unfold State.restoreNext
  try dsimp only
  repeat' with_reducible first
    | exact State.Keeps.refl _ | assumption | apply keeps_restoreTables | apply keeps_restoreBanks
    | apply keeps_restoreFinish | split

theorem keeps_restoreOn {orig s : State}  (hk : orig.Keeps false s) :
    orig.Keeps false (State.restoreOn s) := by
  unfold State.restoreOn
  try dsimp only
  repeat' with_reducible first | exact State.Keeps.refl _ | assumption | apply keeps_restoreNext

theorem keeps_restoreData {orig s : State} {m : MirrorMsg} (hk : orig.Keeps false s) :
    orig.Keeps false (State.restoreData s m) := by
  unfold State.restoreData
  try dsimp only
  repeat' with_reducible first
    | exact State.Keeps.refl _ | assumption | apply keeps_restoreFailed | apply keeps_restoreOn | split
    | apply keeps_foldl | apply keeps_foldl_fst | fail_if_no_progress refine keeps_mk (Memory.Kept.refl _) ?_

theorem keeps_commitReset {orig s : State}  (hk : orig.Keeps κ s) :
    orig.Keeps κ (State.commitReset s) := by
  unfold State.commitReset
  try dsimp only
  repeat' with_reducible first
    | exact State.Keeps.refl _ | assumption | split | fail_if_no_progress refine keeps_mk (Memory.Kept.refl _) ?_

theorem keeps_powerLog {orig s : State} {event key d0 d1 : Nat} (hk : orig.Keeps κ s) :
    orig.Keeps κ (State.powerLog s event key d0 d1) := by
  unfold State.powerLog
  try dsimp only
  repeat' with_reducible first
    | exact State.Keeps.refl _ | assumption | split | fail_if_no_progress refine keeps_mk (Memory.Kept.refl _) ?_

theorem keeps_startClusters {orig s : State} {p : Nat} (hk : orig.Keeps κ s) :
    orig.Keeps κ (State.startClusters s p) := by
  unfold State.startClusters
  try dsimp only
  repeat' with_reducible first
    | exact State.Keeps.refl _ | assumption | apply keeps_setCluster | split | apply keeps_foldl
    | apply keeps_foldl_fst | intro _

theorem keeps_endFlights {orig s : State} {p q : Nat} (hk : orig.Keeps κ s) :
    orig.Keeps κ (State.endFlights s p q) := by
  unfold State.endFlights
  try dsimp only
  repeat' with_reducible first
    | exact State.Keeps.refl _ | assumption | apply keeps_guardEnd | apply keeps_endReqs | split | apply keeps_foldl
    | apply keeps_foldl_fst | fail_if_no_progress refine keeps_mk (Memory.Kept.refl _) ?_ | intro _

theorem keeps_girderFlush {orig s : State} {p : Nat} (hk : orig.Keeps κ s) :
    orig.Keeps κ (State.girderFlush s p) := by
  unfold State.girderFlush
  try dsimp only
  repeat' with_reducible first | exact State.Keeps.refl _ | assumption | apply keeps_bump64

theorem keeps_clearStores {orig s : State} {p : Nat} (hk : orig.Keeps false s) :
    orig.Keeps false (State.clearStores s p) := by
  unfold State.clearStores
  try dsimp only
  repeat' with_reducible first
    | exact State.Keeps.refl _ | assumption | split | intro _ | dsimp only | refine keeps_mk ?_ ?_ | exact Memory.Kept.refl _
    | apply Memory.kept_without

theorem keeps_clearRings {orig s : State} {rs : List Ring} (hk : orig.Keeps κ s) :
    orig.Keeps κ (State.clearRings s rs) := by
  unfold State.clearRings
  try dsimp only
  repeat' with_reducible first
    | exact State.Keeps.refl _ | assumption | apply keeps_setOd | split | apply keeps_foldl | apply keeps_foldl_fst
    | fail_if_no_progress refine keeps_mk (Memory.Kept.refl _) ?_ | intro _

theorem keeps_clearPeaks {orig s : State} {p : Nat} (hk : orig.Keeps κ s) :
    orig.Keeps κ (State.clearPeaks s p) := by
  unfold State.clearPeaks
  try dsimp only
  repeat' with_reducible first
    | exact State.Keeps.refl _ | assumption | apply keeps_setOd | split | apply keeps_foldl | apply keeps_foldl_fst
    | fail_if_no_progress refine keeps_mk (Memory.Kept.refl _) ?_ | intro _

theorem keeps_arbPier {orig s : State} {p : Nat} (hk : orig.Keeps κ s) :
    orig.Keeps κ (State.arbPier s p) := by
  unfold State.arbPier
  try dsimp only
  repeat' with_reducible first
    | exact State.Keeps.refl _ | assumption | apply keeps_arbDiscard | split
    | fail_if_no_progress refine keeps_mk (Memory.Kept.refl _) ?_

theorem keeps_fabPier {orig s : State} {p : Nat} (hk : orig.Keeps κ s) :
    orig.Keeps κ (State.fabPier s p) := by
  unfold State.fabPier
  try dsimp only
  repeat' with_reducible first
    | exact State.Keeps.refl _ | assumption | split | fail_if_no_progress refine keeps_mk (Memory.Kept.refl _) ?_

theorem keeps_pierClear {orig s : State} {p : Nat} (hk : orig.Keeps false s) :
    orig.Keeps false (State.pierClear s p) := by
  unfold State.pierClear
  try dsimp only
  repeat' with_reducible first
    | exact State.Keeps.refl _ | assumption | apply keeps_endFlights | apply keeps_endReqs | apply keeps_watchReset
    | apply keeps_girderFlush | apply keeps_resetBuckets | apply keeps_modPier | apply keeps_clearStores
    | apply keeps_clearRings | apply keeps_clearPeaks | apply keeps_arbPier | apply keeps_fabPier
    | apply keeps_startClusters | split | apply keeps_foldl | apply keeps_foldl_fst
    | fail_if_no_progress refine keeps_mk (Memory.Kept.refl _) ?_ | intro _

theorem keeps_endHostCommands {orig s : State}  (hk : orig.Keeps κ s) :
    orig.Keeps κ (State.endHostCommands s) := by
  unfold State.endHostCommands
  try dsimp only
  repeat' with_reducible first
    | exact State.Keeps.refl _ | assumption | split | fail_if_no_progress refine keeps_mk (Memory.Kept.refl _) ?_

theorem keeps_mailboxGone {orig s : State}  (hk : orig.Keeps κ s) :
    orig.Keeps κ (State.mailboxGone s) := by
  unfold State.mailboxGone
  try dsimp only
  repeat' with_reducible first
    | exact State.Keeps.refl _ | assumption | apply keeps_endHostCommands | split
    | fail_if_no_progress refine keeps_mk (Memory.Kept.refl _) ?_

theorem keeps_keystoneReset {orig s : State}  (hk : orig.Keeps κ s) :
    orig.Keeps κ (State.keystoneReset s) := by
  unfold State.keystoneReset
  try dsimp only
  repeat' with_reducible first
    | exact State.Keeps.refl _ | assumption | apply keeps_setOd | split | fail_if_no_progress refine keeps_mk (Memory.Kept.refl _) ?_

theorem keeps_arbReset {orig s : State}  (hk : orig.Keeps κ s) :
    orig.Keeps κ (State.arbReset s) := by
  unfold State.arbReset
  try dsimp only
  repeat' with_reducible first
    | exact State.Keeps.refl _ | assumption | apply keeps_ledgerClear | apply keeps_setOd | split
    | apply keeps_foldl | apply keeps_foldl_fst | fail_if_no_progress refine keeps_mk (Memory.Kept.refl _) ?_ | intro _

theorem keeps_portsReset {orig s : State} {keepFailed : Bool} (hk : orig.Keeps κ s) :
    orig.Keeps κ (State.portsReset s keepFailed) := by
  unfold State.portsReset
  try dsimp only
  repeat' with_reducible first
    | exact State.Keeps.refl _ | assumption | apply keeps_bump32 | apply keeps_setPort | split | apply keeps_foldl
    | apply keeps_foldl_fst | intro _

theorem keeps_moduleClear {orig s : State}  (hk : orig.Keeps false s) :
    orig.Keeps false (State.moduleClear s) := by
  unfold State.moduleClear
  try dsimp only
  repeat' with_reducible first
    | exact State.Keeps.refl _ | assumption | apply keeps_settleSnoops | apply keeps_pierClear
    | apply keeps_updReset | apply keeps_commitReset | apply keeps_modPier | apply keeps_arbReset
    | apply keeps_clearRings | apply keeps_setOd | apply keeps_portsReset | apply keeps_mailboxGone
    | apply keeps_keystoneReset | split | fail_if_no_progress refine keeps_mk (Memory.Kept.refl _) ?_

theorem keeps_moduleReset {orig s : State} {cause : Nat} (hk : orig.Keeps false s) :
    orig.Keeps false (State.moduleReset s cause) := by
  unfold State.moduleReset
  try dsimp only
  repeat' with_reducible first
    | exact State.Keeps.refl _ | assumption | apply keeps_setOd | apply keeps_powerLog | apply keeps_alert
    | apply keeps_moduleClear | split | fail_if_no_progress refine keeps_mk (Memory.Kept.refl _) ?_

theorem keeps_assertModuleReset {orig s : State} {cause : Nat} (hk : orig.Keeps false s) :
    orig.Keeps false (State.assertModuleReset s cause) := by
  unfold State.assertModuleReset
  try dsimp only
  repeat' with_reducible first | exact State.Keeps.refl _ | assumption | apply keeps_moduleReset | split

theorem keeps_coldOd {orig s : State} {vtoll : Bool} (hk : orig.Keeps κ s) :
    orig.Keeps κ (State.coldOd s vtoll) := by
  unfold State.coldOd
  try dsimp only
  repeat' with_reducible first
    | exact State.Keeps.refl _ | assumption | split | apply keeps_foldl | apply keeps_foldl_fst
    | fail_if_no_progress refine keeps_mk (Memory.Kept.refl _) ?_

theorem keeps_coldClear {orig s : State} {vtoll : Bool} (hk : orig.Keeps false s) :
    orig.Keeps false (State.coldClear s vtoll) := by
  unfold State.coldClear
  try dsimp only
  repeat' with_reducible first
    | exact State.Keeps.refl _ | assumption | apply keeps_coldOd | apply keeps_portsReset | apply keeps_mailboxGone
    | apply keeps_keystoneReset | split | intro _ | dsimp only | refine keeps_mk ?_ ?_ | apply Memory.kept_without
    | exact Memory.kept_nil | exact Memory.Kept.refl _

theorem keeps_coldReset {orig s : State} {cause : Nat} (hk : orig.Keeps false s) :
    orig.Keeps false (State.coldReset s cause) := by
  unfold State.coldReset
  try dsimp only
  repeat' with_reducible first
    | exact State.Keeps.refl _ | assumption | apply keeps_powerLog | apply keeps_coldClear | apply keeps_setOd

theorem keeps_inputLost {orig s : State}  (hk : orig.Keeps false s) :
    orig.Keeps false (State.inputLost s) := by
  unfold State.inputLost
  try dsimp only
  repeat' with_reducible first
    | exact State.Keeps.refl _ | assumption | apply keeps_coldClear | split
    | fail_if_no_progress refine keeps_mk (Memory.Kept.refl _) ?_

theorem keeps_pierReset {orig s : State} {p : Nat} (hk : orig.Keeps false s) :
    orig.Keeps false (State.pierReset s p) := by
  unfold State.pierReset
  try dsimp only
  repeat' with_reducible first
    | exact State.Keeps.refl _ | assumption | apply keeps_powerLog | apply keeps_pierClear | apply keeps_updReset
    | apply keeps_commitReset | apply keeps_markFaulted | apply keeps_modPier | split

theorem keeps_pierRelease {orig s : State} {p : Nat} (hk : orig.Keeps false s) :
    orig.Keeps false (State.pierRelease s p) := by
  unfold State.pierRelease
  try dsimp only
  repeat' with_reducible first
    | exact State.Keeps.refl _ | assumption | apply keeps_modPier | apply keeps_startClusters
    | apply keeps_resumeMirror | apply keeps_redoApply | apply keeps_finishApply | split

theorem keeps_idleQueue {orig s : State} {p q : Nat} (hk : orig.Keeps κ s) :
    orig.Keeps κ (State.idleQueue s p q) := by
  unfold State.idleQueue
  try dsimp only
  repeat' with_reducible first | exact State.Keeps.refl _ | assumption | apply keeps_endFlights | apply keeps_setQueue

theorem keeps_ilbenEnd {orig s : State} {p : Nat} (hk : orig.Keeps false s) :
    orig.Keeps false (State.ilbenEnd s p) := by
  unfold State.ilbenEnd
  try dsimp only
  repeat' with_reducible first
    | exact State.Keeps.refl _ | assumption | apply keeps_ilCut | apply keeps_modUpd | apply keeps_reseedOn | split
    | apply keeps_foldl | apply keeps_foldl_fst | fail_if_no_progress refine keeps_mk (Memory.Kept.refl _) ?_ | intro _

theorem keeps_redsEnd {orig s : State} {p q : Nat} (hk : orig.Keeps κ s) :
    orig.Keeps κ (State.redsEnd s p q) := by
  unfold State.redsEnd
  try dsimp only
  repeat' with_reducible first | exact State.Keeps.refl _ | assumption | apply keeps_modPier

theorem keeps_engineClear {orig s : State} {p e : Nat} (hk : orig.Keeps false s) :
    orig.Keeps false (State.engineClear s p e) := by
  unfold State.engineClear
  try dsimp only
  repeat' with_reducible first
    | exact State.Keeps.refl _ | assumption | apply keeps_setPair | apply keeps_modPier | apply keeps_redsEnd
    | apply keeps_quietAll | apply keeps_ilbenEnd | split | intro _ | dsimp only | refine keeps_mk ?_ ?_ | exact Memory.Kept.refl _
    | apply Memory.kept_without

theorem keeps_ownerClear {orig s : State} {p e : Nat} (hk : orig.Keeps κ s) :
    orig.Keeps κ (State.ownerClear s p e) := by
  unfold State.ownerClear
  try dsimp only
  repeat' with_reducible first
    | exact State.Keeps.refl _ | assumption | apply keeps_release | split | apply keeps_foldl
    | apply keeps_foldl_fst | intro _

theorem keeps_engineReset {orig s : State} {p e : Nat} (hk : orig.Keeps false s) :
    orig.Keeps false (State.engineReset s p e) := by
  unfold State.engineReset
  try dsimp only
  repeat' with_reducible first
    | exact State.Keeps.refl _ | assumption | apply keeps_powerLog | apply keeps_ownerClear
    | apply keeps_engineClear | apply keeps_idleQueue | apply keeps_arbDiscard | apply keeps_markFaulted | split
    | apply keeps_foldl | apply keeps_foldl_fst | intro _

theorem keeps_takeBytes {orig s : State} {n : Nat} (hk : orig.Keeps κ s) :
    orig.Keeps κ (State.takeBytes s n).2 := by
  unfold State.takeBytes
  try dsimp only
  repeat' with_reducible first
    | exact State.Keeps.refl _ | assumption | split | fail_if_no_progress refine keeps_mk (Memory.Kept.refl _) ?_

theorem keeps_fuseLoad {orig s : State}  (hk : orig.Keeps κ s) :
    orig.Keeps κ (State.fuseLoad s) := by
  unfold State.fuseLoad
  try dsimp only
  repeat' with_reducible first
    | exact State.Keeps.refl _ | assumption | apply keeps_setOd | split | apply keeps_foldl | apply keeps_foldl_fst
    | intro _

theorem keeps_setStaging {orig s : State} {tr : Nat} {g : Staging} (hk : orig.Keeps κ s) :
    orig.Keeps κ (State.setStaging s tr g) := by
  unfold State.setStaging
  try dsimp only
  repeat' with_reducible first
    | exact State.Keeps.refl _ | assumption | split | fail_if_no_progress refine keeps_mk (Memory.Kept.refl _) ?_

theorem keeps_renewNonce {orig s : State} {tr : Nat} (hk : orig.Keeps κ s) :
    orig.Keeps κ (State.renewNonce s tr) := by
  unfold State.renewNonce
  try dsimp only
  repeat' with_reducible first
    | exact State.Keeps.refl _ | assumption | apply keeps_takeBytes | apply keeps_setStaging

theorem keeps_tokenBegin {orig s : State} {tr : Nat} (hk : orig.Keeps κ s) :
    orig.Keeps κ (State.tokenBegin s tr) := by
  unfold State.tokenBegin
  try dsimp only
  repeat' with_reducible first | exact State.Keeps.refl _ | assumption | apply keeps_setStaging

theorem keeps_tokenStage {orig s : State} {tr : Nat} {piece : List Byte} (hk : orig.Keeps κ s) :
    orig.Keeps κ (State.tokenStage s tr piece).2 := by
  unfold State.tokenStage
  try dsimp only
  repeat' with_reducible first | exact State.Keeps.refl _ | assumption | apply keeps_setStaging | split

theorem keeps_tokenSeal {orig s : State} {tr : Nat} (hk : orig.Keeps κ s) :
    orig.Keeps κ (State.tokenSeal s tr).2 := by
  unfold State.tokenSeal
  try dsimp only
  repeat' with_reducible first | exact State.Keeps.refl _ | assumption | apply keeps_setStaging | split

theorem keeps_tokenVerified {orig s : State} {tr : Nat} (hk : orig.Keeps κ s) :
    orig.Keeps κ (State.tokenVerified s tr) := by
  unfold State.tokenVerified
  try dsimp only
  repeat' with_reducible first
    | exact State.Keeps.refl _ | assumption | apply keeps_takeFree | apply keeps_setStaging | apply keeps_bump32
    | split

theorem keeps_tokenSpend {orig s : State} {tr : Nat} (hk : orig.Keeps κ s) :
    orig.Keeps κ (State.tokenSpend s tr) := by
  unfold State.tokenSpend
  try dsimp only
  repeat' with_reducible first
    | exact State.Keeps.refl _ | assumption | apply keeps_setStaging | apply keeps_renewNonce

theorem keeps_ownerChanged {orig s : State}  (hk : orig.Keeps κ s) :
    orig.Keeps κ (State.ownerChanged s) := by
  unfold State.ownerChanged
  try dsimp only
  repeat' with_reducible first
    | exact State.Keeps.refl _ | assumption | apply keeps_setStaging | apply keeps_setOd | apply keeps_renewNonce

theorem keeps_keystoneRelease {orig s : State}  (hk : orig.Keeps κ s) :
    orig.Keeps κ (State.keystoneRelease s) := by
  unfold State.keystoneRelease
  try dsimp only
  repeat' with_reducible first
    | exact State.Keeps.refl _ | assumption | apply keeps_renewNonce | split
    | fail_if_no_progress refine keeps_mk (Memory.Kept.refl _) ?_

theorem keeps_powerUpDefaults {orig s : State}  (hk : orig.Keeps κ s) :
    orig.Keeps κ (State.powerUpDefaults s) := by
  unfold State.powerUpDefaults
  try dsimp only
  repeat' with_reducible first
    | exact State.Keeps.refl _ | assumption | split | apply keeps_foldl | apply keeps_foldl_fst
    | fail_if_no_progress refine keeps_mk (Memory.Kept.refl _) ?_

theorem keeps_becomeActive {orig s : State}  (hk : orig.Keeps false s) :
    orig.Keeps false (State.becomeActive s) := by
  unfold State.becomeActive
  try dsimp only
  repeat' with_reducible first
    | exact State.Keeps.refl _ | assumption | apply keeps_powerUpDefaults | apply keeps_portsReset
    | apply keeps_redoApply | apply keeps_startClusters | split | fail_if_no_progress refine keeps_mk (Memory.Kept.refl _) ?_

theorem keeps_boot {orig s : State} {slot : Nat} {fallback : Bool} (hk : orig.Keeps κ s) :
    orig.Keeps κ (State.boot s slot fallback) := by
  unfold State.boot
  try dsimp only
  repeat' with_reducible first
    | exact State.Keeps.refl _ | assumption | split | fail_if_no_progress refine keeps_mk (Memory.Kept.refl _) ?_

theorem keeps_firmwareVerify {orig s : State}  (hk : orig.Keeps false s) :
    orig.Keeps false (State.firmwareVerify s) := by
  unfold State.firmwareVerify
  try dsimp only
  repeat' with_reducible first
    | exact State.Keeps.refl _ | assumption | apply keeps_boot | apply keeps_becomeActive | apply keeps_bump32
    | split | fail_if_no_progress refine keeps_mk (Memory.Kept.refl _) ?_

theorem keeps_transferFw {orig s : State} {action slot off : Nat} {data : List Byte} (hk : orig.Keeps κ s) :
    orig.Keeps κ (State.transferFw s action slot off data).2 := by
  unfold State.transferFw
  try dsimp only
  repeat' with_reducible first
    | exact State.Keeps.refl _ | assumption | apply keeps_boot | apply keeps_finish | split
    | fail_if_no_progress refine keeps_mk (Memory.Kept.refl _) ?_

theorem keeps_activateFw {orig s : State} {slot : Nat} (hk : orig.Keeps κ s) :
    orig.Keeps κ (State.activateFw s slot).2 := by
  unfold State.activateFw
  try dsimp only
  repeat' with_reducible first
    | exact State.Keeps.refl _ | assumption | apply keeps_boot | split | fail_if_no_progress refine keeps_mk (Memory.Kept.refl _) ?_

theorem keeps_raisePower {orig s : State}  (hk : orig.Keeps κ s) :
    orig.Keeps κ (State.raisePower s) := by
  unfold State.raisePower
  try dsimp only
  repeat' with_reducible first | exact State.Keeps.refl _ | assumption | apply keeps_raise | split

theorem keeps_wake {orig s : State}  (hk : orig.Keeps false s) :
    orig.Keeps false (State.wake s) := by
  unfold State.wake
  try dsimp only
  repeat' with_reducible first
    | exact State.Keeps.refl _ | assumption | apply keeps_setOd | apply keeps_powerLog | apply keeps_moduleClear
    | split | fail_if_no_progress refine keeps_mk (Memory.Kept.refl _) ?_

theorem keeps_tollStart {orig s : State}  (hk : orig.Keeps false s) :
    orig.Keeps false (State.tollStart s) := by
  unfold State.tollStart
  try dsimp only
  repeat' with_reducible first
    | exact State.Keeps.refl _ | assumption | apply keeps_fuseLoad | apply keeps_setOd | apply keeps_wake | split
    | fail_if_no_progress refine keeps_mk (Memory.Kept.refl _) ?_

theorem keeps_inputRise {orig s : State} {node : Nat} {wakeMode : Bool} (hk : orig.Keeps false s) :
    orig.Keeps false (State.inputRise s node wakeMode) := by
  unfold State.inputRise
  try dsimp only
  repeat' with_reducible first
    | exact State.Keeps.refl _ | assumption | apply keeps_tollStart | split
    | fail_if_no_progress refine keeps_mk (Memory.Kept.refl _) ?_

theorem keeps_undervoltage {orig s : State}  (hk : orig.Keeps false s) :
    orig.Keeps false (State.undervoltage s) := by
  unfold State.undervoltage
  try dsimp only
  repeat' with_reducible first
    | exact State.Keeps.refl _ | assumption | apply keeps_inputLost | split
    | fail_if_no_progress refine keeps_mk (Memory.Kept.refl _) ?_

theorem keeps_senseOpened {orig s : State}  (hk : orig.Keeps false s) :
    orig.Keeps false (State.senseOpened s) := by
  unfold State.senseOpened
  try dsimp only
  repeat' with_reducible first
    | exact State.Keeps.refl _ | assumption | apply keeps_inputLost | split
    | fail_if_no_progress refine keeps_mk (Memory.Kept.refl _) ?_

theorem keeps_senseClosed {orig s : State}  (hk : orig.Keeps false s) :
    orig.Keeps false (State.senseClosed s) := by
  unfold State.senseClosed
  try dsimp only
  repeat' with_reducible first
    | exact State.Keeps.refl _ | assumption | apply keeps_tollStart | split
    | fail_if_no_progress refine keeps_mk (Memory.Kept.refl _) ?_

theorem keeps_overvoltage {orig s : State} {mv : Nat} (hk : orig.Keeps false s) :
    orig.Keeps false (State.overvoltage s mv) := by
  unfold State.overvoltage
  try dsimp only
  repeat' with_reducible first
    | exact State.Keeps.refl _ | assumption | apply keeps_powerLog | apply keeps_alert | apply keeps_coldReset
    | split | fail_if_no_progress refine keeps_mk (Memory.Kept.refl _) ?_

theorem keeps_inputLow {orig s : State} {mv : Nat} (hk : orig.Keeps κ s) :
    orig.Keeps κ (State.inputLow s mv) := by
  unfold State.inputLow
  try dsimp only
  repeat' with_reducible first
    | exact State.Keeps.refl _ | assumption | apply keeps_powerLog | apply keeps_raisePower | apply keeps_alert
    | split | fail_if_no_progress refine keeps_mk (Memory.Kept.refl _) ?_

theorem keeps_referenceStable {orig s : State}  (hk : orig.Keeps κ s) :
    orig.Keeps κ (State.referenceStable s) := by
  unfold State.referenceStable
  try dsimp only
  repeat' with_reducible first
    | exact State.Keeps.refl _ | assumption | split | fail_if_no_progress refine keeps_mk (Memory.Kept.refl _) ?_

theorem keeps_railGood {orig s : State} {order : Nat} (hk : orig.Keeps κ s) :
    orig.Keeps κ (State.railGood s order) := by
  unfold State.railGood
  try dsimp only
  repeat' with_reducible first
    | exact State.Keeps.refl _ | assumption | apply keeps_keystoneRelease | split
    | fail_if_no_progress refine keeps_mk (Memory.Kept.refl _) ?_

theorem keeps_railFault {orig s : State} {order : Nat} (hk : orig.Keeps false s) :
    orig.Keeps false (State.railFault s order) := by
  unfold State.railFault
  try dsimp only
  repeat' with_reducible first
    | exact State.Keeps.refl _ | assumption | apply keeps_powerLog | apply keeps_alert | apply keeps_coldReset
    | split

theorem keeps_channelTraining {orig s : State} {fails : List TrainFail} (hk : orig.Keeps κ s) :
    orig.Keeps κ (State.channelTraining s fails) := by
  unfold State.channelTraining
  try dsimp only
  repeat' with_reducible first
    | exact State.Keeps.refl _ | assumption | apply keeps_persistentMem | split | apply keeps_foldl
    | apply keeps_foldl_fst | fail_if_no_progress refine keeps_mk (Memory.Kept.refl _) ?_ | intro _

theorem keeps_standby {orig s : State}  (hk : orig.Keeps false s) :
    orig.Keeps false (State.standby s).2 := by
  unfold State.standby
  try dsimp only
  repeat' with_reducible first
    | exact State.Keeps.refl _ | assumption | apply keeps_powerLog | apply keeps_moduleClear | split
    | fail_if_no_progress refine keeps_mk (Memory.Kept.refl _) ?_

theorem keeps_toll {orig s : State}  (hk : orig.Keeps false s) :
    orig.Keeps false (State.toll s).2 := by
  unfold State.toll
  try dsimp only
  repeat' with_reducible first
    | exact State.Keeps.refl _ | assumption | apply keeps_standby | apply keeps_coldReset | split

theorem keeps_gateEntry {orig s : State} {p i : Nat} {deck : Bool} (hk : orig.Keeps κ s) :
    orig.Keeps κ (State.gateEntry s p i deck) := by
  unfold State.gateEntry
  try dsimp only
  repeat' with_reducible first | exact State.Keeps.refl _ | assumption | apply keeps_setEngine | split

theorem keeps_parkEntry {orig s : State} {c : Nat} (hk : orig.Keeps κ s) :
    orig.Keeps κ (State.parkEntry s c) := by
  unfold State.parkEntry
  try dsimp only
  repeat' with_reducible first | exact State.Keeps.refl _ | assumption | apply keeps_setCluster | split

theorem keeps_retainEntry {orig s : State} {c : Nat} (hk : orig.Keeps κ s) :
    orig.Keeps κ (State.retainEntry s c) := by
  unfold State.retainEntry
  try dsimp only
  repeat' with_reducible first | exact State.Keeps.refl _ | assumption | apply keeps_setCluster | split

theorem keeps_clusterRestored {orig s : State} {c : Nat} (hk : orig.Keeps false s) :
    orig.Keeps false (State.clusterRestored s c) := by
  unfold State.clusterRestored
  try dsimp only
  repeat' with_reducible first
    | exact State.Keeps.refl _ | assumption | apply keeps_setPair | apply keeps_modPier | split | apply keeps_foldl
    | apply keeps_foldl_fst | intro _ | dsimp only | refine keeps_mk ?_ ?_ | apply Memory.kept_without | exact Memory.kept_nil | exact Memory.Kept.refl _

theorem keeps_offEntry {orig s : State} {c : Nat} (hk : orig.Keeps false s) :
    orig.Keeps false (State.offEntry s c) := by
  unfold State.offEntry
  try dsimp only
  repeat' with_reducible first
    | exact State.Keeps.refl _ | assumption | apply keeps_clusterRestored | apply keeps_setCluster | split

theorem keeps_restoreComplete {orig s : State} {c : Nat} (hk : orig.Keeps false s) :
    orig.Keeps false (State.restoreComplete s c) := by
  unfold State.restoreComplete
  try dsimp only
  repeat' with_reducible first
    | exact State.Keeps.refl _ | assumption | apply keeps_clusterRestored | apply keeps_setCluster | split

theorem keeps_powerLoop {orig s : State} {p100 p1 pk mv ma : Nat} (hk : orig.Keeps κ s) :
    orig.Keeps κ (State.powerLoop s p100 p1 pk mv ma) := by
  unfold State.powerLoop
  extract_lets p0 s2 s3 cap old want s4 new s5 p6 s6
  have h3 : orig.Keeps κ s3 := keeps_setOd (keeps_mk (Memory.Kept.refl _) hk)
  have h4 : orig.Keeps κ s4 := keeps_ite _ (keeps_raisePower (keeps_powerLog (keeps_bump32 h3))) h3
  have h6 : orig.Keeps κ s6 := keeps_mk (Memory.Kept.refl _) (keeps_powerLog (keeps_bump32 h4))
  repeat' with_reducible first | assumption | exact keeps_raisePower h6 | split

theorem keeps_readTemps {orig s : State} {ts : List (Nat × Int)} (hk : orig.Keeps κ s) :
    orig.Keeps κ (State.readTemps s ts) := by
  unfold State.readTemps
  try dsimp only
  repeat' with_reducible first
    | exact State.Keeps.refl _ | assumption | split | apply keeps_foldl | apply keeps_foldl_fst
    | fail_if_no_progress refine keeps_mk (Memory.Kept.refl _) ?_

theorem keeps_thermalOne {orig s : State} {c : Nat} (hk : orig.Keeps κ s) :
    orig.Keeps κ (State.thermalOne s c) := by
  unfold State.thermalOne
  try dsimp only
  repeat' with_reducible first
    | exact State.Keeps.refl _ | assumption | apply keeps_bump32 | apply keeps_powerLog | apply keeps_raisePower
    | split | apply keeps_foldl | apply keeps_foldl_fst | fail_if_no_progress refine keeps_mk (Memory.Kept.refl _) ?_

theorem keeps_thermalLoop {orig s : State} {ts : List (Nat × Int)} (hk : orig.Keeps κ s) :
    orig.Keeps κ (State.thermalLoop s ts) := by
  unfold State.thermalLoop
  try dsimp only
  repeat' with_reducible first
    | exact State.Keeps.refl _ | assumption | apply keeps_readTemps | apply keeps_thermalOne | split
    | apply keeps_foldl | apply keeps_foldl_fst | intro _

theorem keeps_stackThrottle {orig s : State} {p stack : Nat} {t : Int} (hk : orig.Keeps κ s) :
    orig.Keeps κ (State.stackThrottle s p stack t) := by
  unfold State.stackThrottle
  try dsimp only
  repeat' with_reducible first
    | exact State.Keeps.refl _ | assumption | apply keeps_readTemps | apply keeps_bump32 | apply keeps_powerLog
    | apply keeps_raisePower | split | fail_if_no_progress refine keeps_mk (Memory.Kept.refl _) ?_

theorem keeps_ilbenThrottle {orig s : State} {sensor : Nat} {t : Int} (hk : orig.Keeps κ s) :
    orig.Keeps κ (State.ilbenThrottle s sensor t) := by
  unfold State.ilbenThrottle
  try dsimp only
  repeat' with_reducible first
    | exact State.Keeps.refl _ | assumption | apply keeps_readTemps | apply keeps_bump32 | split
    | fail_if_no_progress refine keeps_mk (Memory.Kept.refl _) ?_

theorem keeps_thermalTrip {orig s : State} {sensor : Nat} {t : Int} (hk : orig.Keeps false s) :
    orig.Keeps false (State.thermalTrip s sensor t) := by
  unfold State.thermalTrip
  try dsimp only
  repeat' with_reducible first
    | exact State.Keeps.refl _ | assumption | apply keeps_toll | apply keeps_readTemps | apply keeps_powerLog
    | apply keeps_alert | apply keeps_coldReset | split

theorem keeps_refreshInterval {orig s : State} {p stack : Nat} {t : Int} (hk : orig.Keeps κ s) :
    orig.Keeps κ (State.refreshInterval s p stack t) := by
  unfold State.refreshInterval
  try dsimp only
  repeat' with_reducible first
    | exact State.Keeps.refl _ | assumption | apply keeps_readTemps | split
    | fail_if_no_progress refine keeps_mk (Memory.Kept.refl _) ?_

theorem keeps_perstAssert {orig s : State}  (hk : orig.Keeps false s) :
    orig.Keeps false (State.perstAssert s) := by
  unfold State.perstAssert
  try dsimp only
  repeat' with_reducible first
    | exact State.Keeps.refl _ | assumption | apply keeps_assertModuleReset | split
    | fail_if_no_progress refine keeps_mk (Memory.Kept.refl _) ?_

theorem keeps_moduleRelease {orig s : State}  (hk : orig.Keeps κ s) :
    orig.Keeps κ (State.moduleRelease s) := by
  unfold State.moduleRelease
  try dsimp only
  repeat' with_reducible first
    | exact State.Keeps.refl _ | assumption | apply keeps_moduleReset | apply keeps_keystoneRelease | split

theorem keeps_perstDeassert {orig s : State}  (hk : orig.Keeps false s) :
    orig.Keeps false (State.perstDeassert s) := by
  unfold State.perstDeassert
  try dsimp only
  repeat' with_reducible first
    | exact State.Keeps.refl _ | assumption | apply keeps_moduleReset | apply keeps_moduleRelease | apply keeps_wake
    | split | fail_if_no_progress refine keeps_mk (Memory.Kept.refl _) ?_

theorem keeps_resetControl {orig s : State} {v : Nat} (hk : orig.Keeps false s) :
    orig.Keeps false (State.resetControl s v).2 := by
  unfold State.resetControl
  try dsimp only
  repeat' with_reducible first
    | exact State.Keeps.refl _ | assumption | apply keeps_moduleReset | apply keeps_assertModuleReset
    | apply keeps_pierReset | apply keeps_engineReset | split

theorem keeps_modSpdm {orig s : State} {f : Spdm → Spdm} (hk : orig.Keeps κ s) :
    orig.Keeps κ (State.modSpdm s f) := by
  unfold State.modSpdm
  try dsimp only
  repeat' with_reducible first
    | exact State.Keeps.refl _ | assumption | split | fail_if_no_progress refine keeps_mk (Memory.Kept.refl _) ?_

theorem keeps_spdmReceive {orig s : State} {r : SpdmReq} (hk : orig.Keeps κ s) :
    orig.Keeps κ (State.spdmReceive s r) := by
  unfold State.spdmReceive
  try dsimp only
  repeat' with_reducible first | exact State.Keeps.refl _ | assumption | apply keeps_bump32 | apply keeps_modSpdm

theorem keeps_spdmSigned {orig s : State} {m : List Byte} (hk : orig.Keeps κ s) :
    orig.Keeps κ (State.spdmSigned s m).2 := by
  unfold State.spdmSigned
  try dsimp only
  repeat' with_reducible first
    | exact State.Keeps.refl _ | assumption | apply keeps_modSpdm | split
    | fail_if_no_progress refine keeps_mk (Memory.Kept.refl _) ?_

theorem keeps_spdmChallenge {orig s : State} {slot : Nat} {nonce : List Byte} (hk : orig.Keeps κ s) :
    orig.Keeps κ (State.spdmChallenge s slot nonce).2 := by
  unfold State.spdmChallenge
  try dsimp only
  repeat' with_reducible first
    | exact State.Keeps.refl _ | assumption | apply keeps_takeBytes | apply keeps_spdmSigned | split

theorem keeps_spdmMeasure {orig s : State} {index : Nat} {sign : Bool} {nonce : List Byte} (hk : orig.Keeps κ s) :
    orig.Keeps κ (State.spdmMeasure s index sign nonce).2 := by
  unfold State.spdmMeasure
  try dsimp only
  repeat' with_reducible first
    | exact State.Keeps.refl _ | assumption | apply keeps_takeBytes | apply keeps_spdmSigned | split

theorem keeps_spdmPlain {orig s : State} {r : SpdmReq} (hk : orig.Keeps κ s) :
    orig.Keeps κ (State.spdmPlain s r).2 := by
  unfold State.spdmPlain
  try dsimp only
  repeat' with_reducible first
    | exact State.Keeps.refl _ | assumption | apply keeps_stage | apply keeps_modSpdm | apply keeps_spdmChallenge
    | apply keeps_spdmMeasure | apply keeps_takeBytes | split | fail_if_no_progress refine keeps_mk (Memory.Kept.refl _) ?_

theorem keeps_spdmAnswer {orig s : State} {r : SpdmReq} (hk : orig.Keeps κ s) :
    orig.Keeps κ (State.spdmAnswer s r).2 := by
  unfold State.spdmAnswer
  try dsimp only
  repeat' with_reducible first
    | exact State.Keeps.refl _ | assumption | apply keeps_modSpdm | apply keeps_spdmPlain | split

theorem keeps_spdmDeliver {orig s : State} {tr : Nat} {m : List Byte} (hk : orig.Keeps κ s) :
    orig.Keeps κ (State.spdmDeliver s tr m) := by
  unfold State.spdmDeliver
  try dsimp only
  repeat' with_reducible first
    | exact State.Keeps.refl _ | assumption | apply keeps_modSpdm | apply keeps_emit | apply keeps_raise | split

theorem keeps_spdmReady {orig s : State}  (hk : orig.Keeps κ s) :
    orig.Keeps κ (State.spdmReady s) := by
  unfold State.spdmReady
  try dsimp only
  repeat' with_reducible first
    | exact State.Keeps.refl _ | assumption | apply keeps_modSpdm | apply keeps_spdmDeliver | apply keeps_spdmAnswer
    | split

theorem keeps_spdmRequest {orig s : State} {tr op : Nat} {args : List Nat} {data : List Byte} (hk : orig.Keeps κ s) :
    orig.Keeps κ (State.spdmRequest s tr op args data) := by
  unfold State.spdmRequest
  try dsimp only
  repeat' with_reducible first | exact State.Keeps.refl _ | assumption | apply keeps_spdmReceive | split

theorem keeps_spdmTx {orig s : State} {d : List Byte} (hk : orig.Keeps κ s) :
    orig.Keeps κ (State.spdmTx s d).2 := by
  unfold State.spdmTx
  try dsimp only
  repeat' with_reducible first | exact State.Keeps.refl _ | assumption | apply keeps_spdmReceive | split

theorem keeps_commitControl {orig s : State} {v : Nat} (hk : orig.Keeps false s) :
    orig.Keeps false (State.commitControl s v).2 := by
  unfold State.commitControl
  try dsimp only
  repeat' with_reducible first
    | exact State.Keeps.refl _ | assumption | apply keeps_abandonCommand | apply keeps_abandonUpdate
    | apply keeps_inject | apply keeps_restore | apply keeps_reseed | apply keeps_mseal | apply keeps_attemptReset
    | split

theorem keeps_powerControl {orig s : State} {v : Nat} (hk : orig.Keeps false s) :
    orig.Keeps false (State.powerControl s v).2 := by
  unfold State.powerControl
  try dsimp only
  repeat' with_reducible first
    | exact State.Keeps.refl _ | assumption | apply keeps_wake | apply keeps_standby | apply keeps_toll | split

theorem keeps_keep {orig s : State} {tr idx sub v : Nat} {r : OdRow} (hk : orig.Keeps κ s) :
    orig.Keeps κ (State.keep s tr idx sub v r) := by
  unfold State.keep
  try dsimp only
  repeat' with_reducible first
    | exact State.Keeps.refl _ | assumption | apply keeps_setOd | split | fail_if_no_progress refine keeps_mk (Memory.Kept.refl _) ?_

theorem keeps_writeFlags {orig s : State} {p k v : Nat} (hk : orig.Keeps κ s) :
    orig.Keeps κ (State.writeFlags s p k v) := by
  unfold State.writeFlags
  try dsimp only
  repeat' with_reducible first
    | exact State.Keeps.refl _ | assumption | apply keeps_setFlag | split | apply keeps_foldl
    | apply keeps_foldl_fst | intro _

theorem keeps_apply {orig s : State} {tr idx sub : Nat} {data : List Byte} {r : OdRow} (hk : orig.Keeps false s) :
    orig.Keeps false (State.apply s tr idx sub data r).2 := by
  unfold State.apply
  try dsimp only
  repeat' with_reducible first
    | exact State.Keeps.refl _ | assumption | apply keeps_ringTail | apply keeps_powerControl
    | apply keeps_resetControl | apply keeps_unpin | apply keeps_writeBackAll | apply keeps_guardWrite
    | apply keeps_priorityWrite | apply keeps_ledgerClear | apply keeps_layoutWrite | apply keeps_releaseBucket
    | apply keeps_releaseAll | apply keeps_portEnable | apply keeps_portCommand | apply keeps_commitControl
    | apply keeps_keep | apply keeps_lastImages | apply keeps_setOd | apply keeps_markFaulted | apply keeps_spdmTx
    | apply keeps_tokenStage | apply keeps_tokenBegin | apply keeps_tokenSeal | apply keeps_setCounter
    | apply keeps_writeFlags | split | fail_if_no_progress refine keeps_mk (Memory.Kept.refl _) ?_

theorem keeps_now {orig s : State}  (hk : orig.Keeps κ s) :
    orig.Keeps κ (State.now s).2 := by
  unfold State.now
  try dsimp only
  repeat' with_reducible first | exact State.Keeps.refl _ | assumption | apply keeps_takeFree | split

theorem keeps_countAccess {orig s : State} {tr code : Nat} (hk : orig.Keeps κ s) :
    orig.Keeps κ (State.countAccess s tr code) := by
  unfold State.countAccess
  try dsimp only
  repeat' with_reducible first | exact State.Keeps.refl _ | assumption | apply keeps_bump64 | split

theorem keeps_canRespond {orig s : State} {d : List Byte} (hk : orig.Keeps κ s) :
    orig.Keeps κ (State.canRespond s d) := by
  unfold State.canRespond
  try dsimp only
  repeat' with_reducible first | exact State.Keeps.refl _ | assumption | apply keeps_canSend

theorem keeps_replyTo {orig s : State} {a : Access} {code size : Nat} {data : List Byte} (hk : orig.Keeps κ s) :
    orig.Keeps κ (State.replyTo s a code size data) := by
  unfold State.replyTo
  try dsimp only
  repeat' with_reducible first
    | exact State.Keeps.refl _ | assumption | apply keeps_emit | apply keeps_raise | apply keeps_canRespond | split

theorem keeps_timed {orig s : State} {a : Access} (hk : orig.Keeps κ s) :
    orig.Keeps κ (State.timed s a) := by
  unfold State.timed
  try dsimp only
  repeat' with_reducible first
    | exact State.Keeps.refl _ | assumption | apply keeps_takeFree | apply keeps_bump64 | apply keeps_setOd | split

theorem keeps_fuseEffect {orig s : State} {idx : Nat} (hk : orig.Keeps κ s) :
    orig.Keeps κ (State.fuseEffect s idx) := by
  unfold State.fuseEffect
  try dsimp only
  repeat' with_reducible first
    | exact State.Keeps.refl _ | assumption | apply keeps_ownerChanged | split
    | fail_if_no_progress refine keeps_mk (Memory.Kept.refl _) ?_

theorem keeps_setXfer {orig s : State} {x : Option CanXfer} (hk : orig.Keeps κ s) :
    orig.Keeps κ (State.setXfer s x) := by
  unfold State.setXfer
  try dsimp only
  repeat' with_reducible first
    | exact State.Keeps.refl _ | assumption | split | fail_if_no_progress refine keeps_mk (Memory.Kept.refl _) ?_

theorem keeps_canStatus {orig s : State} {cmd tag idx sub code seq : Nat} (hk : orig.Keeps κ s) :
    orig.Keeps κ (State.canStatus s cmd tag idx sub code seq) := by
  unfold State.canStatus
  try dsimp only
  repeat' with_reducible first
    | exact State.Keeps.refl _ | assumption | apply keeps_bump32 | apply keeps_canRespond | split

theorem keeps_canRequest {orig s : State} {cmd tag idx sub : Nat} {bad : Bool} {f : State → State} (hk : orig.Keeps κ s)
    (hgo : ∀ u, State.Keeps κ u (f u)) :
    orig.Keeps κ (State.canRequest s cmd tag idx sub bad f) := by
  unfold State.canRequest
  try dsimp only
  repeat' with_reducible first
    | exact State.Keeps.refl _ | assumption | apply keeps_bump64 | apply keeps_canStatus | split | intro _
    | dsimp only | exact hgo _ | exact hgo _ _ | exact State.Keeps.trans hk (hgo _)
    | refine State.Keeps.trans ?_ (hgo _)

theorem keeps_writeInit {orig s : State} {tag idx sub total : Nat} (hk : orig.Keeps κ s) :
    orig.Keeps κ (State.writeInit s tag idx sub total) := by
  unfold State.writeInit
  try dsimp only
  repeat' with_reducible first
    | exact State.Keeps.refl _ | assumption | apply keeps_canStatus | apply keeps_setXfer | split

theorem keeps_busOff {orig s : State} {tec : Nat} {interrupted : Bool} (hk : orig.Keeps κ s) :
    orig.Keeps κ (State.busOff s tec interrupted) := by
  unfold State.busOff
  try dsimp only
  repeat' with_reducible first
    | exact State.Keeps.refl _ | assumption | apply keeps_bump32 | apply keeps_setOd | split
    | fail_if_no_progress refine keeps_mk (Memory.Kept.refl _) ?_

theorem keeps_sendQueued {orig s : State} {x1 : List CanFrame} (hk : orig.Keeps κ s) :
    orig.Keeps κ (State.sendQueued s x1) := by
  induction x1 generalizing s with
  | nil => exact hk
  | cons f t ih =>
    unfold State.sendQueued
    try dsimp only
    repeat' with_reducible first | apply ih | exact State.Keeps.refl _ | assumption | apply keeps_canSend

theorem keeps_deckPut {orig s : State} {p i : Nat} {f : Flight} {hd : Held} {rs : List (Nat × EVal)} (hk :
    orig.Keeps false s) :
    orig.Keeps false (State.deckPut s p i f hd rs) := by
  unfold State.deckPut
  try dsimp only
  repeat' with_reducible first
    | exact State.Keeps.refl _ | assumption | apply keeps_setPair | apply keeps_raise | apply keeps_writeElemsBut
    | apply keeps_watchWrites | split

theorem keeps_deckLand {orig s : State} {p i : Nat} {f : Flight} {hd : Held} {rs : List (Nat × EVal)} (hk :
    orig.Keeps false s) :
    orig.Keeps false (State.deckLand s p i f hd rs) := by
  unfold State.deckLand
  try dsimp only
  repeat' with_reducible first
    | exact State.Keeps.refl _ | assumption | apply keeps_setPair | apply keeps_deckPut | split

theorem keeps_scanStep {orig : State} {r : DRun} {p i op seg u : Nat} {v : Val} (hk : orig.Keeps κ r.s) :
    orig.Keeps κ (r.scanStep p i op seg v u).1.s := by
  have h : ∀ c : Prop, ∀ _ : Decidable c, ∀ x : DRun, orig.Keeps κ x.s → orig.Keeps κ (if c then r else x).s := by
    intro c _ x hx; split <;> assumption
  unfold DRun.scanStep
  extract_lets r1
  have h1 : orig.Keeps κ r1.s := h _ _ _ hk
  clear_value r1
  repeat' first | exact h1 | exact keeps_ite _ (keeps_setPair h1) h1 | split

theorem keeps_compute {orig : State} {r : DRun} {p i w : Nat} {a : DArgs} {hd : Held} {b : Bool} {segs : List (Nat × Nat)} {is : List Nat}
    {xs : List (Val × Nat)} (hk : orig.Keeps κ r.s) : orig.Keeps κ (r.compute p i w a hd b segs is xs).s := by
  have hg : ∀ (l : List (Nat × Val × Nat)) (b : DRun × List (Nat × EVal)) (op : Nat), orig.Keeps κ b.1.s →
      orig.Keeps κ (l.foldl (fun (b : DRun × List (Nat × EVal)) e =>
        ((b.1.scanStep p i op (segs.getD e.1 (0, 0)).1 e.2.1 e.2.2).1,
          b.2 ++ [(e.1, (b.1.scanStep p i op (segs.getD e.1 (0, 0)).1 e.2.1 e.2.2).2)])) b).1.s := by
    intro l
    induction l with
    | nil => exact fun _ _ h => h
    | cons e l ih => exact fun b op h => ih _ op (keeps_scanStep h)
  unfold DRun.compute
  dsimp only
  split <;> repeat' with_reducible first | exact hk | exact hg _ _ _ hk | apply keeps_setPair | split

theorem keeps_deckGroup {orig : State} {r : DRun} {p i n g : Nat} {f : Flight} {ops : List Held} {a : DArgs} {segs : List (Nat × Nat)}
    (hk : orig.Keeps false r.s) : orig.Keeps false (r.group p i f ops a segs n g).s := by
  unfold DRun.group
  dsimp only
  apply keeps_compute
  repeat' with_reducible first | exact hk | apply keeps_deckLand | split

theorem keeps_deckFinal {orig s : State} {p i : Nat} {f : Flight} {ops : List Held} {a : DArgs} {segs : List (Nat
    × Nat)} {got : List (Nat × Val × Nat)} (hk : orig.Keeps false s) :
    orig.Keeps false (State.deckFinal s p i f ops a segs got) := by
  unfold State.deckFinal
  try dsimp only
  repeat' with_reducible first
    | exact State.Keeps.refl _ | assumption | apply keeps_setPair | apply keeps_raise | apply keeps_deckPut | split

theorem keeps_deckRun {orig s : State} {p i : Nat} {f : Flight} {ops : List Held} {a : DArgs} {n : Nat} {segs :
    List (Nat × Nat)} (hk : orig.Keeps false s) :
    orig.Keeps false (State.deckRun s p i f ops a n segs) := by
  unfold State.deckRun
  extract_lets w g mine bad s1 s2 r s3
  have h1 : orig.Keeps false s1 := by
    unfold s1
    cases bad
    · exact hk
    · exact keeps_bump32 (keeps_schedFault hk)
  have h2 : orig.Keeps false s2 := keeps_bump64 (keeps_bump64 h1)
  have hg : ∀ (l : List Nat) (u : DRun), orig.Keeps false u.s →
      orig.Keeps false (l.foldl (fun r j => r.group p i f ops a segs n j) u).s := by
    intro l
    induction l with
    | nil => exact fun _ h => h
    | cons j l ih => exact fun u hu => ih _ (keeps_deckGroup hu)
  have hr : orig.Keeps false r.s := hg _ _ h2
  have h3 : orig.Keeps false s3 := keeps_ite _ (keeps_deckLand hr) (keeps_foldl hr (fun _ _ => keeps_deckLand (State.Keeps.refl _)))
  exact keeps_deckFinal h3

theorem keeps_setFlight {orig s : State} {p q k : Nat} {f : Flight} (hk : orig.Keeps κ s) :
    orig.Keeps κ (State.setFlight s p q k f) := by
  unfold State.setFlight
  try dsimp only
  repeat' with_reducible first | exact State.Keeps.refl _ | assumption | apply keeps_setFlights

theorem keeps_dropFlight {orig s : State} {p q k : Nat} (hk : orig.Keeps κ s) :
    orig.Keeps κ (State.dropFlight s p q k) := by
  unfold State.dropFlight
  try dsimp only
  repeat' with_reducible first | exact State.Keeps.refl _ | assumption | apply keeps_setFlights

theorem keeps_deckExec {orig s : State} {p i k : Nat} {f : Flight} (hk : orig.Keeps false s) :
    orig.Keeps false (State.deckExec s p i k f) := by
  unfold State.deckExec
  try dsimp only
  repeat' with_reducible first
    | exact State.Keeps.refl _ | assumption | apply keeps_release | apply keeps_setPair | apply keeps_dropFlight
    | apply keeps_operandFault | apply keeps_bump32 | apply keeps_deckRun | apply keeps_setFlight | split

theorem keeps_deckClaim {orig s : State} {p : Nat} {f : Flight} (hk : orig.Keeps κ s) :
    orig.Keeps κ (State.deckClaim s p f).1 := by
  unfold State.deckClaim
  try dsimp only
  repeat' with_reducible first | exact State.Keeps.refl _ | assumption | apply keeps_claim | split

theorem keeps_deckLatch {orig s : State} {t : State} {p i w : Nat} (hk : orig.Keeps false s)
    (ht : orig.Keeps false t) :
    orig.Keeps false (State.deckLatch s t p i w) := by
  unfold State.deckLatch
  extract_lets q k raw fs
  clear_value q k raw fs
  split
  · exact keeps_descFault ht
  · refine keeps_ite _ (keeps_headFault ht) ?_
    extract_lets fsrc f dep gf cl fsrc2 f2 psrc u1 u2 b u3 u4 psrc2 u5
    have h0 : orig.Keeps false cl.1 := keeps_deckClaim (keeps_guardCheck ht)
    have h1 : orig.Keeps false u1 := keeps_ite _ (keeps_setPair h0) h0
    have h2 : orig.Keeps false u2 := keeps_ite _ (keeps_bump64 h1) h1
    have h3 : orig.Keeps false u5 := keeps_setPair (keeps_pushFlight (keeps_advance (keeps_bump64 (keeps_takeFree h2))))
    clear_value u5 f2
    exact keeps_ite _ hk (keeps_ite _ (keeps_nullHead (keeps_bump64 (keeps_setPair ht))) (keeps_ite _ (keeps_deckExec h3) (keeps_beginWake h3)))

theorem keeps_deckIssue {orig s : State} {p i op : Nat} (hk : orig.Keeps false s) :
    orig.Keeps false (State.deckIssue s p i op) := by
  unfold State.deckIssue State.issue
  dsimp only
  repeat' with_reducible first
    | exact hk | apply keeps_headFault | apply keeps_headFetch | exact keeps_deckLatch hk (keeps_headFetch hk)
    | split

theorem keeps_deckComplete {orig s : State} {p i k : Nat} (hk : orig.Keeps false s) :
    orig.Keeps false (State.deckComplete s p i k) := by
  unfold State.deckComplete
  try dsimp only
  repeat' with_reducible first
    | exact State.Keeps.refl _ | assumption | apply keeps_dropFlight | apply keeps_finish | apply keeps_deckExec
    | apply keeps_setPair | split

theorem keeps_wakeComplete {orig s : State} {p i : Nat} {deck : Bool} (hk : orig.Keeps false s) :
    orig.Keeps false (State.wakeComplete s p i deck) := by
  unfold State.wakeComplete
  try dsimp only
  repeat' with_reducible first
    | exact State.Keeps.refl _ | assumption | apply keeps_setCluster | apply keeps_setEngine | apply keeps_deckExec
    | apply keeps_spanExec | split

theorem keeps_dropWrite {orig s : State}  (hk : orig.Keeps κ s) :
    orig.Keeps κ (State.dropWrite s) := by
  unfold State.dropWrite
  try dsimp only
  repeat' with_reducible first | exact State.Keeps.refl _ | assumption | apply keeps_bump32

theorem keeps_poison {orig s : State} {n : Nat} (hk : orig.Keeps κ s) :
    orig.Keeps κ (State.poison s n) := by
  unfold State.poison
  try dsimp only
  repeat' with_reducible first | exact State.Keeps.refl _ | assumption | apply keeps_bump32 | apply keeps_emit

theorem keeps_bar2Write {orig s : State} {off : Nat} {data : List Byte} (hk : orig.Keeps false s) :
    orig.Keeps false (State.bar2Write s off data) := by
  unfold State.bar2Write
  try dsimp only
  repeat' with_reducible first
    | exact State.Keeps.refl _ | assumption | apply keeps_dropWrite | apply keeps_guardOnce | apply keeps_storeRun
    | split

theorem keeps_bar2Read {orig s : State} {off n : Nat} (hk : orig.Keeps false s) :
    orig.Keeps false (State.bar2Read s off n) := by
  unfold State.bar2Read
  try dsimp only
  repeat' with_reducible first
    | exact State.Keeps.refl _ | assumption | apply keeps_emit | apply keeps_poison | apply keeps_loadRun | split

theorem keeps_deliverCmd {orig s : State} {p q code : Nat} (hk : orig.Keeps false s) :
    orig.Keeps false (State.deliverCmd s p q code) := by
  unfold State.deliverCmd
  try dsimp only
  repeat' with_reducible first
    | exact State.Keeps.refl _ | assumption | apply keeps_bump64 | apply keeps_bump32 | apply keeps_queueCommand
    | split

theorem keeps_doorbell {orig s : State} {v : Nat} (hk : orig.Keeps false s) :
    orig.Keeps false (State.doorbell s v) := by
  unfold State.doorbell
  try dsimp only
  repeat' with_reducible first
    | exact State.Keeps.refl _ | assumption | apply keeps_bump32 | apply keeps_deliverCmd | split

theorem keeps_launchGo {orig s : State} {v : Nat} (hk : orig.Keeps false s) :
    orig.Keeps false (State.launchGo s v) := by
  unfold State.launchGo
  try dsimp only
  repeat' with_reducible first
    | exact State.Keeps.refl _ | assumption | apply keeps_bump32 | apply keeps_deliverCmd | split
    | apply keeps_foldl | apply keeps_foldl_fst | intro _

theorem keeps_renotify {orig s : State}  (hk : orig.Keeps κ s) :
    orig.Keeps κ (State.renotify s) := by
  unfold State.renotify
  try dsimp only
  repeat' with_reducible first | exact State.Keeps.refl _ | assumption | apply keeps_notifyAll

theorem keeps_causeWrite {orig s : State} {v : Nat} (hk : orig.Keeps κ s) :
    orig.Keeps κ (State.causeWrite s v) := by
  unfold State.causeWrite
  try dsimp only
  repeat' with_reducible first
    | exact State.Keeps.refl _ | assumption | split | apply keeps_foldl | apply keeps_foldl_fst
    | fail_if_no_progress refine keeps_mk (Memory.Kept.refl _) ?_

theorem keeps_maskWrite {orig s : State} {v : Nat} (hk : orig.Keeps κ s) :
    orig.Keeps κ (State.maskWrite s v) := by
  unfold State.maskWrite
  try dsimp only
  repeat' with_reducible first
    | exact State.Keeps.refl _ | assumption | apply keeps_renotify | split
    | fail_if_no_progress refine keeps_mk (Memory.Kept.refl _) ?_

theorem keeps_pageWrite {orig s : State} {r v : Nat} (hk : orig.Keeps false s) :
    orig.Keeps false (State.pageWrite s r v) := by
  unfold State.pageWrite
  try dsimp only
  repeat' with_reducible first
    | exact State.Keeps.refl _ | assumption | apply keeps_doorbell | apply keeps_launchGo | apply keeps_causeWrite
    | apply keeps_maskWrite | split | fail_if_no_progress refine keeps_mk (Memory.Kept.refl _) ?_

theorem keeps_pageBytes {orig s : State} {off : Nat} {data : List Byte} (hk : orig.Keeps false s) :
    orig.Keeps false (State.pageBytes s off data) := by
  unfold State.pageBytes
  try dsimp only
  repeat' with_reducible first
    | exact State.Keeps.refl _ | assumption | apply keeps_pageWrite | split | apply keeps_foldl
    | apply keeps_foldl_fst | intro _

theorem keeps_msixWrite {orig s : State} {off : Nat} {data : List Byte} (hk : orig.Keeps κ s) :
    orig.Keeps κ (State.msixWrite s off data) := by
  unfold State.msixWrite
  try dsimp only
  repeat' with_reducible first
    | exact State.Keeps.refl _ | assumption | apply keeps_renotify | split | apply keeps_foldl
    | apply keeps_foldl_fst | fail_if_no_progress refine keeps_mk (Memory.Kept.refl _) ?_

theorem keeps_componentWrite {orig s : State} {off : Nat} {data : List Byte} (hk : orig.Keeps κ s) :
    orig.Keeps κ (State.componentWrite s off data) := by
  unfold State.componentWrite
  try dsimp only
  repeat' with_reducible first
    | exact State.Keeps.refl _ | assumption | split | apply keeps_foldl | apply keeps_foldl_fst
    | fail_if_no_progress refine keeps_mk (Memory.Kept.refl _) ?_ | intro _

theorem keeps_bar0Write {orig s : State} {off : Nat} {data : List Byte} (hk : orig.Keeps false s) :
    orig.Keeps false (State.bar0Write s off data) := by
  unfold State.bar0Write
  try dsimp only
  repeat' with_reducible first
    | exact State.Keeps.refl _ | assumption | apply keeps_dropWrite | apply keeps_write | apply keeps_componentWrite
    | apply keeps_pageBytes | apply keeps_msixWrite | split

theorem keeps_bar0Read {orig s : State} {off n : Nat} (hk : orig.Keeps κ s) :
    orig.Keeps κ (State.bar0Read s off n) := by
  unfold State.bar0Read
  try dsimp only
  repeat' with_reducible first
    | exact State.Keeps.refl _ | assumption | apply keeps_emit | apply keeps_poison | apply keeps_takeBytes | split

theorem keeps_lineRead {orig s : State} {l : Nat} (hk : orig.Keeps false s) :
    orig.Keeps false (State.lineRead s l) := by
  unfold State.lineRead
  try dsimp only
  repeat' with_reducible first
    | exact State.Keeps.refl _ | assumption | apply keeps_loadRun | apply keeps_emit | split
    | fail_if_no_progress refine keeps_mk (Memory.Kept.refl _) ?_

theorem keeps_freeLine {orig s : State} {l : Nat} (hk : orig.Keeps κ s) :
    orig.Keeps κ (State.freeLine s l) := by
  unfold State.freeLine
  try dsimp only
  repeat' with_reducible first
    | exact State.Keeps.refl _ | assumption | apply keeps_snoopLine | split
    | fail_if_no_progress refine keeps_mk (Memory.Kept.refl _) ?_

theorem keeps_lineRequest {orig s : State} {l : Nat} (hk : orig.Keeps false s) :
    orig.Keeps false (State.lineRequest s l) := by
  unfold State.lineRequest
  try dsimp only
  repeat' with_reducible first
    | exact State.Keeps.refl _ | assumption | apply keeps_lineRead | apply keeps_freeLine | split
    | fail_if_no_progress refine keeps_mk (Memory.Kept.refl _) ?_

theorem keeps_hostLineWrite {orig s : State} {k : Nat} {data : List Byte} (hk : orig.Keeps false s) :
    orig.Keeps false (State.hostLineWrite s k data) := by
  unfold State.hostLineWrite
  try dsimp only
  repeat' with_reducible first
    | exact State.Keeps.refl _ | assumption | apply keeps_touchWriteRun | apply keeps_setBytes

theorem keeps_controllerReset {orig s : State}  (hk : orig.Keeps κ s) :
    orig.Keeps κ (State.controllerReset s) := by
  unfold State.controllerReset
  try dsimp only
  repeat' with_reducible first
    | exact State.Keeps.refl _ | assumption | apply keeps_endHostCommands | split
    | fail_if_no_progress refine keeps_mk (Memory.Kept.refl _) ?_

theorem keeps_tryCxlReset {orig s : State}  (hk : orig.Keeps κ s) :
    orig.Keeps κ (State.tryCxlReset s) := by
  unfold State.tryCxlReset
  try dsimp only
  repeat' with_reducible first
    | exact State.Keeps.refl _ | assumption | apply keeps_controllerReset | split
    | fail_if_no_progress refine keeps_mk (Memory.Kept.refl _) ?_

theorem keeps_answersSweep {orig s : State}  (hk : orig.Keeps κ s) :
    orig.Keeps κ (State.answersSweep s) := by
  unfold State.answersSweep
  try dsimp only
  repeat' with_reducible first
    | exact State.Keeps.refl _ | assumption | apply keeps_answersDone | split | apply keeps_foldl
    | apply keeps_foldl_fst | intro _

theorem keeps_snoopResponse {orig s : State} {l : Nat} {dirty : Option (List Byte)} (hk : orig.Keeps false s) :
    orig.Keeps false (State.snoopResponse s l dirty) := by
  unfold State.snoopResponse
  try dsimp only
  repeat' with_reducible first
    | exact State.Keeps.refl _ | assumption | apply keeps_hostLineWrite | apply keeps_putBytes
    | apply keeps_lineRequest | apply keeps_answersSweep | apply keeps_tryCxlReset | split | apply keeps_foldl
    | apply keeps_foldl_fst | fail_if_no_progress refine keeps_mk (Memory.Kept.refl _) ?_ | intro _

theorem keeps_linkGone {orig s : State}  (hk : orig.Keeps false s) :
    orig.Keeps false (State.linkGone s) := by
  unfold State.linkGone
  try dsimp only
  repeat' with_reducible first
    | exact State.Keeps.refl _ | assumption | apply keeps_bump32 | apply keeps_settleSnoops
    | apply keeps_answersSweep | apply keeps_controllerReset | split | apply keeps_foldl | apply keeps_foldl_fst
    | fail_if_no_progress refine keeps_mk (Memory.Kept.refl _) ?_

theorem keeps_mailboxDone {orig s : State} {code : Nat} {out : List Byte} (hk : orig.Keeps κ s) :
    orig.Keeps κ (State.mailboxDone s code out) := by
  unfold State.mailboxDone
  try dsimp only
  repeat' with_reducible first | exact State.Keeps.refl _ | assumption | apply keeps_emit | apply keeps_raise

theorem keeps_mailbox {orig s : State} {inRecovery : Bool} {f : State → State} (hk : orig.Keeps κ s)
    (hgo : ∀ u, State.Keeps κ u (f u)) :
    orig.Keeps κ (State.mailbox s inRecovery f) := by
  unfold State.mailbox
  try dsimp only
  repeat' with_reducible first
    | exact State.Keeps.refl _ | assumption | apply keeps_mailboxDone | split | intro _ | dsimp only | exact hgo _
    | exact hgo _ _ | exact State.Keeps.trans hk (hgo _)

theorem keeps_mailboxGive {orig s : State} {op : Nat} {what : List (List Byte)} (hk : orig.Keeps κ s) :
    orig.Keeps κ (State.mailboxGive s op what) := by
  unfold State.mailboxGive
  try dsimp only
  repeat' with_reducible first | exact State.Keeps.refl _ | assumption | apply keeps_mailboxDone

theorem keeps_timeout {orig s : State} {p q k : Nat} (hk : orig.Keeps false s) :
    orig.Keeps false (State.timeout s p q k) := by
  unfold State.timeout
  try dsimp only
  repeat' with_reducible first
    | exact State.Keeps.refl _ | assumption | apply keeps_waitTimeout | apply keeps_streamFault
    | apply keeps_putFlight | split

end Sys2Proof.Machine
end

