-- ==== Sys2Proof/Laws/Fuses.lean ====
section
/-! SUPPORT. What the operations that reach the fuse log do to it (18 R604 to R607): the log stands and stays within its
counts. -/

namespace Sys2Proof.Machine


/-- What any operation leaves: the log stands and fits, the waiting commands are the same, the memory is canonical. -/
structure State.Moves (s t : State) : Prop where
  fit : s.FusesFit → t.FusesFit
  stand : s.FusesStand t
  pending : t.pending = s.pending
  mem : Memory.wf s.mem = true → Memory.wf t.mem = true

/-- The log stands when it is the same. -/
theorem State.FusesStand.same {s t : State} (h : t.fuses = s.fuses) : s.FusesStand t := fun _ _ he => .inl (h ▸ he)

/-- One after the other. -/
theorem State.FusesStand.trans {s t u : State} (a : s.FusesStand t) (b : t.FusesStand u) : s.FusesStand u := by
  intro n e he
  rcases a n e he with h | ⟨h0, h⟩
  · exact b n e h
  · rcases b n _ h with h' | ⟨h', _⟩
    · exact .inr ⟨h0, h'⟩
    · cases h'

/-- What keeps the log moves it. -/
theorem State.Keeps.moves {s t : State} (h : s.Keeps false t) : s.Moves t :=
  ⟨fun f idx => h.fuses ▸ f idx, .same h.fuses, h.pending, h.mem.wf⟩

/-- One after the other. -/
theorem State.Moves.trans {s t u : State} (a : s.Moves t) (b : t.Moves u) : s.Moves u :=
  ⟨fun f => b.fit (a.fit f), a.stand.trans b.stand, b.pending.trans a.pending, fun h => b.mem (a.mem h)⟩

/-- The new entry of a count-limited write. -/
theorem moves_fuseStart {s : State} {a : Access} (h : s.fuseLeft a.idx ≠ 0) : s.Moves (s.fuseStart a) := by
  have k : s.Keeps false _ := keeps_now (State.Keeps.refl s)
  have hf : (s.fuseStart a).fuses =
      s.now.2.fuses ++ [⟨false, a.idx, a.tr, s.fuseLeft a.idx - 1, s.commit.committed, s.now.1, a.data⟩] := rfl
  rw [k.fuses] at hf
  refine ⟨fun f idx => ?_, fun n e he => .inl ?_, k.pending, k.mem.wf⟩
  · have g := f idx
    rw [hf, List.filter_append, List.length_append]
    by_cases hi : a.idx = idx
    · subst hi
      unfold State.fuseLeft at h
      simp only [List.filter_cons, decide_true, if_true, List.filter_nil, List.length_cons, List.length_nil]
      omega
    · simpa [hi] using g
  · rw [hf, List.getElem?_append_left (by rw [List.getElem?_eq_some_iff] at he; exact he.1)]
    exact he

/-- The checks of R603 and the effect of a write. -/
theorem moves_odWrite {s : State} {a : Access} : s.Moves (s.odWrite a).2.1 := by
  have r := (State.Keeps.refl s).moves
  unfold State.odWrite
  split
  · exact r
  · dsimp only
    repeat' split
    all_goals first
      | exact r
      | exact moves_fuseStart (by assumption)
      | exact (keeps_tokenSpend (keeps_apply (State.Keeps.refl s))).moves
      | exact (keeps_apply (State.Keeps.refl s)).moves

/-- One access served. -/
theorem moves_serve {s : State} {a : Access} : s.Moves (s.serve a) := by
  unfold State.serve
  dsimp only
  split
  · split
    · exact moves_odWrite.trans (keeps_replyTo (keeps_countAccess (State.Keeps.refl _))).moves
    · exact moves_odWrite
  · refine (keeps_replyTo (keeps_countAccess ?_)).moves
    split
    · exact keeps_timed (.refl _)
    · exact .refl _

/-- Accesses served in order. -/
theorem moves_serveAll {s : State} {l : List Access} : s.Moves (s.serveAll l) := by
  induction l generalizing s with
  | nil => exact (State.Keeps.refl s).moves
  | cons a t ih =>
    unfold State.serveAll
    split
    · exact (keeps_mk (Memory.Kept.refl _) (State.Keeps.refl s)).moves
    · exact moves_serve.trans ih

/-- An access serialised. -/
theorem moves_access {s : State} {a : Access} : s.Moves (s.access a) := by
  unfold State.access
  split
  · exact (keeps_mk (Memory.Kept.refl _) (State.Keeps.refl s)).moves
  · exact moves_serve

/-- The entry of the write in service becomes COMPLETE. -/
theorem moves_fuseComplete {s : State} : s.Moves s.fuseComplete := by
  unfold State.fuseComplete
  split
  · exact (State.Keeps.refl s).moves
  · rename_i a _
    extract_lets n fs q t u v
    have h0 : s.Moves t := by
      refine ⟨fun f idx => ?_, fun i e he => ?_, rfl, id⟩
      · have hm : fs.map (fun e => e.idx) = s.fuses.map (fun e => e.idx) := by
          apply List.ext_getElem?
          intro i
          simp only [fs, List.getElem?_mapIdx, List.getElem?_map]
          cases s.fuses[i]? with
          | none => rfl
          | some e => simp only [Option.map_some]; split <;> rfl
        have hc : ∀ l : List FuseEntry, (l.filter (fun e => decide (e.idx = idx))).length
            = (l.map (fun e => e.idx)).countP (fun k => decide (k = idx)) := by
          intro l; rw [List.countP_map, List.countP_eq_length_filter]; rfl
        have := f idx
        rw [hc] at this
        show (fs.filter (fun e => decide (e.idx = idx))).length ≤ _
        rw [hc, hm]; exact this
      · show fs[i]? = _ ∨ _ ∧ fs[i]? = _
        have hi : fs[i]? = some (if i = n then { e with complete := true } else e) := by
          simp only [fs, List.getElem?_mapIdx, he, Option.map_some]
        rw [hi]
        by_cases hn : i = n
        · cases hcpl : e.complete
          · right; simp [hn]
          · left; simp [hn]; cases e; simp_all
        · left; simp [hn]
    have h1 : t.Moves v :=
      (keeps_replyTo (keeps_countAccess (keeps_fuseEffect (keeps_setOd (State.Keeps.refl t))))).moves
    exact (h0.trans h1).trans moves_serveAll

/-- A write request of the CAN FD port. -/
theorem moves_canWriteAccess {s : State} {cmd tag seq idx sub : Nat} {d : List Byte} :
    s.Moves (s.canWriteAccess cmd tag seq idx sub d) := moves_access

/-- A segment. -/
theorem moves_writeSeg {s : State} {tag idx sub seq : Nat} {data : List Byte} :
    s.Moves (s.writeSeg tag idx sub seq data) := by
  have r : s.Keeps false s := .refl s
  unfold State.writeSeg
  dsimp only
  repeat' split
  all_goals first
    | with_reducible exact (keeps_canStatus r).moves
    | with_reducible exact (keeps_canStatus (keeps_setXfer r)).moves
    | with_reducible exact (keeps_setXfer r).moves.trans moves_canWriteAccess
    | with_reducible exact (keeps_setXfer r).moves

/-- A request of the CAN FD port. -/
theorem moves_canRequest {s : State} {cmd tag idx sub : Nat} {bad : Bool} {f : State → State}
    (hf : ∀ u, State.Moves u (f u)) : s.Moves (s.canRequest cmd tag idx sub bad f) := by
  have r : s.Keeps false s := .refl s
  unfold State.canRequest
  dsimp only
  repeat' split
  all_goals first
    | with_reducible exact (keeps_canStatus (keeps_bump64 (keeps_bump64 r))).moves
    | with_reducible exact (keeps_canStatus (keeps_bump64 r)).moves
    | with_reducible exact (keeps_bump64 r).moves.trans (hf _)

/-- A mailbox command. -/
theorem moves_mailbox {s : State} {inRecovery : Bool} {f : State → State} (hf : ∀ u, State.Moves u (f u)) :
    s.Moves (s.mailbox inRecovery f) := by
  have r : s.Keeps false s := .refl s
  unfold State.mailbox
  repeat' split
  all_goals first
    | with_reducible exact r.moves
    | with_reducible exact (keeps_mailboxDone r).moves
    | with_reducible exact hf _

/-- A dictionary command of the mailbox. -/
theorem moves_odCommand {s : State} {fits : Bool} {a : Access} : s.Moves (s.odCommand fits a) := by
  refine moves_mailbox fun u => ?_
  split
  · exact moves_access
  · exact (keeps_mailboxDone (State.Keeps.refl u)).moves

end Sys2Proof.Machine
end

