-- ==== Sys2Proof/Laws/Rows.lean ====
section
/-! SUPPORT. What each command of the table leaves alone: a Keeps or a Moves for every row. -/

namespace Sys2Proof.Machine

variable {κ : Bool}

theorem keeps_execArbiterRequest {s s' : State} {c n : Nat} {past : Elapsed} {who : Requester} {len : Nat}
    (h : execArbiterRequest c n past who len s = .next s') : s.Keeps κ s' := by
  unfold execArbiterRequest at h
  obtain rfl := Host.Outcome.next.inj h
  repeat' with_reducible first
    | exact State.Keeps.refl _ | assumption | apply keeps_arbRequest

theorem keeps_execArbiterGrant {s s' : State} {c n cycles beats : Nat}
    (h : execArbiterGrant c n cycles beats s = .next s') : s.Keeps κ s' := by
  unfold execArbiterGrant at h
  obtain rfl := Host.Outcome.next.inj h
  repeat' with_reducible first
    | exact State.Keeps.refl _ | assumption | apply keeps_arbGrant

theorem keeps_execGrantEnd {s s' : State} {c n cycles beats : Nat}
    (h : execGrantEnd c n cycles beats s = .next s') : s.Keeps κ s' := by
  unfold execGrantEnd at h
  obtain rfl := Host.Outcome.next.inj h
  repeat' with_reducible first
    | exact State.Keeps.refl _ | assumption | apply keeps_arbEnd

theorem keeps_execCutoff {s s' : State} {c n cycles beats : Nat}
    (h : execCutoff c n cycles beats s = .next s') : s.Keeps false s' := by
  unfold execCutoff at h
  obtain rfl := Host.Outcome.next.inj h
  repeat' with_reducible first
    | exact State.Keeps.refl _ | assumption | apply keeps_arbCutoff

theorem keeps_execQuotaWindowEnd {s s' : State} {c n : Nat}
    (h : execQuotaWindowEnd c n s = .next s') : s.Keeps κ s' := by
  unfold execQuotaWindowEnd at h
  obtain rfl := Host.Outcome.next.inj h
  repeat' with_reducible first
    | exact State.Keeps.refl _ | assumption | apply keeps_arbWindow

theorem keeps_execAdaptClass {s s' : State} {c : Nat}
    (h : execAdaptClass c s = .next s') : s.Keeps false s' := by
  unfold execAdaptClass at h
  obtain rfl := Host.Outcome.next.inj h
  repeat' with_reducible first
    | exact State.Keeps.refl _ | assumption | apply keeps_adaptClass

theorem keeps_execPriorityWrite {s s' : State} {o v : Nat}
    (h : execPriorityWrite o v s = .next s') : s.Keeps κ s' := by
  unfold execPriorityWrite at h
  obtain rfl := Host.Outcome.next.inj h
  repeat' with_reducible first
    | exact State.Keeps.refl _ | assumption | apply keeps_priorityWrite

theorem keeps_execLedgerClear {s s' : State} 
    (h : execLedgerClear  s = .next s') : s.Keeps κ s' := by
  unfold execLedgerClear at h
  obtain rfl := Host.Outcome.next.inj h
  repeat' with_reducible first
    | exact State.Keeps.refl _ | assumption | apply keeps_ledgerClear

theorem keeps_execQueueStart {s s' : State} {p q : Nat}
    (h : execQueueStart p q s = .next s') : s.Keeps false s' := by
  unfold execQueueStart at h
  obtain rfl := Host.Outcome.next.inj h
  repeat' with_reducible first
    | exact State.Keeps.refl _ | assumption | apply keeps_queueCommand

theorem keeps_execQueueHalt {s s' : State} {p q : Nat}
    (h : execQueueHalt p q s = .next s') : s.Keeps false s' := by
  unfold execQueueHalt at h
  obtain rfl := Host.Outcome.next.inj h
  repeat' with_reducible first
    | exact State.Keeps.refl _ | assumption | apply keeps_queueCommand

theorem keeps_execQueueResume {s s' : State} {p q : Nat}
    (h : execQueueResume p q s = .next s') : s.Keeps false s' := by
  unfold execQueueResume at h
  obtain rfl := Host.Outcome.next.inj h
  repeat' with_reducible first
    | exact State.Keeps.refl _ | assumption | apply keeps_queueCommand

theorem keeps_execQueueReset {s s' : State} {p q : Nat}
    (h : execQueueReset p q s = .next s') : s.Keeps false s' := by
  unfold execQueueReset at h
  obtain rfl := Host.Outcome.next.inj h
  repeat' with_reducible first
    | exact State.Keeps.refl _ | assumption | apply keeps_queueCommand

theorem keeps_execWindowLoaded {s s' : State} {p q : Nat}
    (h : execWindowLoaded p q s = .next s') : s.Keeps false s' := by
  unfold execWindowLoaded at h
  obtain rfl := Host.Outcome.next.inj h
  repeat' with_reducible first
    | exact State.Keeps.refl _ | assumption | apply keeps_windowLoaded

theorem keeps_execQueueDone {s s' : State} {p q : Nat}
    (h : execQueueDone p q s = .next s') : s.Keeps κ s' := by
  unfold execQueueDone at h
  obtain rfl := Host.Outcome.next.inj h
  repeat' with_reducible first
    | exact State.Keeps.refl _ | assumption | apply keeps_queueDone

theorem keeps_execQueueDrained {s s' : State} {p q : Nat}
    (h : execQueueDrained p q s = .next s') : s.Keeps κ s' := by
  unfold execQueueDrained at h
  obtain rfl := Host.Outcome.next.inj h
  repeat' with_reducible first
    | exact State.Keeps.refl _ | assumption | apply keeps_queueDrained

theorem keeps_execFlagMirrorUpdate {s s' : State} {p : Nat}
    (h : execFlagMirrorUpdate p s = .next s') : s.Keeps κ s' := by
  unfold execFlagMirrorUpdate at h
  obtain rfl := Host.Outcome.next.inj h
  repeat' with_reducible first
    | exact State.Keeps.refl _ | assumption | apply keeps_mirrorUpdate

theorem keeps_execRingTailWrite {s s' : State} {n p t : Nat}
    (h : execRingTailWrite n p t s = .next s') : s.Keeps false s' := by
  unfold execRingTailWrite at h
  obtain rfl := Host.Outcome.next.inj h
  repeat' with_reducible first
    | exact State.Keeps.refl _ | assumption | apply keeps_ringTail | split

theorem keeps_execWatchBankClose {s s' : State} {p : Nat}
    (h : execWatchBankClose p s = .next s') : s.Keeps false s' := by
  unfold execWatchBankClose at h
  obtain rfl := Host.Outcome.next.inj h
  repeat' with_reducible first
    | exact State.Keeps.refl _ | assumption | apply keeps_bankClose | split

theorem keeps_execRequestAdmit {s s' : State} {p bank served : Nat}
    (h : execRequestAdmit p bank served s = .next s') : s.Keeps κ s' := by
  unfold execRequestAdmit at h
  obtain rfl := Host.Outcome.next.inj h
  repeat' with_reducible first
    | exact State.Keeps.refl _ | assumption | apply keeps_requestAdmit

theorem keeps_execBankRefresh {s s' : State} {p bank : Nat} {on : Bool}
    (h : execBankRefresh p bank on s = .next s') : s.Keeps κ s' := by
  unfold execBankRefresh at h
  obtain rfl := Host.Outcome.next.inj h
  repeat' with_reducible first
    | exact State.Keeps.refl _ | assumption | apply keeps_modPier

theorem keeps_execScrubPass {s s' : State} {p : Nat} {fresh : FreshErrors} {hours : Nat}
    (h : execScrubPass p fresh hours s = .next s') : s.Keeps false s' := by
  unfold execScrubPass at h
  obtain rfl := Host.Outcome.next.inj h
  repeat' with_reducible first
    | exact State.Keeps.refl _ | assumption | apply keeps_now | apply keeps_scrub | apply keeps_newErrors | split
    | fail_if_no_progress refine keeps_mk (Memory.Kept.refl _) ?_

theorem keeps_execUnpin {s s' : State} {p : Nat}
    (h : execUnpin p s = .next s') : s.Keeps κ s' := by
  unfold execUnpin at h
  obtain rfl := Host.Outcome.next.inj h
  repeat' with_reducible first
    | exact State.Keeps.refl _ | assumption | apply keeps_unpin

theorem keeps_execWriteBackInvalidate {s s' : State} {p : Nat}
    (h : execWriteBackInvalidate p s = .next s') : s.Keeps κ s' := by
  unfold execWriteBackInvalidate at h
  obtain rfl := Host.Outcome.next.inj h
  repeat' with_reducible first
    | exact State.Keeps.refl _ | assumption | apply keeps_writeBackAll

theorem keeps_execGuardBaseWrite {s s' : State} {r v : Nat}
    (h : execGuardBaseWrite r v s = .next s') : s.Keeps κ s' := by
  unfold execGuardBaseWrite at h
  obtain rfl := Host.Outcome.next.inj h
  repeat' with_reducible first
    | exact State.Keeps.refl _ | assumption | apply keeps_guardWrite

theorem keeps_execGuardSizeWrite {s s' : State} {r v : Nat}
    (h : execGuardSizeWrite r v s = .next s') : s.Keeps κ s' := by
  unfold execGuardSizeWrite at h
  obtain rfl := Host.Outcome.next.inj h
  repeat' with_reducible first
    | exact State.Keeps.refl _ | assumption | apply keeps_guardWrite

theorem keeps_execMma {s s' : State} {p i : Nat}
    (h : execMma p i s = .next s') : s.Keeps false s' := by
  unfold execMma at h
  obtain rfl := Host.Outcome.next.inj h
  repeat' with_reducible first
    | exact State.Keeps.refl _ | assumption | apply keeps_spanIssue

theorem keeps_execMmaS {s s' : State} {p i : Nat}
    (h : execMmaS p i s = .next s') : s.Keeps false s' := by
  unfold execMmaS at h
  obtain rfl := Host.Outcome.next.inj h
  repeat' with_reducible first
    | exact State.Keeps.refl _ | assumption | apply keeps_spanIssue

theorem keeps_execMmaE {s s' : State} {p i : Nat}
    (h : execMmaE p i s = .next s') : s.Keeps false s' := by
  unfold execMmaE at h
  obtain rfl := Host.Outcome.next.inj h
  repeat' with_reducible first
    | exact State.Keeps.refl _ | assumption | apply keeps_spanIssue

theorem keeps_execMmaSe {s s' : State} {p i : Nat}
    (h : execMmaSe p i s = .next s') : s.Keeps false s' := by
  unfold execMmaSe at h
  obtain rfl := Host.Outcome.next.inj h
  repeat' with_reducible first
    | exact State.Keeps.refl _ | assumption | apply keeps_spanIssue

theorem keeps_execXport {s s' : State} {p i : Nat}
    (h : execXport p i s = .next s') : s.Keeps false s' := by
  unfold execXport at h
  obtain rfl := Host.Outcome.next.inj h
  repeat' with_reducible first
    | exact State.Keeps.refl _ | assumption | apply keeps_spanIssue

theorem keeps_execAstat {s s' : State} {p i : Nat}
    (h : execAstat p i s = .next s') : s.Keeps false s' := by
  unfold execAstat at h
  obtain rfl := Host.Outcome.next.inj h
  repeat' with_reducible first
    | exact State.Keeps.refl _ | assumption | apply keeps_spanIssue

theorem keeps_execSnop {s s' : State} {p i : Nat}
    (h : execSnop p i s = .next s') : s.Keeps false s' := by
  unfold execSnop at h
  obtain rfl := Host.Outcome.next.inj h
  repeat' with_reducible first
    | exact State.Keeps.refl _ | assumption | apply keeps_spanIssue

theorem keeps_execSpanExecutionComplete {s s' : State} {p i : Nat}
    (h : execSpanExecutionComplete p i s = .next s') : s.Keeps false s' := by
  unfold execSpanExecutionComplete at h
  obtain rfl := Host.Outcome.next.inj h
  repeat' with_reducible first
    | exact State.Keeps.refl _ | assumption | apply keeps_spanComplete

theorem keeps_execCnop {s s' : State} {p e : Nat}
    (h : execCnop p e s = .next s') : s.Keeps false s' := by
  unfold execCnop at h
  obtain rfl := Host.Outcome.next.inj h
  repeat' with_reducible first
    | exact State.Keeps.refl _ | assumption | apply keeps_copyIssue

theorem keeps_execCopy {s s' : State} {p e : Nat}
    (h : execCopy p e s = .next s') : s.Keeps false s' := by
  unfold execCopy at h
  obtain rfl := Host.Outcome.next.inj h
  repeat' with_reducible first
    | exact State.Keeps.refl _ | assumption | apply keeps_copyIssue

theorem keeps_execGather {s s' : State} {p e : Nat}
    (h : execGather p e s = .next s') : s.Keeps false s' := by
  unfold execGather at h
  obtain rfl := Host.Outcome.next.inj h
  repeat' with_reducible first
    | exact State.Keeps.refl _ | assumption | apply keeps_copyIssue

theorem keeps_execScatter {s s' : State} {p e : Nat}
    (h : execScatter p e s = .next s') : s.Keeps false s' := by
  unfold execScatter at h
  obtain rfl := Host.Outcome.next.inj h
  repeat' with_reducible first
    | exact State.Keeps.refl _ | assumption | apply keeps_copyIssue

theorem keeps_execFill {s s' : State} {p e : Nat}
    (h : execFill p e s = .next s') : s.Keeps false s' := by
  unfold execFill at h
  obtain rfl := Host.Outcome.next.inj h
  repeat' with_reducible first
    | exact State.Keeps.refl _ | assumption | apply keeps_copyIssue

theorem keeps_execTnop {s s' : State} {p : Nat}
    (h : execTnop p s = .next s') : s.Keeps false s' := by
  unfold execTnop at h
  obtain rfl := Host.Outcome.next.inj h
  repeat' with_reducible first
    | exact State.Keeps.refl _ | assumption | apply keeps_trIssue | apply keeps_trNull | split | intro _

theorem keeps_execGopen {s s' : State} {p : Nat}
    (h : execGopen p s = .next s') : s.Keeps false s' := by
  unfold execGopen at h
  obtain rfl := Host.Outcome.next.inj h
  repeat' with_reducible first
    | exact State.Keeps.refl _ | assumption | apply keeps_trIssue | apply keeps_gopen | split | intro _

theorem keeps_execGcancel {s s' : State} {p : Nat}
    (h : execGcancel p s = .next s') : s.Keeps false s' := by
  unfold execGcancel at h
  obtain rfl := Host.Outcome.next.inj h
  repeat' with_reducible first
    | exact State.Keeps.refl _ | assumption | apply keeps_trIssue | apply keeps_gcancel | split | intro _

theorem keeps_execRoute {s s' : State} {p : Nat}
    (h : execRoute p s = .next s') : s.Keeps false s' := by
  unfold execRoute at h
  obtain rfl := Host.Outcome.next.inj h
  repeat' with_reducible first
    | exact State.Keeps.refl _ | assumption | apply keeps_trIssue | apply keeps_route | apply keeps_inboxTests
    | split | intro _

theorem keeps_execRouteComplete {s s' : State} {p k : Nat}
    (h : execRouteComplete p k s = .next s') : s.Keeps false s' := by
  unfold execRouteComplete at h
  obtain rfl := Host.Outcome.next.inj h
  repeat' with_reducible first
    | exact State.Keeps.refl _ | assumption | apply keeps_routeComplete

theorem keeps_execInbox {s s' : State} {p : Nat}
    (h : execInbox p s = .next s') : s.Keeps false s' := by
  unfold execInbox at h
  obtain rfl := Host.Outcome.next.inj h
  repeat' with_reducible first
    | exact State.Keeps.refl _ | assumption | apply keeps_trIssue | apply keeps_inbox | split | intro _

theorem keeps_execInboxArrivalsComplete {s s' : State} {p k : Nat}
    (h : execInboxArrivalsComplete p k s = .next s') : s.Keeps false s' := by
  unfold execInboxArrivalsComplete at h
  obtain rfl := Host.Outcome.next.inj h
  repeat' with_reducible first
    | exact State.Keeps.refl _ | assumption | apply keeps_inboxDone

theorem keeps_execAnswer {s s' : State} {p : Nat}
    (h : execAnswer p s = .next s') : s.Keeps false s' := by
  unfold execAnswer at h
  obtain rfl := Host.Outcome.next.inj h
  repeat' with_reducible first
    | exact State.Keeps.refl _ | assumption | apply keeps_trIssue | apply keeps_answer | split | intro _

theorem keeps_execCexport {s s' : State} {p : Nat}
    (h : execCexport p s = .next s') : s.Keeps false s' := by
  unfold execCexport at h
  obtain rfl := Host.Outcome.next.inj h
  repeat' with_reducible first
    | exact State.Keeps.refl _ | assumption | apply keeps_trIssue | apply keeps_cexport | split | intro _

theorem keeps_execCexportReady {s s' : State} {p k : Nat}
    (h : execCexportReady p k s = .next s') : s.Keeps false s' := by
  unfold execCexportReady at h
  obtain rfl := Host.Outcome.next.inj h
  repeat' with_reducible first
    | exact State.Keeps.refl _ | assumption | apply keeps_cexportReady

theorem keeps_execGenQuietExpiry {s s' : State} {p i : Nat}
    (h : execGenQuietExpiry p i s = .next s') : s.Keeps κ s' := by
  unfold execGenQuietExpiry at h
  obtain rfl := Host.Outcome.next.inj h
  repeat' with_reducible first
    | exact State.Keeps.refl _ | assumption | apply keeps_genQuiet

theorem keeps_execAnswerPacket {s s' : State} {p : Nat}
    (h : execAnswerPacket p s = .next s') : s.Keeps false s' := by
  unfold execAnswerPacket at h
  obtain rfl := Host.Outcome.next.inj h
  repeat' with_reducible first
    | exact State.Keeps.refl _ | assumption | apply keeps_answerPacket

theorem keeps_execGsend {s s' : State} {p : Nat}
    (h : execGsend p s = .next s') : s.Keeps false s' := by
  unfold execGsend at h
  obtain rfl := Host.Outcome.next.inj h
  repeat' with_reducible first
    | exact State.Keeps.refl _ | assumption | apply keeps_trIssue | apply keeps_gsend | apply keeps_inboxTests
    | split | intro _

theorem keeps_execGsendComplete {s s' : State} {p k : Nat}
    (h : execGsendComplete p k s = .next s') : s.Keeps κ s' := by
  unfold execGsendComplete at h
  obtain rfl := Host.Outcome.next.inj h
  repeat' with_reducible first
    | exact State.Keeps.refl _ | assumption | apply keeps_gsendComplete

theorem keeps_execGinbox {s s' : State} {p : Nat}
    (h : execGinbox p s = .next s') : s.Keeps false s' := by
  unfold execGinbox at h
  obtain rfl := Host.Outcome.next.inj h
  repeat' with_reducible first
    | exact State.Keeps.refl _ | assumption | apply keeps_trIssue | apply keeps_ginbox | split | intro _

theorem keeps_execGinboxArrivalsComplete {s s' : State} {p k : Nat}
    (h : execGinboxArrivalsComplete p k s = .next s') : s.Keeps false s' := by
  unfold execGinboxArrivalsComplete at h
  obtain rfl := Host.Outcome.next.inj h
  repeat' with_reducible first
    | exact State.Keeps.refl _ | assumption | apply keeps_ginboxDone

theorem keeps_execGanswer {s s' : State} {p : Nat}
    (h : execGanswer p s = .next s') : s.Keeps false s' := by
  unfold execGanswer at h
  obtain rfl := Host.Outcome.next.inj h
  repeat' with_reducible first
    | exact State.Keeps.refl _ | assumption | apply keeps_trIssue | apply keeps_ganswer | split | intro _

theorem keeps_execGgrad {s s' : State} {p : Nat}
    (h : execGgrad p s = .next s') : s.Keeps false s' := by
  unfold execGgrad at h
  obtain rfl := Host.Outcome.next.inj h
  repeat' with_reducible first
    | exact State.Keeps.refl _ | assumption | apply keeps_trIssue | apply keeps_ggrad | split | intro _

theorem keeps_execGgradReady {s s' : State} {p k : Nat}
    (h : execGgradReady p k s = .next s') : s.Keeps false s' := by
  unfold execGgradReady at h
  obtain rfl := Host.Outcome.next.inj h
  repeat' with_reducible first
    | exact State.Keeps.refl _ | assumption | apply keeps_ggradReady

theorem keeps_execWgstart {s s' : State} {p : Nat}
    (h : execWgstart p s = .next s') : s.Keeps false s' := by
  unfold execWgstart at h
  obtain rfl := Host.Outcome.next.inj h
  repeat' with_reducible first
    | exact State.Keeps.refl _ | assumption | apply keeps_trIssue | apply keeps_wgstart | split | intro _

theorem keeps_execReduce {s s' : State} {p e : Nat}
    (h : execReduce p e s = .next s') : s.Keeps false s' := by
  unfold execReduce at h
  obtain rfl := Host.Outcome.next.inj h
  repeat' with_reducible first
    | exact State.Keeps.refl _ | assumption | apply keeps_issue | apply keeps_redLatch | split | intro _

theorem keeps_execLacc {s s' : State} {p e : Nat}
    (h : execLacc p e s = .next s') : s.Keeps false s' := by
  unfold execLacc at h
  obtain rfl := Host.Outcome.next.inj h
  repeat' with_reducible first
    | exact State.Keeps.refl _ | assumption | apply keeps_issue | apply keeps_laccLatch | split | intro _

theorem keeps_execLfence {s s' : State} {p e : Nat}
    (h : execLfence p e s = .next s') : s.Keeps false s' := by
  unfold execLfence at h
  obtain rfl := Host.Outcome.next.inj h
  repeat' with_reducible first
    | exact State.Keeps.refl _ | assumption | apply keeps_issue | apply keeps_fenceLatch | split | intro _

theorem keeps_execLfenceApply {s s' : State} 
    (h : execLfenceApply  s = .next s') : s.Keeps false s' := by
  unfold execLfenceApply at h
  obtain rfl := Host.Outcome.next.inj h
  repeat' with_reducible first
    | exact State.Keeps.refl _ | assumption | apply keeps_fenceApply

theorem keeps_execReducePacket {s s' : State} {p : Nat} {priv : Bool}
    (h : execReducePacket p priv s = .next s') : s.Keeps false s' := by
  unfold execReducePacket at h
  obtain rfl := Host.Outcome.next.inj h
  repeat' with_reducible first
    | exact State.Keeps.refl _ | assumption | apply keeps_redPacket

theorem keeps_execReduceComplete {s s' : State} {p b : Nat}
    (h : execReduceComplete p b s = .next s') : s.Keeps false s' := by
  unfold execReduceComplete at h
  obtain rfl := Host.Outcome.next.inj h
  repeat' with_reducible first
    | exact State.Keeps.refl _ | assumption | apply keeps_redComplete

theorem keeps_execReduceRetry {s s' : State} {tag : Nat}
    (h : execReduceRetry tag s = .next s') : s.Keeps κ s' := by
  unfold execReduceRetry at h
  obtain rfl := Host.Outcome.next.inj h
  repeat' with_reducible first
    | exact State.Keeps.refl _ | assumption | apply keeps_redRetry

theorem keeps_execReleaseBucket {s s' : State} {p b : Nat}
    (h : execReleaseBucket p b s = .next s') : s.Keeps false s' := by
  unfold execReleaseBucket at h
  obtain rfl := Host.Outcome.next.inj h
  repeat' with_reducible first
    | exact State.Keeps.refl _ | assumption | apply keeps_releaseBucket

theorem keeps_execReleaseAllBuckets {s s' : State} {p : Nat}
    (h : execReleaseAllBuckets p s = .next s') : s.Keeps false s' := by
  unfold execReleaseAllBuckets at h
  obtain rfl := Host.Outcome.next.inj h
  repeat' with_reducible first
    | exact State.Keeps.refl _ | assumption | apply keeps_releaseAll

theorem keeps_execCurLayoutWrite {s s' : State} {v : Nat}
    (h : execCurLayoutWrite v s = .next s') : s.Keeps κ s' := by
  unfold execCurLayoutWrite at h
  obtain rfl := Host.Outcome.next.inj h
  repeat' with_reducible first
    | exact State.Keeps.refl _ | assumption | apply keeps_layoutWrite

theorem keeps_execCopyComplete {s s' : State} {p e : Nat}
    (h : execCopyComplete p e s = .next s') : s.Keeps κ s' := by
  unfold execCopyComplete at h
  obtain rfl := Host.Outcome.next.inj h
  repeat' with_reducible first
    | exact State.Keeps.refl _ | assumption | apply keeps_copyDone

theorem keeps_execRwrite {s s' : State} {p e : Nat}
    (h : execRwrite p e s = .next s') : s.Keeps false s' := by
  unfold execRwrite at h
  obtain rfl := Host.Outcome.next.inj h
  repeat' with_reducible first
    | exact State.Keeps.refl _ | assumption | apply keeps_issue | apply keeps_rwLatch | split | intro _

theorem keeps_execPermute {s s' : State} {p e : Nat}
    (h : execPermute p e s = .next s') : s.Keeps false s' := by
  unfold execPermute at h
  obtain rfl := Host.Outcome.next.inj h
  repeat' with_reducible first
    | exact State.Keeps.refl _ | assumption | apply keeps_issue | apply keeps_permLatch | split | intro _

theorem keeps_execMapData {s s' : State} {p : Nat}
    (h : execMapData p s = .next s') : s.Keeps false s' := by
  unfold execMapData at h
  obtain rfl := Host.Outcome.next.inj h
  repeat' with_reducible first
    | exact State.Keeps.refl _ | assumption | apply keeps_mapData

theorem keeps_execMapSignal {s s' : State} {p : Nat}
    (h : execMapSignal p s = .next s') : s.Keeps κ s' := by
  unfold execMapSignal at h
  obtain rfl := Host.Outcome.next.inj h
  repeat' with_reducible first
    | exact State.Keeps.refl _ | assumption | apply keeps_mapSignal

theorem keeps_execMapRetry {s s' : State} {tag : Nat}
    (h : execMapRetry tag s = .next s') : s.Keeps κ s' := by
  unfold execMapRetry at h
  obtain rfl := Host.Outcome.next.inj h
  repeat' with_reducible first
    | exact State.Keeps.refl _ | assumption | apply keeps_mapRetry

theorem keeps_execCodeword {s s' : State} {port n : Nat} {symbols : List Nat}
    (h : execCodeword port n symbols s = .next s') : s.Keeps κ s' := by
  unfold execCodeword at h
  obtain rfl := Host.Outcome.next.inj h
  repeat' with_reducible first
    | exact State.Keeps.refl _ | assumption | apply keeps_codeword

theorem keeps_execAck {s s' : State} {port n : Nat}
    (h : execAck port n s = .next s') : s.Keeps κ s' := by
  unfold execAck at h
  obtain rfl := Host.Outcome.next.inj h
  repeat' with_reducible first
    | exact State.Keeps.refl _ | assumption | apply keeps_takeAck

theorem keeps_execNak {s s' : State} {port n : Nat}
    (h : execNak port n s = .next s') : s.Keeps κ s' := by
  unfold execNak at h
  obtain rfl := Host.Outcome.next.inj h
  repeat' with_reducible first
    | exact State.Keeps.refl _ | assumption | apply keeps_takeNak

theorem keeps_execCredit {s s' : State} {port vc n : Nat}
    (h : execCredit port vc n s = .next s') : s.Keeps κ s' := by
  unfold execCredit at h
  obtain rfl := Host.Outcome.next.inj h
  repeat' with_reducible first
    | exact State.Keeps.refl _ | assumption | apply keeps_takeCredit

theorem keeps_execStomp {s s' : State} {port vc : Nat}
    (h : execStomp port vc s = .next s') : s.Keeps κ s' := by
  unfold execStomp at h
  obtain rfl := Host.Outcome.next.inj h
  repeat' with_reducible first
    | exact State.Keeps.refl _ | assumption | apply keeps_takeStomp

theorem keeps_execPacketForward {s s' : State} {port : Nat}
    (h : execPacketForward port s = .next s') : s.Keeps κ s' := by
  unfold execPacketForward at h
  obtain rfl := Host.Outcome.next.inj h
  repeat' with_reducible first
    | exact State.Keeps.refl _ | assumption | apply keeps_routerForward

theorem keeps_execPacketExpired {s s' : State} {port : Nat} {place : Resides}
    (h : execPacketExpired port place s = .next s') : s.Keeps κ s' := by
  unfold execPacketExpired at h
  obtain rfl := Host.Outcome.next.inj h
  repeat' with_reducible first
    | exact State.Keeps.refl _ | assumption | apply keeps_expire

theorem keeps_execPacketDelivery {s s' : State} 
    (h : execPacketDelivery  s = .next s') : s.Keeps κ s' := by
  unfold execPacketDelivery at h
  obtain rfl := Host.Outcome.next.inj h
  repeat' with_reducible first
    | exact State.Keeps.refl _ | assumption | apply keeps_deliver

theorem keeps_execWrite {s s' : State} {p : Nat}
    (h : execWrite p s = .next s') : s.Keeps false s' := by
  unfold execWrite at h
  obtain rfl := Host.Outcome.next.inj h
  repeat' with_reducible first
    | exact State.Keeps.refl _ | assumption | apply keeps_writePacket

theorem keeps_execResponse {s s' : State} {p : Nat}
    (h : execResponse p s = .next s') : s.Keeps false s' := by
  unfold execResponse at h
  obtain rfl := Host.Outcome.next.inj h
  repeat' with_reducible first
    | exact State.Keeps.refl _ | assumption | apply keeps_response

theorem keeps_execSignalDetected {s s' : State} {port : Nat}
    (h : execSignalDetected port s = .next s') : s.Keeps κ s' := by
  unfold execSignalDetected at h
  obtain rfl := Host.Outcome.next.inj h
  repeat' with_reducible first
    | exact State.Keeps.refl _ | assumption | apply keeps_portEnter | split

theorem keeps_execTrainingStep {s s' : State} {port : Nat} {peer : Train}
    (h : execTrainingStep port peer s = .next s') : s.Keeps κ s' := by
  unfold execTrainingStep at h
  obtain rfl := Host.Outcome.next.inj h
  repeat' with_reducible first
    | exact State.Keeps.refl _ | assumption | apply keeps_trainStep

theorem keeps_execTrainingTimeout {s s' : State} {port : Nat}
    (h : execTrainingTimeout port s = .next s') : s.Keeps κ s' := by
  unfold execTrainingTimeout at h
  obtain rfl := Host.Outcome.next.inj h
  repeat' with_reducible first
    | exact State.Keeps.refl _ | assumption | apply keeps_portEnter | split

theorem keeps_execDetectRepeat {s s' : State} {port : Nat}
    (h : execDetectRepeat port s = .next s') : s.Keeps κ s' := by
  unfold execDetectRepeat at h
  obtain rfl := Host.Outcome.next.inj h
  repeat' with_reducible first
    | exact State.Keeps.refl _ | assumption | apply keeps_setPort | split

theorem keeps_execLinkErrorLimit {s s' : State} {port : Nat} {limit : LinkLimit}
    (h : execLinkErrorLimit port limit s = .next s') : s.Keeps κ s' := by
  unfold execLinkErrorLimit at h
  obtain rfl := Host.Outcome.next.inj h
  repeat' with_reducible first
    | exact State.Keeps.refl _ | assumption | apply keeps_portEnter | split

theorem keeps_execSignalLost {s s' : State} {port : Nat}
    (h : execSignalLost port s = .next s') : s.Keeps κ s' := by
  unfold execSignalLost at h
  obtain rfl := Host.Outcome.next.inj h
  repeat' with_reducible first
    | exact State.Keeps.refl _ | assumption | apply keeps_portEnter | split

theorem keeps_execFarEndDetect {s s' : State} {port : Nat}
    (h : execFarEndDetect port s = .next s') : s.Keeps κ s' := by
  unfold execFarEndDetect at h
  obtain rfl := Host.Outcome.next.inj h
  repeat' with_reducible first
    | exact State.Keeps.refl _ | assumption | apply keeps_portEnter | split

theorem keeps_execSelftestPass {s s' : State} {port : Nat}
    (h : execSelftestPass port s = .next s') : s.Keeps κ s' := by
  unfold execSelftestPass at h
  obtain rfl := Host.Outcome.next.inj h
  repeat' with_reducible first
    | exact State.Keeps.refl _ | assumption | apply keeps_portEnter | split

theorem keeps_execLoopbackFail {s s' : State} {port lanes : Nat}
    (h : execLoopbackFail port lanes s = .next s') : s.Keeps κ s' := by
  unfold execLoopbackFail at h
  obtain rfl := Host.Outcome.next.inj h
  repeat' with_reducible first
    | exact State.Keeps.refl _ | assumption | apply keeps_loopbackFail

theorem keeps_execRetrain {s s' : State} {port : Nat}
    (h : execRetrain port s = .next s') : s.Keeps κ s' := by
  unfold execRetrain at h
  obtain rfl := Host.Outcome.next.inj h
  repeat' with_reducible first
    | exact State.Keeps.refl _ | assumption | apply keeps_portCommand

theorem keeps_execDisable {s s' : State} {port : Nat}
    (h : execDisable port s = .next s') : s.Keeps κ s' := by
  unfold execDisable at h
  obtain rfl := Host.Outcome.next.inj h
  repeat' with_reducible first
    | exact State.Keeps.refl _ | assumption | apply keeps_portCommand

theorem keeps_execEnable {s s' : State} {port : Nat}
    (h : execEnable port s = .next s') : s.Keeps κ s' := by
  unfold execEnable at h
  obtain rfl := Host.Outcome.next.inj h
  repeat' with_reducible first
    | exact State.Keeps.refl _ | assumption | apply keeps_portCommand

theorem keeps_execPortEnableWrite {s s' : State} {v : Nat}
    (h : execPortEnableWrite v s = .next s') : s.Keeps κ s' := by
  unfold execPortEnableWrite at h
  obtain rfl := Host.Outcome.next.inj h
  repeat' with_reducible first
    | exact State.Keeps.refl _ | assumption | apply keeps_portEnable | split

theorem keeps_execMopen {s s' : State} 
    (h : execMopen  s = .next s') : s.Keeps false s' := by
  unfold execMopen at h
  obtain rfl := Host.Outcome.next.inj h
  repeat' with_reducible first
    | exact State.Keeps.refl _ | assumption | apply keeps_takeMirror | apply keeps_holdOpen | split | intro _

theorem keeps_execMdata {s s' : State} 
    (h : execMdata  s = .next s') : s.Keeps false s' := by
  unfold execMdata at h
  obtain rfl := Host.Outcome.next.inj h
  repeat' with_reducible first
    | exact State.Keeps.refl _ | assumption | apply keeps_takeMirror | apply keeps_holdData | split | intro _

theorem keeps_execMdone {s s' : State} 
    (h : execMdone  s = .next s') : s.Keeps false s' := by
  unfold execMdone at h
  obtain rfl := Host.Outcome.next.inj h
  repeat' with_reducible first
    | exact State.Keeps.refl _ | assumption | apply keeps_takeMirror | apply keeps_holdDone | split | intro _

theorem keeps_execMclose {s s' : State} 
    (h : execMclose  s = .next s') : s.Keeps false s' := by
  unfold execMclose at h
  obtain rfl := Host.Outcome.next.inj h
  repeat' with_reducible first
    | exact State.Keeps.refl _ | assumption | apply keeps_takeMirror | apply keeps_holdClose | split | intro _

theorem keeps_execMack {s s' : State} 
    (h : execMack  s = .next s') : s.Keeps false s' := by
  unfold execMack at h
  obtain rfl := Host.Outcome.next.inj h
  repeat' with_reducible first
    | exact State.Keeps.refl _ | assumption | apply keeps_takeMirror | apply keeps_mirrorAck | split | intro _

theorem keeps_execMread {s s' : State} 
    (h : execMread  s = .next s') : s.Keeps false s' := by
  unfold execMread at h
  obtain rfl := Host.Outcome.next.inj h
  repeat' with_reducible first
    | exact State.Keeps.refl _ | assumption | apply keeps_takeMirror | apply keeps_holdRead | split | intro _

theorem keeps_execMirrorResend {s s' : State} 
    (h : execMirrorResend  s = .next s') : s.Keeps κ s' := by
  unfold execMirrorResend at h
  obtain rfl := Host.Outcome.next.inj h
  repeat' with_reducible first
    | exact State.Keeps.refl _ | assumption | apply keeps_mirrorResend

theorem keeps_execMseal {s s' : State} 
    (h : execMseal  s = .next s') : s.Keeps false s' := by
  unfold execMseal at h
  obtain rfl := Host.Outcome.next.inj h
  repeat' with_reducible first
    | exact State.Keeps.refl _ | assumption | apply keeps_mseal

theorem keeps_execReseed {s s' : State} 
    (h : execReseed  s = .next s') : s.Keeps false s' := by
  unfold execReseed at h
  obtain rfl := Host.Outcome.next.inj h
  repeat' with_reducible first
    | exact State.Keeps.refl _ | assumption | apply keeps_reseed

theorem keeps_execInop {s s' : State} {p : Nat}
    (h : execInop p s = .next s') : s.Keeps false s' := by
  unfold execInop at h
  obtain rfl := Host.Outcome.next.inj h
  repeat' with_reducible first
    | exact State.Keeps.refl _ | assumption | apply keeps_ilIssue | apply keeps_advance | apply keeps_postSignal
    | split | intro _

theorem keeps_execUopen {s s' : State} {p : Nat}
    (h : execUopen p s = .next s') : s.Keeps false s' := by
  unfold execUopen at h
  obtain rfl := Host.Outcome.next.inj h
  repeat' with_reducible first
    | exact State.Keeps.refl _ | assumption | apply keeps_ilIssue | apply keeps_uopen | split | intro _

theorem keeps_execPass1 {s s' : State} {p : Nat}
    (h : execPass1 p s = .next s') : s.Keeps false s' := by
  unfold execPass1 at h
  obtain rfl := Host.Outcome.next.inj h
  repeat' with_reducible first
    | exact State.Keeps.refl _ | assumption | apply keeps_ilIssue | apply keeps_pass1 | split | intro _

theorem keeps_execNexport {s s' : State} {p : Nat}
    (h : execNexport p s = .next s') : s.Keeps false s' := by
  unfold execNexport at h
  obtain rfl := Host.Outcome.next.inj h
  repeat' with_reducible first
    | exact State.Keeps.refl _ | assumption | apply keeps_ilIssue | apply keeps_nexport | split | intro _

theorem keeps_execNexportWrite {s s' : State} 
    (h : execNexportWrite  s = .next s') : s.Keeps false s' := by
  unfold execNexportWrite at h
  obtain rfl := Host.Outcome.next.inj h
  repeat' with_reducible first
    | exact State.Keeps.refl _ | assumption | apply keeps_nexportWrite

theorem keeps_execNorms {s s' : State} {p : Nat}
    (h : execNorms p s = .next s') : s.Keeps false s' := by
  unfold execNorms at h
  obtain rfl := Host.Outcome.next.inj h
  repeat' with_reducible first
    | exact State.Keeps.refl _ | assumption | apply keeps_ilIssue | apply keeps_norms | split | intro _

theorem keeps_execNormsCompute {s s' : State} 
    (h : execNormsCompute  s = .next s') : s.Keeps false s' := by
  unfold execNormsCompute at h
  obtain rfl := Host.Outcome.next.inj h
  repeat' with_reducible first
    | exact State.Keeps.refl _ | assumption | apply keeps_normsCompute

theorem keeps_execPass2 {s s' : State} {p : Nat}
    (h : execPass2 p s = .next s') : s.Keeps false s' := by
  unfold execPass2 at h
  obtain rfl := Host.Outcome.next.inj h
  repeat' with_reducible first
    | exact State.Keeps.refl _ | assumption | apply keeps_ilIssue | apply keeps_pass2 | split | intro _

theorem keeps_execWcopy {s s' : State} {p : Nat}
    (h : execWcopy p s = .next s') : s.Keeps false s' := by
  unfold execWcopy at h
  obtain rfl := Host.Outcome.next.inj h
  repeat' with_reducible first
    | exact State.Keeps.refl _ | assumption | apply keeps_ilIssue | apply keeps_wcopy | split | intro _

theorem keeps_execUclose {s s' : State} {p : Nat}
    (h : execUclose p s = .next s') : s.Keeps false s' := by
  unfold execUclose at h
  obtain rfl := Host.Outcome.next.inj h
  repeat' with_reducible first
    | exact State.Keeps.refl _ | assumption | apply keeps_ilIssue | apply keeps_uclose | split | intro _

theorem keeps_execUpdateDone {s s' : State} 
    (h : execUpdateDone  s = .next s') : s.Keeps false s' := by
  unfold execUpdateDone at h
  obtain rfl := Host.Outcome.next.inj h
  repeat' with_reducible first
    | exact State.Keeps.refl _ | assumption | apply keeps_updateDone

theorem keeps_execTagScrub {s s' : State} 
    (h : execTagScrub  s = .next s') : s.Keeps false s' := by
  unfold execTagScrub at h
  obtain rfl := Host.Outcome.next.inj h
  repeat' with_reducible first
    | exact State.Keeps.refl _ | assumption | apply keeps_tagScrub | split

theorem keeps_execIlbenCommandComplete {s s' : State} {i : Nat}
    (h : execIlbenCommandComplete i s = .next s') : s.Keeps false s' := by
  unfold execIlbenCommandComplete at h
  obtain rfl := Host.Outcome.next.inj h
  repeat' with_reducible first
    | exact State.Keeps.refl _ | assumption | apply keeps_ilComplete

theorem keeps_execExchangeContribution {s s' : State} 
    (h : execExchangeContribution  s = .next s') : s.Keeps false s' := by
  unfold execExchangeContribution at h
  obtain rfl := Host.Outcome.next.inj h
  repeat' with_reducible first
    | exact State.Keeps.refl _ | assumption | apply keeps_exchangeContribution

theorem keeps_execExchUp {s s' : State} 
    (h : execExchUp  s = .next s') : s.Keeps false s' := by
  unfold execExchUp at h
  obtain rfl := Host.Outcome.next.inj h
  repeat' with_reducible first
    | exact State.Keeps.refl _ | assumption | apply keeps_takeRound | apply keeps_roundUp | split | intro _

theorem keeps_execExchToken {s s' : State} 
    (h : execExchToken  s = .next s') : s.Keeps false s' := by
  unfold execExchToken at h
  obtain rfl := Host.Outcome.next.inj h
  repeat' with_reducible first
    | exact State.Keeps.refl _ | assumption | apply keeps_takeRound | apply keeps_token | split | intro _

theorem keeps_execVoteSend {s s' : State} 
    (h : execVoteSend  s = .next s') : s.Keeps false s' := by
  unfold execVoteSend at h
  obtain rfl := Host.Outcome.next.inj h
  repeat' with_reducible first
    | exact State.Keeps.refl _ | assumption | apply keeps_voteSend

theorem keeps_execVoteUp {s s' : State} 
    (h : execVoteUp  s = .next s') : s.Keeps false s' := by
  unfold execVoteUp at h
  obtain rfl := Host.Outcome.next.inj h
  repeat' with_reducible first
    | exact State.Keeps.refl _ | assumption | apply keeps_takeRound | apply keeps_roundUp | split | intro _

theorem keeps_execVoteToken {s s' : State} 
    (h : execVoteToken  s = .next s') : s.Keeps false s' := by
  unfold execVoteToken at h
  obtain rfl := Host.Outcome.next.inj h
  repeat' with_reducible first
    | exact State.Keeps.refl _ | assumption | apply keeps_takeRound | apply keeps_token | split | intro _

theorem keeps_execRoundTimeout {s s' : State} 
    (h : execRoundTimeout  s = .next s') : s.Keeps false s' := by
  unfold execRoundTimeout at h
  obtain rfl := Host.Outcome.next.inj h
  repeat' with_reducible first
    | exact State.Keeps.refl _ | assumption | apply keeps_roundTimeout

theorem keeps_execAbandon {s s' : State} 
    (h : execAbandon  s = .next s') : s.Keeps false s' := by
  unfold execAbandon at h
  obtain rfl := Host.Outcome.next.inj h
  repeat' with_reducible first
    | exact State.Keeps.refl _ | assumption | apply keeps_abandonCommand

theorem keeps_execAbandonUpdate {s s' : State} 
    (h : execAbandonUpdate  s = .next s') : s.Keeps false s' := by
  unfold execAbandonUpdate at h
  obtain rfl := Host.Outcome.next.inj h
  repeat' with_reducible first
    | exact State.Keeps.refl _ | assumption | apply keeps_abandonUpdate

theorem keeps_execInject {s s' : State} 
    (h : execInject  s = .next s') : s.Keeps false s' := by
  unfold execInject at h
  obtain rfl := Host.Outcome.next.inj h
  repeat' with_reducible first
    | exact State.Keeps.refl _ | assumption | apply keeps_inject

theorem keeps_execRestore {s s' : State} 
    (h : execRestore  s = .next s') : s.Keeps false s' := by
  unfold execRestore at h
  obtain rfl := Host.Outcome.next.inj h
  repeat' with_reducible first
    | exact State.Keeps.refl _ | assumption | apply keeps_restore

theorem keeps_execAttemptReset {s s' : State} 
    (h : execAttemptReset  s = .next s') : s.Keeps κ s' := by
  unfold execAttemptReset at h
  obtain rfl := Host.Outcome.next.inj h
  repeat' with_reducible first
    | exact State.Keeps.refl _ | assumption | apply keeps_attemptReset

theorem keeps_execMrdata {s s' : State} 
    (h : execMrdata  s = .next s') : s.Keeps false s' := by
  unfold execMrdata at h
  obtain rfl := Host.Outcome.next.inj h
  repeat' with_reducible first
    | exact State.Keeps.refl _ | assumption | apply keeps_takeMirror | apply keeps_restoreData | split | intro _

theorem keeps_execFirmwareVerify {s s' : State} 
    (h : execFirmwareVerify  s = .next s') : s.Keeps false s' := by
  unfold execFirmwareVerify at h
  obtain rfl := Host.Outcome.next.inj h
  repeat' with_reducible first
    | exact State.Keeps.refl _ | assumption | apply keeps_firmwareVerify

theorem keeps_execTokenVerifyComplete {s s' : State} {tr : Nat}
    (h : execTokenVerifyComplete tr s = .next s') : s.Keeps κ s' := by
  unfold execTokenVerifyComplete at h
  obtain rfl := Host.Outcome.next.inj h
  repeat' with_reducible first
    | exact State.Keeps.refl _ | assumption | apply keeps_tokenVerified

theorem keeps_execInputRise {s s' : State} {node : Nat} {wakeMode : Bool}
    (h : execInputRise node wakeMode s = .next s') : s.Keeps false s' := by
  unfold execInputRise at h
  obtain rfl := Host.Outcome.next.inj h
  repeat' with_reducible first
    | exact State.Keeps.refl _ | assumption | apply keeps_inputRise

theorem keeps_execUndervoltageLockout {s s' : State} 
    (h : execUndervoltageLockout  s = .next s') : s.Keeps false s' := by
  unfold execUndervoltageLockout at h
  obtain rfl := Host.Outcome.next.inj h
  repeat' with_reducible first
    | exact State.Keeps.refl _ | assumption | apply keeps_undervoltage

theorem keeps_execOvervoltage {s s' : State} {mv : Nat}
    (h : execOvervoltage mv s = .next s') : s.Keeps false s' := by
  unfold execOvervoltage at h
  obtain rfl := Host.Outcome.next.inj h
  repeat' with_reducible first
    | exact State.Keeps.refl _ | assumption | apply keeps_overvoltage

theorem keeps_execInputLow {s s' : State} {mv : Nat}
    (h : execInputLow mv s = .next s') : s.Keeps κ s' := by
  unfold execInputLow at h
  obtain rfl := Host.Outcome.next.inj h
  repeat' with_reducible first
    | exact State.Keeps.refl _ | assumption | apply keeps_inputLow

theorem keeps_execRailPowerGood {s s' : State} {order : Nat}
    (h : execRailPowerGood order s = .next s') : s.Keeps κ s' := by
  unfold execRailPowerGood at h
  obtain rfl := Host.Outcome.next.inj h
  repeat' with_reducible first
    | exact State.Keeps.refl _ | assumption | apply keeps_railGood

theorem keeps_execRailFault {s s' : State} {order : Nat}
    (h : execRailFault order s = .next s') : s.Keeps false s' := by
  unfold execRailFault at h
  obtain rfl := Host.Outcome.next.inj h
  repeat' with_reducible first
    | exact State.Keeps.refl _ | assumption | apply keeps_railFault

theorem keeps_execReferenceStable {s s' : State} 
    (h : execReferenceStable  s = .next s') : s.Keeps κ s' := by
  unfold execReferenceStable at h
  obtain rfl := Host.Outcome.next.inj h
  repeat' with_reducible first
    | exact State.Keeps.refl _ | assumption | apply keeps_referenceStable

theorem keeps_execChannelTraining {s s' : State} {fails : List (Nat × Nat × Nat)}
    (h : execChannelTraining fails s = .next s') : s.Keeps κ s' := by
  unfold execChannelTraining at h
  obtain rfl := Host.Outcome.next.inj h
  repeat' with_reducible first
    | exact State.Keeps.refl _ | assumption | apply keeps_channelTraining

theorem keeps_execWake {s s' : State} 
    (h : execWake  s = .next s') : s.Keeps false s' := by
  unfold execWake at h
  obtain rfl := Host.Outcome.next.inj h
  repeat' with_reducible first
    | exact State.Keeps.refl _ | assumption | apply keeps_wake

theorem keeps_execStandby {s s' : State} 
    (h : execStandby  s = .next s') : s.Keeps false s' := by
  unfold execStandby at h
  obtain rfl := Host.Outcome.next.inj h
  repeat' with_reducible first
    | exact State.Keeps.refl _ | assumption | apply keeps_standby

theorem keeps_execToll {s s' : State} 
    (h : execToll  s = .next s') : s.Keeps false s' := by
  unfold execToll at h
  obtain rfl := Host.Outcome.next.inj h
  repeat' with_reducible first
    | exact State.Keeps.refl _ | assumption | apply keeps_toll

theorem keeps_execGateEntry {s s' : State} {p i : Nat} {deck : Bool}
    (h : execGateEntry p i deck s = .next s') : s.Keeps κ s' := by
  unfold execGateEntry at h
  obtain rfl := Host.Outcome.next.inj h
  repeat' with_reducible first
    | exact State.Keeps.refl _ | assumption | apply keeps_gateEntry

theorem keeps_execParkEntry {s s' : State} {c : Nat}
    (h : execParkEntry c s = .next s') : s.Keeps κ s' := by
  unfold execParkEntry at h
  obtain rfl := Host.Outcome.next.inj h
  repeat' with_reducible first
    | exact State.Keeps.refl _ | assumption | apply keeps_parkEntry

theorem keeps_execRetainEntry {s s' : State} {c : Nat}
    (h : execRetainEntry c s = .next s') : s.Keeps κ s' := by
  unfold execRetainEntry at h
  obtain rfl := Host.Outcome.next.inj h
  repeat' with_reducible first
    | exact State.Keeps.refl _ | assumption | apply keeps_retainEntry

theorem keeps_execOffEntry {s s' : State} {c : Nat}
    (h : execOffEntry c s = .next s') : s.Keeps false s' := by
  unfold execOffEntry at h
  obtain rfl := Host.Outcome.next.inj h
  repeat' with_reducible first
    | exact State.Keeps.refl _ | assumption | apply keeps_offEntry

theorem keeps_execClusterRestoreComplete {s s' : State} {c : Nat}
    (h : execClusterRestoreComplete c s = .next s') : s.Keeps false s' := by
  unfold execClusterRestoreComplete at h
  obtain rfl := Host.Outcome.next.inj h
  repeat' with_reducible first
    | exact State.Keeps.refl _ | assumption | apply keeps_restoreComplete

theorem keeps_execPowerLoop {s s' : State} {p100 p1 pk mv ma : Nat}
    (h : execPowerLoop p100 p1 pk mv ma s = .next s') : s.Keeps κ s' := by
  unfold execPowerLoop at h
  obtain rfl := Host.Outcome.next.inj h
  repeat' with_reducible first
    | exact State.Keeps.refl _ | assumption | apply keeps_powerLoop

theorem keeps_execThermalLoop {s s' : State} {ts : List (Nat × Int)}
    (h : execThermalLoop ts s = .next s') : s.Keeps κ s' := by
  unfold execThermalLoop at h
  obtain rfl := Host.Outcome.next.inj h
  repeat' with_reducible first
    | exact State.Keeps.refl _ | assumption | apply keeps_thermalLoop

theorem keeps_execStackThrottle {s s' : State} {p stack : Nat} {t : Int}
    (h : execStackThrottle p stack t s = .next s') : s.Keeps κ s' := by
  unfold execStackThrottle at h
  obtain rfl := Host.Outcome.next.inj h
  repeat' with_reducible first
    | exact State.Keeps.refl _ | assumption | apply keeps_stackThrottle

theorem keeps_execIlbenThrottle {s s' : State} {sensor : Nat} {t : Int}
    (h : execIlbenThrottle sensor t s = .next s') : s.Keeps κ s' := by
  unfold execIlbenThrottle at h
  obtain rfl := Host.Outcome.next.inj h
  repeat' with_reducible first
    | exact State.Keeps.refl _ | assumption | apply keeps_ilbenThrottle

theorem keeps_execThermalTrip {s s' : State} {sensor : Nat} {t : Int}
    (h : execThermalTrip sensor t s = .next s') : s.Keeps false s' := by
  unfold execThermalTrip at h
  obtain rfl := Host.Outcome.next.inj h
  repeat' with_reducible first
    | exact State.Keeps.refl _ | assumption | apply keeps_thermalTrip

theorem keeps_execModuleReset {s s' : State} 
    (h : execModuleReset  s = .next s') : s.Keeps false s' := by
  unfold execModuleReset at h
  obtain rfl := Host.Outcome.next.inj h
  repeat' with_reducible first
    | exact State.Keeps.refl _ | assumption | apply keeps_resetControl

theorem keeps_execModuleResetRelease {s s' : State} 
    (h : execModuleResetRelease  s = .next s') : s.Keeps κ s' := by
  unfold execModuleResetRelease at h
  obtain rfl := Host.Outcome.next.inj h
  repeat' with_reducible first
    | exact State.Keeps.refl _ | assumption | apply keeps_moduleRelease

theorem keeps_execPierReset {s s' : State} {p : Nat}
    (h : execPierReset p s = .next s') : s.Keeps false s' := by
  unfold execPierReset at h
  obtain rfl := Host.Outcome.next.inj h
  repeat' with_reducible first
    | exact State.Keeps.refl _ | assumption | apply keeps_resetControl | split

theorem keeps_execPierResetRelease {s s' : State} {p : Nat}
    (h : execPierResetRelease p s = .next s') : s.Keeps false s' := by
  unfold execPierResetRelease at h
  obtain rfl := Host.Outcome.next.inj h
  repeat' with_reducible first
    | exact State.Keeps.refl _ | assumption | apply keeps_pierRelease | split

theorem keeps_execEngineReset {s s' : State} {p e : Nat}
    (h : execEngineReset p e s = .next s') : s.Keeps false s' := by
  unfold execEngineReset at h
  obtain rfl := Host.Outcome.next.inj h
  repeat' with_reducible first
    | exact State.Keeps.refl _ | assumption | apply keeps_resetControl | split

theorem keeps_execSenseOpen {s s' : State} 
    (h : execSenseOpen  s = .next s') : s.Keeps false s' := by
  unfold execSenseOpen at h
  obtain rfl := Host.Outcome.next.inj h
  repeat' with_reducible first
    | exact State.Keeps.refl _ | assumption | apply keeps_senseOpened

theorem keeps_execSenseClose {s s' : State} 
    (h : execSenseClose  s = .next s') : s.Keeps false s' := by
  unfold execSenseClose at h
  obtain rfl := Host.Outcome.next.inj h
  repeat' with_reducible first
    | exact State.Keeps.refl _ | assumption | apply keeps_senseClosed

theorem keeps_execRefreshIntervalChange {s s' : State} {p stack : Nat} {t : Int}
    (h : execRefreshIntervalChange p stack t s = .next s') : s.Keeps κ s' := by
  unfold execRefreshIntervalChange at h
  obtain rfl := Host.Outcome.next.inj h
  repeat' with_reducible first
    | exact State.Keeps.refl _ | assumption | apply keeps_refreshInterval

theorem keeps_execPerstAssert {s s' : State} 
    (h : execPerstAssert  s = .next s') : s.Keeps false s' := by
  unfold execPerstAssert at h
  obtain rfl := Host.Outcome.next.inj h
  repeat' with_reducible first
    | exact State.Keeps.refl _ | assumption | apply keeps_perstAssert

theorem keeps_execPerstDeassert {s s' : State} 
    (h : execPerstDeassert  s = .next s') : s.Keeps false s' := by
  unfold execPerstDeassert at h
  obtain rfl := Host.Outcome.next.inj h
  repeat' with_reducible first
    | exact State.Keeps.refl _ | assumption | apply keeps_perstDeassert

theorem keeps_execDoeDiscovery {s s' : State} {index : Nat}
    (h : execDoeDiscovery index s = .next s') : s.Keeps κ s' := by
  unfold execDoeDiscovery at h
  obtain rfl := Host.Outcome.next.inj h
  repeat' with_reducible first
    | exact State.Keeps.refl _ | assumption | apply keeps_emit | apply keeps_raise | split

theorem keeps_execGetVersion {s s' : State} {tr : Nat}
    (h : execGetVersion tr s = .next s') : s.Keeps κ s' := by
  unfold execGetVersion at h
  obtain rfl := Host.Outcome.next.inj h
  repeat' with_reducible first
    | exact State.Keeps.refl _ | assumption | apply keeps_spdmRequest

theorem keeps_execGetCapabilities {s s' : State} {tr : Nat}
    (h : execGetCapabilities tr s = .next s') : s.Keeps κ s' := by
  unfold execGetCapabilities at h
  obtain rfl := Host.Outcome.next.inj h
  repeat' with_reducible first
    | exact State.Keeps.refl _ | assumption | apply keeps_spdmRequest

theorem keeps_execNegotiateAlgorithms {s s' : State} {tr : Nat}
    (h : execNegotiateAlgorithms tr s = .next s') : s.Keeps κ s' := by
  unfold execNegotiateAlgorithms at h
  obtain rfl := Host.Outcome.next.inj h
  repeat' with_reducible first
    | exact State.Keeps.refl _ | assumption | apply keeps_spdmRequest

theorem keeps_execGetDigests {s s' : State} {tr : Nat}
    (h : execGetDigests tr s = .next s') : s.Keeps κ s' := by
  unfold execGetDigests at h
  obtain rfl := Host.Outcome.next.inj h
  repeat' with_reducible first
    | exact State.Keeps.refl _ | assumption | apply keeps_spdmRequest

theorem keeps_execGetCertificate {s s' : State} {tr slot off len : Nat}
    (h : execGetCertificate tr slot off len s = .next s') : s.Keeps κ s' := by
  unfold execGetCertificate at h
  obtain rfl := Host.Outcome.next.inj h
  repeat' with_reducible first
    | exact State.Keeps.refl _ | assumption | apply keeps_spdmRequest

theorem keeps_execChallenge {s s' : State} {tr slot : Nat} {nonce : List Byte}
    (h : execChallenge tr slot nonce s = .next s') : s.Keeps κ s' := by
  unfold execChallenge at h
  obtain rfl := Host.Outcome.next.inj h
  repeat' with_reducible first
    | exact State.Keeps.refl _ | assumption | apply keeps_spdmRequest

theorem keeps_execGetMeasurements {s s' : State} {tr index : Nat} {sign : Bool} {nonce : List Byte}
    (h : execGetMeasurements tr index sign nonce s = .next s') : s.Keeps κ s' := by
  unfold execGetMeasurements at h
  obtain rfl := Host.Outcome.next.inj h
  repeat' with_reducible first
    | exact State.Keeps.refl _ | assumption | apply keeps_spdmRequest

theorem keeps_execKeyExchange {s s' : State} {tr : Nat} {data : List Byte}
    (h : execKeyExchange tr data s = .next s') : s.Keeps κ s' := by
  unfold execKeyExchange at h
  obtain rfl := Host.Outcome.next.inj h
  repeat' with_reducible first
    | exact State.Keeps.refl _ | assumption | apply keeps_spdmRequest

theorem keeps_execFinish {s s' : State} {tr : Nat} {data : List Byte}
    (h : execFinish tr data s = .next s') : s.Keeps κ s' := by
  unfold execFinish at h
  obtain rfl := Host.Outcome.next.inj h
  repeat' with_reducible first
    | exact State.Keeps.refl _ | assumption | apply keeps_spdmRequest

theorem keeps_execSpdmHeartbeat {s s' : State} {tr : Nat}
    (h : execSpdmHeartbeat tr s = .next s') : s.Keeps κ s' := by
  unfold execSpdmHeartbeat at h
  obtain rfl := Host.Outcome.next.inj h
  repeat' with_reducible first
    | exact State.Keeps.refl _ | assumption | apply keeps_spdmRequest

theorem keeps_execKeyUpdate {s s' : State} {tr : Nat} {data : List Byte}
    (h : execKeyUpdate tr data s = .next s') : s.Keeps κ s' := by
  unfold execKeyUpdate at h
  obtain rfl := Host.Outcome.next.inj h
  repeat' with_reducible first
    | exact State.Keeps.refl _ | assumption | apply keeps_spdmRequest

theorem keeps_execEndSession {s s' : State} {tr : Nat}
    (h : execEndSession tr s = .next s') : s.Keeps κ s' := by
  unfold execEndSession at h
  obtain rfl := Host.Outcome.next.inj h
  repeat' with_reducible first
    | exact State.Keeps.refl _ | assumption | apply keeps_spdmRequest

theorem keeps_execChunkSend {s s' : State} {tr : Nat} {last : Bool} {data : List Byte}
    (h : execChunkSend tr last data s = .next s') : s.Keeps κ s' := by
  unfold execChunkSend at h
  obtain rfl := Host.Outcome.next.inj h
  repeat' with_reducible first
    | exact State.Keeps.refl _ | assumption | apply keeps_spdmRequest

theorem keeps_execChunkGet {s s' : State} {tr seq : Nat}
    (h : execChunkGet tr seq s = .next s') : s.Keeps κ s' := by
  unfold execChunkGet at h
  obtain rfl := Host.Outcome.next.inj h
  repeat' with_reducible first
    | exact State.Keeps.refl _ | assumption | apply keeps_spdmRequest

theorem keeps_execGetPqSignature {s s' : State} {tr : Nat}
    (h : execGetPqSignature tr s = .next s') : s.Keeps κ s' := by
  unfold execGetPqSignature at h
  obtain rfl := Host.Outcome.next.inj h
  repeat' with_reducible first
    | exact State.Keeps.refl _ | assumption | apply keeps_spdmRequest

theorem keeps_execSpdmResponseReady {s s' : State} 
    (h : execSpdmResponseReady  s = .next s') : s.Keeps κ s' := by
  unfold execSpdmResponseReady at h
  obtain rfl := Host.Outcome.next.inj h
  repeat' with_reducible first
    | exact State.Keeps.refl _ | assumption | apply keeps_spdmReady

theorem moves_execDictionaryWrite {s s' : State} {tr idx sub : Nat} {data : List Byte}
    (h : execDictionaryWrite tr idx sub data s = .next s') : s.Moves s' := by
  unfold execDictionaryWrite at h
  obtain rfl := Host.Outcome.next.inj h
  repeat' with_reducible first
    | exact (State.Keeps.refl _).moves | exact moves_access | exact moves_canWriteAccess | exact moves_writeSeg
    | exact moves_odCommand | exact moves_fuseComplete
    | exact (keeps_canStatus (keeps_bump64 (State.Keeps.refl _))).moves | apply moves_canRequest | intro _ | split

theorem moves_execOwnerKeyDigestWrite {s s' : State} {tr : Nat} {digest : List Byte}
    (h : execOwnerKeyDigestWrite tr digest s = .next s') : s.Moves s' := by
  unfold execOwnerKeyDigestWrite at h
  obtain rfl := Host.Outcome.next.inj h
  repeat' with_reducible first
    | exact (State.Keeps.refl _).moves | exact moves_access | exact moves_canWriteAccess | exact moves_writeSeg
    | exact moves_odCommand | exact moves_fuseComplete
    | exact (keeps_canStatus (keeps_bump64 (State.Keeps.refl _))).moves | apply moves_canRequest | intro _ | split

theorem moves_execFwSecurityVersionWrite {s s' : State} {tr v : Nat}
    (h : execFwSecurityVersionWrite tr v s = .next s') : s.Moves s' := by
  unfold execFwSecurityVersionWrite at h
  obtain rfl := Host.Outcome.next.inj h
  repeat' with_reducible first
    | exact (State.Keeps.refl _).moves | exact moves_access | exact moves_canWriteAccess | exact moves_writeSeg
    | exact moves_odCommand | exact moves_fuseComplete
    | exact (keeps_canStatus (keeps_bump64 (State.Keeps.refl _))).moves | apply moves_canRequest | intro _ | split

theorem moves_execFabricIdBaseWrite {s s' : State} {tr v : Nat}
    (h : execFabricIdBaseWrite tr v s = .next s') : s.Moves s' := by
  unfold execFabricIdBaseWrite at h
  obtain rfl := Host.Outcome.next.inj h
  repeat' with_reducible first
    | exact (State.Keeps.refl _).moves | exact moves_access | exact moves_canWriteAccess | exact moves_writeSeg
    | exact moves_odCommand | exact moves_fuseComplete
    | exact (keeps_canStatus (keeps_bump64 (State.Keeps.refl _))).moves | apply moves_canRequest | intro _ | split

theorem moves_execDebugLockoutWrite {s s' : State} {tr v : Nat}
    (h : execDebugLockoutWrite tr v s = .next s') : s.Moves s' := by
  unfold execDebugLockoutWrite at h
  obtain rfl := Host.Outcome.next.inj h
  repeat' with_reducible first
    | exact (State.Keeps.refl _).moves | exact moves_access | exact moves_canWriteAccess | exact moves_writeSeg
    | exact moves_odCommand | exact moves_fuseComplete
    | exact (keeps_canStatus (keeps_bump64 (State.Keeps.refl _))).moves | apply moves_canRequest | intro _ | split

theorem moves_execOwnerTransfer {s s' : State} {tr : Nat} {digest : List Byte} {ref : Nat}
    (h : execOwnerTransfer tr digest ref s = .next s') : s.Moves s' := by
  unfold execOwnerTransfer at h
  obtain rfl := Host.Outcome.next.inj h
  repeat' with_reducible first
    | exact (State.Keeps.refl _).moves | exact moves_access | exact moves_canWriteAccess | exact moves_writeSeg
    | exact moves_odCommand | exact moves_fuseComplete
    | exact (keeps_canStatus (keeps_bump64 (State.Keeps.refl _))).moves | apply moves_canRequest | intro _ | split

theorem moves_execDebugUnlock {s s' : State} {tr v ref : Nat}
    (h : execDebugUnlock tr v ref s = .next s') : s.Moves s' := by
  unfold execDebugUnlock at h
  obtain rfl := Host.Outcome.next.inj h
  repeat' with_reducible first
    | exact (State.Keeps.refl _).moves | exact moves_access | exact moves_canWriteAccess | exact moves_writeSeg
    | exact moves_odCommand | exact moves_fuseComplete
    | exact (keeps_canStatus (keeps_bump64 (State.Keeps.refl _))).moves | apply moves_canRequest | intro _ | split

theorem moves_execTokenStage {s s' : State} {tr : Nat} {piece : List Byte}
    (h : execTokenStage tr piece s = .next s') : s.Moves s' := by
  unfold execTokenStage at h
  obtain rfl := Host.Outcome.next.inj h
  repeat' with_reducible first
    | exact (State.Keeps.refl _).moves | exact moves_access | exact moves_canWriteAccess | exact moves_writeSeg
    | exact moves_odCommand | exact moves_fuseComplete
    | exact (keeps_canStatus (keeps_bump64 (State.Keeps.refl _))).moves | apply moves_canRequest | intro _ | split

theorem moves_execTokenBegin {s s' : State} {tr : Nat}
    (h : execTokenBegin tr s = .next s') : s.Moves s' := by
  unfold execTokenBegin at h
  obtain rfl := Host.Outcome.next.inj h
  repeat' with_reducible first
    | exact (State.Keeps.refl _).moves | exact moves_access | exact moves_canWriteAccess | exact moves_writeSeg
    | exact moves_odCommand | exact moves_fuseComplete
    | exact (keeps_canStatus (keeps_bump64 (State.Keeps.refl _))).moves | apply moves_canRequest | intro _ | split

theorem moves_execTokenSeal {s s' : State} {tr : Nat}
    (h : execTokenSeal tr s = .next s') : s.Moves s' := by
  unfold execTokenSeal at h
  obtain rfl := Host.Outcome.next.inj h
  repeat' with_reducible first
    | exact (State.Keeps.refl _).moves | exact moves_access | exact moves_canWriteAccess | exact moves_writeSeg
    | exact moves_odCommand | exact moves_fuseComplete
    | exact (keeps_canStatus (keeps_bump64 (State.Keeps.refl _))).moves | apply moves_canRequest | intro _ | split

theorem moves_execFuseProgramComplete {s s' : State} 
    (h : execFuseProgramComplete  s = .next s') : s.Moves s' := by
  unfold execFuseProgramComplete at h
  obtain rfl := Host.Outcome.next.inj h
  repeat' with_reducible first
    | exact (State.Keeps.refl _).moves | exact moves_access | exact moves_canWriteAccess | exact moves_writeSeg
    | exact moves_odCommand | exact moves_fuseComplete

theorem moves_execCanRead {s s' : State} {node tag idx sub rsv off len : Nat}
    (h : execCanRead node tag idx sub rsv off len s = .next s') : s.Moves s' := by
  unfold execCanRead at h
  obtain rfl := Host.Outcome.next.inj h
  repeat' with_reducible first
    | exact (State.Keeps.refl _).moves | exact moves_access | exact moves_canWriteAccess | exact moves_writeSeg
    | exact moves_odCommand | exact moves_fuseComplete
    | exact (keeps_canStatus (keeps_bump64 (State.Keeps.refl _))).moves | apply moves_canRequest | intro _ | split

theorem moves_execCanWrite {s s' : State} {node tag idx sub rsv : Nat} {data : List Byte}
    (h : execCanWrite node tag idx sub rsv data s = .next s') : s.Moves s' := by
  unfold execCanWrite at h
  obtain rfl := Host.Outcome.next.inj h
  repeat' with_reducible first
    | exact (State.Keeps.refl _).moves | exact moves_access | exact moves_canWriteAccess | exact moves_writeSeg
    | exact moves_odCommand | exact moves_fuseComplete
    | exact (keeps_canStatus (keeps_bump64 (State.Keeps.refl _))).moves | apply moves_canRequest | intro _ | split

theorem keeps_execWriteInit {s s' : State} {node tag idx sub rsv total len : Nat}
    (h : execWriteInit node tag idx sub rsv total len s = .next s') : s.Keeps κ s' := by
  unfold execWriteInit at h
  obtain rfl := Host.Outcome.next.inj h
  repeat' with_reducible first
    | exact State.Keeps.refl _ | assumption | apply keeps_canRequest | apply keeps_writeInit | split | intro _

theorem moves_execWriteSeg {s s' : State} {node tag idx sub rsv seq : Nat} {data : List Byte}
    (h : execWriteSeg node tag idx sub rsv seq data s = .next s') : s.Moves s' := by
  unfold execWriteSeg at h
  obtain rfl := Host.Outcome.next.inj h
  repeat' with_reducible first
    | exact (State.Keeps.refl _).moves | exact moves_access | exact moves_canWriteAccess | exact moves_writeSeg
    | exact moves_odCommand | exact moves_fuseComplete
    | exact (keeps_canStatus (keeps_bump64 (State.Keeps.refl _))).moves | apply moves_canRequest | intro _ | split
    | exact (keeps_bump64 (State.Keeps.refl _)).moves.trans moves_writeSeg | dsimp only

theorem keeps_execAbort {s s' : State} {node tag idx sub rsv : Nat}
    (h : execAbort node tag idx sub rsv s = .next s') : s.Keeps κ s' := by
  unfold execAbort at h
  obtain rfl := Host.Outcome.next.inj h
  repeat' with_reducible first
    | exact State.Keeps.refl _ | assumption | apply keeps_bump64 | apply keeps_canStatus | apply keeps_setXfer
    | split | intro _ | dsimp only

theorem keeps_execTransferTimeout {s s' : State} 
    (h : execTransferTimeout  s = .next s') : s.Keeps κ s' := by
  unfold execTransferTimeout at h
  obtain rfl := Host.Outcome.next.inj h
  repeat' with_reducible first
    | exact State.Keeps.refl _ | assumption | apply keeps_setXfer | apply keeps_canStatus | split

theorem keeps_execForeignFrame {s s' : State} {ident : Nat}
    (h : execForeignFrame ident s = .next s') : s.Keeps κ s' := by
  unfold execForeignFrame at h
  obtain rfl := Host.Outcome.next.inj h
  repeat' with_reducible first
    | exact State.Keeps.refl _ | assumption | apply keeps_bump64 | split | fail_if_no_progress refine keeps_mk (Memory.Kept.refl _) ?_

theorem keeps_execHeartbeat {s s' : State} 
    (h : execHeartbeat  s = .next s') : s.Keeps κ s' := by
  unfold execHeartbeat at h
  obtain rfl := Host.Outcome.next.inj h
  repeat' with_reducible first
    | exact State.Keeps.refl _ | assumption | apply keeps_canSend | split

theorem keeps_execBusOff {s s' : State} {tec : Nat} {interrupted : Bool}
    (h : execBusOff tec interrupted s = .next s') : s.Keeps κ s' := by
  unfold execBusOff at h
  obtain rfl := Host.Outcome.next.inj h
  repeat' with_reducible first
    | exact State.Keeps.refl _ | assumption | apply keeps_busOff | split

theorem keeps_execBusOffRecovery {s s' : State} 
    (h : execBusOffRecovery  s = .next s') : s.Keeps κ s' := by
  unfold execBusOffRecovery at h
  obtain rfl := Host.Outcome.next.inj h
  repeat' with_reducible first
    | exact State.Keeps.refl _ | assumption | apply keeps_busOff | apply keeps_sendQueued | split
    | fail_if_no_progress refine keeps_mk (Memory.Kept.refl _) ?_

theorem keeps_execCanBusError {s s' : State} {tec rec' : Nat}
    (h : execCanBusError tec rec' s = .next s') : s.Keeps κ s' := by
  unfold execCanBusError at h
  obtain rfl := Host.Outcome.next.inj h
  repeat' with_reducible first
    | exact State.Keeps.refl _ | assumption | split | fail_if_no_progress refine keeps_mk (Memory.Kept.refl _) ?_

theorem keeps_execDnop {s s' : State} {p i : Nat}
    (h : execDnop p i s = .next s') : s.Keeps false s' := by
  unfold execDnop at h
  obtain rfl := Host.Outcome.next.inj h
  repeat' with_reducible first
    | exact State.Keeps.refl _ | assumption | apply keeps_deckIssue

theorem keeps_execAdd {s s' : State} {p i : Nat}
    (h : execAdd p i s = .next s') : s.Keeps false s' := by
  unfold execAdd at h
  obtain rfl := Host.Outcome.next.inj h
  repeat' with_reducible first
    | exact State.Keeps.refl _ | assumption | apply keeps_deckIssue

theorem keeps_execSub {s s' : State} {p i : Nat}
    (h : execSub p i s = .next s') : s.Keeps false s' := by
  unfold execSub at h
  obtain rfl := Host.Outcome.next.inj h
  repeat' with_reducible first
    | exact State.Keeps.refl _ | assumption | apply keeps_deckIssue

theorem keeps_execMul {s s' : State} {p i : Nat}
    (h : execMul p i s = .next s') : s.Keeps false s' := by
  unfold execMul at h
  obtain rfl := Host.Outcome.next.inj h
  repeat' with_reducible first
    | exact State.Keeps.refl _ | assumption | apply keeps_deckIssue

theorem keeps_execFma {s s' : State} {p i : Nat}
    (h : execFma p i s = .next s') : s.Keeps false s' := by
  unfold execFma at h
  obtain rfl := Host.Outcome.next.inj h
  repeat' with_reducible first
    | exact State.Keeps.refl _ | assumption | apply keeps_deckIssue

theorem keeps_execDiv {s s' : State} {p i : Nat}
    (h : execDiv p i s = .next s') : s.Keeps false s' := by
  unfold execDiv at h
  obtain rfl := Host.Outcome.next.inj h
  repeat' with_reducible first
    | exact State.Keeps.refl _ | assumption | apply keeps_deckIssue

theorem keeps_execMin {s s' : State} {p i : Nat}
    (h : execMin p i s = .next s') : s.Keeps false s' := by
  unfold execMin at h
  obtain rfl := Host.Outcome.next.inj h
  repeat' with_reducible first
    | exact State.Keeps.refl _ | assumption | apply keeps_deckIssue

theorem keeps_execMax {s s' : State} {p i : Nat}
    (h : execMax p i s = .next s') : s.Keeps false s' := by
  unfold execMax at h
  obtain rfl := Host.Outcome.next.inj h
  repeat' with_reducible first
    | exact State.Keeps.refl _ | assumption | apply keeps_deckIssue

theorem keeps_execAbs {s s' : State} {p i : Nat}
    (h : execAbs p i s = .next s') : s.Keeps false s' := by
  unfold execAbs at h
  obtain rfl := Host.Outcome.next.inj h
  repeat' with_reducible first
    | exact State.Keeps.refl _ | assumption | apply keeps_deckIssue

theorem keeps_execNeg {s s' : State} {p i : Nat}
    (h : execNeg p i s = .next s') : s.Keeps false s' := by
  unfold execNeg at h
  obtain rfl := Host.Outcome.next.inj h
  repeat' with_reducible first
    | exact State.Keeps.refl _ | assumption | apply keeps_deckIssue

theorem keeps_execSqrt {s s' : State} {p i : Nat}
    (h : execSqrt p i s = .next s') : s.Keeps false s' := by
  unfold execSqrt at h
  obtain rfl := Host.Outcome.next.inj h
  repeat' with_reducible first
    | exact State.Keeps.refl _ | assumption | apply keeps_deckIssue

theorem keeps_execRsqrt {s s' : State} {p i : Nat}
    (h : execRsqrt p i s = .next s') : s.Keeps false s' := by
  unfold execRsqrt at h
  obtain rfl := Host.Outcome.next.inj h
  repeat' with_reducible first
    | exact State.Keeps.refl _ | assumption | apply keeps_deckIssue

theorem keeps_execRcp {s s' : State} {p i : Nat}
    (h : execRcp p i s = .next s') : s.Keeps false s' := by
  unfold execRcp at h
  obtain rfl := Host.Outcome.next.inj h
  repeat' with_reducible first
    | exact State.Keeps.refl _ | assumption | apply keeps_deckIssue

theorem keeps_execExp {s s' : State} {p i : Nat}
    (h : execExp p i s = .next s') : s.Keeps false s' := by
  unfold execExp at h
  obtain rfl := Host.Outcome.next.inj h
  repeat' with_reducible first
    | exact State.Keeps.refl _ | assumption | apply keeps_deckIssue

theorem keeps_execLog {s s' : State} {p i : Nat}
    (h : execLog p i s = .next s') : s.Keeps false s' := by
  unfold execLog at h
  obtain rfl := Host.Outcome.next.inj h
  repeat' with_reducible first
    | exact State.Keeps.refl _ | assumption | apply keeps_deckIssue

theorem keeps_execTanh {s s' : State} {p i : Nat}
    (h : execTanh p i s = .next s') : s.Keeps false s' := by
  unfold execTanh at h
  obtain rfl := Host.Outcome.next.inj h
  repeat' with_reducible first
    | exact State.Keeps.refl _ | assumption | apply keeps_deckIssue

theorem keeps_execSigm {s s' : State} {p i : Nat}
    (h : execSigm p i s = .next s') : s.Keeps false s' := by
  unfold execSigm at h
  obtain rfl := Host.Outcome.next.inj h
  repeat' with_reducible first
    | exact State.Keeps.refl _ | assumption | apply keeps_deckIssue

theorem keeps_execMov {s s' : State} {p i : Nat}
    (h : execMov p i s = .next s') : s.Keeps false s' := by
  unfold execMov at h
  obtain rfl := Host.Outcome.next.inj h
  repeat' with_reducible first
    | exact State.Keeps.refl _ | assumption | apply keeps_deckIssue

theorem keeps_execBcast {s s' : State} {p i : Nat}
    (h : execBcast p i s = .next s') : s.Keeps false s' := by
  unfold execBcast at h
  obtain rfl := Host.Outcome.next.inj h
  repeat' with_reducible first
    | exact State.Keeps.refl _ | assumption | apply keeps_deckIssue

theorem keeps_execCmplt {s s' : State} {p i : Nat}
    (h : execCmplt p i s = .next s') : s.Keeps false s' := by
  unfold execCmplt at h
  obtain rfl := Host.Outcome.next.inj h
  repeat' with_reducible first
    | exact State.Keeps.refl _ | assumption | apply keeps_deckIssue

theorem keeps_execCmple {s s' : State} {p i : Nat}
    (h : execCmple p i s = .next s') : s.Keeps false s' := by
  unfold execCmple at h
  obtain rfl := Host.Outcome.next.inj h
  repeat' with_reducible first
    | exact State.Keeps.refl _ | assumption | apply keeps_deckIssue

theorem keeps_execCmpeq {s s' : State} {p i : Nat}
    (h : execCmpeq p i s = .next s') : s.Keeps false s' := by
  unfold execCmpeq at h
  obtain rfl := Host.Outcome.next.inj h
  repeat' with_reducible first
    | exact State.Keeps.refl _ | assumption | apply keeps_deckIssue

theorem keeps_execCmpne {s s' : State} {p i : Nat}
    (h : execCmpne p i s = .next s') : s.Keeps false s' := by
  unfold execCmpne at h
  obtain rfl := Host.Outcome.next.inj h
  repeat' with_reducible first
    | exact State.Keeps.refl _ | assumption | apply keeps_deckIssue

theorem keeps_execIadd {s s' : State} {p i : Nat}
    (h : execIadd p i s = .next s') : s.Keeps false s' := by
  unfold execIadd at h
  obtain rfl := Host.Outcome.next.inj h
  repeat' with_reducible first
    | exact State.Keeps.refl _ | assumption | apply keeps_deckIssue

theorem keeps_execImin {s s' : State} {p i : Nat}
    (h : execImin p i s = .next s') : s.Keeps false s' := by
  unfold execImin at h
  obtain rfl := Host.Outcome.next.inj h
  repeat' with_reducible first
    | exact State.Keeps.refl _ | assumption | apply keeps_deckIssue

theorem keeps_execImax {s s' : State} {p i : Nat}
    (h : execImax p i s = .next s') : s.Keeps false s' := by
  unfold execImax at h
  obtain rfl := Host.Outcome.next.inj h
  repeat' with_reducible first
    | exact State.Keeps.refl _ | assumption | apply keeps_deckIssue

theorem keeps_execScansum {s s' : State} {p i : Nat}
    (h : execScansum p i s = .next s') : s.Keeps false s' := by
  unfold execScansum at h
  obtain rfl := Host.Outcome.next.inj h
  repeat' with_reducible first
    | exact State.Keeps.refl _ | assumption | apply keeps_deckIssue

theorem keeps_execScansumx {s s' : State} {p i : Nat}
    (h : execScansumx p i s = .next s') : s.Keeps false s' := by
  unfold execScansumx at h
  obtain rfl := Host.Outcome.next.inj h
  repeat' with_reducible first
    | exact State.Keeps.refl _ | assumption | apply keeps_deckIssue

theorem keeps_execScanmax {s s' : State} {p i : Nat}
    (h : execScanmax p i s = .next s') : s.Keeps false s' := by
  unfold execScanmax at h
  obtain rfl := Host.Outcome.next.inj h
  repeat' with_reducible first
    | exact State.Keeps.refl _ | assumption | apply keeps_deckIssue

theorem keeps_execScanmin {s s' : State} {p i : Nat}
    (h : execScanmin p i s = .next s') : s.Keeps false s' := by
  unfold execScanmin at h
  obtain rfl := Host.Outcome.next.inj h
  repeat' with_reducible first
    | exact State.Keeps.refl _ | assumption | apply keeps_deckIssue

theorem keeps_execIscan {s s' : State} {p i : Nat}
    (h : execIscan p i s = .next s') : s.Keeps false s' := by
  unfold execIscan at h
  obtain rfl := Host.Outcome.next.inj h
  repeat' with_reducible first
    | exact State.Keeps.refl _ | assumption | apply keeps_deckIssue

theorem keeps_execIscanx {s s' : State} {p i : Nat}
    (h : execIscanx p i s = .next s') : s.Keeps false s' := by
  unfold execIscanx at h
  obtain rfl := Host.Outcome.next.inj h
  repeat' with_reducible first
    | exact State.Keeps.refl _ | assumption | apply keeps_deckIssue

theorem keeps_execRsum {s s' : State} {p i : Nat}
    (h : execRsum p i s = .next s') : s.Keeps false s' := by
  unfold execRsum at h
  obtain rfl := Host.Outcome.next.inj h
  repeat' with_reducible first
    | exact State.Keeps.refl _ | assumption | apply keeps_deckIssue

theorem keeps_execRprod {s s' : State} {p i : Nat}
    (h : execRprod p i s = .next s') : s.Keeps false s' := by
  unfold execRprod at h
  obtain rfl := Host.Outcome.next.inj h
  repeat' with_reducible first
    | exact State.Keeps.refl _ | assumption | apply keeps_deckIssue

theorem keeps_execRmax {s s' : State} {p i : Nat}
    (h : execRmax p i s = .next s') : s.Keeps false s' := by
  unfold execRmax at h
  obtain rfl := Host.Outcome.next.inj h
  repeat' with_reducible first
    | exact State.Keeps.refl _ | assumption | apply keeps_deckIssue

theorem keeps_execRmin {s s' : State} {p i : Nat}
    (h : execRmin p i s = .next s') : s.Keeps false s' := by
  unfold execRmin at h
  obtain rfl := Host.Outcome.next.inj h
  repeat' with_reducible first
    | exact State.Keeps.refl _ | assumption | apply keeps_deckIssue

theorem keeps_execRargmax {s s' : State} {p i : Nat}
    (h : execRargmax p i s = .next s') : s.Keeps false s' := by
  unfold execRargmax at h
  obtain rfl := Host.Outcome.next.inj h
  repeat' with_reducible first
    | exact State.Keeps.refl _ | assumption | apply keeps_deckIssue

theorem keeps_execRargmin {s s' : State} {p i : Nat}
    (h : execRargmin p i s = .next s') : s.Keeps false s' := by
  unfold execRargmin at h
  obtain rfl := Host.Outcome.next.inj h
  repeat' with_reducible first
    | exact State.Keeps.refl _ | assumption | apply keeps_deckIssue

theorem keeps_execRcount {s s' : State} {p i : Nat}
    (h : execRcount p i s = .next s') : s.Keeps false s' := by
  unfold execRcount at h
  obtain rfl := Host.Outcome.next.inj h
  repeat' with_reducible first
    | exact State.Keeps.refl _ | assumption | apply keeps_deckIssue

theorem keeps_execRnorm {s s' : State} {p i : Nat}
    (h : execRnorm p i s = .next s') : s.Keeps false s' := by
  unfold execRnorm at h
  obtain rfl := Host.Outcome.next.inj h
  repeat' with_reducible first
    | exact State.Keeps.refl _ | assumption | apply keeps_deckIssue

theorem keeps_execRmean {s s' : State} {p i : Nat}
    (h : execRmean p i s = .next s') : s.Keeps false s' := by
  unfold execRmean at h
  obtain rfl := Host.Outcome.next.inj h
  repeat' with_reducible first
    | exact State.Keeps.refl _ | assumption | apply keeps_deckIssue

theorem keeps_execRssq {s s' : State} {p i : Nat}
    (h : execRssq p i s = .next s') : s.Keeps false s' := by
  unfold execRssq at h
  obtain rfl := Host.Outcome.next.inj h
  repeat' with_reducible first
    | exact State.Keeps.refl _ | assumption | apply keeps_deckIssue

theorem keeps_execIrsum {s s' : State} {p i : Nat}
    (h : execIrsum p i s = .next s') : s.Keeps false s' := by
  unfold execIrsum at h
  obtain rfl := Host.Outcome.next.inj h
  repeat' with_reducible first
    | exact State.Keeps.refl _ | assumption | apply keeps_deckIssue

theorem keeps_execRabr {s s' : State} {p i : Nat}
    (h : execRabr p i s = .next s') : s.Keeps false s' := by
  unfold execRabr at h
  obtain rfl := Host.Outcome.next.inj h
  repeat' with_reducible first
    | exact State.Keeps.refl _ | assumption | apply keeps_deckIssue

theorem keeps_execEasum {s s' : State} {p i : Nat}
    (h : execEasum p i s = .next s') : s.Keeps false s' := by
  unfold execEasum at h
  obtain rfl := Host.Outcome.next.inj h
  repeat' with_reducible first
    | exact State.Keeps.refl _ | assumption | apply keeps_deckIssue

theorem keeps_execEassq {s s' : State} {p i : Nat}
    (h : execEassq p i s = .next s') : s.Keeps false s' := by
  unfold execEassq at h
  obtain rfl := Host.Outcome.next.inj h
  repeat' with_reducible first
    | exact State.Keeps.refl _ | assumption | apply keeps_deckIssue

theorem keeps_execEaout {s s' : State} {p i : Nat}
    (h : execEaout p i s = .next s') : s.Keeps false s' := by
  unfold execEaout at h
  obtain rfl := Host.Outcome.next.inj h
  repeat' with_reducible first
    | exact State.Keeps.refl _ | assumption | apply keeps_deckIssue

theorem keeps_execEanorm {s s' : State} {p i : Nat}
    (h : execEanorm p i s = .next s') : s.Keeps false s' := by
  unfold execEanorm at h
  obtain rfl := Host.Outcome.next.inj h
  repeat' with_reducible first
    | exact State.Keeps.refl _ | assumption | apply keeps_deckIssue

theorem keeps_execEamean {s s' : State} {p i : Nat}
    (h : execEamean p i s = .next s') : s.Keeps false s' := by
  unfold execEamean at h
  obtain rfl := Host.Outcome.next.inj h
  repeat' with_reducible first
    | exact State.Keeps.refl _ | assumption | apply keeps_deckIssue

theorem keeps_execEaclr {s s' : State} {p i : Nat}
    (h : execEaclr p i s = .next s') : s.Keeps false s' := by
  unfold execEaclr at h
  obtain rfl := Host.Outcome.next.inj h
  repeat' with_reducible first
    | exact State.Keeps.refl _ | assumption | apply keeps_deckIssue

theorem keeps_execBadd {s s' : State} {p i : Nat}
    (h : execBadd p i s = .next s') : s.Keeps false s' := by
  unfold execBadd at h
  obtain rfl := Host.Outcome.next.inj h
  repeat' with_reducible first
    | exact State.Keeps.refl _ | assumption | apply keeps_deckIssue

theorem keeps_execBsub {s s' : State} {p i : Nat}
    (h : execBsub p i s = .next s') : s.Keeps false s' := by
  unfold execBsub at h
  obtain rfl := Host.Outcome.next.inj h
  repeat' with_reducible first
    | exact State.Keeps.refl _ | assumption | apply keeps_deckIssue

theorem keeps_execBmul {s s' : State} {p i : Nat}
    (h : execBmul p i s = .next s') : s.Keeps false s' := by
  unfold execBmul at h
  obtain rfl := Host.Outcome.next.inj h
  repeat' with_reducible first
    | exact State.Keeps.refl _ | assumption | apply keeps_deckIssue

theorem keeps_execBfma {s s' : State} {p i : Nat}
    (h : execBfma p i s = .next s') : s.Keeps false s' := by
  unfold execBfma at h
  obtain rfl := Host.Outcome.next.inj h
  repeat' with_reducible first
    | exact State.Keeps.refl _ | assumption | apply keeps_deckIssue

theorem keeps_execBmin {s s' : State} {p i : Nat}
    (h : execBmin p i s = .next s') : s.Keeps false s' := by
  unfold execBmin at h
  obtain rfl := Host.Outcome.next.inj h
  repeat' with_reducible first
    | exact State.Keeps.refl _ | assumption | apply keeps_deckIssue

theorem keeps_execBmax {s s' : State} {p i : Nat}
    (h : execBmax p i s = .next s') : s.Keeps false s' := by
  unfold execBmax at h
  obtain rfl := Host.Outcome.next.inj h
  repeat' with_reducible first
    | exact State.Keeps.refl _ | assumption | apply keeps_deckIssue

theorem keeps_execSets {s s' : State} {p i : Nat}
    (h : execSets p i s = .next s') : s.Keeps false s' := by
  unfold execSets at h
  obtain rfl := Host.Outcome.next.inj h
  repeat' with_reducible first
    | exact State.Keeps.refl _ | assumption | apply keeps_deckIssue

theorem keeps_execLds {s s' : State} {p i : Nat}
    (h : execLds p i s = .next s') : s.Keeps false s' := by
  unfold execLds at h
  obtain rfl := Host.Outcome.next.inj h
  repeat' with_reducible first
    | exact State.Keeps.refl _ | assumption | apply keeps_deckIssue

theorem keeps_execSetvl {s s' : State} {p i : Nat}
    (h : execSetvl p i s = .next s') : s.Keeps false s' := by
  unfold execSetvl at h
  obtain rfl := Host.Outcome.next.inj h
  repeat' with_reducible first
    | exact State.Keeps.refl _ | assumption | apply keeps_deckIssue

theorem keeps_execDstat {s s' : State} {p i : Nat}
    (h : execDstat p i s = .next s') : s.Keeps false s' := by
  unfold execDstat at h
  obtain rfl := Host.Outcome.next.inj h
  repeat' with_reducible first
    | exact State.Keeps.refl _ | assumption | apply keeps_deckIssue

theorem keeps_execDeckExecutionComplete {s s' : State} {p i k : Nat}
    (h : execDeckExecutionComplete p i k s = .next s') : s.Keeps false s' := by
  unfold execDeckExecutionComplete at h
  obtain rfl := Host.Outcome.next.inj h
  repeat' with_reducible first
    | exact State.Keeps.refl _ | assumption | apply keeps_deckComplete

theorem keeps_execWakeComplete {s s' : State} {p i : Nat} {deck : Bool}
    (h : execWakeComplete p i deck s = .next s') : s.Keeps false s' := by
  unfold execWakeComplete at h
  obtain rfl := Host.Outcome.next.inj h
  repeat' with_reducible first
    | exact State.Keeps.refl _ | assumption | apply keeps_wakeComplete

theorem keeps_execBarWrite {s s' : State} {bar off : Nat} {data : List Byte}
    (h : execBarWrite bar off data s = .next s') : s.Keeps false s' := by
  unfold execBarWrite at h
  obtain rfl := Host.Outcome.next.inj h
  repeat' with_reducible first
    | exact State.Keeps.refl _ | assumption | apply keeps_bar0Write | apply keeps_bar2Write | split

theorem keeps_execBarRead {s s' : State} {bar off n : Nat}
    (h : execBarRead bar off n s = .next s') : s.Keeps false s' := by
  unfold execBarRead at h
  obtain rfl := Host.Outcome.next.inj h
  repeat' with_reducible first
    | exact State.Keeps.refl _ | assumption | apply keeps_bar0Read | apply keeps_bar2Read | split

theorem keeps_execHdmRead {s s' : State} {w off : Nat}
    (h : execHdmRead w off s = .next s') : s.Keeps false s' := by
  unfold execHdmRead at h
  obtain rfl := Host.Outcome.next.inj h
  repeat' with_reducible first
    | exact State.Keeps.refl _ | assumption | apply keeps_lineRequest | split

theorem keeps_execHdmWrite {s s' : State} {w off : Nat} {data : List Byte}
    (h : execHdmWrite w off data s = .next s') : s.Keeps false s' := by
  unfold execHdmWrite at h
  obtain rfl := Host.Outcome.next.inj h
  repeat' with_reducible first
    | exact State.Keeps.refl _ | assumption | apply keeps_bump32 | apply keeps_hostLineWrite | split

theorem keeps_execBisnpResponse {s s' : State} {line : Nat} {dirty : Option (List Byte)}
    (h : execBisnpResponse line dirty s = .next s') : s.Keeps false s' := by
  unfold execBisnpResponse at h
  obtain rfl := Host.Outcome.next.inj h
  repeat' with_reducible first
    | exact State.Keeps.refl _ | assumption | apply keeps_snoopResponse

theorem keeps_execSnoop {s s' : State} 
    (h : execSnoop  s = .next s') : s.Keeps κ s' := by
  unfold execSnoop at h
  obtain rfl := Host.Outcome.next.inj h
  repeat' with_reducible first
    | exact State.Keeps.refl _ | assumption | apply keeps_emit | split

theorem keeps_execNotifyComplete {s s' : State} 
    (h : execNotifyComplete  s = .next s') : s.Keeps κ s' := by
  unfold execNotifyComplete at h
  obtain rfl := Host.Outcome.next.inj h
  repeat' with_reducible first
    | exact State.Keeps.refl _ | assumption | apply keeps_now | apply keeps_sendAll | apply keeps_renotify | split
    | apply keeps_foldl | fail_if_no_progress refine keeps_mk (Memory.Kept.refl _) ?_

theorem keeps_execIntHoldoffExpiry {s s' : State} {v : Nat}
    (h : execIntHoldoffExpiry v s = .next s') : s.Keeps κ s' := by
  unfold execIntHoldoffExpiry at h
  obtain rfl := Host.Outcome.next.inj h
  repeat' with_reducible first
    | exact State.Keeps.refl _ | assumption | apply keeps_notifyAll | split
    | fail_if_no_progress refine keeps_mk (Memory.Kept.refl _) ?_

theorem keeps_execIntCauseWrite {s s' : State} {v : Nat}
    (h : execIntCauseWrite v s = .next s') : s.Keeps κ s' := by
  unfold execIntCauseWrite at h
  obtain rfl := Host.Outcome.next.inj h
  repeat' with_reducible first
    | exact State.Keeps.refl _ | assumption | apply keeps_causeWrite | split

theorem keeps_execIntMaskWrite {s s' : State} {v : Nat}
    (h : execIntMaskWrite v s = .next s') : s.Keeps κ s' := by
  unfold execIntMaskWrite at h
  obtain rfl := Host.Outcome.next.inj h
  repeat' with_reducible first
    | exact State.Keeps.refl _ | assumption | apply keeps_maskWrite | split

theorem keeps_execHotReset {s s' : State} 
    (h : execHotReset  s = .next s') : s.Keeps false s' := by
  unfold execHotReset at h
  obtain rfl := Host.Outcome.next.inj h
  repeat' with_reducible first
    | exact State.Keeps.refl _ | assumption | apply keeps_linkGone | split

theorem keeps_execFlr {s s' : State} 
    (h : execFlr  s = .next s') : s.Keeps κ s' := by
  unfold execFlr at h
  obtain rfl := Host.Outcome.next.inj h
  repeat' with_reducible first
    | exact State.Keeps.refl _ | assumption | apply keeps_controllerReset | split

theorem keeps_execCxlReset {s s' : State} 
    (h : execCxlReset  s = .next s') : s.Keeps κ s' := by
  unfold execCxlReset at h
  obtain rfl := Host.Outcome.next.inj h
  repeat' with_reducible first
    | exact State.Keeps.refl _ | assumption | apply keeps_freeLine | apply keeps_tryCxlReset | split
    | apply keeps_foldl | fail_if_no_progress refine keeps_mk (Memory.Kept.refl _) ?_ | intro _

theorem keeps_execD3hot {s s' : State} 
    (h : execD3hot  s = .next s') : s.Keeps κ s' := by
  unfold execD3hot at h
  obtain rfl := Host.Outcome.next.inj h
  repeat' with_reducible first
    | exact State.Keeps.refl _ | assumption | split | fail_if_no_progress refine keeps_mk (Memory.Kept.refl _) ?_

theorem keeps_execD0Entry {s s' : State} 
    (h : execD0Entry  s = .next s') : s.Keeps κ s' := by
  unfold execD0Entry at h
  obtain rfl := Host.Outcome.next.inj h
  repeat' with_reducible first
    | exact State.Keeps.refl _ | assumption | apply keeps_renotify | split
    | fail_if_no_progress refine keeps_mk (Memory.Kept.refl _) ?_

theorem keeps_execHostLinkDown {s s' : State} 
    (h : execHostLinkDown  s = .next s') : s.Keeps false s' := by
  unfold execHostLinkDown at h
  obtain rfl := Host.Outcome.next.inj h
  repeat' with_reducible first
    | exact State.Keeps.refl _ | assumption | apply keeps_bump32 | apply keeps_linkGone | split

theorem keeps_execHostLinkUp {s s' : State} {rate width : Nat} {flit : Bool}
    (h : execHostLinkUp rate width flit s = .next s') : s.Keeps κ s' := by
  unfold execHostLinkUp at h
  obtain rfl := Host.Outcome.next.inj h
  repeat' with_reducible first
    | exact State.Keeps.refl _ | assumption | apply keeps_renotify | split
    | fail_if_no_progress refine keeps_mk (Memory.Kept.refl _) ?_

theorem keeps_execConfigurationRequest {s s' : State} 
    (h : execConfigurationRequest  s = .next s') : s.Keeps κ s' := by
  unfold execConfigurationRequest at h
  obtain rfl := Host.Outcome.next.inj h
  repeat' with_reducible first
    | exact State.Keeps.refl _ | assumption | apply keeps_toll | apply keeps_standby | apply keeps_emit | split

theorem keeps_execIdentify {s s' : State} 
    (h : execIdentify  s = .next s') : s.Keeps κ s' := by
  unfold execIdentify at h
  obtain rfl := Host.Outcome.next.inj h
  repeat' with_reducible first
    | exact State.Keeps.refl _ | assumption | apply keeps_mailbox | apply keeps_mailboxGive | split | intro _

theorem keeps_execBackgroundOperationStatus {s s' : State} 
    (h : execBackgroundOperationStatus  s = .next s') : s.Keeps κ s' := by
  unfold execBackgroundOperationStatus at h
  obtain rfl := Host.Outcome.next.inj h
  repeat' with_reducible first
    | exact State.Keeps.refl _ | assumption | apply keeps_mailbox | apply keeps_mailboxGive | split
    | fail_if_no_progress refine keeps_mk (Memory.Kept.refl _) ?_ | intro _

theorem keeps_execGetEventRecords {s s' : State} {log : Nat}
    (h : execGetEventRecords log s = .next s') : s.Keeps κ s' := by
  unfold execGetEventRecords at h
  obtain rfl := Host.Outcome.next.inj h
  repeat' with_reducible first
    | exact State.Keeps.refl _ | assumption | apply keeps_mailbox | apply keeps_mailboxGive
    | apply keeps_mailboxDone | split | intro _

theorem keeps_execClearEventRecords {s s' : State} {log : Nat} {all : Bool} {n : Nat}
    (h : execClearEventRecords log all n s = .next s') : s.Keeps κ s' := by
  unfold execClearEventRecords at h
  obtain rfl := Host.Outcome.next.inj h
  repeat' with_reducible first
    | exact State.Keeps.refl _ | assumption | apply keeps_mailbox | apply keeps_mailboxDone | split
    | fail_if_no_progress refine keeps_mk (Memory.Kept.refl _) ?_ | intro _

theorem keeps_execGetEventInterruptPolicy {s s' : State} 
    (h : execGetEventInterruptPolicy  s = .next s') : s.Keeps κ s' := by
  unfold execGetEventInterruptPolicy at h
  obtain rfl := Host.Outcome.next.inj h
  repeat' with_reducible first
    | exact State.Keeps.refl _ | assumption | apply keeps_mailbox | apply keeps_mailboxGive | split | intro _

theorem keeps_execSetEventInterruptPolicy {s s' : State} {policy : List Nat}
    (h : execSetEventInterruptPolicy policy s = .next s') : s.Keeps κ s' := by
  unfold execSetEventInterruptPolicy at h
  obtain rfl := Host.Outcome.next.inj h
  repeat' with_reducible first
    | exact State.Keeps.refl _ | assumption | apply keeps_mailbox | apply keeps_mailboxDone | split
    | fail_if_no_progress refine keeps_mk (Memory.Kept.refl _) ?_ | intro _

theorem keeps_execGetFwInfo {s s' : State} 
    (h : execGetFwInfo  s = .next s') : s.Keeps κ s' := by
  unfold execGetFwInfo at h
  obtain rfl := Host.Outcome.next.inj h
  repeat' with_reducible first
    | exact State.Keeps.refl _ | assumption | apply keeps_mailbox | apply keeps_mailboxGive | apply keeps_boot
    | split | intro _

theorem keeps_execTransferFw {s s' : State} {action slot off : Nat} {data : List Byte}
    (h : execTransferFw action slot off data s = .next s') : s.Keeps κ s' := by
  unfold execTransferFw at h
  obtain rfl := Host.Outcome.next.inj h
  repeat' with_reducible first
    | exact State.Keeps.refl _ | assumption | apply keeps_mailbox | apply keeps_transferFw | apply keeps_mailboxDone
    | split | intro _

theorem keeps_execActivateFw {s s' : State} {slot : Nat}
    (h : execActivateFw slot s = .next s') : s.Keeps κ s' := by
  unfold execActivateFw at h
  obtain rfl := Host.Outcome.next.inj h
  repeat' with_reducible first
    | exact State.Keeps.refl _ | assumption | apply keeps_mailbox | apply keeps_activateFw | apply keeps_mailboxDone
    | split | intro _

theorem keeps_execGetTimestamp {s s' : State} 
    (h : execGetTimestamp  s = .next s') : s.Keeps κ s' := by
  unfold execGetTimestamp at h
  obtain rfl := Host.Outcome.next.inj h
  repeat' with_reducible first
    | exact State.Keeps.refl _ | assumption | apply keeps_mailbox | apply keeps_now | apply keeps_mailboxGive
    | split | intro _

theorem keeps_execSetTimestamp {s s' : State} {ns : BitVec 64}
    (h : execSetTimestamp ns s = .next s') : s.Keeps κ s' := by
  unfold execSetTimestamp at h
  obtain rfl := Host.Outcome.next.inj h
  repeat' with_reducible first
    | exact State.Keeps.refl _ | assumption | apply keeps_mailbox | apply keeps_mailboxDone | split
    | fail_if_no_progress refine keeps_mk (Memory.Kept.refl _) ?_ | intro _

theorem keeps_execGetSupportedLogs {s s' : State} 
    (h : execGetSupportedLogs  s = .next s') : s.Keeps κ s' := by
  unfold execGetSupportedLogs at h
  obtain rfl := Host.Outcome.next.inj h
  repeat' with_reducible first
    | exact State.Keeps.refl _ | assumption | apply keeps_mailbox | apply keeps_mailboxGive | split | intro _

theorem keeps_execGetLog {s s' : State} {effects : Bool} {off len : Nat}
    (h : execGetLog effects off len s = .next s') : s.Keeps κ s' := by
  unfold execGetLog at h
  obtain rfl := Host.Outcome.next.inj h
  repeat' with_reducible first
    | exact State.Keeps.refl _ | assumption | apply keeps_mailbox | apply keeps_mailboxGive
    | apply keeps_mailboxDone | split | intro _

theorem moves_execOdRead {s s' : State} {idx sub off len : Nat} {rsv : Bool}
    (h : execOdRead idx sub off len rsv s = .next s') : s.Moves s' := by
  unfold execOdRead at h
  obtain rfl := Host.Outcome.next.inj h
  repeat' with_reducible first
    | exact (State.Keeps.refl _).moves | exact moves_access | exact moves_canWriteAccess | exact moves_writeSeg
    | exact moves_odCommand

theorem moves_execOdWrite {s s' : State} {idx sub off len : Nat} {rsv : Bool} {data : List Byte}
    (h : execOdWrite idx sub off len rsv data s = .next s') : s.Moves s' := by
  unfold execOdWrite at h
  obtain rfl := Host.Outcome.next.inj h
  repeat' with_reducible first
    | exact (State.Keeps.refl _).moves | exact moves_access | exact moves_canWriteAccess | exact moves_writeSeg
    | exact moves_odCommand

theorem moves_execOdWriteSigned {s s' : State} {idx sub off len : Nat} {rsv : Bool} {data : List Byte} {ref : BitVec 64}
    (h : execOdWriteSigned idx sub off len rsv data ref s = .next s') : s.Moves s' := by
  unfold execOdWriteSigned at h
  obtain rfl := Host.Outcome.next.inj h
  repeat' with_reducible first
    | exact (State.Keeps.refl _).moves | exact moves_access | exact moves_canWriteAccess | exact moves_writeSeg
    | exact moves_odCommand

theorem keeps_execWaitTimeout {s s' : State} {p q k : Nat}
    (h : execWaitTimeout p q k s = .next s') : s.Keeps false s' := by
  unfold execWaitTimeout at h
  obtain rfl := Host.Outcome.next.inj h
  repeat' with_reducible first
    | exact State.Keeps.refl _ | assumption | apply keeps_timeout | split

end Sys2Proof.Machine
end

