-- ==== Sys2Proof/Laws/State.lean ====
section
/-! SUPPORT. What each plain update of the state leaves, field by field, and the reads of one Pier after it. -/

namespace Sys2Proof.Machine

@[simp] theorem State.setByte_mem (s : State) (k : Nat) (b : Byte) : (s.setByte k b).mem = Tab.set 0 s.mem k b := rfl
@[simp] theorem State.setByte_errs (s : State) (k : Nat) (b : Byte) : (s.setByte k b).errs = s.errs := rfl
@[simp] theorem State.setByte_od (s : State) (k : Nat) (b : Byte) : (s.setByte k b).od = s.od := rfl
@[simp] theorem State.setByte_env (s : State) (k : Nat) (b : Byte) : (s.setByte k b).env = s.env := rfl
@[simp] theorem State.setByte_sel (s : State) (k : Nat) (b : Byte) : (s.setByte k b).sel = s.sel := rfl
@[simp] theorem State.setByte_watch (s : State) (k : Nat) (b : Byte) : (s.setByte k b).watch = s.watch := rfl
@[simp] theorem State.setByte_once (s : State) (k : Nat) (b : Byte) : (s.setByte k b).once = s.once := rfl
@[simp] theorem State.setByte_seqs (s : State) (k : Nat) (b : Byte) : (s.setByte k b).seqs = s.seqs := rfl
@[simp] theorem State.setByte_p0 (s : State) (k : Nat) (b : Byte) : (s.setByte k b).p0 = s.p0 := rfl
@[simp] theorem State.setByte_p1 (s : State) (k : Nat) (b : Byte) : (s.setByte k b).p1 = s.p1 := rfl
@[simp] theorem State.setByte_arb (s : State) (k : Nat) (b : Byte) : (s.setByte k b).arb = s.arb := rfl
@[simp] theorem State.setByte_fab (s : State) (k : Nat) (b : Byte) : (s.setByte k b).fab = s.fab := rfl
@[simp] theorem State.setByte_commit (s : State) (k : Nat) (b : Byte) : (s.setByte k b).commit = s.commit := rfl
@[simp] theorem State.setByte_upd (s : State) (k : Nat) (b : Byte) : (s.setByte k b).upd = s.upd := rfl
@[simp] theorem State.setByte_slowFailed (s : State) (k : Nat) (b : Byte) : (s.setByte k b).slowFailed = s.slowFailed := rfl
@[simp] theorem State.setByte_mirrorDropped (s : State) (k : Nat) (b : Byte) : (s.setByte k b).mirrorDropped = s.mirrorDropped := rfl
@[simp] theorem State.setByte_host (s : State) (k : Nat) (b : Byte) : (s.setByte k b).host = s.host := rfl
@[simp] theorem State.setByte_power (s : State) (k : Nat) (b : Byte) : (s.setByte k b).power = s.power := rfl
@[simp] theorem State.setByte_can (s : State) (k : Nat) (b : Byte) : (s.setByte k b).can = s.can := rfl
@[simp] theorem State.setByte_sec (s : State) (k : Nat) (b : Byte) : (s.setByte k b).sec = s.sec := rfl
@[simp] theorem State.setByte_dict (s : State) (k : Nat) (b : Byte) : (s.setByte k b).dict = s.dict := rfl
@[simp] theorem State.setByte_fuses (s : State) (k : Nat) (b : Byte) : (s.setByte k b).fuses = s.fuses := rfl
@[simp] theorem State.setByte_free (s : State) (k : Nat) (b : Byte) : (s.setByte k b).free = s.free := rfl
@[simp] theorem State.setByte_ceMarks (s : State) (k : Nat) (b : Byte) : (s.setByte k b).ceMarks = s.ceMarks := rfl
@[simp] theorem State.setByte_hours (s : State) (k : Nat) (b : Byte) : (s.setByte k b).hours = s.hours := rfl
@[simp] theorem State.setByte_out (s : State) (k : Nat) (b : Byte) : (s.setByte k b).out = s.out := rfl
@[simp] theorem State.setByte_pending (s : State) (k : Nat) (b : Byte) : (s.setByte k b).pending = s.pending := rfl

@[simp] theorem State.setOd_mem (s : State) (i x k v : Nat) : (s.setOd i x k v).mem = s.mem := rfl
@[simp] theorem State.setOd_errs (s : State) (i x k v : Nat) : (s.setOd i x k v).errs = s.errs := rfl
@[simp] theorem State.setOd_od (s : State) (i x k v : Nat) : (s.setOd i x k v).od = Tab.set 0 s.od (odk i x k) v := rfl
@[simp] theorem State.setOd_env (s : State) (i x k v : Nat) : (s.setOd i x k v).env = s.env := rfl
@[simp] theorem State.setOd_sel (s : State) (i x k v : Nat) : (s.setOd i x k v).sel = s.sel := rfl
@[simp] theorem State.setOd_watch (s : State) (i x k v : Nat) : (s.setOd i x k v).watch = s.watch := rfl
@[simp] theorem State.setOd_once (s : State) (i x k v : Nat) : (s.setOd i x k v).once = s.once := rfl
@[simp] theorem State.setOd_seqs (s : State) (i x k v : Nat) : (s.setOd i x k v).seqs = s.seqs := rfl
@[simp] theorem State.setOd_p0 (s : State) (i x k v : Nat) : (s.setOd i x k v).p0 = s.p0 := rfl
@[simp] theorem State.setOd_p1 (s : State) (i x k v : Nat) : (s.setOd i x k v).p1 = s.p1 := rfl
@[simp] theorem State.setOd_arb (s : State) (i x k v : Nat) : (s.setOd i x k v).arb = s.arb := rfl
@[simp] theorem State.setOd_fab (s : State) (i x k v : Nat) : (s.setOd i x k v).fab = s.fab := rfl
@[simp] theorem State.setOd_commit (s : State) (i x k v : Nat) : (s.setOd i x k v).commit = s.commit := rfl
@[simp] theorem State.setOd_upd (s : State) (i x k v : Nat) : (s.setOd i x k v).upd = s.upd := rfl
@[simp] theorem State.setOd_slowFailed (s : State) (i x k v : Nat) : (s.setOd i x k v).slowFailed = s.slowFailed := rfl
@[simp] theorem State.setOd_mirrorDropped (s : State) (i x k v : Nat) : (s.setOd i x k v).mirrorDropped = s.mirrorDropped := rfl
@[simp] theorem State.setOd_host (s : State) (i x k v : Nat) : (s.setOd i x k v).host = s.host := rfl
@[simp] theorem State.setOd_power (s : State) (i x k v : Nat) : (s.setOd i x k v).power = s.power := rfl
@[simp] theorem State.setOd_can (s : State) (i x k v : Nat) : (s.setOd i x k v).can = s.can := rfl
@[simp] theorem State.setOd_sec (s : State) (i x k v : Nat) : (s.setOd i x k v).sec = s.sec := rfl
@[simp] theorem State.setOd_dict (s : State) (i x k v : Nat) : (s.setOd i x k v).dict = s.dict := rfl
@[simp] theorem State.setOd_fuses (s : State) (i x k v : Nat) : (s.setOd i x k v).fuses = s.fuses := rfl
@[simp] theorem State.setOd_free (s : State) (i x k v : Nat) : (s.setOd i x k v).free = s.free := rfl
@[simp] theorem State.setOd_ceMarks (s : State) (i x k v : Nat) : (s.setOd i x k v).ceMarks = s.ceMarks := rfl
@[simp] theorem State.setOd_hours (s : State) (i x k v : Nat) : (s.setOd i x k v).hours = s.hours := rfl
@[simp] theorem State.setOd_out (s : State) (i x k v : Nat) : (s.setOd i x k v).out = s.out := rfl
@[simp] theorem State.setOd_pending (s : State) (i x k v : Nat) : (s.setOd i x k v).pending = s.pending := rfl

@[simp] theorem State.emit_mem (s : State) (o : Out) : (s.emit o).mem = s.mem := rfl
@[simp] theorem State.emit_errs (s : State) (o : Out) : (s.emit o).errs = s.errs := rfl
@[simp] theorem State.emit_od (s : State) (o : Out) : (s.emit o).od = s.od := rfl
@[simp] theorem State.emit_env (s : State) (o : Out) : (s.emit o).env = s.env := rfl
@[simp] theorem State.emit_sel (s : State) (o : Out) : (s.emit o).sel = s.sel := rfl
@[simp] theorem State.emit_watch (s : State) (o : Out) : (s.emit o).watch = s.watch := rfl
@[simp] theorem State.emit_once (s : State) (o : Out) : (s.emit o).once = s.once := rfl
@[simp] theorem State.emit_seqs (s : State) (o : Out) : (s.emit o).seqs = s.seqs := rfl
@[simp] theorem State.emit_p0 (s : State) (o : Out) : (s.emit o).p0 = s.p0 := rfl
@[simp] theorem State.emit_p1 (s : State) (o : Out) : (s.emit o).p1 = s.p1 := rfl
@[simp] theorem State.emit_arb (s : State) (o : Out) : (s.emit o).arb = s.arb := rfl
@[simp] theorem State.emit_fab (s : State) (o : Out) : (s.emit o).fab = s.fab := rfl
@[simp] theorem State.emit_commit (s : State) (o : Out) : (s.emit o).commit = s.commit := rfl
@[simp] theorem State.emit_upd (s : State) (o : Out) : (s.emit o).upd = s.upd := rfl
@[simp] theorem State.emit_slowFailed (s : State) (o : Out) : (s.emit o).slowFailed = s.slowFailed := rfl
@[simp] theorem State.emit_mirrorDropped (s : State) (o : Out) : (s.emit o).mirrorDropped = s.mirrorDropped := rfl
@[simp] theorem State.emit_host (s : State) (o : Out) : (s.emit o).host = s.host := rfl
@[simp] theorem State.emit_power (s : State) (o : Out) : (s.emit o).power = s.power := rfl
@[simp] theorem State.emit_can (s : State) (o : Out) : (s.emit o).can = s.can := rfl
@[simp] theorem State.emit_sec (s : State) (o : Out) : (s.emit o).sec = s.sec := rfl
@[simp] theorem State.emit_dict (s : State) (o : Out) : (s.emit o).dict = s.dict := rfl
@[simp] theorem State.emit_fuses (s : State) (o : Out) : (s.emit o).fuses = s.fuses := rfl
@[simp] theorem State.emit_free (s : State) (o : Out) : (s.emit o).free = s.free := rfl
@[simp] theorem State.emit_ceMarks (s : State) (o : Out) : (s.emit o).ceMarks = s.ceMarks := rfl
@[simp] theorem State.emit_hours (s : State) (o : Out) : (s.emit o).hours = s.hours := rfl
@[simp] theorem State.emit_out (s : State) (o : Out) : (s.emit o).out = s.out ++ [o] := rfl
@[simp] theorem State.emit_pending (s : State) (o : Out) : (s.emit o).pending = s.pending := rfl

@[simp] theorem State.setOnce_mem (s : State) (k i : Nat) : (s.setOnce k i).mem = s.mem := rfl
@[simp] theorem State.setOnce_errs (s : State) (k i : Nat) : (s.setOnce k i).errs = s.errs := rfl
@[simp] theorem State.setOnce_od (s : State) (k i : Nat) : (s.setOnce k i).od = s.od := rfl
@[simp] theorem State.setOnce_env (s : State) (k i : Nat) : (s.setOnce k i).env = s.env := rfl
@[simp] theorem State.setOnce_sel (s : State) (k i : Nat) : (s.setOnce k i).sel = s.sel := rfl
@[simp] theorem State.setOnce_watch (s : State) (k i : Nat) : (s.setOnce k i).watch = s.watch := rfl
@[simp] theorem State.setOnce_once (s : State) (k i : Nat) : (s.setOnce k i).once = Tab.set 0 s.once (k * 2 ^ 40 + i) 1 := rfl
@[simp] theorem State.setOnce_seqs (s : State) (k i : Nat) : (s.setOnce k i).seqs = s.seqs := rfl
@[simp] theorem State.setOnce_p0 (s : State) (k i : Nat) : (s.setOnce k i).p0 = s.p0 := rfl
@[simp] theorem State.setOnce_p1 (s : State) (k i : Nat) : (s.setOnce k i).p1 = s.p1 := rfl
@[simp] theorem State.setOnce_arb (s : State) (k i : Nat) : (s.setOnce k i).arb = s.arb := rfl
@[simp] theorem State.setOnce_fab (s : State) (k i : Nat) : (s.setOnce k i).fab = s.fab := rfl
@[simp] theorem State.setOnce_commit (s : State) (k i : Nat) : (s.setOnce k i).commit = s.commit := rfl
@[simp] theorem State.setOnce_upd (s : State) (k i : Nat) : (s.setOnce k i).upd = s.upd := rfl
@[simp] theorem State.setOnce_slowFailed (s : State) (k i : Nat) : (s.setOnce k i).slowFailed = s.slowFailed := rfl
@[simp] theorem State.setOnce_mirrorDropped (s : State) (k i : Nat) : (s.setOnce k i).mirrorDropped = s.mirrorDropped := rfl
@[simp] theorem State.setOnce_host (s : State) (k i : Nat) : (s.setOnce k i).host = s.host := rfl
@[simp] theorem State.setOnce_power (s : State) (k i : Nat) : (s.setOnce k i).power = s.power := rfl
@[simp] theorem State.setOnce_can (s : State) (k i : Nat) : (s.setOnce k i).can = s.can := rfl
@[simp] theorem State.setOnce_sec (s : State) (k i : Nat) : (s.setOnce k i).sec = s.sec := rfl
@[simp] theorem State.setOnce_dict (s : State) (k i : Nat) : (s.setOnce k i).dict = s.dict := rfl
@[simp] theorem State.setOnce_fuses (s : State) (k i : Nat) : (s.setOnce k i).fuses = s.fuses := rfl
@[simp] theorem State.setOnce_free (s : State) (k i : Nat) : (s.setOnce k i).free = s.free := rfl
@[simp] theorem State.setOnce_ceMarks (s : State) (k i : Nat) : (s.setOnce k i).ceMarks = s.ceMarks := rfl
@[simp] theorem State.setOnce_hours (s : State) (k i : Nat) : (s.setOnce k i).hours = s.hours := rfl
@[simp] theorem State.setOnce_out (s : State) (k i : Nat) : (s.setOnce k i).out = s.out := rfl
@[simp] theorem State.setOnce_pending (s : State) (k i : Nat) : (s.setOnce k i).pending = s.pending := rfl

@[simp] theorem State.advSeq_mem (s : State) (r : Ring) : (s.advSeq r).mem = s.mem := rfl
@[simp] theorem State.advSeq_errs (s : State) (r : Ring) : (s.advSeq r).errs = s.errs := rfl
@[simp] theorem State.advSeq_od (s : State) (r : Ring) : (s.advSeq r).od = s.od := rfl
@[simp] theorem State.advSeq_env (s : State) (r : Ring) : (s.advSeq r).env = s.env := rfl
@[simp] theorem State.advSeq_sel (s : State) (r : Ring) : (s.advSeq r).sel = s.sel := rfl
@[simp] theorem State.advSeq_watch (s : State) (r : Ring) : (s.advSeq r).watch = s.watch := rfl
@[simp] theorem State.advSeq_once (s : State) (r : Ring) : (s.advSeq r).once = s.once := rfl
@[simp] theorem State.advSeq_seqs (s : State) (r : Ring) : (s.advSeq r).seqs = Tab.set 0 s.seqs r.seqKey (wrap32 (s.seq r + 1)) := rfl
@[simp] theorem State.advSeq_p0 (s : State) (r : Ring) : (s.advSeq r).p0 = s.p0 := rfl
@[simp] theorem State.advSeq_p1 (s : State) (r : Ring) : (s.advSeq r).p1 = s.p1 := rfl
@[simp] theorem State.advSeq_arb (s : State) (r : Ring) : (s.advSeq r).arb = s.arb := rfl
@[simp] theorem State.advSeq_fab (s : State) (r : Ring) : (s.advSeq r).fab = s.fab := rfl
@[simp] theorem State.advSeq_commit (s : State) (r : Ring) : (s.advSeq r).commit = s.commit := rfl
@[simp] theorem State.advSeq_upd (s : State) (r : Ring) : (s.advSeq r).upd = s.upd := rfl
@[simp] theorem State.advSeq_slowFailed (s : State) (r : Ring) : (s.advSeq r).slowFailed = s.slowFailed := rfl
@[simp] theorem State.advSeq_mirrorDropped (s : State) (r : Ring) : (s.advSeq r).mirrorDropped = s.mirrorDropped := rfl
@[simp] theorem State.advSeq_host (s : State) (r : Ring) : (s.advSeq r).host = s.host := rfl
@[simp] theorem State.advSeq_power (s : State) (r : Ring) : (s.advSeq r).power = s.power := rfl
@[simp] theorem State.advSeq_can (s : State) (r : Ring) : (s.advSeq r).can = s.can := rfl
@[simp] theorem State.advSeq_sec (s : State) (r : Ring) : (s.advSeq r).sec = s.sec := rfl
@[simp] theorem State.advSeq_dict (s : State) (r : Ring) : (s.advSeq r).dict = s.dict := rfl
@[simp] theorem State.advSeq_fuses (s : State) (r : Ring) : (s.advSeq r).fuses = s.fuses := rfl
@[simp] theorem State.advSeq_free (s : State) (r : Ring) : (s.advSeq r).free = s.free := rfl
@[simp] theorem State.advSeq_ceMarks (s : State) (r : Ring) : (s.advSeq r).ceMarks = s.ceMarks := rfl
@[simp] theorem State.advSeq_hours (s : State) (r : Ring) : (s.advSeq r).hours = s.hours := rfl
@[simp] theorem State.advSeq_out (s : State) (r : Ring) : (s.advSeq r).out = s.out := rfl
@[simp] theorem State.advSeq_pending (s : State) (r : Ring) : (s.advSeq r).pending = s.pending := rfl

@[simp] theorem State.setCluster_mem (s : State) (c : Nat) (v : ClusterState) : (s.setCluster c v).mem = s.mem := rfl
@[simp] theorem State.setCluster_errs (s : State) (c : Nat) (v : ClusterState) : (s.setCluster c v).errs = s.errs := rfl
@[simp] theorem State.setCluster_od (s : State) (c : Nat) (v : ClusterState) : (s.setCluster c v).od = s.od := rfl
@[simp] theorem State.setCluster_env (s : State) (c : Nat) (v : ClusterState) : (s.setCluster c v).env = s.env := rfl
@[simp] theorem State.setCluster_sel (s : State) (c : Nat) (v : ClusterState) : (s.setCluster c v).sel = s.sel := rfl
@[simp] theorem State.setCluster_watch (s : State) (c : Nat) (v : ClusterState) : (s.setCluster c v).watch = s.watch := rfl
@[simp] theorem State.setCluster_once (s : State) (c : Nat) (v : ClusterState) : (s.setCluster c v).once = s.once := rfl
@[simp] theorem State.setCluster_seqs (s : State) (c : Nat) (v : ClusterState) : (s.setCluster c v).seqs = s.seqs := rfl
@[simp] theorem State.setCluster_p0 (s : State) (c : Nat) (v : ClusterState) : (s.setCluster c v).p0 = s.p0 := rfl
@[simp] theorem State.setCluster_p1 (s : State) (c : Nat) (v : ClusterState) : (s.setCluster c v).p1 = s.p1 := rfl
@[simp] theorem State.setCluster_arb (s : State) (c : Nat) (v : ClusterState) : (s.setCluster c v).arb = s.arb := rfl
@[simp] theorem State.setCluster_fab (s : State) (c : Nat) (v : ClusterState) : (s.setCluster c v).fab = s.fab := rfl
@[simp] theorem State.setCluster_commit (s : State) (c : Nat) (v : ClusterState) : (s.setCluster c v).commit = s.commit := rfl
@[simp] theorem State.setCluster_upd (s : State) (c : Nat) (v : ClusterState) : (s.setCluster c v).upd = s.upd := rfl
@[simp] theorem State.setCluster_slowFailed (s : State) (c : Nat) (v : ClusterState) : (s.setCluster c v).slowFailed = s.slowFailed := rfl
@[simp] theorem State.setCluster_mirrorDropped (s : State) (c : Nat) (v : ClusterState) : (s.setCluster c v).mirrorDropped = s.mirrorDropped := rfl
@[simp] theorem State.setCluster_host (s : State) (c : Nat) (v : ClusterState) : (s.setCluster c v).host = s.host := rfl
@[simp] theorem State.setCluster_can (s : State) (c : Nat) (v : ClusterState) : (s.setCluster c v).can = s.can := rfl
@[simp] theorem State.setCluster_sec (s : State) (c : Nat) (v : ClusterState) : (s.setCluster c v).sec = s.sec := rfl
@[simp] theorem State.setCluster_dict (s : State) (c : Nat) (v : ClusterState) : (s.setCluster c v).dict = s.dict := rfl
@[simp] theorem State.setCluster_fuses (s : State) (c : Nat) (v : ClusterState) : (s.setCluster c v).fuses = s.fuses := rfl
@[simp] theorem State.setCluster_free (s : State) (c : Nat) (v : ClusterState) : (s.setCluster c v).free = s.free := rfl
@[simp] theorem State.setCluster_ceMarks (s : State) (c : Nat) (v : ClusterState) : (s.setCluster c v).ceMarks = s.ceMarks := rfl
@[simp] theorem State.setCluster_hours (s : State) (c : Nat) (v : ClusterState) : (s.setCluster c v).hours = s.hours := rfl
@[simp] theorem State.setCluster_out (s : State) (c : Nat) (v : ClusterState) : (s.setCluster c v).out = s.out := rfl
@[simp] theorem State.setCluster_pending (s : State) (c : Nat) (v : ClusterState) : (s.setCluster c v).pending = s.pending := rfl

@[simp] theorem State.setArbInst_mem (s : State) (c n : Nat) (a : ArbInst) : (s.setArbInst c n a).mem = s.mem := rfl
@[simp] theorem State.setArbInst_errs (s : State) (c n : Nat) (a : ArbInst) : (s.setArbInst c n a).errs = s.errs := rfl
@[simp] theorem State.setArbInst_od (s : State) (c n : Nat) (a : ArbInst) : (s.setArbInst c n a).od = s.od := rfl
@[simp] theorem State.setArbInst_env (s : State) (c n : Nat) (a : ArbInst) : (s.setArbInst c n a).env = s.env := rfl
@[simp] theorem State.setArbInst_sel (s : State) (c n : Nat) (a : ArbInst) : (s.setArbInst c n a).sel = s.sel := rfl
@[simp] theorem State.setArbInst_watch (s : State) (c n : Nat) (a : ArbInst) : (s.setArbInst c n a).watch = s.watch := rfl
@[simp] theorem State.setArbInst_once (s : State) (c n : Nat) (a : ArbInst) : (s.setArbInst c n a).once = s.once := rfl
@[simp] theorem State.setArbInst_seqs (s : State) (c n : Nat) (a : ArbInst) : (s.setArbInst c n a).seqs = s.seqs := rfl
@[simp] theorem State.setArbInst_p0 (s : State) (c n : Nat) (a : ArbInst) : (s.setArbInst c n a).p0 = s.p0 := rfl
@[simp] theorem State.setArbInst_p1 (s : State) (c n : Nat) (a : ArbInst) : (s.setArbInst c n a).p1 = s.p1 := rfl
@[simp] theorem State.setArbInst_fab (s : State) (c n : Nat) (a : ArbInst) : (s.setArbInst c n a).fab = s.fab := rfl
@[simp] theorem State.setArbInst_commit (s : State) (c n : Nat) (a : ArbInst) : (s.setArbInst c n a).commit = s.commit := rfl
@[simp] theorem State.setArbInst_upd (s : State) (c n : Nat) (a : ArbInst) : (s.setArbInst c n a).upd = s.upd := rfl
@[simp] theorem State.setArbInst_slowFailed (s : State) (c n : Nat) (a : ArbInst) : (s.setArbInst c n a).slowFailed = s.slowFailed := rfl
@[simp] theorem State.setArbInst_mirrorDropped (s : State) (c n : Nat) (a : ArbInst) : (s.setArbInst c n a).mirrorDropped = s.mirrorDropped := rfl
@[simp] theorem State.setArbInst_host (s : State) (c n : Nat) (a : ArbInst) : (s.setArbInst c n a).host = s.host := rfl
@[simp] theorem State.setArbInst_power (s : State) (c n : Nat) (a : ArbInst) : (s.setArbInst c n a).power = s.power := rfl
@[simp] theorem State.setArbInst_can (s : State) (c n : Nat) (a : ArbInst) : (s.setArbInst c n a).can = s.can := rfl
@[simp] theorem State.setArbInst_sec (s : State) (c n : Nat) (a : ArbInst) : (s.setArbInst c n a).sec = s.sec := rfl
@[simp] theorem State.setArbInst_dict (s : State) (c n : Nat) (a : ArbInst) : (s.setArbInst c n a).dict = s.dict := rfl
@[simp] theorem State.setArbInst_fuses (s : State) (c n : Nat) (a : ArbInst) : (s.setArbInst c n a).fuses = s.fuses := rfl
@[simp] theorem State.setArbInst_free (s : State) (c n : Nat) (a : ArbInst) : (s.setArbInst c n a).free = s.free := rfl
@[simp] theorem State.setArbInst_ceMarks (s : State) (c n : Nat) (a : ArbInst) : (s.setArbInst c n a).ceMarks = s.ceMarks := rfl
@[simp] theorem State.setArbInst_hours (s : State) (c n : Nat) (a : ArbInst) : (s.setArbInst c n a).hours = s.hours := rfl
@[simp] theorem State.setArbInst_out (s : State) (c n : Nat) (a : ArbInst) : (s.setArbInst c n a).out = s.out := rfl
@[simp] theorem State.setArbInst_pending (s : State) (c n : Nat) (a : ArbInst) : (s.setArbInst c n a).pending = s.pending := rfl

@[simp] theorem State.watchSet_mem (s : State) (p b i c v : Nat) : (s.watchSet p b i c v).mem = s.mem := rfl
@[simp] theorem State.watchSet_errs (s : State) (p b i c v : Nat) : (s.watchSet p b i c v).errs = s.errs := rfl
@[simp] theorem State.watchSet_od (s : State) (p b i c v : Nat) : (s.watchSet p b i c v).od = s.od := rfl
@[simp] theorem State.watchSet_env (s : State) (p b i c v : Nat) : (s.watchSet p b i c v).env = s.env := rfl
@[simp] theorem State.watchSet_sel (s : State) (p b i c v : Nat) : (s.watchSet p b i c v).sel = s.sel := rfl
@[simp] theorem State.watchSet_once (s : State) (p b i c v : Nat) : (s.watchSet p b i c v).once = s.once := rfl
@[simp] theorem State.watchSet_seqs (s : State) (p b i c v : Nat) : (s.watchSet p b i c v).seqs = s.seqs := rfl
@[simp] theorem State.watchSet_p0 (s : State) (p b i c v : Nat) : (s.watchSet p b i c v).p0 = s.p0 := rfl
@[simp] theorem State.watchSet_p1 (s : State) (p b i c v : Nat) : (s.watchSet p b i c v).p1 = s.p1 := rfl
@[simp] theorem State.watchSet_arb (s : State) (p b i c v : Nat) : (s.watchSet p b i c v).arb = s.arb := rfl
@[simp] theorem State.watchSet_fab (s : State) (p b i c v : Nat) : (s.watchSet p b i c v).fab = s.fab := rfl
@[simp] theorem State.watchSet_commit (s : State) (p b i c v : Nat) : (s.watchSet p b i c v).commit = s.commit := rfl
@[simp] theorem State.watchSet_upd (s : State) (p b i c v : Nat) : (s.watchSet p b i c v).upd = s.upd := rfl
@[simp] theorem State.watchSet_slowFailed (s : State) (p b i c v : Nat) : (s.watchSet p b i c v).slowFailed = s.slowFailed := rfl
@[simp] theorem State.watchSet_mirrorDropped (s : State) (p b i c v : Nat) : (s.watchSet p b i c v).mirrorDropped = s.mirrorDropped := rfl
@[simp] theorem State.watchSet_host (s : State) (p b i c v : Nat) : (s.watchSet p b i c v).host = s.host := rfl
@[simp] theorem State.watchSet_power (s : State) (p b i c v : Nat) : (s.watchSet p b i c v).power = s.power := rfl
@[simp] theorem State.watchSet_can (s : State) (p b i c v : Nat) : (s.watchSet p b i c v).can = s.can := rfl
@[simp] theorem State.watchSet_sec (s : State) (p b i c v : Nat) : (s.watchSet p b i c v).sec = s.sec := rfl
@[simp] theorem State.watchSet_dict (s : State) (p b i c v : Nat) : (s.watchSet p b i c v).dict = s.dict := rfl
@[simp] theorem State.watchSet_fuses (s : State) (p b i c v : Nat) : (s.watchSet p b i c v).fuses = s.fuses := rfl
@[simp] theorem State.watchSet_free (s : State) (p b i c v : Nat) : (s.watchSet p b i c v).free = s.free := rfl
@[simp] theorem State.watchSet_ceMarks (s : State) (p b i c v : Nat) : (s.watchSet p b i c v).ceMarks = s.ceMarks := rfl
@[simp] theorem State.watchSet_hours (s : State) (p b i c v : Nat) : (s.watchSet p b i c v).hours = s.hours := rfl
@[simp] theorem State.watchSet_out (s : State) (p b i c v : Nat) : (s.watchSet p b i c v).out = s.out := rfl
@[simp] theorem State.watchSet_pending (s : State) (p b i c v : Nat) : (s.watchSet p b i c v).pending = s.pending := rfl

@[simp] theorem State.setPort_mem (s : State) (k : Nat) (v : Port) : (s.setPort k v).mem = s.mem := rfl
@[simp] theorem State.setPort_errs (s : State) (k : Nat) (v : Port) : (s.setPort k v).errs = s.errs := rfl
@[simp] theorem State.setPort_od (s : State) (k : Nat) (v : Port) : (s.setPort k v).od = s.od := rfl
@[simp] theorem State.setPort_env (s : State) (k : Nat) (v : Port) : (s.setPort k v).env = s.env := rfl
@[simp] theorem State.setPort_sel (s : State) (k : Nat) (v : Port) : (s.setPort k v).sel = s.sel := rfl
@[simp] theorem State.setPort_watch (s : State) (k : Nat) (v : Port) : (s.setPort k v).watch = s.watch := rfl
@[simp] theorem State.setPort_once (s : State) (k : Nat) (v : Port) : (s.setPort k v).once = s.once := rfl
@[simp] theorem State.setPort_seqs (s : State) (k : Nat) (v : Port) : (s.setPort k v).seqs = s.seqs := rfl
@[simp] theorem State.setPort_p0 (s : State) (k : Nat) (v : Port) : (s.setPort k v).p0 = s.p0 := rfl
@[simp] theorem State.setPort_p1 (s : State) (k : Nat) (v : Port) : (s.setPort k v).p1 = s.p1 := rfl
@[simp] theorem State.setPort_arb (s : State) (k : Nat) (v : Port) : (s.setPort k v).arb = s.arb := rfl
@[simp] theorem State.setPort_commit (s : State) (k : Nat) (v : Port) : (s.setPort k v).commit = s.commit := rfl
@[simp] theorem State.setPort_upd (s : State) (k : Nat) (v : Port) : (s.setPort k v).upd = s.upd := rfl
@[simp] theorem State.setPort_slowFailed (s : State) (k : Nat) (v : Port) : (s.setPort k v).slowFailed = s.slowFailed := rfl
@[simp] theorem State.setPort_mirrorDropped (s : State) (k : Nat) (v : Port) : (s.setPort k v).mirrorDropped = s.mirrorDropped := rfl
@[simp] theorem State.setPort_host (s : State) (k : Nat) (v : Port) : (s.setPort k v).host = s.host := rfl
@[simp] theorem State.setPort_power (s : State) (k : Nat) (v : Port) : (s.setPort k v).power = s.power := rfl
@[simp] theorem State.setPort_can (s : State) (k : Nat) (v : Port) : (s.setPort k v).can = s.can := rfl
@[simp] theorem State.setPort_sec (s : State) (k : Nat) (v : Port) : (s.setPort k v).sec = s.sec := rfl
@[simp] theorem State.setPort_dict (s : State) (k : Nat) (v : Port) : (s.setPort k v).dict = s.dict := rfl
@[simp] theorem State.setPort_fuses (s : State) (k : Nat) (v : Port) : (s.setPort k v).fuses = s.fuses := rfl
@[simp] theorem State.setPort_free (s : State) (k : Nat) (v : Port) : (s.setPort k v).free = s.free := rfl
@[simp] theorem State.setPort_ceMarks (s : State) (k : Nat) (v : Port) : (s.setPort k v).ceMarks = s.ceMarks := rfl
@[simp] theorem State.setPort_hours (s : State) (k : Nat) (v : Port) : (s.setPort k v).hours = s.hours := rfl
@[simp] theorem State.setPort_out (s : State) (k : Nat) (v : Port) : (s.setPort k v).out = s.out := rfl
@[simp] theorem State.setPort_pending (s : State) (k : Nat) (v : Port) : (s.setPort k v).pending = s.pending := rfl

@[simp] theorem State.zeroRun_mem (s : State) (k n : Nat) : (s.zeroRun k n).mem = Tab.without k n s.mem := rfl
@[simp] theorem State.zeroRun_errs (s : State) (k n : Nat) : (s.zeroRun k n).errs = s.errs := rfl
@[simp] theorem State.zeroRun_od (s : State) (k n : Nat) : (s.zeroRun k n).od = s.od := rfl
@[simp] theorem State.zeroRun_env (s : State) (k n : Nat) : (s.zeroRun k n).env = s.env := rfl
@[simp] theorem State.zeroRun_sel (s : State) (k n : Nat) : (s.zeroRun k n).sel = s.sel := rfl
@[simp] theorem State.zeroRun_watch (s : State) (k n : Nat) : (s.zeroRun k n).watch = s.watch := rfl
@[simp] theorem State.zeroRun_once (s : State) (k n : Nat) : (s.zeroRun k n).once = s.once := rfl
@[simp] theorem State.zeroRun_seqs (s : State) (k n : Nat) : (s.zeroRun k n).seqs = s.seqs := rfl
@[simp] theorem State.zeroRun_p0 (s : State) (k n : Nat) : (s.zeroRun k n).p0 = s.p0 := rfl
@[simp] theorem State.zeroRun_p1 (s : State) (k n : Nat) : (s.zeroRun k n).p1 = s.p1 := rfl
@[simp] theorem State.zeroRun_arb (s : State) (k n : Nat) : (s.zeroRun k n).arb = s.arb := rfl
@[simp] theorem State.zeroRun_fab (s : State) (k n : Nat) : (s.zeroRun k n).fab = s.fab := rfl
@[simp] theorem State.zeroRun_commit (s : State) (k n : Nat) : (s.zeroRun k n).commit = s.commit := rfl
@[simp] theorem State.zeroRun_upd (s : State) (k n : Nat) : (s.zeroRun k n).upd = s.upd := rfl
@[simp] theorem State.zeroRun_slowFailed (s : State) (k n : Nat) : (s.zeroRun k n).slowFailed = s.slowFailed := rfl
@[simp] theorem State.zeroRun_mirrorDropped (s : State) (k n : Nat) : (s.zeroRun k n).mirrorDropped = s.mirrorDropped := rfl
@[simp] theorem State.zeroRun_host (s : State) (k n : Nat) : (s.zeroRun k n).host = s.host := rfl
@[simp] theorem State.zeroRun_power (s : State) (k n : Nat) : (s.zeroRun k n).power = s.power := rfl
@[simp] theorem State.zeroRun_can (s : State) (k n : Nat) : (s.zeroRun k n).can = s.can := rfl
@[simp] theorem State.zeroRun_sec (s : State) (k n : Nat) : (s.zeroRun k n).sec = s.sec := rfl
@[simp] theorem State.zeroRun_dict (s : State) (k n : Nat) : (s.zeroRun k n).dict = s.dict := rfl
@[simp] theorem State.zeroRun_fuses (s : State) (k n : Nat) : (s.zeroRun k n).fuses = s.fuses := rfl
@[simp] theorem State.zeroRun_free (s : State) (k n : Nat) : (s.zeroRun k n).free = s.free := rfl
@[simp] theorem State.zeroRun_ceMarks (s : State) (k n : Nat) : (s.zeroRun k n).ceMarks = s.ceMarks := rfl
@[simp] theorem State.zeroRun_hours (s : State) (k n : Nat) : (s.zeroRun k n).hours = s.hours := rfl
@[simp] theorem State.zeroRun_out (s : State) (k n : Nat) : (s.zeroRun k n).out = s.out := rfl
@[simp] theorem State.zeroRun_pending (s : State) (k n : Nat) : (s.zeroRun k n).pending = s.pending := rfl

@[simp] theorem State.modUpd_mem (s : State) (f : Upd → Upd) : (s.modUpd f).mem = s.mem := rfl
@[simp] theorem State.modUpd_errs (s : State) (f : Upd → Upd) : (s.modUpd f).errs = s.errs := rfl
@[simp] theorem State.modUpd_od (s : State) (f : Upd → Upd) : (s.modUpd f).od = s.od := rfl
@[simp] theorem State.modUpd_env (s : State) (f : Upd → Upd) : (s.modUpd f).env = s.env := rfl
@[simp] theorem State.modUpd_sel (s : State) (f : Upd → Upd) : (s.modUpd f).sel = s.sel := rfl
@[simp] theorem State.modUpd_watch (s : State) (f : Upd → Upd) : (s.modUpd f).watch = s.watch := rfl
@[simp] theorem State.modUpd_once (s : State) (f : Upd → Upd) : (s.modUpd f).once = s.once := rfl
@[simp] theorem State.modUpd_seqs (s : State) (f : Upd → Upd) : (s.modUpd f).seqs = s.seqs := rfl
@[simp] theorem State.modUpd_p0 (s : State) (f : Upd → Upd) : (s.modUpd f).p0 = s.p0 := rfl
@[simp] theorem State.modUpd_p1 (s : State) (f : Upd → Upd) : (s.modUpd f).p1 = s.p1 := rfl
@[simp] theorem State.modUpd_arb (s : State) (f : Upd → Upd) : (s.modUpd f).arb = s.arb := rfl
@[simp] theorem State.modUpd_fab (s : State) (f : Upd → Upd) : (s.modUpd f).fab = s.fab := rfl
@[simp] theorem State.modUpd_commit (s : State) (f : Upd → Upd) : (s.modUpd f).commit = s.commit := rfl
@[simp] theorem State.modUpd_upd (s : State) (f : Upd → Upd) : (s.modUpd f).upd = f s.upd := rfl
@[simp] theorem State.modUpd_slowFailed (s : State) (f : Upd → Upd) : (s.modUpd f).slowFailed = s.slowFailed := rfl
@[simp] theorem State.modUpd_mirrorDropped (s : State) (f : Upd → Upd) : (s.modUpd f).mirrorDropped = s.mirrorDropped := rfl
@[simp] theorem State.modUpd_host (s : State) (f : Upd → Upd) : (s.modUpd f).host = s.host := rfl
@[simp] theorem State.modUpd_power (s : State) (f : Upd → Upd) : (s.modUpd f).power = s.power := rfl
@[simp] theorem State.modUpd_can (s : State) (f : Upd → Upd) : (s.modUpd f).can = s.can := rfl
@[simp] theorem State.modUpd_sec (s : State) (f : Upd → Upd) : (s.modUpd f).sec = s.sec := rfl
@[simp] theorem State.modUpd_dict (s : State) (f : Upd → Upd) : (s.modUpd f).dict = s.dict := rfl
@[simp] theorem State.modUpd_fuses (s : State) (f : Upd → Upd) : (s.modUpd f).fuses = s.fuses := rfl
@[simp] theorem State.modUpd_free (s : State) (f : Upd → Upd) : (s.modUpd f).free = s.free := rfl
@[simp] theorem State.modUpd_ceMarks (s : State) (f : Upd → Upd) : (s.modUpd f).ceMarks = s.ceMarks := rfl
@[simp] theorem State.modUpd_hours (s : State) (f : Upd → Upd) : (s.modUpd f).hours = s.hours := rfl
@[simp] theorem State.modUpd_out (s : State) (f : Upd → Upd) : (s.modUpd f).out = s.out := rfl
@[simp] theorem State.modUpd_pending (s : State) (f : Upd → Upd) : (s.modUpd f).pending = s.pending := rfl

@[simp] theorem State.modSpdm_mem (s : State) (f : Spdm → Spdm) : (s.modSpdm f).mem = s.mem := rfl
@[simp] theorem State.modSpdm_errs (s : State) (f : Spdm → Spdm) : (s.modSpdm f).errs = s.errs := rfl
@[simp] theorem State.modSpdm_od (s : State) (f : Spdm → Spdm) : (s.modSpdm f).od = s.od := rfl
@[simp] theorem State.modSpdm_env (s : State) (f : Spdm → Spdm) : (s.modSpdm f).env = s.env := rfl
@[simp] theorem State.modSpdm_sel (s : State) (f : Spdm → Spdm) : (s.modSpdm f).sel = s.sel := rfl
@[simp] theorem State.modSpdm_watch (s : State) (f : Spdm → Spdm) : (s.modSpdm f).watch = s.watch := rfl
@[simp] theorem State.modSpdm_once (s : State) (f : Spdm → Spdm) : (s.modSpdm f).once = s.once := rfl
@[simp] theorem State.modSpdm_seqs (s : State) (f : Spdm → Spdm) : (s.modSpdm f).seqs = s.seqs := rfl
@[simp] theorem State.modSpdm_p0 (s : State) (f : Spdm → Spdm) : (s.modSpdm f).p0 = s.p0 := rfl
@[simp] theorem State.modSpdm_p1 (s : State) (f : Spdm → Spdm) : (s.modSpdm f).p1 = s.p1 := rfl
@[simp] theorem State.modSpdm_arb (s : State) (f : Spdm → Spdm) : (s.modSpdm f).arb = s.arb := rfl
@[simp] theorem State.modSpdm_fab (s : State) (f : Spdm → Spdm) : (s.modSpdm f).fab = s.fab := rfl
@[simp] theorem State.modSpdm_commit (s : State) (f : Spdm → Spdm) : (s.modSpdm f).commit = s.commit := rfl
@[simp] theorem State.modSpdm_upd (s : State) (f : Spdm → Spdm) : (s.modSpdm f).upd = s.upd := rfl
@[simp] theorem State.modSpdm_slowFailed (s : State) (f : Spdm → Spdm) : (s.modSpdm f).slowFailed = s.slowFailed := rfl
@[simp] theorem State.modSpdm_mirrorDropped (s : State) (f : Spdm → Spdm) : (s.modSpdm f).mirrorDropped = s.mirrorDropped := rfl
@[simp] theorem State.modSpdm_host (s : State) (f : Spdm → Spdm) : (s.modSpdm f).host = s.host := rfl
@[simp] theorem State.modSpdm_power (s : State) (f : Spdm → Spdm) : (s.modSpdm f).power = s.power := rfl
@[simp] theorem State.modSpdm_can (s : State) (f : Spdm → Spdm) : (s.modSpdm f).can = s.can := rfl
@[simp] theorem State.modSpdm_dict (s : State) (f : Spdm → Spdm) : (s.modSpdm f).dict = s.dict := rfl
@[simp] theorem State.modSpdm_fuses (s : State) (f : Spdm → Spdm) : (s.modSpdm f).fuses = s.fuses := rfl
@[simp] theorem State.modSpdm_free (s : State) (f : Spdm → Spdm) : (s.modSpdm f).free = s.free := rfl
@[simp] theorem State.modSpdm_ceMarks (s : State) (f : Spdm → Spdm) : (s.modSpdm f).ceMarks = s.ceMarks := rfl
@[simp] theorem State.modSpdm_hours (s : State) (f : Spdm → Spdm) : (s.modSpdm f).hours = s.hours := rfl
@[simp] theorem State.modSpdm_out (s : State) (f : Spdm → Spdm) : (s.modSpdm f).out = s.out := rfl
@[simp] theorem State.modSpdm_pending (s : State) (f : Spdm → Spdm) : (s.modSpdm f).pending = s.pending := rfl

@[simp] theorem State.takeFree_mem (s : State) (w : Nat) : (s.takeFree w).2.mem = s.mem := rfl
@[simp] theorem State.takeFree_errs (s : State) (w : Nat) : (s.takeFree w).2.errs = s.errs := rfl
@[simp] theorem State.takeFree_od (s : State) (w : Nat) : (s.takeFree w).2.od = s.od := rfl
@[simp] theorem State.takeFree_env (s : State) (w : Nat) : (s.takeFree w).2.env = s.env := rfl
@[simp] theorem State.takeFree_sel (s : State) (w : Nat) : (s.takeFree w).2.sel = s.sel := rfl
@[simp] theorem State.takeFree_watch (s : State) (w : Nat) : (s.takeFree w).2.watch = s.watch := rfl
@[simp] theorem State.takeFree_once (s : State) (w : Nat) : (s.takeFree w).2.once = s.once := rfl
@[simp] theorem State.takeFree_seqs (s : State) (w : Nat) : (s.takeFree w).2.seqs = s.seqs := rfl
@[simp] theorem State.takeFree_p0 (s : State) (w : Nat) : (s.takeFree w).2.p0 = s.p0 := rfl
@[simp] theorem State.takeFree_p1 (s : State) (w : Nat) : (s.takeFree w).2.p1 = s.p1 := rfl
@[simp] theorem State.takeFree_arb (s : State) (w : Nat) : (s.takeFree w).2.arb = s.arb := rfl
@[simp] theorem State.takeFree_fab (s : State) (w : Nat) : (s.takeFree w).2.fab = s.fab := rfl
@[simp] theorem State.takeFree_commit (s : State) (w : Nat) : (s.takeFree w).2.commit = s.commit := rfl
@[simp] theorem State.takeFree_upd (s : State) (w : Nat) : (s.takeFree w).2.upd = s.upd := rfl
@[simp] theorem State.takeFree_slowFailed (s : State) (w : Nat) : (s.takeFree w).2.slowFailed = s.slowFailed := rfl
@[simp] theorem State.takeFree_mirrorDropped (s : State) (w : Nat) : (s.takeFree w).2.mirrorDropped = s.mirrorDropped := rfl
@[simp] theorem State.takeFree_host (s : State) (w : Nat) : (s.takeFree w).2.host = s.host := rfl
@[simp] theorem State.takeFree_power (s : State) (w : Nat) : (s.takeFree w).2.power = s.power := rfl
@[simp] theorem State.takeFree_can (s : State) (w : Nat) : (s.takeFree w).2.can = s.can := rfl
@[simp] theorem State.takeFree_sec (s : State) (w : Nat) : (s.takeFree w).2.sec = s.sec := rfl
@[simp] theorem State.takeFree_dict (s : State) (w : Nat) : (s.takeFree w).2.dict = s.dict := rfl
@[simp] theorem State.takeFree_fuses (s : State) (w : Nat) : (s.takeFree w).2.fuses = s.fuses := rfl
@[simp] theorem State.takeFree_free (s : State) (w : Nat) : (s.takeFree w).2.free = s.free + 1 := rfl
@[simp] theorem State.takeFree_ceMarks (s : State) (w : Nat) : (s.takeFree w).2.ceMarks = s.ceMarks := rfl
@[simp] theorem State.takeFree_hours (s : State) (w : Nat) : (s.takeFree w).2.hours = s.hours := rfl
@[simp] theorem State.takeFree_out (s : State) (w : Nat) : (s.takeFree w).2.out = s.out := rfl
@[simp] theorem State.takeFree_pending (s : State) (w : Nat) : (s.takeFree w).2.pending = s.pending := rfl

@[simp] theorem State.modPier_mem (s : State) (p : Nat) (f : Pier → Pier) : (s.modPier p f).mem = s.mem := by
  unfold State.modPier; split <;> rfl
@[simp] theorem State.modPier_errs (s : State) (p : Nat) (f : Pier → Pier) : (s.modPier p f).errs = s.errs := by
  unfold State.modPier; split <;> rfl
@[simp] theorem State.modPier_od (s : State) (p : Nat) (f : Pier → Pier) : (s.modPier p f).od = s.od := by
  unfold State.modPier; split <;> rfl
@[simp] theorem State.modPier_env (s : State) (p : Nat) (f : Pier → Pier) : (s.modPier p f).env = s.env := by
  unfold State.modPier; split <;> rfl
@[simp] theorem State.modPier_sel (s : State) (p : Nat) (f : Pier → Pier) : (s.modPier p f).sel = s.sel := by
  unfold State.modPier; split <;> rfl
@[simp] theorem State.modPier_watch (s : State) (p : Nat) (f : Pier → Pier) : (s.modPier p f).watch = s.watch := by
  unfold State.modPier; split <;> rfl
@[simp] theorem State.modPier_once (s : State) (p : Nat) (f : Pier → Pier) : (s.modPier p f).once = s.once := by
  unfold State.modPier; split <;> rfl
@[simp] theorem State.modPier_seqs (s : State) (p : Nat) (f : Pier → Pier) : (s.modPier p f).seqs = s.seqs := by
  unfold State.modPier; split <;> rfl
@[simp] theorem State.modPier_arb (s : State) (p : Nat) (f : Pier → Pier) : (s.modPier p f).arb = s.arb := by
  unfold State.modPier; split <;> rfl
@[simp] theorem State.modPier_fab (s : State) (p : Nat) (f : Pier → Pier) : (s.modPier p f).fab = s.fab := by
  unfold State.modPier; split <;> rfl
@[simp] theorem State.modPier_commit (s : State) (p : Nat) (f : Pier → Pier) : (s.modPier p f).commit = s.commit := by
  unfold State.modPier; split <;> rfl
@[simp] theorem State.modPier_upd (s : State) (p : Nat) (f : Pier → Pier) : (s.modPier p f).upd = s.upd := by
  unfold State.modPier; split <;> rfl
@[simp] theorem State.modPier_slowFailed (s : State) (p : Nat) (f : Pier → Pier) : (s.modPier p f).slowFailed = s.slowFailed := by
  unfold State.modPier; split <;> rfl
@[simp] theorem State.modPier_mirrorDropped (s : State) (p : Nat) (f : Pier → Pier) : (s.modPier p f).mirrorDropped = s.mirrorDropped := by
  unfold State.modPier; split <;> rfl
@[simp] theorem State.modPier_host (s : State) (p : Nat) (f : Pier → Pier) : (s.modPier p f).host = s.host := by
  unfold State.modPier; split <;> rfl
@[simp] theorem State.modPier_power (s : State) (p : Nat) (f : Pier → Pier) : (s.modPier p f).power = s.power := by
  unfold State.modPier; split <;> rfl
@[simp] theorem State.modPier_can (s : State) (p : Nat) (f : Pier → Pier) : (s.modPier p f).can = s.can := by
  unfold State.modPier; split <;> rfl
@[simp] theorem State.modPier_sec (s : State) (p : Nat) (f : Pier → Pier) : (s.modPier p f).sec = s.sec := by
  unfold State.modPier; split <;> rfl
@[simp] theorem State.modPier_dict (s : State) (p : Nat) (f : Pier → Pier) : (s.modPier p f).dict = s.dict := by
  unfold State.modPier; split <;> rfl
@[simp] theorem State.modPier_fuses (s : State) (p : Nat) (f : Pier → Pier) : (s.modPier p f).fuses = s.fuses := by
  unfold State.modPier; split <;> rfl
@[simp] theorem State.modPier_free (s : State) (p : Nat) (f : Pier → Pier) : (s.modPier p f).free = s.free := by
  unfold State.modPier; split <;> rfl
@[simp] theorem State.modPier_ceMarks (s : State) (p : Nat) (f : Pier → Pier) : (s.modPier p f).ceMarks = s.ceMarks := by
  unfold State.modPier; split <;> rfl
@[simp] theorem State.modPier_hours (s : State) (p : Nat) (f : Pier → Pier) : (s.modPier p f).hours = s.hours := by
  unfold State.modPier; split <;> rfl
@[simp] theorem State.modPier_out (s : State) (p : Nat) (f : Pier → Pier) : (s.modPier p f).out = s.out := by
  unfold State.modPier; split <;> rfl
@[simp] theorem State.modPier_pending (s : State) (p : Nat) (f : Pier → Pier) : (s.modPier p f).pending = s.pending := by
  unfold State.modPier; split <;> rfl

@[simp] theorem State.setQueue_mem (s : State) (p q : Nat) (v : Queue) : (s.setQueue p q v).mem = s.mem := State.modPier_mem s p _
@[simp] theorem State.setQueue_errs (s : State) (p q : Nat) (v : Queue) : (s.setQueue p q v).errs = s.errs := State.modPier_errs s p _
@[simp] theorem State.setQueue_od (s : State) (p q : Nat) (v : Queue) : (s.setQueue p q v).od = s.od := State.modPier_od s p _
@[simp] theorem State.setQueue_env (s : State) (p q : Nat) (v : Queue) : (s.setQueue p q v).env = s.env := State.modPier_env s p _
@[simp] theorem State.setQueue_sel (s : State) (p q : Nat) (v : Queue) : (s.setQueue p q v).sel = s.sel := State.modPier_sel s p _
@[simp] theorem State.setQueue_watch (s : State) (p q : Nat) (v : Queue) : (s.setQueue p q v).watch = s.watch := State.modPier_watch s p _
@[simp] theorem State.setQueue_once (s : State) (p q : Nat) (v : Queue) : (s.setQueue p q v).once = s.once := State.modPier_once s p _
@[simp] theorem State.setQueue_seqs (s : State) (p q : Nat) (v : Queue) : (s.setQueue p q v).seqs = s.seqs := State.modPier_seqs s p _
@[simp] theorem State.setQueue_arb (s : State) (p q : Nat) (v : Queue) : (s.setQueue p q v).arb = s.arb := State.modPier_arb s p _
@[simp] theorem State.setQueue_fab (s : State) (p q : Nat) (v : Queue) : (s.setQueue p q v).fab = s.fab := State.modPier_fab s p _
@[simp] theorem State.setQueue_commit (s : State) (p q : Nat) (v : Queue) : (s.setQueue p q v).commit = s.commit := State.modPier_commit s p _
@[simp] theorem State.setQueue_upd (s : State) (p q : Nat) (v : Queue) : (s.setQueue p q v).upd = s.upd := State.modPier_upd s p _
@[simp] theorem State.setQueue_slowFailed (s : State) (p q : Nat) (v : Queue) : (s.setQueue p q v).slowFailed = s.slowFailed := State.modPier_slowFailed s p _
@[simp] theorem State.setQueue_mirrorDropped (s : State) (p q : Nat) (v : Queue) : (s.setQueue p q v).mirrorDropped = s.mirrorDropped := State.modPier_mirrorDropped s p _
@[simp] theorem State.setQueue_host (s : State) (p q : Nat) (v : Queue) : (s.setQueue p q v).host = s.host := State.modPier_host s p _
@[simp] theorem State.setQueue_power (s : State) (p q : Nat) (v : Queue) : (s.setQueue p q v).power = s.power := State.modPier_power s p _
@[simp] theorem State.setQueue_can (s : State) (p q : Nat) (v : Queue) : (s.setQueue p q v).can = s.can := State.modPier_can s p _
@[simp] theorem State.setQueue_sec (s : State) (p q : Nat) (v : Queue) : (s.setQueue p q v).sec = s.sec := State.modPier_sec s p _
@[simp] theorem State.setQueue_dict (s : State) (p q : Nat) (v : Queue) : (s.setQueue p q v).dict = s.dict := State.modPier_dict s p _
@[simp] theorem State.setQueue_fuses (s : State) (p q : Nat) (v : Queue) : (s.setQueue p q v).fuses = s.fuses := State.modPier_fuses s p _
@[simp] theorem State.setQueue_free (s : State) (p q : Nat) (v : Queue) : (s.setQueue p q v).free = s.free := State.modPier_free s p _
@[simp] theorem State.setQueue_ceMarks (s : State) (p q : Nat) (v : Queue) : (s.setQueue p q v).ceMarks = s.ceMarks := State.modPier_ceMarks s p _
@[simp] theorem State.setQueue_hours (s : State) (p q : Nat) (v : Queue) : (s.setQueue p q v).hours = s.hours := State.modPier_hours s p _
@[simp] theorem State.setQueue_out (s : State) (p q : Nat) (v : Queue) : (s.setQueue p q v).out = s.out := State.modPier_out s p _
@[simp] theorem State.setQueue_pending (s : State) (p q : Nat) (v : Queue) : (s.setQueue p q v).pending = s.pending := State.modPier_pending s p _

@[simp] theorem State.setPair_mem (s : State) (p i : Nat) (v : Pair) : (s.setPair p i v).mem = s.mem := State.modPier_mem s p _
@[simp] theorem State.setPair_errs (s : State) (p i : Nat) (v : Pair) : (s.setPair p i v).errs = s.errs := State.modPier_errs s p _
@[simp] theorem State.setPair_od (s : State) (p i : Nat) (v : Pair) : (s.setPair p i v).od = s.od := State.modPier_od s p _
@[simp] theorem State.setPair_env (s : State) (p i : Nat) (v : Pair) : (s.setPair p i v).env = s.env := State.modPier_env s p _
@[simp] theorem State.setPair_sel (s : State) (p i : Nat) (v : Pair) : (s.setPair p i v).sel = s.sel := State.modPier_sel s p _
@[simp] theorem State.setPair_watch (s : State) (p i : Nat) (v : Pair) : (s.setPair p i v).watch = s.watch := State.modPier_watch s p _
@[simp] theorem State.setPair_once (s : State) (p i : Nat) (v : Pair) : (s.setPair p i v).once = s.once := State.modPier_once s p _
@[simp] theorem State.setPair_seqs (s : State) (p i : Nat) (v : Pair) : (s.setPair p i v).seqs = s.seqs := State.modPier_seqs s p _
@[simp] theorem State.setPair_arb (s : State) (p i : Nat) (v : Pair) : (s.setPair p i v).arb = s.arb := State.modPier_arb s p _
@[simp] theorem State.setPair_fab (s : State) (p i : Nat) (v : Pair) : (s.setPair p i v).fab = s.fab := State.modPier_fab s p _
@[simp] theorem State.setPair_commit (s : State) (p i : Nat) (v : Pair) : (s.setPair p i v).commit = s.commit := State.modPier_commit s p _
@[simp] theorem State.setPair_upd (s : State) (p i : Nat) (v : Pair) : (s.setPair p i v).upd = s.upd := State.modPier_upd s p _
@[simp] theorem State.setPair_slowFailed (s : State) (p i : Nat) (v : Pair) : (s.setPair p i v).slowFailed = s.slowFailed := State.modPier_slowFailed s p _
@[simp] theorem State.setPair_mirrorDropped (s : State) (p i : Nat) (v : Pair) : (s.setPair p i v).mirrorDropped = s.mirrorDropped := State.modPier_mirrorDropped s p _
@[simp] theorem State.setPair_host (s : State) (p i : Nat) (v : Pair) : (s.setPair p i v).host = s.host := State.modPier_host s p _
@[simp] theorem State.setPair_power (s : State) (p i : Nat) (v : Pair) : (s.setPair p i v).power = s.power := State.modPier_power s p _
@[simp] theorem State.setPair_can (s : State) (p i : Nat) (v : Pair) : (s.setPair p i v).can = s.can := State.modPier_can s p _
@[simp] theorem State.setPair_sec (s : State) (p i : Nat) (v : Pair) : (s.setPair p i v).sec = s.sec := State.modPier_sec s p _
@[simp] theorem State.setPair_dict (s : State) (p i : Nat) (v : Pair) : (s.setPair p i v).dict = s.dict := State.modPier_dict s p _
@[simp] theorem State.setPair_fuses (s : State) (p i : Nat) (v : Pair) : (s.setPair p i v).fuses = s.fuses := State.modPier_fuses s p _
@[simp] theorem State.setPair_free (s : State) (p i : Nat) (v : Pair) : (s.setPair p i v).free = s.free := State.modPier_free s p _
@[simp] theorem State.setPair_ceMarks (s : State) (p i : Nat) (v : Pair) : (s.setPair p i v).ceMarks = s.ceMarks := State.modPier_ceMarks s p _
@[simp] theorem State.setPair_hours (s : State) (p i : Nat) (v : Pair) : (s.setPair p i v).hours = s.hours := State.modPier_hours s p _
@[simp] theorem State.setPair_out (s : State) (p i : Nat) (v : Pair) : (s.setPair p i v).out = s.out := State.modPier_out s p _
@[simp] theorem State.setPair_pending (s : State) (p i : Nat) (v : Pair) : (s.setPair p i v).pending = s.pending := State.modPier_pending s p _

@[simp] theorem State.setLine_mem (s : State) (p k : Nat) (l : Line) : (s.setLine p k l).mem = s.mem := State.modPier_mem s p _
@[simp] theorem State.setLine_errs (s : State) (p k : Nat) (l : Line) : (s.setLine p k l).errs = s.errs := State.modPier_errs s p _
@[simp] theorem State.setLine_od (s : State) (p k : Nat) (l : Line) : (s.setLine p k l).od = s.od := State.modPier_od s p _
@[simp] theorem State.setLine_env (s : State) (p k : Nat) (l : Line) : (s.setLine p k l).env = s.env := State.modPier_env s p _
@[simp] theorem State.setLine_sel (s : State) (p k : Nat) (l : Line) : (s.setLine p k l).sel = s.sel := State.modPier_sel s p _
@[simp] theorem State.setLine_watch (s : State) (p k : Nat) (l : Line) : (s.setLine p k l).watch = s.watch := State.modPier_watch s p _
@[simp] theorem State.setLine_once (s : State) (p k : Nat) (l : Line) : (s.setLine p k l).once = s.once := State.modPier_once s p _
@[simp] theorem State.setLine_seqs (s : State) (p k : Nat) (l : Line) : (s.setLine p k l).seqs = s.seqs := State.modPier_seqs s p _
@[simp] theorem State.setLine_arb (s : State) (p k : Nat) (l : Line) : (s.setLine p k l).arb = s.arb := State.modPier_arb s p _
@[simp] theorem State.setLine_fab (s : State) (p k : Nat) (l : Line) : (s.setLine p k l).fab = s.fab := State.modPier_fab s p _
@[simp] theorem State.setLine_commit (s : State) (p k : Nat) (l : Line) : (s.setLine p k l).commit = s.commit := State.modPier_commit s p _
@[simp] theorem State.setLine_upd (s : State) (p k : Nat) (l : Line) : (s.setLine p k l).upd = s.upd := State.modPier_upd s p _
@[simp] theorem State.setLine_slowFailed (s : State) (p k : Nat) (l : Line) : (s.setLine p k l).slowFailed = s.slowFailed := State.modPier_slowFailed s p _
@[simp] theorem State.setLine_mirrorDropped (s : State) (p k : Nat) (l : Line) : (s.setLine p k l).mirrorDropped = s.mirrorDropped := State.modPier_mirrorDropped s p _
@[simp] theorem State.setLine_host (s : State) (p k : Nat) (l : Line) : (s.setLine p k l).host = s.host := State.modPier_host s p _
@[simp] theorem State.setLine_power (s : State) (p k : Nat) (l : Line) : (s.setLine p k l).power = s.power := State.modPier_power s p _
@[simp] theorem State.setLine_can (s : State) (p k : Nat) (l : Line) : (s.setLine p k l).can = s.can := State.modPier_can s p _
@[simp] theorem State.setLine_sec (s : State) (p k : Nat) (l : Line) : (s.setLine p k l).sec = s.sec := State.modPier_sec s p _
@[simp] theorem State.setLine_dict (s : State) (p k : Nat) (l : Line) : (s.setLine p k l).dict = s.dict := State.modPier_dict s p _
@[simp] theorem State.setLine_fuses (s : State) (p k : Nat) (l : Line) : (s.setLine p k l).fuses = s.fuses := State.modPier_fuses s p _
@[simp] theorem State.setLine_free (s : State) (p k : Nat) (l : Line) : (s.setLine p k l).free = s.free := State.modPier_free s p _
@[simp] theorem State.setLine_ceMarks (s : State) (p k : Nat) (l : Line) : (s.setLine p k l).ceMarks = s.ceMarks := State.modPier_ceMarks s p _
@[simp] theorem State.setLine_hours (s : State) (p k : Nat) (l : Line) : (s.setLine p k l).hours = s.hours := State.modPier_hours s p _
@[simp] theorem State.setLine_out (s : State) (p k : Nat) (l : Line) : (s.setLine p k l).out = s.out := State.modPier_out s p _
@[simp] theorem State.setLine_pending (s : State) (p k : Nat) (l : Line) : (s.setLine p k l).pending = s.pending := State.modPier_pending s p _

@[simp] theorem State.noteWaits_mem (s : State) (p : Nat) : (s.noteWaits p).mem = s.mem := State.modPier_mem s p _
@[simp] theorem State.noteWaits_errs (s : State) (p : Nat) : (s.noteWaits p).errs = s.errs := State.modPier_errs s p _
@[simp] theorem State.noteWaits_od (s : State) (p : Nat) : (s.noteWaits p).od = s.od := State.modPier_od s p _
@[simp] theorem State.noteWaits_env (s : State) (p : Nat) : (s.noteWaits p).env = s.env := State.modPier_env s p _
@[simp] theorem State.noteWaits_sel (s : State) (p : Nat) : (s.noteWaits p).sel = s.sel := State.modPier_sel s p _
@[simp] theorem State.noteWaits_watch (s : State) (p : Nat) : (s.noteWaits p).watch = s.watch := State.modPier_watch s p _
@[simp] theorem State.noteWaits_once (s : State) (p : Nat) : (s.noteWaits p).once = s.once := State.modPier_once s p _
@[simp] theorem State.noteWaits_seqs (s : State) (p : Nat) : (s.noteWaits p).seqs = s.seqs := State.modPier_seqs s p _
@[simp] theorem State.noteWaits_arb (s : State) (p : Nat) : (s.noteWaits p).arb = s.arb := State.modPier_arb s p _
@[simp] theorem State.noteWaits_fab (s : State) (p : Nat) : (s.noteWaits p).fab = s.fab := State.modPier_fab s p _
@[simp] theorem State.noteWaits_commit (s : State) (p : Nat) : (s.noteWaits p).commit = s.commit := State.modPier_commit s p _
@[simp] theorem State.noteWaits_upd (s : State) (p : Nat) : (s.noteWaits p).upd = s.upd := State.modPier_upd s p _
@[simp] theorem State.noteWaits_slowFailed (s : State) (p : Nat) : (s.noteWaits p).slowFailed = s.slowFailed := State.modPier_slowFailed s p _
@[simp] theorem State.noteWaits_mirrorDropped (s : State) (p : Nat) : (s.noteWaits p).mirrorDropped = s.mirrorDropped := State.modPier_mirrorDropped s p _
@[simp] theorem State.noteWaits_host (s : State) (p : Nat) : (s.noteWaits p).host = s.host := State.modPier_host s p _
@[simp] theorem State.noteWaits_power (s : State) (p : Nat) : (s.noteWaits p).power = s.power := State.modPier_power s p _
@[simp] theorem State.noteWaits_can (s : State) (p : Nat) : (s.noteWaits p).can = s.can := State.modPier_can s p _
@[simp] theorem State.noteWaits_sec (s : State) (p : Nat) : (s.noteWaits p).sec = s.sec := State.modPier_sec s p _
@[simp] theorem State.noteWaits_dict (s : State) (p : Nat) : (s.noteWaits p).dict = s.dict := State.modPier_dict s p _
@[simp] theorem State.noteWaits_fuses (s : State) (p : Nat) : (s.noteWaits p).fuses = s.fuses := State.modPier_fuses s p _
@[simp] theorem State.noteWaits_free (s : State) (p : Nat) : (s.noteWaits p).free = s.free := State.modPier_free s p _
@[simp] theorem State.noteWaits_ceMarks (s : State) (p : Nat) : (s.noteWaits p).ceMarks = s.ceMarks := State.modPier_ceMarks s p _
@[simp] theorem State.noteWaits_hours (s : State) (p : Nat) : (s.noteWaits p).hours = s.hours := State.modPier_hours s p _
@[simp] theorem State.noteWaits_out (s : State) (p : Nat) : (s.noteWaits p).out = s.out := State.modPier_out s p _
@[simp] theorem State.noteWaits_pending (s : State) (p : Nat) : (s.noteWaits p).pending = s.pending := State.modPier_pending s p _

@[simp] theorem State.setCounter_mem (s : State) (p c v : Nat) : (s.setCounter p c v).mem = s.mem := by
  simp [State.setCounter]
@[simp] theorem State.setCounter_errs (s : State) (p c v : Nat) : (s.setCounter p c v).errs = s.errs := by
  simp [State.setCounter]
@[simp] theorem State.setCounter_od (s : State) (p c v : Nat) : (s.setCounter p c v).od = s.od := by
  simp [State.setCounter]
@[simp] theorem State.setCounter_env (s : State) (p c v : Nat) : (s.setCounter p c v).env = s.env := by
  simp [State.setCounter]
@[simp] theorem State.setCounter_sel (s : State) (p c v : Nat) : (s.setCounter p c v).sel = s.sel := by
  simp [State.setCounter]
@[simp] theorem State.setCounter_watch (s : State) (p c v : Nat) : (s.setCounter p c v).watch = s.watch := by
  simp [State.setCounter]
@[simp] theorem State.setCounter_once (s : State) (p c v : Nat) : (s.setCounter p c v).once = s.once := by
  simp [State.setCounter]
@[simp] theorem State.setCounter_seqs (s : State) (p c v : Nat) : (s.setCounter p c v).seqs = s.seqs := by
  simp [State.setCounter]
@[simp] theorem State.setCounter_arb (s : State) (p c v : Nat) : (s.setCounter p c v).arb = s.arb := by
  simp [State.setCounter]
@[simp] theorem State.setCounter_fab (s : State) (p c v : Nat) : (s.setCounter p c v).fab = s.fab := by
  simp [State.setCounter]
@[simp] theorem State.setCounter_commit (s : State) (p c v : Nat) : (s.setCounter p c v).commit = s.commit := by
  simp [State.setCounter]
@[simp] theorem State.setCounter_upd (s : State) (p c v : Nat) : (s.setCounter p c v).upd = s.upd := by
  simp [State.setCounter]
@[simp] theorem State.setCounter_slowFailed (s : State) (p c v : Nat) : (s.setCounter p c v).slowFailed = s.slowFailed := by
  simp [State.setCounter]
@[simp] theorem State.setCounter_mirrorDropped (s : State) (p c v : Nat) : (s.setCounter p c v).mirrorDropped = s.mirrorDropped := by
  simp [State.setCounter]
@[simp] theorem State.setCounter_host (s : State) (p c v : Nat) : (s.setCounter p c v).host = s.host := by
  simp [State.setCounter]
@[simp] theorem State.setCounter_power (s : State) (p c v : Nat) : (s.setCounter p c v).power = s.power := by
  simp [State.setCounter]
@[simp] theorem State.setCounter_can (s : State) (p c v : Nat) : (s.setCounter p c v).can = s.can := by
  simp [State.setCounter]
@[simp] theorem State.setCounter_sec (s : State) (p c v : Nat) : (s.setCounter p c v).sec = s.sec := by
  simp [State.setCounter]
@[simp] theorem State.setCounter_dict (s : State) (p c v : Nat) : (s.setCounter p c v).dict = s.dict := by
  simp [State.setCounter]
@[simp] theorem State.setCounter_fuses (s : State) (p c v : Nat) : (s.setCounter p c v).fuses = s.fuses := by
  simp [State.setCounter]
@[simp] theorem State.setCounter_free (s : State) (p c v : Nat) : (s.setCounter p c v).free = s.free := by
  simp [State.setCounter]
@[simp] theorem State.setCounter_ceMarks (s : State) (p c v : Nat) : (s.setCounter p c v).ceMarks = s.ceMarks := by
  simp [State.setCounter]
@[simp] theorem State.setCounter_hours (s : State) (p c v : Nat) : (s.setCounter p c v).hours = s.hours := by
  simp [State.setCounter]
@[simp] theorem State.setCounter_out (s : State) (p c v : Nat) : (s.setCounter p c v).out = s.out := by
  simp [State.setCounter]
@[simp] theorem State.setCounter_pending (s : State) (p c v : Nat) : (s.setCounter p c v).pending = s.pending := by
  simp [State.setCounter]

/-- The Pier that changed. -/
@[simp] theorem State.modPier_pier (s : State) (p : Nat) (f : Pier → Pier) : (s.modPier p f).pier p = f (s.pier p) := by
  unfold State.modPier State.pier; split <;> rfl

/-- The other Pier. -/
theorem State.modPier_pier_ne (s : State) {p r : Nat} (f : Pier → Pier) (h : (p = 0) ≠ (r = 0)) :
    (s.modPier p f).pier r = s.pier r := by
  unfold State.modPier State.pier
  by_cases hp : p = 0 <;> by_cases hr : r = 0 <;> simp_all

/-- The queue that was replaced, unless by the default one. -/
theorem State.setQueue_queue (s : State) (p q : Nat) {v : Queue} (h : v ≠ Queue.zero) : (s.setQueue p q v).queue p q = v := by
  simp [State.setQueue, State.queue, Tab.get_set_self _ _ h]

/-- The other queues of the Pier. -/
@[simp] theorem State.setQueue_queue_ne (s : State) (p : Nat) {q r : Nat} (v : Queue) (h : r ≠ q) :
    (s.setQueue p q v).queue p r = s.queue p r := by
  simp [State.setQueue, State.queue, h]

/-- Noting the waits that are met changes no counter. -/
@[simp] theorem State.noteWaits_counter (s : State) (p c : Nat) : (s.noteWaits p).counter p c = s.counter p c := by
  simp [State.noteWaits, State.counter]

/-- The counter that was set. -/
theorem State.setCounter_counter (s : State) (p c v : Nat) (h : v % 2 ^ 32 ≠ 0) : (s.setCounter p c v).counter p c = v % 2 ^ 32 := by
  have h' : v % 4294967296 ≠ 0 := h
  simp [State.setCounter]
  simp [State.counter, Tab.get_set_self _ _ h']

/-- The other counters. -/
@[simp] theorem State.setCounter_counter_ne (s : State) (p : Nat) {c d : Nat} (v : Nat) (h : d ≠ c) :
    (s.setCounter p c v).counter p d = s.counter p d := by
  simp [State.setCounter]
  simp [State.counter, h]

/-- Another object of the dictionary. -/
@[simp] theorem State.setOd_odv_ne (s : State) {i x k j y l : Nat} (v : Nat) (h : odk j y l ≠ odk i x k) :
    (s.setOd i x k v).odv j y l = s.odv j y l := by
  simp [State.odv, h]

/-- Another byte. -/
@[simp] theorem State.setByte_byte_ne (s : State) {k j : Nat} (b : Byte) (h : j ≠ k) : (s.setByte k b).byte j = s.byte j := by
  simp [State.byte, h]

/-- The byte itself, in a canonical memory. -/
theorem State.setByte_byte (s : State) (k : Nat) (b : Byte) (h : Memory.wf s.mem = true) : (s.setByte k b).byte k = b :=
  Tab.get_set_wf 0 k b h

/-- Bytes outside a written run are unchanged. -/
theorem State.setBytes_byte_ne (s : State) {k j : Nat} (bs : List Byte) (h : j < k ∨ k + bs.length ≤ j) :
    (s.setBytes k bs).byte j = s.byte j := by
  induction bs generalizing s k with
  | nil => rfl
  | cons b t ih =>
    simp only [State.setBytes]
    rw [ih _ (by simp at h; omega), State.setByte_byte_ne _ _ (by simp at h; omega)]

end Sys2Proof.Machine
end

