-- ==== Sys2Proof/Tests/Slice0.lean ====
section
/-! SUPPORT. Small tests, and a state that meets the hypotheses of each statement. -/

namespace Sys2Proof.Tests
open Sys2Proof Sys2Proof.Machine Sys2Proof.Claims
set_option Elab.async false

/-- A module in ACTIVE with an attempt running. -/
def live : State :=
  { State.reset with power := { Power.zero with state := .active }, commit := { Commit.zero with pstate := .running } }

/-- The bytes of a number that are not zero, from address k. -/
def place : Nat → Nat → Nat → List (Nat × Byte)
  | 0, _, _ => []
  | n + 1, k, v => if v % 256 = 0 then place n (k + 1) (v / 256) else (k, BitVec.ofNat 8 v) :: place n (k + 1) (v / 256)

/-- A queue that runs with a window of one word. -/
def oneWord (w : Nat) : Queue := { Queue.zero with qlen := 1, passLimit := 1, st := .run, buf := Tab.set 0 [] 0 w }

/-- Word w alone in the window of queue q of Pier p, which runs. -/
def withWord (p q w : Nat) : State := { live.setQueue p q (oneWord w) with mem := place 16 (pkey (spFast p) 0) w }

/-- Word w alone in the window of copy engine 0 of Pier 0. -/
def ready64 (w : Nat) : State := withWord 0 64 w

/-- Commands waiting. -/
def startState (_ : List Nat) (c : Option Instr) : State := { live with pending := c.toList }

/-- ASTAT of slot 0 into the tensor of descriptor 0. -/
def astat00 : Nat := 0x45

/-- ADD of chain register 0 to itself, one element. -/
def addChain : Nat := 0x10 + 0x3FF8 * 2 ^ 8 + 0x3FF8 * 2 ^ 22 + 0 * 2 ^ 36 + 2 ^ 44

/-- A flight with nothing to do but to complete. -/
def flight0 : Flight := { live.newFlight 0 0 0 [] Nest.one false with total := 1, begun := 1 }

/-- That flight, running, alone in a queue. -/
def inFlight (p q : Nat) (f : Flight) : State :=
  live.setQueue p q { Queue.zero with qlen := 1, passLimit := 1, st := .run, flights := [{ f with running := true }] }

/-- A tensor descriptor of two dimensions. -/
def rawD (fmt base e0 e1 : Nat) : Nat :=
  base + fmt * 2 ^ 48 + e0 * 2 ^ 64 + e1 * 2 ^ 96 + 2 ^ 128 + 2 ^ 160 + 2 ^ 192 + (e0 * 16) * 2 ^ 224

/-- A layer of one expert, one source, one slot, a row of one BF16 element, all at small addresses. -/
def rawL : Nat :=
  1 + 1 * 2 ^ 16 + 1 * 2 ^ 32 + 1 * 2 ^ 48 + 5 * 2 ^ 80 + 1 * 2 ^ 112 + 1 * 2 ^ 128 + 384 * 2 ^ 160 + 0x10000 * 2 ^ 192
    + 0x11000 * 2 ^ 240 + 0x12000 * 2 ^ 288 + 0x13000 * 2 ^ 336 + 0x14000 * 2 ^ 384 + 1 * 2 ^ 432

/-- A backward extension of BF16 gradients with one tile of weight gradient. -/
def rawX : Nat :=
  5 + 5 * 2 ^ 8 + 1 * 2 ^ 16 + 384 * 2 ^ 64 + 0x15000 * 2 ^ 128 + 0x16000 * 2 ^ 176 + 0x17000 * 2 ^ 224 + 0x20000 * 2 ^ 272
    + 0x10000 * 2 ^ 320 + 2048 * 2 ^ 368

/-- Word w at the head of queue 80 of Pier 0, with descriptors 1 to 8, layer 0 and its extension, a slot of index
descriptor 5, and an expert map. -/
def trestle (w : Nat) : State :=
  let d (h raw : Nat) := place 64 (pkey (spCtl 0) (h * 64)) raw
  { (((withWord 0 80 w).setOd 0 0x5006 1 1).setOd 0 0x5000 1 0x30000).setOd 0 0x5040 1 0x31000 with
    mem := place 16 0 w ++ place 8 0x10000 (2 ^ 27) ++ place 64 0x13000 (5 * 2 ^ 32) ++ place 64 0x16000 (5 * 2 ^ 32)
      ++ place 64 0x30000 rawL ++ place 64 0x31000 rawX ++ d 1 (rawD 6 0x40000 1 1) ++ d 2 (rawD 5 0x41000 1 1)
      ++ d 3 (rawD 8 0x42000 1 1) ++ d 4 (rawD 9 0x43000 2 1) ++ d 5 (rawD 9 0x44000 0 1) ++ d 6 (rawD 6 0x45000 1 1)
      ++ d 7 (rawD 9 0x46000 1 1) ++ d 8 (rawD 5 0x47000 1 1) }

/-- That state with live entry 0 open over a token of one word. -/
def trLiveState (w : Nat) (back : Bool) : State :=
  (trestle w).setLive 0 0 { LiveEntry.zero with
    st := .live, k := 1, backward := back, hg := parseDesc (rawD 6 0x45000 1 1),
    hc := parseDesc (rawD 8 0x42000 1 1), hr := parseDesc (rawD 9 0x43000 2 1) }

/-- A tensor of one element: gradient in BF16 at fast 0x50000, state region at slow 0x4000. -/
def rawT : Nat := 1 * 2 ^ 32 + 5 * 2 ^ 152 + 2 * 2 ^ 176 + 0x4000 * 2 ^ 256 + 0x50000 * 2 ^ 320

/-- A configuration of one tensor, whose table is at slow 0x1000. -/
def upd0 : UpdCfg := ⟨0x1000, 1, 0x4000, 0x100000, 0x60000, 0, 1, 4, 0x70000, 0x80000, 0, 0, 0, 0⟩

/-- Word w at the head of Ilben's queue of Pier 0, one tensor in the table, its bucket REDUCED, the update in a state. -/
def ilben (w : Nat) (st : UpdState) : State :=
  let s := (((withWord 0 81 w).setOd 0 0x7004 0 0x1000).setOd 0 0x7005 0 1).setOd 0 0x7000 1 0x4000
  { (s.setOd 0 0x7000 2 0x100000).setOd 0 0x5800 1 0x90000 with
    mem := place 16 0 w ++ place 8 0x90000 (4 + (8 + 8 * 256) * 2 ^ 32) ++ place 1 0x90064 2 ++ place 128 (pkey spSlow 0x1000) rawT
    upd := { Upd.zero with st := st, cfg := upd0 } }

/-- Word w with a job of its opcode in flight. -/
def ilJob (op : Nat) (st : UpdState) : State :=
  let s := live.setQueue 0 81 { Queue.zero with flights := [{ flight0 with args := [9] }] }
  let s := s.setBucketState 0 0 2
  { s with upd := { Upd.zero with st := st, cfg := upd0, jobs := [⟨0, 9, op, false, upd0, [], [], 0, 0, 0⟩] } }

/-- A bucket of one binary32 element, one stage on a ring of two, tiles at 0xA0000. -/
def rawB : Nat := 1 + 0x010606 * 2 ^ 32 + 2 ^ 128 + 0xA0000 * 2 ^ 192 + 2 * 2 ^ 392

/-- Word w at the head of copy engine 0, descriptors 1 to 4 of binary32 vectors of one element, an index table of one
permute entry to this module, a bucket of one element reduced over a ring of two, and an area of one word. -/
def remote (w : Nat) : State :=
  let d (h raw : Nat) := place 64 (pkey (spCtl 0) (h * 64)) raw
  let v (fmt base e0 : Nat) := base + fmt * 2 ^ 48 + e0 * 2 ^ 64 + 2 ^ 96 + 2 ^ 128 + 2 ^ 160 + 2 ^ 192
  { (((withWord 0 64 w).setOd 0 0x5800 1 0x90000).setOd 0 0x5807 1 1) with
    mem := place 16 0 w ++ place 4 0x43004 1 ++ place 64 0x90000 rawB ++ d 1 (v 6 0x40000 1) ++ d 2 (v 6 0x41000 1)
      ++ d 3 (v 8 0x42000 1) ++ d 4 (v 9 0x43000 8) }

/-- A round message of a kind for step 1, attempt 0. -/
def round0 (kind decision : Nat) : RoundMsg := ⟨1, 0, kind, 0, decision, 1, 0, [], []⟩

/-- A state where round message m of module 5 waits at Pier 0. -/
def roundState (m : RoundMsg) : State :=
  { live with fab := { live.fab with inbox0 := [mkPacket 0 5 0 0 1 5 0 1 0 0 m.bytes] } }

/-- A state where mirror message m of module 5 waits at Pier 0. -/
def mirrorState (m : MirrorMsg) : State :=
  { live with fab := { live.fab with inbox0 := [mkPacket 0 5 0 0 5 6 0 1 0 0 m.bytes] } }

/-- A state where mirror message m of module 5 waits at Pier 1's half. -/
def mirrorState1 (m : MirrorMsg) : State :=
  { live with fab := { live.fab with inbox1 := [mkPacket 0 5 1 1 5 6 0 1 0 0 m.bytes] } }

/-- A module with a buddy, a journal at 0x100000, and a token in slots 0 and 3, in a PSTATE. -/
def journaled (st : PState) (m : RoundMsg) : State :=
  let s := ((live.setOd 0 0x780A 1 0x100000).setOd 0 0x780A 2 0x700000).setOd 0 0x780B 0 3
  { s with
      commit := { Commit.zero with pstate := st, live := s.commitObjects }
      mem := place 64 0x100000 (ofBytes m.bytes) ++ place 64 0x502000 (ofBytes m.bytes) }

/-- Port 0 with some contents. -/
def portState (q : Port) : State := live.setPort 0 q

/-- An active port. -/
def active0 : Port := Port.fresh .active 0

/-- A module whose host link is up in flit mode, its CHECKPOINT and MIRROR windows committed. -/
def hosted : State :=
  let s := ((live.setOd 0 0x7002 2 (2 ^ 28)).setOd 0 0x7001 2 (2 ^ 28)).setOd 0 0x7001 1 (2 ^ 30)
  { s with host := { s.host with linkUp := true, cxlMode := true, hdmCommitted := 3 } }

/-- The module in TOLL with its input present at 48 V, and one that powers up. -/
def tolled : State := { State.reset with power := { Power.zero with inputPresent := true, railsUp := [0], state := .toll, millivolts := 48000, supply := true } }
/-- A module with no input. -/
def darkened : State := { State.reset with power := { Power.zero with inputPresent := false, supply := false } }
def waking : State := { tolled with power := { tolled.power with state := .waking } }
/-- An ACTIVE module with its input present. -/
def powered : State := { live with power := { Power.zero with inputPresent := true, supply := true, state := .active, millivolts := 48000 } }

/-- An ACTIVE module whose management port is on the bus as node 1. -/
def onBus : State := { powered with can := { powered.can with nodeId := 1, mode := .errorActive } }
/-- With a transfer open: 8 bytes for an object. -/
def xferring : State := onBus.setXfer (some ⟨0x2010, 0, 1, 60, 0, []⟩)

/-- WellFormed: terms that break one check each. -/
theorem test_ill_formed_0 : (([
    .dictionaryWrite 2 0 0 [], .dictionaryWrite 0 65536 0 [], .dictionaryWrite 0 0 256 [], .watchBankClose 2,
    .ringTailWrite 7 0 0, .mma 0 32, .queueStart 0 82, .bankRefresh 0 10240 false, .requestAdmit 0 0 10240,
    .scrubPass 0 ⟨[(2 ^ 32, ⟨[], [], false⟩)], [], [], []⟩ 0, .scrubPass 0 ⟨[(0, ⟨[36], [], false⟩)], [], [], []⟩ 0,
    .scrubPass 0 ⟨[], [(2 ^ 34, ⟨[], [], false⟩)], [], []⟩ 0, .scrubPass 0 ⟨[], [(0, ⟨[136], [], false⟩)], [], []⟩ 0,
    .scrubPass 0 ⟨[], [], [(2 ^ 21, 0)], []⟩ 0, .scrubPass 0 ⟨[], [], [(0, 3)], []⟩ 0, .scrubPass 0 ⟨[], [], [], [2 ^ 20]⟩ 0,
    .scrubPass 0 ⟨[(0, ⟨[0, 1, 2, 3], [], false⟩)], [], [], []⟩ 0,
    .scrubPass 0 ⟨[], [(0, ⟨[], [0, 1, 2, 3, 4, 5], false⟩)], [], []⟩ 0,
    .scrubPass 0 ⟨[(0, ⟨[], [36], false⟩)], [], [], []⟩ 0, .cnop 0 16, .guardBaseWrite 512 0] : List Instr).all (fun i => i.wf == false)) = true := by decide +kernel

/-- WellFormed: the same with that check met. -/
theorem test_well_formed_0 : (([
    .dictionaryWrite 0 0 0 [], .dictionaryWrite 0 0 0 [], .dictionaryWrite 0 0 0 [], .watchBankClose 0,
    .ringTailWrite 0 0 0, .mma 0 0, .queueStart 0 0, .bankRefresh 0 0 false, .requestAdmit 0 0 0, .scrubPass 0 ⟨[], [], [], []⟩ 0,
    .scrubPass 0 ⟨[], [], [], []⟩ 0, .scrubPass 0 ⟨[], [], [], []⟩ 0, .scrubPass 0 ⟨[], [], [], []⟩ 0,
    .scrubPass 0 ⟨[], [], [], []⟩ 0, .scrubPass 0 ⟨[], [], [], []⟩ 0, .scrubPass 0 ⟨[], [], [], []⟩ 0,
    .scrubPass 0 ⟨[], [], [], []⟩ 0, .scrubPass 0 ⟨[], [], [], []⟩ 0, .scrubPass 0 ⟨[], [], [], []⟩ 0, .cnop 0 0,
    .guardBaseWrite 0 0] : List Instr).all (fun i => i.wf == true)) = true := by decide +kernel

/-- WellFormed: terms that break one check each. -/
theorem test_ill_formed_1 : (([
    .arbiterRequest 6 0 ⟨0, 0⟩ ⟨0, 0⟩ 0, .arbiterRequest 0 0 ⟨0, 1⟩ ⟨0, 0⟩ 0, .genQuietExpiry 0 64, .reduceComplete 0 4096,
    .codeword 6 0 [], .codeword 0 0 [1024], .credit 0 16 0, .barWrite 1 0 [], .hdmRead 2 0,
    .hdmWrite 0 0 (List.replicate 65 0), .intHoldoffExpiry 32, .challenge 0 0 (List.replicate 33 0),
    .hostLinkUp 6 16 false, .hostLinkUp 0 3 false, .inputRise 128 false, .railPowerGood 0, .railPowerGood 13,
    .parkEntry 8, .stackThrottle 0 10 0, .engineReset 0 50] : List Instr).all (fun i => i.wf == false)) = true := by decide +kernel

/-- WellFormed: the same with that check met. -/
theorem test_well_formed_1 : (([
    .arbiterRequest 0 0 ⟨0, 0⟩ ⟨0, 0⟩ 0, .arbiterRequest 0 0 ⟨0, 0⟩ ⟨0, 0⟩ 0, .genQuietExpiry 0 0, .reduceComplete 0 0,
    .codeword 0 0 [], .codeword 0 0 [], .credit 0 0 0, .barWrite 0 0 [], .hdmRead 0 0, .hdmWrite 0 0 [],
    .intHoldoffExpiry 0, .challenge 0 0 (List.replicate 32 0), .hostLinkUp 0 16 false, .hostLinkUp 0 16 false,
    .inputRise 0 false, .railPowerGood 1, .railPowerGood 1, .parkEntry 0, .stackThrottle 0 0 0, .engineReset 0 0] : List Instr).all (fun i => i.wf == true)) = true := by decide +kernel

/-- WellFormed: terms that break one check each. -/
theorem test_ill_formed_2 : (([
    .canRead 0 256 0 0 0 0 0, .canRead 0 0 0 0 256 0 0, .canWrite 0 0 0 0 0 (List.replicate 57 0),
    .foreignFrame 2048, .ownerKeyDigestWrite 0 (List.replicate 49 0), .fwSecurityVersionWrite 0 (2 ^ 32),
    .fabricIdBaseWrite 0 (2 ^ 64), .debugLockoutWrite 0 256, .tokenStage 0 (List.replicate 1025 0)] : List Instr).all (fun i => i.wf == false)) = true := by decide +kernel

/-- WellFormed: the same with that check met. -/
theorem test_well_formed_2 : (([
    .canRead 0 0 0 0 0 0 0, .canRead 0 0 0 0 0 0 0, .canWrite 0 0 0 0 0 [], .foreignFrame 0,
    .ownerKeyDigestWrite 0 (List.replicate 48 0), .fwSecurityVersionWrite 0 0, .fabricIdBaseWrite 0 0,
    .debugLockoutWrite 0 0, .tokenStage 0 (List.replicate 1024 0)] : List Instr).all (fun i => i.wf == true)) = true := by decide +kernel

/-- The sum of four terms that cancel, as 02's worked example has it: 2^80 units, exported as 0.5, no spill. -/
theorem test_cancelling_sum :
    let t (n : Bool) (m : Nat) (e : Int) (a : XaVal × XaStat) := addTerm (.fin n m e) a.1 a.2
    let r := t false 1 (-3) (t true 2097152 0 (t false 3 (-3) (t false 2097152 0 (.fin 0, XaStat.start 22))))
    r.1 = .fin (2 ^ 80) ∧ exportB32 22 r.1 = 0x3F000000 ∧ r.2.wspill = 0 := by decide +kernel

/-- The long sum of 02's second worked example, its small terms added as one. -/
theorem test_long_sum :
    let t (n : Bool) (m : Nat) (e : Int) (a : XaVal × XaStat) := addTerm (.fin n m e) a.1 a.2
    exportB32 1 (t false 16777216 (-25) (t false 1 0 (.fin 0, XaStat.start 1))).1 = 0x3FC00000 := by decide +kernel

/-- Module (2, 2, 7) of the 8 × 8 × 8 torus. -/
def at227 : State :=
  (((((live.setOd 0 0x6001 1 8).setOd 0 0x6001 2 8).setOd 0 0x6001 3 8).setOd 0 0x6002 1 2).setOd 0 0x6002 2 2).setOd 0 0x6002 3 7

/-- The packet of 14's worked example: its source, its port Z+, its VC 7. -/
theorem test_dateline : at227.moduleId = 0x1D2 ∧ at227.nextPort 0x52 = 4
    ∧ (at227.withDateline (mkPacket 0x52 0x1D2 0 0 3 3 0 1 0 0 (List.replicate 64 0)) none 4).vc = 7 := by decide +kernel

/-- The header word that arrives in that example, with its length of 4,128 bytes. -/
theorem test_header_word :
    let h := setBits 37 37 1 (bits 191 0 (mkPacket 0x52 0x1D2 0 0 3 3 0 1 0 0 []).hdr)
    setBits 60 48 4128 (setBits 47 42 2 h) % 2 ^ 64 = 0x102008EC01D20052 := by decide +kernel

/-- Queue 81 of Pier 1 shows its STATE at BAR0 + 0x52_1455 (16's worked example); 3 is HALT (Table 6-2). -/
theorem test_state_byte :
    (match exec (.barRead 0 0x521455 1) (hosted.setQueue 1 81 { Queue.zero with st := .halt }) with
      | .next t => t.out | _ => []) = [.hostData false [3]] := by decide +kernel

/-- The security version 12 written when it is 12 already: refused 0x03 (18's worked example). -/
theorem test_version_not_above :
    ((hosted.setOd 0 0xA011 0 12).odWrite ⟨0, true, 0xA011, 0, 0, 4, [12, 0, 0, 0], 0, .none⟩).1 = 3 := by decide +kernel

/-- The response frame of that example. -/
theorem test_response_bytes : canOut 2 0x17 0xA011 0 3 0 [] = [0x82, 0x17, 0x11, 0xA0, 0, 3, 0, 0] := by decide +kernel

/-- No command carries bits, so no word spells one. -/
theorem test_no_words (n w : Nat) : decodeTableWord n w = none := rfl

theorem wit_StepRunsFrontCommand :
    (startState [] (some .mirrorResend)).pending = .mirrorResend :: [] ∧ State.reset.pending = [] := by decide +kernel

theorem wit_QueueCommandsTaken :
    (let s := ready64 0; let u := s.queue 0 64
     u.st = .run ∧ ¬ ((u.st = .idle ∨ u.st = .done) ∧ u.qlen ≠ 0 ∧ u.passLimit ≠ 0 ∧ s.startAllowed 0 = true)) ∧
    (let s := (ready64 0).setQueue 0 64 { (ready64 0).queue 0 64 with st := .done }; let u := s.queue 0 64
     (u.st = .idle ∨ u.st = .done) ∧ u.qlen ≠ 0 ∧ u.passLimit ≠ 0 ∧ s.startAllowed 0 = true) ∧
    (let s := (ready64 0).setQueue 0 64 { (ready64 0).queue 0 64 with st := .halt }; (s.queue 0 64).st = .halt ∧ (s.queue 0 64).draining = false) ∧
    (let s := (ready64 0).setQueue 0 64 { (ready64 0).queue 0 64 with st := .halt, draining := true }; (s.queue 0 64).st = .halt ∧ (s.queue 0 64).draining = true) ∧
    (let s := (ready64 0).setQueue 0 64 { (ready64 0).queue 0 64 with st := .fault }; (s.queue 0 64).st = .fault) := by decide +kernel

theorem wit_QueueAdvances :
    (let s := withWord 0 0 0x46; let s := s.setQueue 0 0 { s.queue 0 0 with st := .load }
     (s.queue 0 0).st = .load ∧ s.cluster (clusterOf 0 (0 % 32)) ≠ .restoring) ∧
    (let s := ready64 0; let s := s.setQueue 0 64 { s.queue 0 64 with ended := true, draining := true }
     (s.queue 0 64).st = .run ∧ (s.queue 0 64).ended = true ∧ (s.queue 0 64).draining = true ∧ (s.queue 0 64).flights = []) ∧
    ((State.reset.setFlag 1 7 true).pier 0).mirrorQ = (7, true) :: [] ∧
    4095 < (ringOf 0 0).size ∧ (ringOf 0 0).size ≤ 4096 ∧ State.reset.odv 0 ((ringOf 0 0).idx + 2) (ringOf 0 0).sub = 0 ∧
    (let s := (State.reset.setOd 0 0x4022 1 5).setOd 0 0x4020 1 4095; let r := ringOf 0 0
     (s.odv 0 (r.idx + 2) r.sub ≠ 0 ∧ (s.setOd 0 (r.idx + 1) r.sub 7).ringFull r = false) ∧
     (s.setOd 0 (r.idx + 1) r.sub 0).ringFull r = true) ∧
    (let s := State.reset.modPier 0 (fun r => { r with watchClosing := [⟨0, [], 0, 0⟩] })
     (s.pier 0).watchClosing = [⟨0, [], 0, 0⟩] ∧ s.bankInUse 0 = false) ∧ (State.reset.pier 0).watchClosing = [] := by decide +kernel

theorem wit_WaitTimeoutRecorded :
    (let s := (withWord 0 64 (2 ^ 64 + 2 ^ 78)).setOd 0 0xF122 0 1
     s.odv 0 0xF122 0 ≠ 0 ∧ s.standing 0 64 = true ∧ (s.queue 0 64).timedOut = false ∧ s.headBad 0 64 = false
       ∧ (s.queue 0 64).met = false ∧ s.waitMet 0 (s.queue 0 64) (s.headWord 0 64) = false) ∧
    (State.reset.setOd 0 0xF122 0 0).odv 0 0xF122 0 = 0 ∧ State.reset.standing 0 64 = false ∧ State.reset.flight 0 64 0 = none ∧
    (let f := { flight0 with word := 0x22, begun := 0 }
     let s := (inFlight 0 64 f).setOd 0 0xF122 0 1
     (s.flight 0 64 0).any (fun f => decide (f.timedOut = false ∧ s.waitsInside 0 64 f = true)) = true) ∧
    ((inFlight 0 64 flight0).flight 0 64 0).any (fun f => decide ((inFlight 0 64 flight0).waitsInside 0 64 f = false)) = true := by decide +kernel

theorem wit_ReservedEncodingFaults :
    (let s := withWord 0 0 (0x46 + 2 ^ 120); s.ready 0 0 = true ∧ s.headBad 0 0 = false ∧ (spanOk (s.headWord 0 0) && commonOk (s.headWord 0 0)) = false) ∧
    (let s := withWord 0 0 badWord; s.ready 0 0 = true ∧ s.headBad 0 0 = true) ∧
    (let s := withWord 0 0 0x46; s.headBad 0 0 = false ∧ (spanOk (s.headWord 0 0) && commonOk (s.headWord 0 0)) = true ∧ opOf (s.headWord 0 0) ≠ 0x40) ∧
    live.ready 0 0 = false ∧
    (let s := withWord 0 80 0x7F; s.ready 0 80 = true ∧ s.headBad 0 80 = false ∧ (trOk (s.headWord 0 80) && commonOk (s.headWord 0 80)) = false) ∧
    (let s := withWord 0 81 0x7F; s.ready 0 81 = true ∧ s.headBad 0 81 = false ∧ (ilOk (s.headWord 0 81) && commonOk (s.headWord 0 81)) = false) := by decide +kernel

theorem wit_SpanLatches :
    (let s := withWord 0 0 0x46
     Latches s 0 0 0x46 spanOk ∧ (s.latchAll 0 (spanHandles (s.headWord 0 0))).isSome = true ∧
      nestOk (s.rawNest 0 (loopOf (s.headWord 0 0))) (spanUsed 0x46) = true) ∧
    (let s := withWord 0 0 astat00
     Latches s 0 0 0x45 spanOk ∧ (s.latchAll 0 (spanHandles (s.headWord 0 0))).isSome = true ∧
      nestOk (s.rawNest 0 (loopOf (s.headWord 0 0))) (spanUsed 0x45) = true) := by decide +kernel

theorem wit_DeckElementRowsLatch :
    DeckLatches (withWord 0 32 0) 0 0 0x00 [Held.none, Held.none] ∧
    DeckLatches (withWord 0 32 addChain) 0 0 0x10 [Held.none, Held.none] := by decide +kernel

theorem wit_DeckOtherRowsLatch :
    DeckLatches (withWord 0 32 0x70) 0 0 0x70 [Held.none, Held.none] := by decide +kernel

theorem wit_EngineExecutionsComplete :
    (let s := inFlight 0 0 flight0; (s.queue 0 0).flights = { flight0 with running := true } :: [] ∧ s.clockRuns 0 0 = true) ∧
    (let s := inFlight 0 32 flight0; (s.queue 0 32).flights[0]? = some { flight0 with running := true } ∧ s.clockRuns 0 32 = true) ∧
    ({ flight0 with running := true }).null = false ∧ ({ flight0 with total := 2 }).begun < 2 ∧
    ((inFlight 0 0 { flight0 with total := 2 }).queue 0 0).flights = { flight0 with total := 2, running := true } :: [] ∧
    (let f := { flight0 with null := true, running := true }; (((inFlight 0 32 f).queue 0 32).flights[0]? = some f ∧ f.null = true)) ∧
    (live.queue 0 0).flights.head? = none ∧ (live.queue 0 32).flights[0]? = none ∧
    (let s := (inFlight 0 0 flight0).setPair 0 0 { Pair.zero with spanSt := .waking, deckSt := .waking }
     s.engine 0 0 false = .waking ∧ s.engine 0 0 true = .waking ∧ s.clockRuns 0 0 = true ∧ s.cluster (clusterOf 0 0) ≠ .off ∧
      s.cluster (clusterOf 0 0) ≠ .restoring ∧
      (((s.setCluster (clusterOf 0 0) .gated).setEngine 0 0 false .run).queue 0 0).flights = { flight0 with running := true } :: [] ∧
      (((s.setCluster (clusterOf 0 0) .gated).setEngine 0 0 true .run).queue 0 32).flights = []) ∧
    (let s := ((live.setPair 0 0 { Pair.zero with spanSt := .waking, deckSt := .waking }).setQueue 0 32
       { Queue.zero with flights := [{ flight0 with begun := 0 }] })
     (((s.setCluster (clusterOf 0 0) .gated).setEngine 0 0 false .run).queue 0 0).flights = [] ∧
     (((s.setCluster (clusterOf 0 0) .gated).setEngine 0 0 true .run).queue 0 32).flights[0]? = some { flight0 with begun := 0 } ∧
     unbegun { flight0 with begun := 0 } = true) ∧
    live.engine 0 0 false ≠ .waking := by decide +kernel

theorem wit_CopyInstructionsLatch :
    (let s := withWord 0 64 0
     Latches s 0 64 0x00 copyOk ∧ (s.headFetch 0 64).latchAll 0 (copyHandles (s.headWord 0 64)) = some [] ∧
      nestOk ((s.headFetch 0 64).rawNest 0 (loopOf (s.headWord 0 64))) (copyUsed 0) = true) ∧
    (let s := withWord 0 64 0x13
     Latches s 0 64 0x13 copyOk ∧ ((s.headFetch 0 64).latchAll 0 (copyHandles (s.headWord 0 64))).isSome = true ∧
      nestOk ((s.headFetch 0 64).rawNest 0 (loopOf (s.headWord 0 64))) (copyUsed 0x13) = true) ∧
    (let s := inFlight 0 64 flight0
     (s.queue 0 64).flights = { flight0 with running := true } :: [] ∧ s.asking 0 = false ∧ s.host.snoopWait = []) ∧
    ({ live with host := { live.host with snoopWait := [(0, [])] } } : State).host.snoopWait ≠ [] ∧ (live.queue 0 64).flights = [] ∧
    localCopy 0x28 = false ∧ localCopy 0x22 = false ∧ opOf 0x22 ≠ 0x28 := by decide +kernel

/-- Pier 0 with a request of bank 3 from copy engine 5 at a stage, its identity 7. -/
def asked (st : ReqStage) : State :=
  live.modPier 0 (fun r => { r with reqs := [⟨3, 0, 5, ⟨0, 5, 69, 7⟩, false, st⟩] })

theorem wit_FastTierCommands :
    ((live.pier 0).refreshing.contains 3 = false ∧ live.chooseHeld 0 3 = none) ∧
    ((asked .held).chooseHeld 0 3 = some 0 ∧ (asked .held).mayAdmit 0 3 = true) ∧
    (((asked .held).modPier 0 (fun r => r.refresh 3 true)).pier 0).refreshing.contains 3 = true ∧
    (let s := (asked .held).setOd 0 0x3000 0 1
     let s := s.modPier 0 (fun r => { r with reqs := r.reqs ++ [⟨3, 0, 5, ⟨0, 5, 69, 8⟩, false, .admitted⟩] })
     let t := s.serveFirst 0 (fun q => q.bank = 3)
     s.chooseHeld 0 3 = some 0 ∧ s.mayAdmit 0 3 = false ∧ t.mayAdmit 0 3 = true ∧ t.chooseHeld 0 3 = some 0) ∧
    (let s := ((asked .held).setOd 0 0x3000 0 1).modPier 0 (fun r => { r with reqs := r.reqs ++
       [⟨3, 0, 5, ⟨0, 5, 69, 8⟩, false, .admitted⟩, ⟨3, 0, 5, ⟨0, 5, 69, 8⟩, false, .admitted⟩] })
     s.chooseHeld 0 3 = some 0 ∧ s.mayAdmit 0 3 = false ∧ (s.serveFirst 0 (fun q => q.bank = 3)).mayAdmit 0 3 = false) ∧
    ((asked .held).pier 0).reqs[0]? = some ⟨3, 0, 5, ⟨0, 5, 69, 7⟩, false, .held⟩ := by decide +kernel

theorem wit_GuardWritesChecked :
    0 % 2 ^ 21 = 0 ∧ 0 < fastSize ∧ live.guardFits 0 0 (live.odv 0 0x3021 2) = true ∧
    live.guardFits 0 (live.odv 0 0x3021 1) (2 ^ 21) = true ∧ 1 % 2 ^ 21 ≠ 0 := by decide +kernel

/-- A request of originator o that nothing has happened to. -/
def asks (o seq : Nat) : ArbReq := ⟨o, 0, 4, 0, 0, 0, 0, seq, 0, 0, 0, 0, 0⟩

theorem wit_ArbiterCommands :
    (0 < arbInstances 0 ∧ originOk 1 = true ∧ originOk 82 = false ∧ (live.comingLen 0 0 1 0 4).1 = 4) ∧
    (let s := live.arbRequest 0 0 0 0 1 0 4
     (s.arbInst 0 0).owner = none ∧ s.arbSelect (s.arbInst 0 0) = some (.fresh (asks 1 0))) ∧
    (let s := live.setArbInst 0 0 { ArbInst.zero with suspended := [asks 1 0] }
     (s.arbInst 0 0).owner = none ∧ s.arbSelect (s.arbInst 0 0) = some (.resume (asks 1 0))) ∧
    live.arbSelect (live.arbInst 0 0) = none ∧
    (let s := ((live.arbRequest 0 0 0 0 1 0 4).arbGrant 0 0 1 0).arbRequest 0 0 0 0 2 0 4
     (s.arbInst 0 0).owner.isSome = true ∧ s.arbSelect (s.arbInst 0 0) = some (.fresh (asks 2 1)) ∧
      (s.arbInst 0 0).owner.all (fun o => !s.mayPreempt (s.arbInst 0 0) o (.fresh (asks 2 1)) 0 && !o.overdue 0
        && decide (o.hold < o.holdLimit)) = true ∧
      (s.arbInst 0 0).owner.all (fun o => o.overdue (2 ^ 20) && decide (o.holdLimit ≤ o.hold + 2 ^ 20) && decide (min 1 (2 ^ 20) < o.left)) = true ∧
      ((s.arbElapse 0 0 1 1).arbInst 0 0).owner.isSome = true) ∧
    (let s := ((((live.setOd 0 0x3810 9 1).setOd 0 0x3810 10 3).arbRequest 0 0 0 0 1 0 4).arbGrant 0 0 1 0).arbRequest 0 0 0 0 2 0 4
     let s := (s.priorityWrite 2 3).2
     s.arbSelect (s.arbInst 0 0) = some (.fresh (asks 2 1)) ∧
      (s.arbInst 0 0).owner.all (fun o => s.mayPreempt (s.arbInst 0 0) o (.fresh (asks 2 1)) 0 && !o.overdue 0) = true) := by decide +kernel

theorem wit_TrestleLatches_open :
    Latches (trestle 0) 0 80 0x00 trOk ∧
    (let s := trestle (0x10 + 3 * 2 ^ 8 + 4 * 2 ^ 22); let w := s.headWord 0 80; let u := s.headFetch 0 80
     Latches s 0 80 0x10 trOk ∧ ((u.latchAll 0 [trH0 w, trH1 w]).any (fun o => let hc := o.getD 0 Held.none; let hr := o.getD 1 Held.none; decide (gopenFault 0 hc.d hr.d = none)) = true) ∧ (u.liveAt 0 (trLive w)).st = .free) ∧
    Latches (trestle 0x11) 0 80 0x11 trOk ∧ (((trestle 0x11).headFetch 0 80).liveAt 0 0).st = .free ∧
    Latches (trLiveState 0x11 true) 0 80 0x11 trOk ∧
    (let e := ((trLiveState 0x11 true).headFetch 0 80).liveAt 0 0; e.st = .live ∧ e.backward = true) ∧
    (let e := ((trLiveState 0x11 false).headFetch 0 80).liveAt 0 0; e.st = .live ∧ e.backward = false) := by decide +kernel

theorem wit_TrestleLatches_route :
    (let s := trLiveState (0x12 + 1 * 2 ^ 8 + 2 * 2 ^ 22) false; let w := s.headWord 0 80; let u := s.headFetch 0 80
     let l := parseLayer (u.rawLayer 0 0); let v := (u.readLayer 0 w).readMap 0 l
     Latches s 0 80 0x12 trOk ∧ LayerAt u 0 w l ∧
     (((List.range l.e).map (v.mapEntry 0 l)).any fun m => decide (m / 2 ^ 28 ≠ 0)) = false ∧
     ((u.latchAll 0 [trH0 w, trH1 w]).any (fun o => let ops := o; decide (v.routeFault 0 w l ops = none)) = true)) ∧
    (let s := trLiveState (0x30 + 2 * 2 ^ 8 + 6 * 2 ^ 22) false; let w := s.headWord 0 80; let u := s.headFetch 0 80
     let l := parseLayer (u.rawLayer 0 0); let x := parseExt (u.rawExt 0 0)
     let a := readExt u 0 w
     let v := (a.readRoute 0 (Asker.trestle 0) (a.liveAt 0 0).hr 1).readTable 0 l.mapBase (8 * l.e)
     Latches s 0 80 0x30 trOk ∧ ExtAt u 0 w l x ∧ (a.liveAt 0 0).st = .live ∧ l.k = 1 ∧
     ((u.latchAll 0 [trH0 w, trH1 w]).any (fun o => let ops := o; decide ((ops.getD 0 Held.none).d.extent 1 = 1 ∧ v.gsendFault 0 w l x ops = none ∧ v.gsendMapBad 0 w l 1 = false)) = true)) := by decide +kernel

theorem wit_TrestleLatches_inbox :
    (let s := trestle 0x13; let w := s.headWord 0 80; let u := s.headFetch 0 80; let l := parseLayer (u.rawLayer 0 0)
     let v := (u.readLayer 0 w).readTable 0 l.slotBase (64 * l.nslot)
     Latches s 0 80 0x13 trOk ∧ LayerAt u 0 w l ∧ l.nslot = 1 ∧
     ((v.latchAll 0 (((List.range l.nslot).map (v.rawSlot 0 l.slotBase)).map slotIdx)).any (fun o => let idx := o; decide (SlotsAt v 0 l ((List.range l.nslot).map (v.rawSlot 0 l.slotBase)) idx)) = true)) ∧
    (let s := trestle 0x31; let w := s.headWord 0 80; let u := s.headFetch 0 80
     let l := parseLayer (u.rawLayer 0 0); let x := parseExt (u.rawExt 0 0)
     let v := (readExt u 0 w).readTable 0 x.slotBase (64 * l.nslot)
     Latches s 0 80 0x31 trOk ∧ ExtAt u 0 w l x ∧
     ((v.latchAll 0 (((List.range l.nslot).map (v.rawSlot 0 x.slotBase)).map slotIdx)).any (fun o => let idx := o; decide (SlotsAt v 0 l ((List.range l.nslot).map (v.rawSlot 0 x.slotBase)) idx)) = true)) ∧
    (let s := { trestle 0x13 with od := [] }; (s.headFetch 0 80).lteUsed 0 (trLte (s.headWord 0 80)) = false) ∧
    (let u := (trLiveState 0x10 false).headFetch 0 80; (u.liveAt 0 0).st = .live) ∧
    (((trestle 0x10).setLive 0 0 { LiveEntry.zero with st := .quiet }).liveAt 0 0).st = .quiet := by decide +kernel

theorem wit_TrestleLatches_answer :
    (let s := trestle (0x14 + 2 * 2 ^ 8); let w := s.headWord 0 80; let u := s.headFetch 0 80; let l := parseLayer (u.rawLayer 0 0)
     let v := (u.readLayer 0 w).readTable 0 (l.slotBase + 64 * trSlot w) 64; let r := v.rawSlot 0 l.slotBase (trSlot w)
     Latches s 0 80 0x14 trOk ∧ LayerAt u 0 w l ∧ trSlot w < l.nslot ∧ slotOk r = true ∧
     ((v.latchAll 0 [trH0 w, slotIdx r]).any (fun o => let hs := o.getD 0 Held.none; let idx := o.getD 1 Held.none; decide (idxOk 0 l idx.d = true ∧ hs.d.fmt = 5 ∧ hs.d.extent 0 = l.h ∧ idx.d.extent 0 ≤ hs.d.extent 1 ∧ hs.d.flat2 = true ∧ badPlace 0 hs = false)) = true)) ∧
    (let s := trestle (0x32 + 2 * 2 ^ 8 + 6 * 2 ^ 22); let w := s.headWord 0 80; let u := s.headFetch 0 80
     let l := parseLayer (u.rawLayer 0 0); let x := parseExt (u.rawExt 0 0)
     let v := (readExt u 0 w).readTable 0 (x.slotBase + 64 * trSlot w) 64; let r := v.rawSlot 0 x.slotBase (trSlot w)
     Latches s 0 80 0x32 trOk ∧ ExtAt u 0 w l x ∧ trSlot w < l.nslot ∧ trGbank w < x.banks ∧ slotOk r = true ∧
     ((v.latchAll 0 [trH0 w, trH1 w, slotIdx r]).any (fun o => let hs := o.getD 0 Held.none; let hp := o.getD 1 Held.none; let idx := o.getD 2 Held.none; decide (idx.d.fmt = 9 ∧ hs.d.fmt = x.dxFmt ∧ hs.d.extent 0 = l.h ∧ idx.d.extent 0 ≤ hs.d.extent 1 ∧ hs.d.flat2 = true ∧ badPlace 0 hs = false ∧ hp.d.fmt = 6 ∧ idx.d.extent 0 ≤ hp.d.count ∧ badPlace 0 hp = false)) = true)) := by decide +kernel

theorem wit_TrestleLatches_export :
    (let s := trLiveState (0x15 + 1 * 2 ^ 8) false; let w := s.headWord 0 80; let u := s.headFetch 0 80; let e := u.liveAt 0 0
     Latches s 0 80 0x15 trOk ∧ e.st = .live ∧
     ((u.latchAll 0 [trH0 w]).any (fun o => let hd := o.getD 0 Held.none; decide (hd.d.fmt = 6 ∧ badPlace 0 hd = false ∧ hd.d.extent 0 = e.hc.extent 0 ∧ hd.d.extent 1 = e.hc.extent 1 ∧ hd.d.flat2 = true)) = true)) ∧
    (let s := trLiveState (0x33 + 1 * 2 ^ 8 + 6 * 2 ^ 22) true; let w := s.headWord 0 80; let u := s.headFetch 0 80
     let e := (readExt u 0 w).liveAt 0 0; let l := parseLayer (u.rawLayer 0 0); let x := parseExt (u.rawExt 0 0)
     Latches s 0 80 0x33 trOk ∧ ExtAt u 0 w l x ∧ e.st = .live ∧ e.backward = true ∧
     ((u.latchAll 0 [trH0 w, trH1 w]).any (fun o => let hd := o.getD 0 Held.none; let hs := o.getD 1 Held.none; decide (∀ d ∈ [hd, hs], d.d.fmt = 6 ∧ d.d.extent 0 = l.e ∧ d.d.extent 1 = e.hc.extent 1 ∧ d.d.flat2 = true ∧ badPlace 0 d = false)) = true)) ∧
    (let s := trestle 0x34; let w := s.headWord 0 80; let u := s.headFetch 0 80
     let l := parseLayer (u.rawLayer 0 0); let x := parseExt (u.rawExt 0 0)
     Latches s 0 80 0x34 trOk ∧ ExtAt u 0 w l x ∧ ∀ k < l.nslot, x.wgBase + k * x.wgStride + x.areaSize ≤ fastSize) ∧
    (((trestle 0x15).headFetch 0 80).liveAt 0 0).st ≠ .live := by decide +kernel

/-- A flight of an opcode alone in queue 80 of Pier 0. -/
def alone80 (f : Flight) : State := live.setQueue 0 80 { Queue.zero with flights := [f] }

theorem wit_TrestleWorkCompletes :
    (let f := { flight0 with word := 0x12 }; (alone80 f).flight 0 80 0 = some f ∧ f.null = false ∧ (alone80 f).allVisible 0 = true ∧
      (alone80 f).flight 0 80 1 = none ∧ f.running = false ∧ { f with running := true }.running = true) ∧
    (let f := { flight0 with word := 0x13 }; let u := ((alone80 f).readArrivals 0 (inboxJob f)).inboxTest 0 0
     u.flight 0 80 0 = some f ∧ u.inboxReady 0 (inboxJob f) = true) ∧
    (let f := { flight0 with word := 0x31 }; let u := ((alone80 f).readArrivals 0 (inboxJob f)).inboxTest 0 0
     u.flight 0 80 0 = some f ∧ u.inboxReady 0 (inboxJob f) = true) ∧
    (let f := { flight0 with word := 0x33 }
     let s := (alone80 f).setLive 0 0 { LiveEntry.zero with st := .live, sent := true }
     s.flight 0 80 0 = some f ∧ (s.liveAt 0 0).st = .live ∧ (s.liveAt 0 0).sent = true ∧
      (s.liveAt 0 0).arrived = (s.liveAt 0 0).expected) ∧
    ((live.setLive 0 0 { LiveEntry.zero with st := .quiet }).liveAt 0 0).st = .quiet ∧ (live.liveAt 0 0).st ≠ .quiet ∧
    (let pk := mkPacket 0 0 0 0 2 2 0 1 0 0 (toBytes 32 0); let s := { live with fab := { live.fab with inbox0 := [pk] } }
     s.inboxOf 0 2 = some pk ∧ pk.proto = 2 ∧ pk.nseg ≤ 1) ∧
    (let pk := mkPacket 0 0 0 0 2 2 0 2 0 0 (toBytes 32 0); let s := { live with fab := { live.fab with inbox0 := [pk] } }
     s.inboxOf 0 2 = some pk ∧ 1 < pk.nseg ∧ ((s.takeInbox 0 2).stage 0 0 2 (pk.body.take 32) (pk.body.drop 32)).2 = none) ∧
    live.inboxOf 0 2 = none := by decide +kernel

theorem wit_TrestleWorkCompletes_waits :
    (let f := { flight0 with word := 0x13, args := [0, 0, rawL, 0, 0] }
     let u := ((alone80 f).readArrivals 0 (inboxJob f)).inboxTest 0 0
     u.flight 0 80 0 = some f ∧ u.inboxReady 0 (inboxJob f) = false) := by decide +kernel

theorem wit_IlbenLatches_a :
    Latches (ilben 0 .idle) 0 81 0x00 ilOk ∧
    (let s := (ilben 0x10 .idle).setOd 0 0x7005 0 0; let u := s.headFetch 0 81
     Latches s 0 81 0x10 ilOk ∧ u.upd.st = .idle ∧ u.groupsNamed u.updObjects = []) ∧
    (let s := ilben (0x11 + 2 ^ 24) .opened; let u := s.headFetch 0 81
     Latches s 0 81 0x11 ilOk ∧ u.upd.st = .opened ∧ (u.namedTensors 0 u.upd.cfg (s.headWord 0 81)).2.isOk = true) ∧
    (let s := ilben (0x11 + 2 ^ 8 + 2 ^ 24) .opened; let u := s.headFetch 0 81
     (u.namedTensors 0 u.upd.cfg (s.headWord 0 81)).2.isOk = false) ∧
    (let s := { ilben 0x12 .opened with upd := { Upd.zero with st := .opened, cfg := { upd0 with nnorm := 0 } } }; let u := s.headFetch 0 81
     Latches s 0 81 0x12 ilOk ∧ u.upd.st = .opened ∧ u.normOk u.upd.cfg = false) ∧
    (let s := { ilben 0x13 .exported with upd := { Upd.zero with st := .exported, cfg := { upd0 with nnorm := 0 } } }; let u := s.headFetch 0 81
     Latches s 0 81 0x13 ilOk ∧ u.upd.st = .exported ∧ u.normOk u.upd.cfg = false) ∧
    (let s := ilben 0x12 .opened; let u := s.headFetch 0 81
     Latches s 0 81 0x12 ilOk ∧ u.upd.st = .opened ∧ u.normOk u.upd.cfg = true) := by decide +kernel

theorem wit_IlbenLatches_b :
    (let s := ilben 0x13 .exported; let u := s.headFetch 0 81
     Latches s 0 81 0x13 ilOk ∧ u.upd.st = .exported ∧ u.normOk u.upd.cfg = true ∧ u.bucketState 0 0 ≠ bkHeld ∧
      u.bucketState 0 0 ≠ bkFailed ∧ ((u.readTensors 0 u.upd.cfg 0x13 (List.range 1)).latchTensors u.upd.cfg 0x13 false (List.range 1)).isOk = true) ∧
    (let s := ilben (0x14 + 2 ^ 24) .normed; let u := s.headFetch 0 81
     Latches s 0 81 0x14 ilOk ∧ u.upd.st = .normed ∧ (u.namedTensors 0 u.upd.cfg (s.headWord 0 81)).2.isOk = true) ∧
    (let s := ilben (0x15 + 2 ^ 24) .idle; let u := s.headFetch 0 81
     Latches s 0 81 0x15 ilOk ∧ u.upd.st = .idle ∧ (u.namedTensors 0 u.updObjects (s.headWord 0 81)).2.isOk = true) ∧
    (let s := ilben 0x16 .normed; Latches s 0 81 0x16 ilOk ∧ (s.headFetch 0 81).upd.st = .normed) := by decide +kernel

theorem wit_IlbenWorkCompletes :
    (ilJob 0x11 .opened).upd.jobs[0]? = some ⟨0, 9, 0x11, false, upd0, [], [], 0, 0, 0⟩ ∧
    (let s := ilJob 0x11 .opened; let j : UpdJob := ⟨0, 9, 0x11, false, upd0, [], [], 0, 0, 0⟩
     (s.ilWork j (j.items.length - j.did)).upd.jobs[0]? = some j ∧ j.did = j.items.length ∧ s.host.snoopWait = []) ∧
    (ilJob 0x12 .opened).ilNext 0x12 = some ⟨0, 9, 0x12, false, upd0, [], [], 0, 0, 0⟩ ∧
    (ilJob 0x13 .exported).ilNext 0x13 = some ⟨0, 9, 0x13, false, upd0, [], [], 0, 0, 0⟩ ∧
    (ilJob 0x13 .exported).bucketState upd0.nbPier upd0.nb = bkReduced ∧
    ((ilJob 0x13 .exported).setBucketState 0 0 1).bucketState upd0.nbPier upd0.nb ∉ [bkReduced, bkHeld, bkFailed] ∧
    (ilJob 0x16 .normed).ilNext 0x16 = some ⟨0, 9, 0x16, false, upd0, [], [], 0, 0, 0⟩ ∧
    live.ilNext 0x12 = none ∧ live.ilNext 0x13 = none ∧ live.ilNext 0x16 = none ∧
    (let s := { live with commit := { Commit.zero with pstate := .idle } }; s.upd.st = .idle ∧ s.commit.pstate = .idle) ∧
    live.commit.pstate ≠ .idle := by decide +kernel

theorem wit_RemoteCopyInstructionsLatch :
    (let s := remote (0x20 + 1 * 2 ^ 8 + 2 * 2 ^ 22); let w := s.headWord 0 64; let u := s.headFetch 0 64
     let v := u.touchReadRun (Asker.queue 0 64 0) 0 ffPattern (u.bucketAddr 0 0, 128)
     Latches s 0 64 0x20 copyOk ∧ redBucket w < u.bucketCount 0 ∧ v.bucketCount 0 = u.bucketCount 0 ∧
     (bucketOk (v.bucketRaw 0 0) && bucketRestOk (v.bucketRest 0 0)) = true ∧
     (u.latchAll 0 [cpHd w, cpHs w]).any (fun o => decide (v.redFault 0 0 (v.bucketRaw 0 0) o = none)) = true ∧
     (v.setBucketState 0 0 1).redFault 0 0 (v.bucketRaw 0 0) [] = some 7 ∧ (s.setOd 0 0x5807 1 0).bucketCount 0 ≤ redBucket w) ∧
    (let s := remote (0x21 + 3 * 2 ^ 8 + 2 * 2 ^ 22); let w := s.headWord 0 64; let u := s.headFetch 0 64
     Latches s 0 64 0x21 copyOk ∧ nestOk (u.rawNest 0 (loopOf w)) [true, true, false] = true ∧
     (parseNest (u.rawNest 0 (loopOf w))).total ≠ 0 ∧
     (u.latchAll 0 [cpHd w, cpHs w]).any (fun o => decide ((o.getD 0 Held.none).d.count ≠ 0)) = true) ∧
    (let s := remote (0x22 + 5 * 2 ^ 8); Latches s 0 64 0x22 copyOk ∧ fenceLayout (s.headWord 0 64) ≠ (s.headFetch 0 64).curLayout) ∧
    (let s := remote 0x22; Latches s 0 64 0x22 copyOk ∧ fenceLayout (s.headWord 0 64) = (s.headFetch 0 64).curLayout) := by decide +kernel

theorem wit_RemoteCopyInstructionsLatch_map :
    (let s := remote (0x28 + 1 * 2 ^ 8 + 2 * 2 ^ 22); let w := s.headWord 0 64; let u := s.headFetch 0 64
     Latches s 0 64 0x28 copyOk ∧ nestOk (u.rawNest 0 (loopOf w)) [true, true, false] = true ∧
     (parseNest (u.rawNest 0 (loopOf w))).total ≠ 0 ∧ (u.latchAll 0 [cpHd w, cpHs w]).isSome = true) ∧
    (let s := remote (0x29 + 4 * 2 ^ 8 + 2 * 2 ^ 22); let w := s.headWord 0 64; let u := s.headFetch 0 64
     Latches s 0 64 0x29 copyOk ∧ (u.latchAll 0 [cpHd w, cpHs w]).any (fun o => decide ((u.readOperand 0 (Asker.queue 0 64 (u.reqIdent 0 64)) (o.getD 0 Held.none)).permFault 0 o = none ∧
       (o.getD 0 Held.none).d.count ≠ 0 ∧ u.permFault 0 [] = some 0 ∧
       (let g := u.guardCheck 0 64 { u.newFlight 0 64 w o Nest.one false with args := [u.reqIdent 0 64, 0, 0] } [0, 1]
        g.1.firstForeign 0 3 [(1, g.2.ops.getD 1 Held.none)] = none))) = true) ∧
    (let f := { flight0 with word := 0x28, args := [9] }; let s := live.setQueue 0 64 { Queue.zero with flights := [f] }
     (s.queue 0 64).flights = f :: [] ∧ opOf f.word = 0x28 ∧ s.flightOf 0 64 9 = some 0 ∧ s.flight 0 64 0 = some f ∧
      s.allVisible 9 = true) := by decide +kernel

/-- A bucket's job with nothing received. -/
def job0 : Red := ⟨0, 64, 9, 0, Held.none, Held.none, 0, 0, 0, 0, [], [], [], [], [], [], [], 0, true, false, [], false⟩

theorem wit_ReductionCommands :
    (let pk := mkPacket 0 0 0 0 3 3 0 1 0 0 []; let s := { live with fab := { live.fab with inbox0 := [pk], inboxR := [pk] } }
     s.fab.inboxR = pk :: [] ∧ s.inboxOf 0 3 = some pk ∧ live.fab.inboxR = [] ∧ live.inboxOf 0 3 = none) ∧
    (let s := live.modPier 0 (fun r => { r with reds := [job0] })
     s.redOf 0 0 = some job0 ∧ job0.full = true ∧ (s.fab.reqs.any fun x => x.ident = job0.ident) = false ∧
      s.asking job0.ident = false ∧ s.host.snoopWait = [] ∧ live.redOf 0 0 = none) ∧
    (let j := { job0 with full := false }; (live.modPier 0 (fun r => { r with reds := [j] })).redOf 0 0 = some j) ∧
    (let s := live.setOd 0 0x5807 1 1; 0 < s.bucketCount 0 ∧ s.bucketState 0 0 ≠ bkOpen ∧ live.bucketCount 0 ≤ 0) ∧
    (let r : Req := ⟨7, .reduce, 9, 0, mkPacket 0 0 0 0 3 3 0 1 0 7 [], true⟩
     let s := { live with fab := { live.fab with reqs := [r] } }
     s.fab.reqs.find? (fun x => decide (x.tag = 7) && x.retry && decide (x.kind = .reduce)) = some r) ∧
    (let s := { live with fab := { live.fab with fences := [⟨0, 64, 9, 5⟩] } }
     s.fab.fences = ⟨0, 64, 9, 5⟩ :: [] ∧ s.drained = true) ∧
    (let s := { live with fab := { live.fab with fences := [⟨0, 64, 9, 5⟩] } }.modPier 0 (fun r => { r with reds := [job0] })
     s.fab.fences = ⟨0, 64, 9, 5⟩ :: [] ∧ s.drained = false) ∧
    5 < 2 ^ 16 ∧ live.p0.reds = [] ∧ live.p1.reds = [] ∧ live.permuting = false := by decide +kernel

/-- A state whose Pier 0 has one packet, and one request with TAG 7. -/
def arrived (pk : Packet) (k : ReqKind) : State :=
  { live with fab := { live.fab with inbox0 := [pk], reqs := [⟨7, k, 9, 0, mkPacket 0 0 0 0 6 7 0 1 0 7 [], true⟩] } }

/-- A map packet of kind k for step 1 of attempt 0. -/
def mapPk (k sig addr : Nat) (data : List Byte) : Packet :=
  mkPacket 0 0 0 0 6 7 0 1 0 7 (toBytes 32 (k + 2 ^ 32 + sig * 2 ^ 48 + addr * 2 ^ 64) ++ data)

theorem wit_PacketsTakenAndAnswered :
    (let pk := mkPacket 0 0 0 0 2 1 0 1 16 0 [1]; (arrived pk .row).inboxOf 0 2 = some pk ∧ pk.proto = 1 ∧
      pk.addr + pk.body.length ≤ fastSize ∧ pk.body ≠ []) ∧
    (let pk := mkPacket 0 0 0 0 2 1 0 1 (2 ^ 40) 0 [1]; (arrived pk .row).inboxOf 0 2 = some pk ∧ pk.proto = 1 ∧
      fastSize < pk.addr + pk.body.length) ∧ live.inboxOf 0 2 = none ∧ live.inboxOf 0 0 = none ∧ live.inboxOf 0 6 = none ∧ live.fab.reqs = [] ∧ live.fab.fences = [] ∧
    (let pk := mkPacket 0 0 0 0 2 2 0 1 0 0 [1]; (arrived pk .row).inboxOf 0 2 = some pk ∧ pk.proto ≠ 1) ∧
    (let pk := mkPacket 0 0 0 0 0 4 0 1 0 7 (toBytes 8 7)
     ∀ k ∈ [ReqKind.row, .answer, .reduce, .mapData], (arrived pk k).inboxOf 0 0 = some pk ∧
      (((arrived pk k).takeInbox 0 0).fab.reqs.find? (fun r => decide (r.tag = bits 31 0 (ofBytes (pk.body.take 8)))
        && decide (r.pkt.srcPier = 0))).any (fun r => decide (r.kind = k)) = true) ∧
    (let pk := mapPk 1 0 64 [5]; (arrived pk .row).inboxOf 0 6 = some pk ∧ bits 7 0 (ofBytes (pk.body.take 32)) ≠ 2 ∧
      (arrived pk .row).mapJudge 0 pk = (arrived pk .row, 0) ∧ bit 11 (ofBytes (pk.body.take 32)) = false) ∧
    (let pk := mapPk (1 + 2 ^ 11) 0 64 [5]; (arrived pk .row).inboxOf 0 6 = some pk ∧
      (arrived pk .row).mapJudge 0 pk = (arrived pk .row, 0) ∧ bit 11 (ofBytes (pk.body.take 32)) = true ∧
      (arrived pk .row).runHeld 64 1 = false) ∧
    (let pk := mapPk 2 3 0 []; (arrived pk .row).inboxOf 0 6 = some pk ∧ bits 7 0 (ofBytes (pk.body.take 32)) = 2 ∧
      (arrived pk .row).mapJudge 0 pk = (arrived pk .row, 0)) ∧
    (let pk := mapPk 1 1 64 [5]; ((arrived pk .row).mapJudge 0 pk).2 = 4) ∧
    ((arrived (mapPk 2 3 0 []) .mapData).fab.reqs.find? (fun x => decide (x.tag = 7) && x.retry
      && (x.kind = .mapData || x.kind = .mapSignal))).isSome = true := by decide +kernel

theorem wit_RoundMessagesTaken :
    (∀ k ∈ [1, 2, 3, 4], roundNext (roundState (round0 k 0)) k = some (5, 1, some (round0 k 0))) ∧
    roundNext (roundState (round0 9 0)) 1 = some (5, 1, none) ∧ roundNext live 1 = none ∧
    (let s := { live with commit := { live.commit with faulted := true } }
     s.commit.pstate = .running ∧ s.commit.exchSent = false ∧ s.attemptFaulted = true ∧ s.commit.timedOut = false) ∧
    (let s := { live with commit := { live.commit with faulted := true, pstate := .exchanged } }
     s.commit.pstate = .exchanged ∧ s.commit.voteSent = false ∧ s.voteReady = true) ∧
    (let s := { live with commit := { live.commit with pstate := .voted } }; s.commit.pstate = .voted ∧ s.commit.timedOut = false) := by decide +kernel

theorem wit_AttemptCommands :
    live.commit.inAttempt = true ∧ (State.reset.commit.inAttempt = false ∧ State.reset.commit.pstate ≠ .invalid) ∧
    (let t := (journaled .exchanged (round0 2 3)).readSlot 0
     t.slotToken 0 = some (round0 2 3) ∧ t.eNext = 1 ∧ t.journalOk = true ∧ t.commit.pstate = .exchanged) ∧
    (let t := (journaled .exchanged (round0 2 2)).readSlot 0; t.slotToken 0 = some (round0 2 2)) ∧
    (let s := { journaled .idle (round0 2 3) with commit := { (journaled .idle (round0 2 3)).commit with attempt := 1 } }
     let t := s.readSlot 3
     t.slotToken 3 = some (round0 2 3) ∧ t.journalOk = true ∧ t.commit.pstate = .idle ∧ t.eNext = 1 ∧ 0 < t.commit.attempt) ∧
    (let t := (journaled .running (round0 2 3)).readSlot 3
     t.slotToken 3 = some (round0 2 3) ∧ t.commit.pstate ≠ .idle ∧ t.tokenMatches (round0 2 3) = true) ∧
    (let t := (journaled .voted (round0 2 3)).readSlot 3
     t.slotToken 3 = some (round0 2 3) ∧ t.commit.pstate ≠ .idle ∧ t.tokenMatches (round0 2 3) = false) ∧
    (let t := (journaled .idle (round0 2 3)).readSlot 3; t.slotToken 3 = some (round0 2 3) ∧ ¬ 0 < t.commit.attempt) ∧
    (let t := ({ journaled .idle (round0 2 3) with
       commit := { (journaled .idle (round0 2 3)).commit with live := [(odk 0 0x780A 1, 0x100000)] } }).readSlot 3
     t.slotToken 3 = some (round0 2 3) ∧ t.journalOk = false) ∧ (State.reset.readSlot 3).slotToken 3 = none := by decide +kernel
theorem wit_AttemptCommands2 :
    (let s := journaled .idle (round0 2 3)
     s.hasBuddy = true ∧ s.odv 0 0x780B 0 ≠ 0xFFFF ∧ s.commit.pstate = .idle ∧ s.commit.streamOpen = false ∧ s.slowFailed = false ∧
      s.commit.reseedWait = none ∧ s.commit.reseedLeft = none ∧ s.commit.exhausted = false) ∧
    { live with slowFailed := true }.slowFailed = true ∧
    (let s := { journaled .idle (round0 2 3) with commit := { Commit.zero with reseedLeft := some [] } }
     s.commit.reseedLeft = some [] ∧ ([] : List Nat).filter s.inPass2 = []) ∧
    ({ live with upd := { live.upd with jobs := [⟨0, 0, 0x14, false, Upd.zero.cfg, [⟨0, 0, 0, 0, 0, 0⟩], [], 0, 0, 0⟩] } }).inPass2 0 = true ∧
    ({ Commit.zero with exhausted := true }).exhausted = true ∧
    (let s := { (journaled .idle (round0 2 3)).setOd 0 0x7001 2 0x1000000 with
       mem := place 64 0x502000 (ofBytes (round0 2 3).bytes) ++ place 32 (pkey spSlow 0) (2 ^ 128 + 2 * 2 ^ 200 + 2 ^ 208) }
     let r := s.readHdr.readSlot 3
     let h := r.heldHdr; let k := r.journal 3
     r.holds = true ∧ h.mstate = 2 ∧ h.done = 1 ∧ r.num (k + 9) 1 = 2 ∧ r.num k 8 = h.epoch ∧ r.num (k + 8) 1 % 8 = h.attempt) ∧
    (State.reset.readHdr.readSlot 3).holds = false := by decide +kernel

theorem wit_MirrorMessagesTaken :
    (∀ k ∈ [1, 2, 3, 4, 5, 6, 7],
      let m : MirrorMsg := ⟨k, 0, false, 5, 1, 0, 0, []⟩
      let s := mirrorState m
      s.mirrorVisible = true ∧ (mirrorNext s k).any (fun x => decide (x.1 = 0 ∧ x.2.2 = some m)) = true ∧
      (mirrorNext (mirrorState1 m) k).any (fun x => decide (x.1 = 1 ∧ x.2.2 = some m)) = true ∧ mirrorNext s 0 = none) ∧
    (mirrorNext (mirrorState ⟨9, 0, false, 5, 1, 0, 0, []⟩) 1).any (fun x => decide (x.2.2 = none)) = true ∧
    mirrorNext live 1 = none ∧
    { live with host := { live.host with snoopWait := [(0, [])] } }.mirrorVisible = true ∧
    ({ live.setOd 0 0x7001 2 64 with host := { live.host with snoopWait := [(0, [])] } }).mirrorVisible = false := by decide +kernel

theorem wit_LinkLayerCommands :
    ((live.port 0).st ≠ .active) ∧
    (let s := portState active0; (s.port 0).st = .active ∧ (s.port 0).rxNext = 0 ∧ decodeCodeword [1, 2, 3, 4, 5, 6, 7, 8, 9] = none ∧ 0 = (s.port 0).txNext) ∧
    (let s := portState { active0 with replay := [⟨5, 0, []⟩] }; (s.port 0).st = .active ∧ 5 ≠ (s.port 0).txNext ∧
      ((s.port 0).replay.any fun c => c.num = 5) = true) ∧
    (let s := portState { active0 with partials := [(3, [])] }; (s.port 0).st = .active ∧
      (s.port 0).partials.find? (fun x => x.1 = 3) = some (3, [])) ∧
    (let pk := mkPacket 0 0 0 0 2 1 0 1 0 0 []; let s := portState { active0 with arrived := [(3, pk)] }
     (s.port 0).arrived = (3, pk) :: [] ∧ (live.port 0).arrived = []) ∧
    (let pk := mkPacket 0 0 0 0 2 1 0 1 0 0 []; let s := { live with fab := { live.fab with eject := [(6, pk)] } }
     s.fab.eject = (6, pk) :: [] ∧ pk.good = true ∧ (s.pier pk.destPier).inReset = false ∧ live.fab.eject = [] ∧
      (⟨pk.hdr, [1]⟩ : Packet).good = false ∧ ((s.modPier 0 (fun r => { r with inReset := true })).pier pk.destPier).inReset = true) ∧
    (let s := portState { active0 with txWait := [⟨3, true, 0, []⟩] }; ((s.port 0).txWait.find? (fun x => x.vc = 3)).isSome = true) ∧
    (let s := { live with fab := { live.fab with held := [(0, mkPacket 0 0 0 0 2 1 0 1 0 0 [])] } }
     s.fab.held.findIdx? (fun x => x.1 = 0) = some 0) ∧ live.fab.held.findIdx? (fun x => x.1 = 0) = none ∧
    (live.port 0).txWait.find? (fun x => x.vc = 3) = none ∧ ((live.port 0).replay.any fun c => c.num = 9) = false ∧
    (live.port 0).partials.find? (fun x => x.1 = 3) = none := by decide +kernel

theorem wit_LinkLayerCommands_codeword : (decodeCodeword (List.replicate 20 0)).isSome = true := by decide +kernel

theorem wit_PortStateCommands :
    (∀ st ∈ [LinkState.down, .training, .active, .selftest, .failed, .disabled],
      ((portState (Port.fresh st 0)).port 0).st = st ∧ ((portState (Port.fresh st 0)).port 0).barred = false) ∧
    (let s := portState { Port.fresh .training 0 with step := 3 }
     (s.port 0).step = 3 ∧ (1 : Nat) ≠ s.odv 0 0xA012 0 ∧ s.peerOk 0 ⟨0, 9, (0, 0, 0), (0, 0, 0), 0⟩ = false ∧
      s.peerOk 0 ⟨0, s.odv 0 0x6000 0, (s.dim 0, s.dim 1, s.dim 2), (1 % (s.dim 0), 0, 0), 1⟩ = true) ∧
    (let s := portState { active0 with nakCount := 100 }; s.overLimit 0 .replays = true ∧ s.overLimit 0 (.ratio 0) = false) ∧
    ((portState (Port.fresh .selftest 0)).portEnter 0 .failed 0 false).fabFailed = false ∧
    (((portState (Port.fresh .selftest 0)).setOd 0 0x6008 0 1).portEnter 0 .failed 0 false).fabFailed = true := by decide +kernel

theorem wit_HostAccesses :
    BarTaken hosted 0 1 ∧ BarTaken hosted 0x800000 1 ∧ BarTaken hosted 0x900000 8 ∧ BarTaken hosted 0xA01FFF 1 ∧
    BarTaken hosted 0x820000 1 ∧ BarTaken hosted 0xFFFFFF 1 ∧
    ({ hosted with errs := [] } : State).ueIn (pkey (spFast 0) 0x2000000) 1 = false ∧
    BarTaken hosted 0x2000000 1 ∧ bar2Of 0x2000000 = some (0, 0x2000000) ∧ hosted.pierDown 0 = false ∧
    hosted.inRingArea 0 0x2000000 = false ∧ hosted.inRingArea 0 0 = true ∧ BarTaken hosted 0x7800000000 1 ∧
    bar2Of 0x7800000000 = none ∧ ¬ BarTaken live 0 1 ∧
    (let s := hosted.modPier 0 (fun r => { r with inReset := true }); BarTaken s 0x2000000 1 ∧ s.pierDown 0 = true) ∧
    hosted.hdmReach 0 0 64 = true ∧ hosted.hdmReach 1 0 64 = true ∧ hosted.hdmReach 2 0 64 = false ∧
    (let s : State := { hosted with host := { hosted.host with snoopWait := [(4, [])] } }; s.host.snoopWait.filter (fun x => x.1 = 4) ≠ []) ∧
    hosted.host.snoopWait.filter (fun x => x.1 = 4) = [] ∧ hosted.hostLinked = true ∧ hosted.host.cxlMode = true ∧
    live.hostLinked = false := by decide +kernel

theorem wit_HostInterruptsAndLinks :
    (let s : State := { hosted with host := { hosted.host with notifyWait := some [3], cxlMode := false, d3hot := true } }
     s.host.notifyWait = some [3] ∧ s.host.cxlMode = false ∧ s.host.d3hot = true) ∧ hosted.host.notifyWait = none ∧
    hosted.hostLinked = true ∧ hosted.host.d3hot = false ∧ live.hostLinked = false ∧ hosted.host.linkUp = true ∧
    hosted.host.cxlMode = true ∧
    live.hostReady = true ∧ live.host.linkUp = false ∧ live.power.state = .active ∧ State.reset.power.state = .toll ∧
    ({ live with power := { live.power with state := .waking } }).power.state ≠ .active := by decide +kernel

theorem wit_MailboxCommands :
    MailboxFree hosted ∧ hosted.power.state = .active ∧ ¬ MailboxFree live ∧
    (let s : State := { hosted with power := { hosted.power with state := .waking }, sec := { hosted.sec with recovery := true } };
      MailboxFree s ∧ s.power.state ≠ .active) ∧
    hosted.sec.xfer = none ∧ hosted.host.eventLog.length < 1 ∧ 0 ≤ hosted.host.eventLog.length ∧
    (let s : State := { hosted with sec := { hosted.sec with xfer := some (1, []) } }; s.sec.xfer = some (1, [])) ∧
    (4080 : Nat) < 4081 ∧ ([] : List Byte).length ≤ 4072 ∧ 1 ≠ ([] : List Byte).length ∧ (4 : Nat) ≤ 4 ∧ ¬ (1 - 1 = 1) ∧ (2 : Nat) - 1 = 1 ∧
    hosted.sec.boot = 0 ∧ hosted.imageOk [1] = false ∧
    (let s : State := { hosted with sec := { hosted.sec with image1 := [1] } }; s.sec.image (2 - 1) ≠ []) ∧ hosted.sec.image 0 = [] := by decide +kernel

theorem wit_SpdmCommands :
    SpdmOpen live 0 ∧ ¬ SpdmOpen live 1 ∧ SpdmOpen hosted 1 ∧ live.sec.spdm.queue = [] ∧
    (let r : SpdmReq := ⟨0, 14, [], []⟩
     let s : State := live.modSpdm (fun k => { k with queue := [r], signed := some [] })
     s.sec.spdm.queue = r :: [] ∧ s.sec.spdm.deferred = false ∧ s.sec.spdm.signed.isSome = true) ∧
    (let r : SpdmReq := ⟨1, 13, [0], []⟩
     let s : State := live.modSpdm (fun k => { k with queue := [r] })
     s.sec.spdm.queue = r :: [] ∧ r.op ≠ 14 ∧ r.op = 13) ∧
    hosted.power.state = .active ∧ hosted.host.linkUp = true ∧ live.host.linkUp = false := by decide +kernel

theorem wit_InputEvents :
    darkened.power.inputPresent = false ∧ darkened.power.senseOpen = false ∧
    (let s := withPower darkened (fun w => { w with senseOpen := true, supply := true });
      s.power.inputPresent = false ∧ s.power.senseOpen = true ∧ s.power.supply = true) ∧
    (let s := withPower darkened (fun w => { w with senseOpen := true }); s.power.senseOpen = true ∧ s.power.supply = false) ∧
    tolled.power.inputPresent = true ∧ tolled.power.state = .toll ∧ tolled.power.overvoltage = false ∧
    tolled.power.inputLow = false ∧ tolled.power.millivolts < 60000 ∧ powered.power.inputPresent = true ∧
    powered.power.overvoltage = false ∧ powered.power.state ≠ .toll ∧ (62000 : Nat) < 62001 ∧ (36000 : Nat) ≤ 36000 ∧
    (let t := withPower powered (fun w => { w with millivolts := 62001, overvoltage := true });
      t.power.overvoltage = true ∧ 60000 ≤ t.power.millivolts) ∧
    (let s := withPower tolled (fun w => { w with state := .standby }); s.power.state = .standby) ∧
    powered.power.state ≠ .standby ∧ powered.power.inputPresent = true := by decide +kernel

theorem wit_PowerUpEvents :
    waking.power.state = .waking ∧ waking.power.refStable = false ∧ waking.sec.recovery = false ∧ tolled.power.state ≠ .waking ∧
    (let s := withPower waking (fun w => { w with railPending := some 1, fromStandby := true }); s.power.railPending = some 1 ∧ s.power.fromStandby = true) ∧
    (let s := withPower waking (fun w => { w with railPending := some 12 }); s.power.railPending = some 12 ∧ (12 : Nat) < 12 + 1 ∧ s.power.fromStandby = false) ∧
    waking.power.railPending ≠ some 1 ∧ 1 ∉ waking.power.railsUp ∧
    (let s := withPower waking (fun w => { w with railsUp := [0, 12] }); 12 ∈ s.power.railsUp ∧ s.power.trained = false ∧ s.power.fromStandby = false) ∧
    waking.power.released = false ∧
    (let s := withPower live (fun w => { w with released := true });
      s.power.released = true ∧ s.power.state ≠ .waking) := by decide +kernel

theorem wit_PowerStateCommands :
    (let s : State := { live with commit := { live.commit with pstate := .idle } }; s.power.state = .active ∧ s.commit.pstate = .idle) ∧
    live.commit.pstate ≠ .flipped ∧ tolled.power.state ≠ .active ∧ tolled.power.state ≠ .standby ∧
    (live.setEngine 0 0 false .run).engine 0 0 false = .run ∧ (live.setEngine 0 0 false .run).engineIdle 0 0 false = true ∧ (live.setEngine 0 0 true .gated).engine 0 0 true ≠ .run ∧
    (let g := (List.range 8).foldl (fun s i => (s.setEngine 0 i false .gated).setEngine 0 i true .gated) live
     let s := (g.setCluster 0 .gated).setOd 0 0x2020 1 3
     s.depthOk 0 1 = true ∧ s.cluster 0 = .gated ∧ s.clusterGated 0 = true) ∧
    (let g := (List.range 8).foldl (fun s i => (s.setEngine 0 i false .gated).setEngine 0 i true .gated) live
     let s := (g.setCluster 0 .parked).setOd 0 0x2020 1 3
     s.depthOk 0 2 = true ∧ s.cluster 0 = .parked ∧ s.clusterGated 0 = true) ∧
    (let s := (live.setCluster 0 .retain).setOd 0 0x2020 1 3; s.depthOk 0 3 = true ∧ s.cluster 0 = .retain ∧ s.clusterQuiet 0 = true) ∧
    (let s := live.setCluster 0 .restoring; s.cluster 0 = .restoring ∧ s.clockRuns 0 0 = true) ∧
    live.depthOk 8 1 = false ∧
    (let s := withPower (live.setCluster 0 .restoring) (fun w => { w with pLevel := 6, tLevel := [(0, 7)] })
     s.cluster 0 = .restoring ∧ s.clockRuns 0 0 = false) ∧ live.cluster 0 ≠ .restoring := by decide +kernel

theorem wit_LoopCommands :
    powered.power.inputPresent = true ∧ powered.power.state = .active ∧ tolled.power.state ≠ .active ∧ powered.power.pLevel ≤ 4 ∧
    (let s := withPower powered (fun w => { w with pLevel := 2 })
     let b := (withPower s (fun w => { w with millivolts := 48000 })).setOd 0 0x2004 4 3401
     0 < s.power.pLevel ∧ s.power.pLevel ≤ 4 ∧ b.effectiveCap 48000 < 3400 ∧ 0 ≤ b.effectiveCap 48000 ∧
     (0 : Int) < (b.effectiveCap 48000 : Int) - b.odv 0 0x2011 0) ∧
    (let s := withPower powered (fun w => { w with pLevel := 6 }); s.power.pLevel = 6) ∧
    (let s := withPower powered (fun w => { w with pLevel := 5 }); s.power.pLevel = 5) ∧
    Tab.get 0 powered.power.tLevel 0 = 0 ∧ powered.temp 0 ≤ powered.limit16 0x2012 - 48 ∧
    (let s := powered.readTemps [(0, 10000)]; s.limit16 0x2012 + 80 ≤ s.temp 0) ∧
    (let s := powered.readTemps [(0, powered.limit16 0x2012)]; s.limit16 0x2012 = s.temp 0 ∧ s.limit16 0x2012 < 10000) ∧
    (let s := withPower powered (fun w => { w with tLevel := [(0, 6), (1, 7)] }); Tab.get 0 s.power.tLevel 0 = 6 ∧ Tab.get 0 s.power.tLevel 1 = 7) ∧
    (let r := powered.readTemps [(36, 0)]; r.power.divisor 0 = 1 ∧ r.limit16 0x2013 ≤ 10000 ∧ -10000 ≤ r.limit16 0x2013 - 48) ∧
    (let s := withPower powered (fun w => { w with stackDiv := [(0, 2)] }); (s.readTemps [(36, 0)]).power.divisor 0 = 2) ∧
    (let r := powered.readTemps [(56, 2000)]; r.limit16 0x2014 ≤ max (r.temp 56) (r.temp 57)) ∧
    (let r := powered.readTemps [(56, 0)]; max (r.temp 56) (r.temp 57) ≤ r.limit16 0x2014 - 48) ∧
    (let r := powered.readTemps [(56, powered.limit16 0x2014 - 1)]
     r.limit16 0x2014 - 48 < max (r.temp 56) (r.temp 57) ∧ max (r.temp 56) (r.temp 57) < r.limit16 0x2014) ∧
    tripTemp 0 = some 110 ∧ tripTemp 66 = none ∧ powered.power.state ≠ .toll ∧ tolled.power.state = .toll ∧
    darkened.power.inputPresent = false := by decide +kernel

theorem wit_ResetCommands :
    powered.resettable = true ∧ tolled.resettable = false ∧ tolled.power.state ≠ .moduleReset ∧
    (let s := withPower powered (fun w => { w with state := .moduleReset, resetCause := 5, perstAsserted := true });
      s.power.state = .moduleReset ∧ s.power.resetCause = 5 ∧ s.power.perstAsserted = true ∧ s.power.released = false ∧ s.resettable = false) ∧
    (let s := withPower powered (fun w => { w with state := .moduleReset, resetCause := 6 });
      s.power.resetCause ≠ 5 ∧ s.power.released = false) ∧
    powered.power.state = .active ∧ (powered.pier 0).inReset = false ∧ (powered.pier 1).inReset = false ∧
    (let s := powered.modPier 1 (fun r => { r with inReset := true }); (s.pier 1).inReset = true) ∧
    (let s := powered.modPier 0 (fun r => { r with inReset := true }); (s.pier 0).inReset = true ∧
      ((s.modPier 0 (fun r => { r with inReset := false, mirror := (s.pier (other 0)).flags, mirrorQ := [] })).startClusters 0).commit.pstate ≠ .flipped) ∧
    (let s : State := { powered with commit := { powered.commit with pstate := .flipped } }.modPier 0 (fun r => { r with inReset := true }); (s.pier 0).inReset = true ∧
      ((s.modPier 0 (fun r => { r with inReset := false, mirror := (s.pier (other 0)).flags, mirrorQ := [] })).startClusters 0).commit.pstate = .flipped) ∧
    (let s : State := { powered with commit := { powered.commit with pstate := .flipped } }.modPier 1 (fun r => { r with inReset := true })
     let u := (s.modPier 1 (fun r => { r with inReset := false, mirror := (s.pier (other 1)).flags, mirrorQ := [] })).startClusters 1
     (s.pier 1).inReset = true ∧ s.p1.inReset = true ∧ u.resumeMirror.commit.pstate = .flipped) ∧
    (let s : State := { powered with commit := { powered.commit with pstate := .flipped } }
     s.commit.pstate = .flipped ∧ s.p0.inReset = false ∧ s.p1.inReset = false) := by decide +kernel

theorem wit_CanRequests :
    PortTakes onBus 1 ∧ PortFree onBus ∧ ¬ PortTakes onBus 2 ∧ PortTakes xferring 1 ∧ ¬ PortFree xferring ∧
    xferring.canUnanswered = false ∧ xferring.can.xfer = some ⟨0x2010, 0, 1, 60, 0, []⟩ ∧
    (let s : State := { onBus with dict := ⟨none, [⟨0, false, 0, 0, 0, 0, [], 0, .can 1 0 0⟩]⟩ }; PortTakes s 1 ∧ s.canUnanswered = true) ∧
    (let s := onBus.setXfer (some ⟨0x2010, 0, 1, 4104, 15, []⟩); s.canUnanswered = false ∧ PortTakes s 1 ∧ 56 * (15 + 1) < 4104) ∧
    (let s := onBus.setXfer (some ⟨0x2010, 0, 1, 4, 0, []⟩); s.canUnanswered = false ∧ PortTakes s 1 ∧ 4 ≤ 56 * (0 + 1)) ∧
    objectAt 0x9999 0 = none ∧ (objectAt 0x2010 0).isSome = true ∧ (objectAt 0x2010 0).map canTotal = some 2 := by decide +kernel

theorem wit_CanBusEvents :
    onBus.can.xfer = none ∧ xferring.can.xfer = some ⟨0x2010, 0, 1, 60, 0, []⟩ ∧
    PortTakes onBus (0x081 % 128) ∧ 0x081 / 128 = 1 ∧ ¬ PortTakes onBus (0x082 % 128) ∧
    onBus.power.inputPresent = true ∧ (onBus.setOd 0 0x1012 0 1000).odv 0 0x1012 0 ≠ 0 ∧ (onBus.setOd 0 0x1012 0 0).odv 0 0x1012 0 = 0 ∧
    PortTakes onBus onBus.can.nodeId ∧ takeBack onBus.out = none ∧ ¬ PortTakes darkened darkened.can.nodeId ∧
    (let s := onBus.emit (.canFrame 0x501 []); takeBack s.out = some (⟨1, 0x501, []⟩, [])) ∧
    (let s : State := { onBus with can := { onBus.can with mode := .busOff } }; s.can.mode = .busOff) ∧ onBus.can.mode ≠ .busOff := by decide +kernel

theorem wit_DictionaryWrites :
    Reaches live 0 ∧ ¬ Reaches live 2 ∧ live.dict.busy = none ∧ (live.staging 0).status ≠ 2 ∧
    (let s := live.setStaging 0 { live.sec.stage0 with status := 2 }; (s.staging 0).status = 2) ∧
    (objectAt 0xA0F1 1).any (fun r => decide (firstFailure live (writeOf 0 0xA0F1 1 [1] 0) r = 0 ∧ r.acc ≠ .rwc ∧
      (live.apply 0 0xA0F1 1 [1] r).1 = 0)) = true ∧
    (objectAt 0xA013 0).any (fun r => decide (firstFailure live (writeOf 1 0xA013 0 [1] 0) r = 0 ∧ r.acc = .rwc)) = true ∧
    (live.staging 0).status ≠ 1 ∧
    (let s := live.setStaging 0 { live.sec.stage0 with status := 1 }; (s.staging 0).status = 1 ∧ (s.staging 0).data.length < 32768) ∧
    (let a : Access := ⟨0, true, 0xA010, 0, 0, 48, [], 0, .none⟩
     let s : State := { live with dict := ⟨some a, []⟩ }; s.dict.busy = some a) := by decide +kernel

theorem wit_RefusedWriteChangesNothing :
    Reaches live 0 ∧ live.dict.busy = none ∧ (live.odWrite (writeOf 0 0x9999 0 [] 0)).1 ≠ 0 ∧
    (live.odWrite (writeOf 1 0xA013 0 [0] 0)).1 = 3 := by decide +kernel

theorem wit_ChecksInOrder :
    objectAt 0x9999 0 = none ∧
    (objectAt 0xA013 0).any (fun r => decide (firstFailure live (writeOf 1 0xA013 0 [0] 0) r = 3 ∧
      firstFailure live (writeOf 1 0xA013 0 [1] 0) r = 0 ∧ r.acc = .rwc)) = true ∧
    (objectAt 0x1012 0).any (fun r => decide (firstFailure live (writeOf 1 0x1012 0 [0, 0] 0) r = 0 ∧ r.acc ≠ .rwc)) = true := by decide +kernel

theorem wit_CountLimitedWrite :
    live.dict.busy = none ∧ live.fuseLeft 0xA013 = 1 ∧
    (let a := writeOf 0 0xA013 0 [1] 0
     (objectAt 0xA013 0).any (fun r => decide (r.acc = .rwc ∧ a.data.length = r.size ∧ (live.fuseStart a).reachable a r = true)) = true
      ∧ (live.fuseStart a).dict.busy = some a) := by decide +kernel

theorem wit_PriorityWrite :
    originOk 3 = true ∧ live.level 3 = 0 ∧ live.highCount < 32 ∧ 0 < live.arbOd 0 5 ∧ originOk 0x7F = false ∧
    (let s : State := { live with arb := { live.arb with priority := [(3, 1)] } }; s.level 3 ≠ 0) ∧
    (let s : State := { live with arb := { live.arb with priority := (List.range 32).map (fun k => (k + 4, 1)) } };
      s.level 3 = 0 ∧ 32 ≤ s.highCount) := by decide +kernel

theorem wit_FuseCountsHold : ∃ s t : State, s.FusesFit ∧ step s = .next t :=
  ⟨State.reset, State.reset, fun _ => Nat.zero_le _, rfl⟩

theorem wit_FuseLogStands : ∃ s t : State, step s = .next t := ⟨State.reset, State.reset, rfl⟩

theorem wit_MemoryCanonical : ∃ s t : State, Memory.wf s.mem = true ∧ step s = .next t := ⟨State.reset, State.reset, rfl, rfl⟩

theorem wit_OnlyTheDictionaryTouchesFuses : mayTouchFuses .undervoltageLockout = false ∧
    exec .undervoltageLockout State.reset = .next State.reset.undervoltage := ⟨rfl, rfl⟩

theorem wit_BytesReadBack : Memory.wf (State.reset.setBytes 5 [1, 0, 2]).mem = true := by decide +kernel

theorem wit_CommandsThatStoreNothing : storesNothing (.queueHalt 0 64) = true ∧ storesNothing (.barWrite 2 0 []) = false ∧
    ∃ t, exec (.queueHalt 0 64) (ready64 0) = .next t := ⟨rfl, rfl, _, rfl⟩

theorem wit_HostWriteReachesMemory :
    BarTaken hosted 0x2000000 4 ∧ bar2Of 0x2000000 = some (0, 0x2000000) ∧ hosted.pierDown 0 = false ∧
    hosted.inRingArea 0 0x2000000 = false ∧ Memory.wf hosted.mem = true ∧ hosted.errs = [] ∧ hosted.p0.girder = [] := by decide +kernel

theorem wit_RingRecords :
    Memory.wf live.mem = true ∧ live.ringFull (.watch 0) = false ∧ (live.setOd 0 0x4021 1 1).ringFull (.watch 0) = true ∧
    (let t := (live.setOd 0 0x4022 1 3).setOd 0 0x4021 1 5; t.odv 0 0x4022 1 ≠ 0 ∧ t.ringFull (.watch 0) = false) ∧
    live.odv 0 0x4022 1 = 0 ∧ live.errs = [] ∧ live.p0.girder = [] := by decide +kernel

theorem wit_CounterWait : bits 65 64 (2 ^ 64) = 1 ∧ counterMet 5 4 = true ∧ counterMet 4 5 = false ∧ counterMet 0 (2 ^ 32 - 1) = true := by decide +kernel

theorem wit_SignalsAndFlags : bit 119 0 = false ∧ bits 95 94 0 = 0 ∧ bits 95 94 (2 ^ 94) = 1 ∧ bits 95 94 (2 ^ 95) = 2 ∧
    bits 95 94 (3 * 2 ^ 94) = 3 ∧ bit 119 (2 ^ 119) = true := by decide +kernel

theorem wit_PoisonDominates : FFmt.e4m3.isFp8 = true ∧ (decode .e4m3 0x7E).isFin = true ∧ FFmt.b32.isFp8 = false ∧ (Val.nan ≠ .poison) := by decide +kernel

theorem wit_PowerLogRecords : live.power.logSeq + 1 < 2 ^ 32 ∧
    (let s := live.powerLog 9 0 1 0; s.power.record 0 = some ⟨live.recEpoch, 0, 9, 1, 0⟩ ∧ 0 < s.power.logSeq ∧ s.power.logSeq < 0 + 256) := by decide +kernel

theorem wit_InputLowCap : powered.power.inputPresent = true ∧ powered.power.inputLow = false ∧
    (withPower powered (fun w => { w with inputLow := true })).power.inputLow = true := by decide +kernel

theorem wit_UndefinedObject : objectAt 0x9999 0 = none ∧ (writeOf 0 0x9999 0 [] 0).write = true := by decide +kernel

end Sys2Proof.Tests
end

section
/-! The dictionary engine: what its checks refuse, what a count-limited write programs, and the statements of 00_scope.md
(R12 to R17) that follow. -/

namespace Sys2Proof.Machine
open Sys2Proof.Claims

/-! ## The engine's operations -/

/-- A write where no object stands (R13). -/
theorem State.odWrite_of_absent {s : State} {a : Access} (h : objectAt a.idx a.sub = none) : s.odWrite a = (1, s, true) := by
  simp [State.odWrite, h]

/-- A read where no object stands (R13). -/
theorem State.odRead_of_absent {s : State} {a : Access} (h : objectAt a.idx a.sub = none) : s.odRead a = (1, 0, []) := by
  simp [State.odRead, h]

/-- What a write does once the ordered checks have passed: a count-limited one begins to program, any other has the effect of
the object's own rule, which may still refuse it. -/
def State.odAccept (s : State) (a : Access) (r : OdRow) : Nat × State × Bool :=
  if r.acc = .rwc then (0, s.fuseStart a, false)
  else
    let x := s.apply a.tr a.idx a.sub a.data r
    if x.1 ≠ 0 then (x.1, s, true) else (0, if r.acc = .rws then x.2.tokenSpend a.tr else x.2, true)

/-- A write of an object ends with the code of the first check that fails, and otherwise has its effect (R603). -/
theorem State.odWrite_of_object {s : State} {a : Access} {r : OdRow} (h : objectAt a.idx a.sub = some r) :
    s.odWrite a = if firstFailure s a r ≠ 0 then (firstFailure s a r, s, true) else s.odAccept a r := by
  simp only [State.odWrite, h, firstFailure, State.odAccept, Bool.or_eq_true, Bool.and_eq_true, Bool.not_eq_true', decide_eq_true_eq]
  by_cases hlen : a.off ≠ 0 ∨ a.data.length ≠ r.size
  · simp [hlen]
  by_cases hreach : s.reachable a r = false
  · simp [hlen, hreach]
  by_cases hrwc : r.acc = .rwc
  · by_cases hleft : s.fuseLeft a.idx = 0
    · simp [hlen, hreach, hrwc, hleft]
    · by_cases hfits : s.fuseFits a.idx (ofBytes a.data) = false <;> simp [hlen, hreach, hrwc, hleft, hfits]
  by_cases htok : r.acc = .rws ∧ s.tokenAllows a.tr a.ref a.idx a.sub a.data = false
  · simp [hlen, hreach, htok]
  by_cases hdom : r.inDomain (ofBytes a.data) = false <;> simp [hlen, hreach, hrwc, htok, hdom]

/-- A refusal leaves the state, and its outcome is fixed at once. -/
theorem State.odAccept_refused {s : State} {a : Access} {r : OdRow} (h : (s.odAccept a r).1 ≠ 0) :
    (s.odAccept a r).2 = (s, true) := by
  unfold State.odAccept at h ⊢
  by_cases hrwc : r.acc = .rwc
  · simp [hrwc] at h
  · by_cases hcode : (s.apply a.tr a.idx a.sub a.data r).1 = 0
    · simp [hrwc, hcode] at h
    · simp [hrwc, hcode]

/-- A write refused with any code leaves the state, and its outcome is fixed at once (R17). -/
theorem State.odWrite_refused {s : State} {a : Access} (h : (s.odWrite a).1 ≠ 0) : (s.odWrite a).2 = (s, true) := by
  cases hobj : objectAt a.idx a.sub with
  | none => rw [State.odWrite_of_absent hobj]
  | some r =>
    rw [State.odWrite_of_object hobj] at h ⊢
    by_cases hfail : firstFailure s a r = 0
    · rw [if_neg (not_not.mpr hfail)] at h ⊢
      exact State.odAccept_refused h
    · rw [if_pos hfail]

/-- Service of a refused write: the access is counted and the code told to whoever waits. -/
theorem State.serve_refused_write {s : State} {a : Access} (hw : a.write = true) (h : (s.odWrite a).1 ≠ 0) :
    s.serve a = (s.countAccess a.tr (s.odWrite a).1).replyTo a (s.odWrite a).1 (sizeAt a.idx a.sub) [] := by
  simp [State.serve, hw, State.odWrite_refused h]

/-- Service of a refused read. -/
theorem State.serve_refused_read {s : State} {a : Access} (hw : a.write = false) (h : (s.odRead a).1 ≠ 0) :
    s.serve a = (s.countAccess a.tr (s.odRead a).1).replyTo a (s.odRead a).1 (s.odRead a).2.1 (s.odRead a).2.2 := by
  simp [State.serve, hw, h]

/-- A refused access is one of its transport's and one of those refused (Table 18-12). -/
theorem State.countAccess_refused {s : State} {tr code : Nat} (h : code ≠ 0) :
    s.countAccess tr code = (s.bump64 0 0x1050 (tr + 1) 1).bump64 0 0x1050 3 1 := by
  simp [State.countAccess, h]

/-- An idle engine serves at once. -/
theorem State.access_of_idle {s : State} {a : Access} (h : s.dict.busy = none) : s.access a = s.serve a := by
  simp [State.access, h]

/-- A write command that reaches the dictionary is one access with nobody to tell. -/
theorem exec_dictionaryWrite_of_reaches {s : State} {tr : Nat} (idx sub : Nat) (data : List Byte) (h : Reaches s tr) :
    exec (.dictionaryWrite tr idx sub data) s = .next (s.access (writeOf tr idx sub data 0)) := by
  obtain ⟨htr, hpower⟩ := h
  show execDictionaryWrite tr idx sub data s = _
  simp [execDictionaryWrite, htr, hpower]

/-! ## Count-limited writes -/

/-- The entry that a count-limited write programs, INCOMPLETE (Table 18-6). -/
def State.fuseEntry (s : State) (a : Access) : FuseEntry :=
  ⟨false, a.idx, a.tr, s.fuseLeft a.idx - 1, s.commit.committed, s.now.1, a.data⟩

@[simp] theorem State.now_fuses (s : State) : s.now.2.fuses = s.fuses := by
  unfold State.now
  split <;> simp

@[simp] theorem State.now_od (s : State) : s.now.2.od = s.od := by
  unfold State.now
  split <;> simp

@[simp] theorem State.fuseStart_fuses (s : State) (a : Access) : (s.fuseStart a).fuses = s.fuses ++ [s.fuseEntry a] := by
  simp [State.fuseStart, State.fuseEntry]

@[simp] theorem State.fuseStart_od (s : State) (a : Access) : (s.fuseStart a).od = s.od := by
  simp [State.fuseStart]

@[simp] theorem State.fuseStart_busy (s : State) (a : Access) : (s.fuseStart a).dict.busy = some a := rfl

/-- The count is spent when the entry is programmed, complete or not (R607). -/
@[simp] theorem State.fuseStart_fuseLeft (s : State) (a : Access) : (s.fuseStart a).fuseLeft a.idx = s.fuseLeft a.idx - 1 := by
  simp [State.fuseLeft, State.fuseEntry, List.filter_append, Nat.sub_sub]

/-- At count zero a reachable write of a count-limited object, of the right length, is refused with 0x04 (R14). -/
theorem State.odWrite_of_no_count {s : State} {b : Access} {r : OdRow} (hobj : objectAt b.idx b.sub = some r) (hrwc : r.acc = .rwc)
    (hoff : b.off = 0) (hlen : b.data.length = r.size) (hreach : s.reachable b r = true) (hleft : s.fuseLeft b.idx = 0) :
    s.odWrite b = (4, s, true) := by
  have hfail : firstFailure s b r = 4 := by simp [firstFailure, hoff, hlen, hreach, hrwc, hleft]
  simp [State.odWrite_of_object hobj, hfail]

/-- The last count is spent once: whatever the next write of the object carries, its count is zero. -/
theorem State.odWrite_after_last_count {s : State} {a b : Access} {r : OdRow} (hlast : s.fuseLeft a.idx = 1)
    (hobj : objectAt b.idx b.sub = some r) (hrwc : r.acc = .rwc) (hidx : b.idx = a.idx) (hoff : b.off = 0)
    (hlen : b.data.length = r.size) (hreach : (s.fuseStart a).reachable b r = true) : ((s.fuseStart a).odWrite b).1 = 4 := by
  have hleft : (s.fuseStart a).fuseLeft b.idx = 0 := by rw [hidx, State.fuseStart_fuseLeft, hlast]
  rw [State.odWrite_of_no_count hobj hrwc hoff hlen hreach hleft]

theorem exec_fuseProgramComplete (s : State) : exec .fuseProgramComplete s = .next s.fuseComplete := rfl

/-- With no write in progress the row changes nothing. -/
theorem State.fuseComplete_of_idle {s : State} (h : s.dict.busy = none) : s.fuseComplete = s := by
  simp [State.fuseComplete, h]

end Sys2Proof.Machine

namespace Sys2Proof.Claims
open Sys2Proof.Machine

/-- Settles O39: each check that fails, and each object's own rule that refuses, hands back the state it was given. -/
theorem refusedWriteChangesNothing : Obligations.RefusedWriteChangesNothing := by
  refine ⟨fun s a h => ?_, fun s tr idx sub data hreach hidle h => ?_⟩
  · have hsame : (s.odWrite a).2.1 = s := congrArg Prod.fst (State.odWrite_refused h)
    exact ⟨hsame, by rw [hsame], fun idx => by rw [hsame]⟩
  · rw [exec_dictionaryWrite_of_reaches idx sub data hreach, State.access_of_idle hidle, State.serve_refused_write rfl h,
      State.countAccess_refused h]
    rfl

/-- Settles O41: the entry and its count from `State.fuseStart`, the completion from `State.fuseComplete`. -/
theorem countLimitedWrite : Obligations.CountLimitedWrite := by
  refine ⟨fun s a => ⟨s.fuseEntry a, ?_⟩, fun s a b r => State.odWrite_after_last_count, fun s hidle => ?_, fun s a hbusy => ?_⟩
  · exact ⟨s.fuseStart_fuses a, rfl, rfl, rfl, rfl, rfl, s.fuseStart_fuseLeft a, s.fuseStart_od a, rfl⟩
  · rw [exec_fuseProgramComplete, State.fuseComplete_of_idle hidle]
  · simp only [exec_fuseProgramComplete, State.fuseComplete, hbusy]

/-- Settles O59: where no object stands, the engine answers 0x01 and hands back the state it was given. -/
theorem undefinedObject : Obligations.UndefinedObject := by
  intro s a habsent
  have hwrite : s.odWrite a = (1, s, true) := State.odWrite_of_absent habsent
  have hread : s.odRead a = (1, 0, []) := State.odRead_of_absent habsent
  refine ⟨fun _ => hwrite, fun _ => hread, ?_⟩
  cases hw : a.write with
  | true =>
    have hsize : sizeAt a.idx a.sub = 0 := by simp [sizeAt, habsent]
    rw [State.serve_refused_write hw (by simp [hwrite]), hwrite, hsize]
  | false => rw [State.serve_refused_read hw (by simp [hread]), hread]

end Sys2Proof.Claims
end

section
/-! The numeric formats: poison and NaN through the sum and the product (R36, R37), and the finite encodings of a format, which
decoding and converting back returns. -/

namespace Sys2Proof.Machine

/-! ## Poison and NaN among the operands -/

@[simp] theorem Val.poison_add (v : Val) : Val.add .poison v = .poison := rfl

@[simp] theorem Val.add_poison (v : Val) : Val.add v .poison = .poison := by cases v <;> rfl

@[simp] theorem Val.poison_mul (v : Val) : Val.mul .poison v = .poison := rfl

@[simp] theorem Val.mul_poison (v : Val) : Val.mul v .poison = .poison := by cases v <;> rfl

theorem Val.nan_operand {v : Val} (h : v ≠ .poison) :
    Val.add .nan v = .nan ∧ Val.add v .nan = .nan ∧ Val.mul .nan v = .nan ∧ Val.mul v .nan = .nan := by
  cases v with
  | poison => exact absurd rfl h
  | nan | inf | fin => exact ⟨rfl, rfl, rfl, rfl⟩

/-! ## The special encodings of Table 2-3 -/

theorem decode_nanCode (f : FFmt) : decode f f.nanCode = .nan := by cases f <;> decide

/-- R36: only the formats wider than 8 bits read schedule poison. -/
theorem decode_poisonCode {f : FFmt} (h : f.isFp8 = false) : decode f f.poisonCode = .poison := by
  cases f with
  | e4m3 | e5m2 => cases h
  | b16 | bf16 | b32 => decide

/-! ## Finite encodings

An encoding is a sign bit above a magnitude encoding, whose exponent field lies above its stored significand. -/

/-- The exponent field of a magnitude encoding, 1 for a subnormal, which shares the smallest normal's scale. -/
def FFmt.magExpo (f : FFmt) (a : Nat) : Nat := max (a / 2 ^ f.mant) 1

/-- The significand of a magnitude encoding, with the hidden bit of a normal. -/
def FFmt.magSig (f : FFmt) (a : Nat) : Nat := a % 2 ^ f.mant + if a / 2 ^ f.mant = 0 then 0 else 2 ^ f.mant

/-- The weight of the significand's last bit. -/
def FFmt.magUlp (f : FFmt) (a : Nat) : Int := f.magExpo a - f.bias - f.mant

/-- Exponent field and significand overlap in the hidden bit alone: together they are the encoding again. -/
theorem FFmt.magExpo_magSig (f : FFmt) (a : Nat) : (f.magExpo a - 1) * 2 ^ f.mant + f.magSig a = a := by
  have hdiv : 2 ^ f.mant * (a / 2 ^ f.mant) + a % 2 ^ f.mant = a := Nat.div_add_mod a _
  unfold FFmt.magExpo FFmt.magSig
  rcases Nat.eq_zero_or_pos (a / 2 ^ f.mant) with hx | hx
  · simpa [hx] using hdiv
  · obtain ⟨x, hx'⟩ : ∃ x, a / 2 ^ f.mant = x + 1 := ⟨a / 2 ^ f.mant - 1, by omega⟩
    rw [hx'] at hdiv ⊢
    simp only [Nat.le_add_left, Nat.max_eq_left, Nat.add_sub_cancel, Nat.add_one_ne_zero, if_false]
    linarith

/-- The significand's leading bit lies where its exponent field says, or below it for a subnormal: the scale that
rounding chooses for it is the one it was decoded with. -/
theorem FFmt.magSig_top (f : FFmt) {a : Nat} (h : f.magSig a ≠ 0) :
    max ((Nat.log2 (f.magSig a) : Int) + f.magUlp a) (1 - f.bias) = f.magExpo a - f.bias := by
  have hmod : a % 2 ^ f.mant < 2 ^ f.mant := Nat.mod_lt _ (by positivity)
  unfold FFmt.magUlp
  rcases Nat.eq_zero_or_pos (a / 2 ^ f.mant) with hx | hx
  · have hexpo : f.magExpo a = 1 := by simp [FFmt.magExpo, hx]
    have hlog : Nat.log2 (f.magSig a) < f.mant := (Nat.log2_lt h).mpr (by simpa [FFmt.magSig, hx] using hmod)
    rw [hexpo]
    omega
  · have hexpo : 1 ≤ f.magExpo a := Nat.le_max_right _ _
    have hsig : f.magSig a = a % 2 ^ f.mant + 2 ^ f.mant := by simp [FFmt.magSig, hx.ne']
    have hlog : Nat.log2 (f.magSig a) = f.mant :=
      (Nat.log2_eq_iff h).mpr ⟨by omega, by rw [hsig, pow_succ]; omega⟩
    rw [hlog]
    omega

/-- A significand whose last bit already has the scale of its rounding is kept (R72). -/
theorem roundMag_of_exact {f : FFmt} {n : Nat} {e top : Int} (hn : n ≠ 0) (htop : max ((Nat.log2 n : Int) + e) (1 - f.bias) = top)
    (he : e = top - f.mant) : roundMag f n e false = (top + f.bias - 1).toNat * 2 ^ f.mant + n := by
  have hshift : top - f.mant - e = .ofNat 0 := by rw [he]; simp
  simp only [roundMag, if_neg hn, htop, hshift]

theorem FFmt.eq_zero_of_magSig {f : FFmt} {a : Nat} (h : f.magSig a = 0) : a = 0 := by
  have hfield : a / 2 ^ f.mant = 0 := by
    by_contra hx
    simp [FFmt.magSig, hx] at h
  have hexpo : f.magExpo a = 1 := by simp [FFmt.magExpo, hfield]
  simpa [h, hexpo] using (f.magExpo_magSig a).symm

/-- Rounding what a magnitude encoding stands for gives the encoding back. -/
theorem roundMag_decoded (f : FFmt) (a : Nat) : roundMag f (f.magSig a) (f.magUlp a) false = a := by
  by_cases hn : f.magSig a = 0
  · rw [hn, FFmt.eq_zero_of_magSig hn]
    simp [roundMag]
  · have hexpo : ((f.magExpo a : Int) - f.bias + f.bias - 1).toNat = f.magExpo a - 1 := by omega
    rw [roundMag_of_exact hn (f.magSig_top hn) rfl, hexpo, f.magExpo_magSig]

/-- What is read neither as NaN nor as an infinity is at most the largest finite magnitude (Table 2-2). -/
theorem FFmt.le_maxCode {f : FFmt} {a : Nat} (hlt : a < 2 ^ (f.width - 1)) (hnan : f = .e4m3 → a ≠ 0x7F)
    (hinf : f ≠ .e4m3 → a < f.infCode) : a ≤ f.maxCode := by
  cases f with
  | e4m3 =>
    have ha : a ≠ 0x7F := hnan rfl
    simp only [FFmt.maxCode, FFmt.width, FFmt.expo, FFmt.mant] at hlt ⊢
    omega
  | e5m2 | b16 | bf16 | b32 => exact Nat.le_of_lt_succ (hinf (by decide))

/-- A finite encoding stands for its sign bit and the value of its magnitude encoding, at most the largest finite one's. -/
theorem decode_of_isFin {f : FFmt} {c : Nat} (hc : c < 2 ^ f.width) (h : (decode f c).isFin = true) :
    let a := c % 2 ^ (f.width - 1)
    decode f c = .fin (decide (2 ^ (f.width - 1) ≤ c)) (f.magSig a) (f.magUlp a) ∧ a ≤ f.maxCode := by
  have hlt : c % 2 ^ (f.width - 1) < 2 ^ (f.width - 1) := Nat.mod_lt _ (by positivity)
  simp only [decode, Nat.mod_eq_of_lt hc] at h ⊢
  generalize c % 2 ^ (f.width - 1) = a at h hlt ⊢
  split_ifs at h ⊢ with _ hnan hinf hbig hx
  · cases h
  · cases h
  · cases h
  · cases h
  all_goals
    simp only [Bool.and_eq_true, decide_eq_true_eq, not_and, not_lt] at hnan hinf hbig
    refine ⟨?_, FFmt.le_maxCode hlt hnan fun hf => lt_of_le_of_ne (hbig hf) (hinf hf)⟩
  · simp [FFmt.magSig, FFmt.magUlp, FFmt.magExpo, hx]
  · have hpos : 1 ≤ a / 2 ^ f.mant := Nat.one_le_iff_ne_zero.mpr hx
    simp [FFmt.magSig, FFmt.magUlp, FFmt.magExpo, hx, hpos]

/-- The sign bit above the magnitude encoding gives the encoding back. -/
theorem withSign_of_lt {f : FFmt} {c : Nat} (hc : c < 2 ^ f.width) :
    withSign f (decide (2 ^ (f.width - 1) ≤ c)) (c % 2 ^ (f.width - 1)) = c := by
  have hwidth : f.width = f.width - 1 + 1 := by simp only [FFmt.width]; omega
  rw [hwidth, pow_succ] at hc
  unfold withSign
  by_cases hsign : 2 ^ (f.width - 1) ≤ c
  · have hrest : c - 2 ^ (f.width - 1) < 2 ^ (f.width - 1) := by omega
    rw [Nat.mod_eq_sub_mod hsign, Nat.mod_eq_of_lt hrest]
    simp [b2n, hsign]
  · rw [Nat.mod_eq_of_lt (not_le.mp hsign)]
    simp [b2n, hsign]

/-- A finite value of a format converts back to its own encoding, exactly. -/
theorem convert_decode_of_isFin {f : FFmt} {c : Nat} (hc : c < 2 ^ f.width) (h : (decode f c).isFin = true) :
    convert f (decode f c) = (c, false) := by
  obtain ⟨hval, hmax⟩ := decode_of_isFin hc h
  rw [hval]
  simp only [convert, roundTo, roundMag_decoded, if_pos hmax, withSign_of_lt hc]

theorem FFmt.width_of_isFp8 {f : FFmt} (h : f.isFp8 = true) : f.width = 8 := by
  cases f with
  | e4m3 | e5m2 => rfl
  | b16 | bf16 | b32 => cases h

end Sys2Proof.Machine

namespace Sys2Proof.Claims
open Sys2Proof.Machine

/-- Settles O56: the special cases of the sum and the product, the special encodings, and the conversion of a finite value,
which holds of every format and so of the two of 8 bits. -/
theorem poisonDominates : Obligations.PoisonDominates := by
  refine ⟨fun v => ⟨v.poison_add, v.add_poison, v.poison_mul, v.mul_poison⟩,
    fun v hv => Val.nan_operand hv,
    fun f => ⟨decode_nanCode f, decode_poisonCode⟩, fun f hf c hc hfin => ?_⟩
  have hwidth : c < 2 ^ f.width := by rwa [FFmt.width_of_isFp8 hf]
  exact convert_decode_of_isFin hwidth hfin

end Sys2Proof.Claims
end

section
/-! The event rings (03 R107 to R109): a written run of bytes reads back, a record's accesses through the Girder change no
byte but those of granules whose cells hold an error, and what a new record and a write of TAIL then do. -/

namespace Sys2Proof

/-- What a table reads at a key is its default or listed there. -/
theorem Tab.get_mem {α : Type} (d : α) (t : Tab α) (k : Nat) : Tab.get d t k = d ∨ (k, Tab.get d t k) ∈ t := by
  induction t with
  | nil => exact .inl rfl
  | cons e t ih =>
    obtain ⟨a, v⟩ := e
    by_cases hk : k = a
    · simp [Tab.get, hk]
    · simpa [Tab.get, hk] using ih

end Sys2Proof

namespace Sys2Proof.Machine

/-! ## Numbers in memory -/

@[simp] theorem toBytes_length (n v : Nat) : (toBytes n v).length = n := by
  induction n generalizing v with
  | zero => rfl
  | succ n ih => simp [toBytes, ih]

/-- A number written in n bytes keeps its n low bytes (00 R7). -/
@[simp] theorem ofBytes_toBytes (n v : Nat) : ofBytes (toBytes n v) = v % 256 ^ n := by
  induction n generalizing v with
  | zero => simp [toBytes, ofBytes, Nat.mod_one]
  | succ n ih => simp [toBytes, ofBytes, ih, pow_succ', Nat.mod_mul]

theorem State.bytes_succ (s : State) (k n : Nat) : s.bytes k (n + 1) = s.byte k :: s.bytes (k + 1) n := by
  simp [State.bytes, List.range_succ_eq_map, Function.comp_def, Nat.add_assoc, Nat.add_comm 1]

/-- In a canonical memory a written run reads back. -/
theorem State.setBytes_bytes {s : State} {k : Nat} {l : List Byte} (hwf : Memory.wf s.mem = true) :
    (s.setBytes k l).bytes k l.length = l := by
  induction l generalizing s k with
  | nil => rfl
  | cons b l ih =>
    have hfirst : ((s.setByte k b).setBytes (k + 1) l).byte k = b := by
      rw [State.setBytes_byte_ne _ l (.inl k.lt_succ_self), State.setByte_byte s k b hwf]
    rw [List.length_cons, State.bytes_succ, State.setBytes, hfirst, ih (Memory.wf_set k b hwf)]

/-- In a canonical memory a written number reads back in the width of its field. -/
theorem State.setNum_num {s : State} {k n v : Nat} (hwf : Memory.wf s.mem = true) :
    (s.setNum k n v).num k n = v % 256 ^ n := by
  have hread := State.setBytes_bytes (k := k) (l := toBytes n v) hwf
  rw [toBytes_length] at hread
  rw [State.num, State.setNum, hread, ofBytes_toBytes]

theorem State.setNum_byte_ne (s : State) {k n j : Nat} (v : Nat) (h : ¬ (k ≤ j ∧ j < k + n)) : (s.setNum k n v).byte j = s.byte j :=
  State.setBytes_byte_ne s _ (by rw [toBytes_length]; omega)

/-! ## Operations that change no byte -/

theorem State.Keeps.byte {s t : State} (h : s.Keeps true t) (j : Nat) : t.byte j = s.byte j :=
  congrArg (Tab.get 0 · j) h.mem

theorem State.Keeps.num {s t : State} (h : s.Keeps true t) (k n : Nat) : t.num k n = s.num k n := by
  simp [State.num, State.bytes, h.byte]

@[simp] theorem State.setOd_byte (s : State) (i x k v j : Nat) : (s.setOd i x k v).byte j = s.byte j := rfl
@[simp] theorem State.bump32_byte (s : State) (i x k n j : Nat) : (s.bump32 i x k n).byte j = s.byte j := rfl
@[simp] theorem State.bump64_byte (s : State) (i x k n j : Nat) : (s.bump64 i x k n).byte j = s.byte j := rfl
@[simp] theorem State.present_byte (s : State) (c n : Nat) (k : Asker) (len j : Nat) : (s.present c n k len).byte j = s.byte j := rfl
@[simp] theorem State.cureCells_byte (s : State) (p off j : Nat) : (s.cureCells p off).byte j = s.byte j := rfl

@[simp] theorem State.setLine_byte (s : State) (p k : Nat) (l : Line) (j : Nat) : (s.setLine p k l).byte j = s.byte j :=
  (keeps_setLine (.refl s)).byte j

@[simp] theorem State.request_byte (s : State) (p : Nat) (k : Asker) (g : Nat) (fill : Bool) (j : Nat) :
    (s.request p k g fill).byte j = s.byte j :=
  (keeps_request (.refl s)).byte j

@[simp] theorem State.bankWrite_byte (s : State) (p off : Nat) (k : Asker) (j : Nat) : (s.bankWrite p off k).byte j = s.byte j :=
  (keeps_bankWrite (.refl s)).byte j

@[simp] theorem State.girderFill_byte (s : State) (p off age : Nat) (pin dirty : Bool) (k : Asker) (j : Nat) :
    (s.girderFill p off age pin dirty k).byte j = s.byte j :=
  (keeps_girderFill (.refl s)).byte j

@[simp] theorem State.persistentMem_byte (s : State) (p stack channel cause j : Nat) :
    (s.persistentMem p stack channel cause).byte j = s.byte j :=
  (keeps_persistentMem (.refl s)).byte j

@[simp] theorem State.raise_byte (s : State) (v j : Nat) : (s.raise v).byte j = s.byte j :=
  (keeps_raise (.refl s)).byte j

@[simp] theorem State.markFaulted_byte (s : State) (j : Nat) : s.markFaulted.byte j = s.byte j :=
  (keeps_markFaulted (.refl s)).byte j

/-! ## Errors of a Pier's fast tier -/

/-- What an access can find wrong: the errors of the cells, and the lines of Pier p's Girder with theirs. -/
def State.cells (s : State) (p : Nat) : Tab CellErr × Tab Line := (s.errs, (s.pier p).girder)

@[simp] theorem State.setOd_cells (s : State) (i x k v p : Nat) : (s.setOd i x k v).cells p = s.cells p := rfl
@[simp] theorem State.bump32_cells (s : State) (i x k n p : Nat) : (s.bump32 i x k n).cells p = s.cells p := rfl
@[simp] theorem State.bump64_cells (s : State) (i x k n p : Nat) : (s.bump64 i x k n).cells p = s.cells p := rfl
@[simp] theorem State.present_cells (s : State) (c n : Nat) (k : Asker) (len p : Nat) : (s.present c n k len).cells p = s.cells p := rfl

/-- A change of either Pier that spares the lines. -/
theorem State.modPier_cells (s : State) (p q : Nat) {f : Pier → Pier} (hf : ∀ r, (f r).girder = r.girder) :
    (s.modPier q f).cells p = s.cells p := by
  have hgirder : ((s.modPier q f).pier p).girder = (s.pier p).girder := by
    by_cases hpq : (q = 0) = (p = 0)
    · have hside : ∀ t : State, t.pier p = t.pier q := fun t => by simp only [State.pier, hpq]
      rw [hside, hside, State.modPier_pier, hf]
    · rw [State.modPier_pier_ne s f hpq]
  rw [State.cells, State.modPier_errs, hgirder, State.cells]

@[simp] theorem State.setStage_cells (s : State) (q j : Nat) (st : ReqStage) (p : Nat) :
    (s.modPier q (fun r => r.setStage j st)).cells p = s.cells p :=
  s.modPier_cells p q fun _ => rfl

@[simp] theorem State.notePeak_cells (s : State) (q stack p : Nat) : (s.notePeak q stack).cells p = s.cells p := by
  unfold State.notePeak
  dsimp only
  split <;> rfl

@[simp] theorem State.letIn_cells (s : State) (q j p : Nat) : (s.letIn q j).cells p = s.cells p := by
  unfold State.letIn
  split
  · rfl
  · dsimp only
    split_ifs <;> simp [State.modPier_cells]

@[simp] theorem State.issueReq_cells (s : State) (q j p : Nat) : (s.issueReq q j).cells p = s.cells p := by
  unfold State.issueReq
  split
  · rfl
  · dsimp only
    split_ifs <;> simp [State.modPier_cells]

@[simp] theorem State.serveFirst_cells (s : State) (q : Nat) (f : MemReq → Bool) (p : Nat) : (s.serveFirst q f).cells p = s.cells p :=
  s.modPier_cells p q fun _ => rfl

@[simp] theorem State.issueAll_cells (s : State) (q source fuel p : Nat) : (s.issueAll q source fuel).cells p = s.cells p := by
  induction fuel generalizing s with
  | zero => rfl
  | succ fuel ih =>
    unfold State.issueAll
    split
    · rfl
    split
    · rfl
    split
    · rfl
    dsimp only
    split_ifs <;> simp [ih]

/-- A request finds no fault and mends none. -/
@[simp] theorem State.request_cells (s : State) (q : Nat) (k : Asker) (g : Nat) (fill : Bool) (p : Nat) :
    (s.request q k g fill).cells p = s.cells p := by
  simp [State.request, State.modPier_cells]

/-- No cell holds an error, and no line of Pier p's Girder one that SEC-DED cannot correct (07 R272): every access of the
Pier's fast tier finds the data that was written. -/
structure State.Readable (s : State) (p : Nat) : Prop where
  errs : s.errs = []
  lines : ∀ e ∈ (s.pier p).girder, e.2.flaw < 2

namespace State.Readable

variable {s t : State} {p : Nat}

theorem of_cells (h : s.Readable p) (hcells : t.cells p = s.cells p) : t.Readable p := by
  obtain ⟨herrs, hgirder⟩ := Prod.mk.inj hcells
  exact ⟨herrs.trans h.errs, hgirder ▸ h.lines⟩

theorem lineAt_flaw (h : s.Readable p) (k : Nat) : (s.lineAt p k).flaw < 2 := by
  rcases Tab.get_mem Line.none (s.pier p).girder k with hnone | hmem
  · rw [State.lineAt, hnone]
    exact Nat.two_pos
  · exact h.lines _ hmem

theorem setLine (h : s.Readable p) (k : Nat) {l : Line} (hl : l.flaw < 2) : (s.setLine p k l).Readable p := by
  refine ⟨by simpa using h.errs, fun e he => ?_⟩
  rw [State.setLine, State.modPier_pier] at he
  rcases Tab.mem_put he with hold | ⟨-, rfl⟩
  · exact h.lines e hold
  · exact hl

theorem setLine_age (h : s.Readable p) (k age : Nat) : (s.setLine p k { s.lineAt p k with age := age }).Readable p :=
  h.setLine k (show (s.lineAt p k).flaw < 2 from h.lineAt_flaw k)

theorem cureCells (h : s.Readable p) (off : Nat) : (s.cureCells p off).Readable p :=
  ⟨by simp [State.cureCells, h.errs], h.lines⟩

theorem bankWrite (h : s.Readable p) (off : Nat) (k : Asker) : (s.bankWrite p off k).Readable p :=
  (h.cureCells off).of_cells (State.request_cells ..)

theorem writeBack (h : s.Readable p) (j : Nat) (k : Asker) : (s.writeBack p j k).Readable p := by
  unfold State.writeBack
  dsimp only
  split
  · have hcount := h.of_cells (s.bump64_cells 0 0x301A (p + 1) 1 p)
    refine State.Readable.bankWrite (hcount.setLine j ?_) _ k
    exact h.lineAt_flaw j
  · exact h

theorem victim (h : s.Readable p) (off : Nat) : (s.victim p off).1.Readable p := by
  unfold State.victim
  dsimp only
  split
  · exact h
  · split <;> exact List.foldlRecOn (motive := (State.Readable · p)) _ _ h fun t ht k _ => ht.setLine_age k _

theorem girderFill (h : s.Readable p) (off age : Nat) (pin dirty : Bool) (k : Asker) :
    (s.girderFill p off age pin dirty k).Readable p := by
  unfold State.girderFill
  dsimp only
  refine ((State.Readable.victim ?_ off).writeBack _ k).setLine _ Nat.two_pos
  split
  · exact h.of_cells (State.bump32_cells ..)
  · exact h

/-- A read finds no error (07 R267). -/
theorem meetGranule_eq (h : s.Readable p) (off : Nat) (pattern : List Byte) (kept : Bool) : s.meetGranule p off pattern kept = s := by
  simp [State.meetGranule, h.errs, Tab.get]

theorem bankRead_eq (h : s.Readable p) (off : Nat) (k : Asker) (fill : Bool) (pattern : List Byte) :
    s.bankRead p off k fill pattern = s.request p k (off / 128) fill := by
  rw [State.bankRead, h.meetGranule_eq]

/-- What SEC-DED finds in a line it corrects (07 R272). -/
theorem lineFlaw_eq (h : s.Readable p) (off j : Nat) (k : Asker) (pattern : List Byte) :
    s.lineFlaw p off j k pattern = if (s.lineAt p j).flaw = 0 then s else s.setLine p j { s.lineAt p j with flaw := 0 } := by
  have hflaw := h.lineAt_flaw j
  unfold State.lineFlaw
  dsimp only
  split
  · rfl
  · rw [if_pos (by omega)]

theorem bankRead (h : s.Readable p) (off : Nat) (k : Asker) (fill : Bool) (pattern : List Byte) :
    (s.bankRead p off k fill pattern).Readable p := by
  rw [h.bankRead_eq]
  exact h.of_cells (State.request_cells ..)

theorem lineFlaw (h : s.Readable p) (off j : Nat) (k : Asker) (pattern : List Byte) : (s.lineFlaw p off j k pattern).Readable p := by
  rw [h.lineFlaw_eq]
  split
  · exact h
  · exact h.setLine j Nat.two_pos

end State.Readable

/-! ## What an access through the Girder leaves -/

/-- Address j lies in the granule of offset `off` of Pier p's fast tier. -/
def InGranule (p off j : Nat) : Prop :=
  pkey (spFast p) (off / 128 * 128) ≤ j ∧ j < pkey (spFast p) (off / 128 * 128) + 128

/-- An access to the granule of `off` cannot change byte j: it finds no error that it cannot correct, or j lies elsewhere. -/
def State.Spares (s : State) (p off j : Nat) : Prop := s.Readable p ∨ ¬ InGranule p off j

theorem State.Spares.of_cells {s t : State} {p off j : Nat} (h : s.Spares p off j) (hcells : t.cells p = s.cells p) :
    t.Spares p off j :=
  h.imp_left (·.of_cells hcells)

section
variable {p off j : Nat} {pattern : List Byte}

/-- An uncorrectable error has its granule rewritten, and no other byte (07 R269). -/
theorem State.uncorrectable_byte (s : State) (e : CellErr) (kept : Bool) (hlen : pattern.length ≤ 128) (hj : ¬ InGranule p off j) :
    (s.uncorrectable p off e pattern kept).byte j = s.byte j := by
  have hrewrite : ∀ t : State, (t.setBytes (pkey (spFast p) (off / 128 * 128)) pattern).byte j = t.byte j := fun t =>
    t.setBytes_byte_ne pattern (by unfold InGranule at hj; omega)
  unfold State.uncorrectable
  dsimp only
  split_ifs <;> simp [hrewrite]

theorem State.meetGranule_byte (s : State) (kept : Bool) (hlen : pattern.length ≤ 128) (hj : ¬ InGranule p off j) :
    (s.meetGranule p off pattern kept).byte j = s.byte j := by
  unfold State.meetGranule
  dsimp only
  split_ifs
  · rfl
  · exact s.uncorrectable_byte _ kept hlen hj
  · exact (keeps_cureCells (keeps_foldl (.refl s) fun u _ => keeps_correctOne (.refl u))).byte j

theorem State.bankRead_byte {s : State} (k : Asker) (fill : Bool) (hlen : pattern.length ≤ 128) (h : s.Spares p off j) :
    (s.bankRead p off k fill pattern).byte j = s.byte j := by
  rcases h with hread | hj
  · rw [hread.bankRead_eq, State.request_byte]
  · rw [State.bankRead, State.request_byte, s.meetGranule_byte false hlen hj]

theorem State.lineFlaw_byte {s : State} (i : Nat) (k : Asker) (hlen : pattern.length ≤ 128) (h : s.Spares p off j) :
    (s.lineFlaw p off i k pattern).byte j = s.byte j := by
  rcases h with hread | hj
  · rw [hread.lineFlaw_eq]
    split
    · rfl
    · rw [State.setLine_byte]
  · unfold State.lineFlaw
    dsimp only
    split_ifs
    · rfl
    · rw [State.setLine_byte]
    · rw [State.uncorrectable_byte _ _ false hlen hj, State.setLine_byte]
    · rw [State.bankRead_byte k true hlen (.inr hj), State.setLine_byte]

end

/-! ### Hit and miss

`State.girder` counts the access, meets what the granule's line or cells hold, and then leaves a line as the hint says. -/

/-- The access has passed the arbiters on its way to the home slice. -/
def State.toSlice (s : State) (p off : Nat) (wr : Bool) (k : Asker) : State :=
  let s := s.present 1 (p * 64 + (locate off).channel) k 1
  if k.pier = p then s else s.present 3 (if wr then k.pier else p) k 1

/-- The hint marks line j, which the access hit (Table 7-6). -/
def State.markLine (s : State) (p off j : Nat) (wr : Bool) (hint : Nat) : State :=
  let l := { s.lineAt p j with dirty := (s.lineAt p j).dirty || wr, flaw := 0 }
  match hint with
  | 0 => s.setLine p j { l with age := 0 }
  | 1 => s.setLine p j { l with age := 2 }
  | 2 => s.setLine p j { l with age := 7 }
  | _ =>
    if l.pinned || s.mayPin p off then s.setLine p j { l with pinned := true }
    else (s.bump32 0 0x301C (p + 1) 1).setLine p j { l with age := 0 }

/-- The hint places the granule of an access that missed (Table 7-6); `whole`: a write of all of it. -/
def State.placeLine (s : State) (p off : Nat) (wr whole : Bool) (hint : Nat) (k : Asker) : State :=
  match hint with
  | 0 => s.girderFill p off 0 false wr k
  | 1 => s.girderFill p off 3 false wr k
  | 2 => if whole then s.bankWrite p off k else if wr then s.girderFill p off 7 false true k else s
  | _ => s.girderFill p off 0 true wr k

theorem State.girder_of_hit {s : State} {p off j : Nat} {wr : Bool} {k : Asker} (whole : Bool) (hint : Nat) (pattern : List Byte)
    (hhit : (s.toSlice p off wr k).findLine p off = some j) :
    s.girder p off wr whole hint k pattern =
      let t := s.toSlice p off wr k
      let t := t.bump64 0 (if t.filling p off then 0x3019 else 0x3018) (p + 1) 1
      if wr && whole && hint = 2 then (t.setLine p j Line.none).bankWrite p off k
      else (if wr && whole then t else t.lineFlaw p off j k pattern).markLine p off j wr hint := by
  unfold State.toSlice at hhit
  simp only [State.girder, hhit]
  rfl

theorem State.girder_of_miss {s : State} {p off : Nat} {wr : Bool} {k : Asker} (whole : Bool) (hint : Nat) (pattern : List Byte)
    (hmiss : (s.toSlice p off wr k).findLine p off = none) :
    s.girder p off wr whole hint k pattern =
      let t := (s.toSlice p off wr k).bump64 0 0x3019 (p + 1) 1
      (if wr && whole then t else t.bankRead p off k (wr || decide (hint ≠ 2)) pattern).placeLine p off wr (wr && whole) hint k := by
  unfold State.toSlice at hmiss
  simp only [State.girder, hmiss]
  cases wr <;> cases whole <;> rcases hint with _ | _ | _ | hint <;> rfl

@[simp] theorem State.toSlice_byte (s : State) (p off : Nat) (wr : Bool) (k : Asker) (j : Nat) :
    (s.toSlice p off wr k).byte j = s.byte j := by
  unfold State.toSlice
  dsimp only
  split <;> rfl

@[simp] theorem State.toSlice_cells (s : State) (p off : Nat) (wr : Bool) (k : Asker) (q : Nat) :
    (s.toSlice p off wr k).cells q = s.cells q := by
  unfold State.toSlice
  dsimp only
  split <;> rfl

@[simp] theorem State.markLine_byte (s : State) (p off i : Nat) (wr : Bool) (hint j : Nat) :
    (s.markLine p off i wr hint).byte j = s.byte j := by
  unfold State.markLine
  dsimp only
  split
  case h_4 => split <;> simp
  all_goals rw [State.setLine_byte]

@[simp] theorem State.placeLine_byte (s : State) (p off : Nat) (wr whole : Bool) (hint : Nat) (k : Asker) (j : Nat) :
    (s.placeLine p off wr whole hint k).byte j = s.byte j := by
  unfold State.placeLine
  split
  case h_3 => split_ifs <;> simp
  all_goals rw [State.girderFill_byte]

theorem State.Readable.markLine {s : State} {p : Nat} (h : s.Readable p) (off j : Nat) (wr : Bool) (hint : Nat) :
    (s.markLine p off j wr hint).Readable p := by
  unfold State.markLine
  dsimp only
  split
  case h_4 =>
    split
    · exact h.setLine j Nat.two_pos
    · exact (h.of_cells (State.bump32_cells ..)).setLine j Nat.two_pos
  all_goals exact h.setLine j Nat.two_pos

theorem State.Readable.placeLine {s : State} {p : Nat} (h : s.Readable p) (off : Nat) (wr whole : Bool) (hint : Nat) (k : Asker) :
    (s.placeLine p off wr whole hint k).Readable p := by
  unfold State.placeLine
  split
  case h_3 =>
    split_ifs
    · exact h.bankWrite off k
    · exact h.girderFill ..
    · exact h
  all_goals exact h.girderFill ..

theorem State.Readable.girder {s : State} {p : Nat} (h : s.Readable p) (off : Nat) (wr whole : Bool) (hint : Nat) (k : Asker)
    (pattern : List Byte) : (s.girder p off wr whole hint k pattern).Readable p := by
  have hcounted : ∀ x, ((s.toSlice p off wr k).bump64 0 x (p + 1) 1).Readable p := fun x => h.of_cells (by simp)
  cases hline : (s.toSlice p off wr k).findLine p off with
  | some j =>
    rw [State.girder_of_hit whole hint pattern hline]
    dsimp only
    generalize (if State.filling _ p off then 0x3019 else 0x3018 : Nat) = x
    split_ifs
    · exact State.Readable.bankWrite ((hcounted x).setLine j Nat.two_pos) off k
    · exact (hcounted x).markLine off j wr hint
    · exact ((hcounted x).lineFlaw off j k pattern).markLine off j wr hint
  | none =>
    rw [State.girder_of_miss whole hint pattern hline]
    dsimp only
    split
    · exact (hcounted _).placeLine off wr _ hint k
    · exact ((hcounted _).bankRead off k _ pattern).placeLine off wr _ hint k

/-- An access through the Girder changes no byte that it spares. -/
theorem State.girder_byte {s : State} {p off j : Nat} {pattern : List Byte} (wr whole : Bool) (hint : Nat) (k : Asker)
    (hlen : pattern.length ≤ 128) (h : s.Spares p off j) : (s.girder p off wr whole hint k pattern).byte j = s.byte j := by
  have hcounted : ∀ x, ((s.toSlice p off wr k).bump64 0 x (p + 1) 1).Spares p off j := fun x => h.of_cells (by simp)
  cases hline : (s.toSlice p off wr k).findLine p off with
  | some i =>
    rw [State.girder_of_hit whole hint pattern hline]
    dsimp only
    split_ifs <;> simp [State.lineFlaw_byte, hlen, hcounted]
  | none =>
    rw [State.girder_of_miss whole hint pattern hline]
    dsimp only
    split <;> simp [State.bankRead_byte, hlen, hcounted]

/-- Address j lies in a granule that holds one of n bytes from offset `off` of Pier p's fast tier. -/
def InGranules (p off n j : Nat) : Prop :=
  pkey (spFast p) (off / 128 * 128) ≤ j ∧ j < pkey (spFast p) ((off + n + 127) / 128 * 128)

theorem InGranules.of_inGranule {p off n i j : Nat} (hi : i < (off + n + 127) / 128 - off / 128)
    (h : InGranule p ((off / 128 + i) * 128) j) : InGranules p off n j := by
  unfold InGranule pkey at h
  unfold InGranules pkey
  omega

theorem InGranules.of_mem {p off n j : Nat} (h : pkey (spFast p) off ≤ j ∧ j < pkey (spFast p) off + n) : InGranules p off n j := by
  unfold pkey at h
  unfold InGranules pkey
  omega

/-- A run of accesses changes no byte outside its granules, and none at all where it finds no error that it cannot correct. -/
theorem State.girderRun_byte {s : State} {p off n j : Nat} {pattern : List Byte} (wr : Bool) (hint : Nat) (k : Asker)
    (hlen : pattern.length ≤ 128) (h : s.Readable p ∨ ¬ InGranules p off n j) :
    (s.girderRun p off n wr hint k pattern).byte j = s.byte j := by
  refine (List.foldlRecOn (motive := fun t : State => t.byte j = s.byte j ∧ (t.Readable p ∨ ¬ InGranules p off n j))
    _ _ ⟨rfl, h⟩ fun t ⟨hbyte, ht⟩ i hi => ⟨?_, ht.imp_left (·.girder ..)⟩).1
  have hspares : t.Spares p ((off / 128 + i) * 128) j := ht.imp_right (mt (.of_inGranule (List.mem_range.mp hi)))
  rw [State.girder_byte wr _ hint k hlen hspares, hbyte]

/-! ## Records of a ring -/

/-- Offset of HEAD's record in the fast tier of the ring's Pier (03 R107, Table 16-4). -/
def State.ringHead (s : State) (r : Ring) : Nat := poff (s.odv 0 0x8001 (r.pier + 1)) + r.off + 32 * s.odv 0 r.idx r.sub

/-- The accesses of a record's write. -/
def State.ringAccess (s : State) (r : Ring) : State :=
  s.girderRun r.pier (s.ringHead r) 32 true 0 (Asker.maintenance r.pier) ffPattern

/-- After the accesses and the record's bytes, a write moves HEAD and raises the ring's vector: the memory stays. -/
theorem State.ringWrite_keeps (s : State) (r : Ring) (v : Nat) :
    ((s.ringAccess r).setNum (pkey (spFast r.pier) (s.ringHead r)) 32 v).Keeps true (s.ringWrite r v) :=
  keeps_raise (keeps_setOd (.refl _))

theorem State.ringWrite_num {s : State} (r : Ring) (v : Nat) (hwf : Memory.wf s.mem = true) :
    (s.ringWrite r v).num (pkey (spFast r.pier) (s.ringHead r)) 32 = v % 2 ^ 256 := by
  have hwf' : Memory.wf (s.ringAccess r).mem = true := (keeps_girderRun (.refl s)).mem hwf
  rw [(s.ringWrite_keeps r v).num, State.setNum_num hwf']
  norm_num

/-- A written record changes no byte but its own and those of granules that its accesses rewrite. -/
theorem State.ringWrite_byte {s : State} {r : Ring} (v : Nat) {j : Nat}
    (hout : ¬ (pkey (spFast r.pier) (s.ringHead r) ≤ j ∧ j < pkey (spFast r.pier) (s.ringHead r) + 32))
    (h : s.Readable r.pier ∨ ¬ InGranules r.pier (s.ringHead r) 32 j) : (s.ringWrite r v).byte j = s.byte j := by
  have hpattern : ffPattern.length ≤ 128 := by simp [ffPattern]
  rw [(s.ringWrite_keeps r v).byte, State.setNum_byte_ne _ v hout, State.ringAccess, State.girderRun_byte _ _ _ hpattern h]

@[simp] theorem State.advSeq_ringFull (s : State) (r q : Ring) : (s.advSeq r).ringFull q = s.ringFull q := rfl

/-- A full ring discards the record and counts it (R109). -/
theorem State.ringPut_of_full {s : State} {r : Ring} (rec : Nat → Nat) (h : s.ringFull r = true) :
    s.ringPut r rec = (s.advSeq r).bump32 0 (r.idx + 2) r.sub 1 :=
  if_pos h

/-- A ring with space takes the record, made with its sequence number (R108). -/
theorem State.ringPut_of_space {s : State} {r : Ring} (rec : Nat → Nat) (h : s.ringFull r = false) :
    s.ringPut r rec = (s.advSeq r).ringWrite r (rec (s.seq r)) :=
  if_neg (by simpa using h)

/-- With nothing lost, or still no space, a write of TAIL moves TAIL alone. -/
theorem State.ringTail_of_no_record {s : State} {r : Ring} {tail : Nat}
    (h : (s.setOd 0 (r.idx + 1) r.sub tail).odv 0 (r.idx + 2) r.sub = 0 ∨ (s.setOd 0 (r.idx + 1) r.sub tail).ringFull r = true) :
    s.ringTail r tail = s.setOd 0 (r.idx + 1) r.sub tail :=
  if_neg (by rcases h with h | h <;> simp [h])

/-- Space after a loss takes the LOST record, and the count starts again (R109). -/
theorem State.ringTail_of_lost {s : State} {r : Ring} {tail : Nat} :
    let t := s.setOd 0 (r.idx + 1) r.sub tail
    t.odv 0 (r.idx + 2) r.sub ≠ 0 → t.ringFull r = false →
      s.ringTail r tail = ((t.advSeq r).ringWrite r (lostRec t r (t.seq r))).setOd 0 (r.idx + 2) r.sub 0 :=
  fun hlost hspace => if_pos (by simp [hlost, hspace])

end Sys2Proof.Machine

namespace Sys2Proof.Claims
open Sys2Proof.Machine

/-- Settles O52: a record is discarded or written by `State.ringPut`, its bytes read back by `State.setNum_num`, and its
accesses spare the other bytes by `State.girderRun_byte`. -/
theorem ringRecords : Obligations.RingRecords := by
  refine ⟨fun s r rec hfull => State.ringPut_of_full rec hfull, fun s r rec hwf hspace => ?_,
    fun s r tail => ⟨State.ringTail_of_no_record, State.ringTail_of_lost⟩⟩
  rw [State.ringPut_of_space rec hspace]
  refine ⟨(s.advSeq r).ringWrite_num r _ hwf, fun j hout => ?_, fun herrs hlines j hout => ?_⟩
  · exact State.ringWrite_byte _ (mt InGranules.of_mem hout) (.inr hout)
  · exact State.ringWrite_byte _ hout (.inl ⟨herrs, hlines⟩)

end Sys2Proof.Claims
end

section
/-! Instruction streams (06): what each queue command does (Table 6-3), the counter wait (R192), and signals with the flags and
the other Pier's mirror (R196 to R199). -/

namespace Sys2Proof.Machine

/-! ## Queue commands (Table 6-3) -/

/-- The word at the head is fetched where the queue has no buffer; a Span or Deck queue copies its window instead (06 R188). -/
def State.takeHeadUnbuffered (s : State) (p q : Nat) : State := if q < 64 then s else s.takeHead p q

/-- A cluster that is OFF begins to restore when one of its Span or Deck queues starts. -/
def State.wakeCluster (s : State) (p q : Nat) : State :=
  if q < 64 ∧ s.cluster (clusterOf p (q % 32)) = .off then s.setCluster (clusterOf p (q % 32)) .restoring else s

/-- The state that START and RESUME of FAULT enter. -/
def firstState (q : Nat) : QState := if q < 64 then .load else .run

/-- A START is accepted of this queue. -/
def State.MayStart (s : State) (p q : Nat) : Prop :=
  ((s.queue p q).st = .idle ∨ (s.queue p q).st = .done) ∧ (s.queue p q).qlen ≠ 0 ∧ (s.queue p q).passLimit ≠ 0 ∧ s.startAllowed p = true

theorem exec_queueStart (p q : Nat) (s : State) : exec (.queueStart p q) s = .next (s.queueCommand p q 1).1 := rfl
theorem exec_queueHalt (p q : Nat) (s : State) : exec (.queueHalt p q) s = .next (s.queueCommand p q 2).1 := rfl
theorem exec_queueResume (p q : Nat) (s : State) : exec (.queueResume p q) s = .next (s.queueCommand p q 3).1 := rfl
theorem exec_queueReset (p q : Nat) (s : State) : exec (.queueReset p q) s = .next (s.queueCommand p q 4).1 := rfl

theorem State.queueStart_of_mayStart {s : State} {p q : Nat} (h : s.MayStart p q) :
    (s.queueCommand p q 1).1 = ((s.beginAttempt.setQueue p q { s.queue p q with
      st := firstState q, pc := 0, sc1 := 0, sc2 := 0, ended := false, timedOut := false, loading := decide (q < 64),
      met := false }).takeHeadUnbuffered p q).wakeCluster p q := by
  obtain ⟨hst, hlen, hlimit, hallowed⟩ := h
  by_cases hq : q < 64 <;>
    simp [State.queueCommand, hst, hlen, hlimit, hallowed, State.takeHeadUnbuffered, State.wakeCluster, firstState, hq]

theorem State.queueStart_discarded {s : State} {p q : Nat} (h : ¬ s.MayStart p q) : (s.queueCommand p q 1).1 = s :=
  congrArg Prod.fst (if_neg (by simpa [State.MayStart, and_assoc] using h))

theorem State.queueHalt_of_active {s : State} {p q : Nat} (h : (s.queue p q).st = .load ∨ (s.queue p q).st = .run) :
    (s.queueCommand p q 2).1 = s.setQueue p q { s.queue p q with st := .halt } := by
  simp [State.queueCommand, h]

theorem State.queueHalt_discarded {s : State} {p q : Nat} (h : ¬ ((s.queue p q).st = .load ∨ (s.queue p q).st = .run)) :
    (s.queueCommand p q 2).1 = s := by
  simp [State.queueCommand, h]

theorem State.queueResume_of_halt {s : State} {p q : Nat} (hst : (s.queue p q).st = .halt) (hdrain : (s.queue p q).draining = false) :
    (s.queueCommand p q 3).1 = s.setQueue p q { s.queue p q with st := .run } := by
  simp [State.queueCommand, hst, hdrain]

theorem State.queueResume_of_fault {s : State} {p q : Nat} (h : (s.queue p q).st = .fault) :
    (s.queueCommand p q 3).1 = (s.setQueue p q { s.queue p q with
      st := firstState q, timedOut := false, loading := decide (q < 64), met := false }).takeHeadUnbuffered p q := by
  simp [State.queueCommand, h, State.takeHeadUnbuffered, firstState]

/-- A queue that drains reads HALT, and takes no RESUME until it is IDLE. -/
theorem State.queueResume_of_draining {s : State} {p q : Nat} (hst : (s.queue p q).st = .halt) (hdrain : (s.queue p q).draining = true) :
    (s.queueCommand p q 3).1 = s := by
  simp [State.queueCommand, hst, hdrain]

theorem State.queueResume_discarded {s : State} {p q : Nat} (h : ¬ ((s.queue p q).st = .halt ∨ (s.queue p q).st = .fault)) :
    (s.queueCommand p q 3).1 = s := by
  obtain ⟨hhalt, hfault⟩ := not_or.mp h
  simp [State.queueCommand, hhalt, hfault]

theorem State.queueReset_of_busy {s : State} {p q : Nat}
    (h : (s.queue p q).st = .load ∨ (s.queue p q).st = .run ∨ (s.queue p q).st = .halt ∨ (s.queue p q).st = .fault) :
    (s.queueCommand p q 4).1 =
      (s.setQueue p q { s.queue p q with st := .halt, draining := true }).arbDiscard (fun o => decide (o = q + 128 * p)) := by
  simp [State.queueCommand, or_assoc, h]

theorem State.queueReset_discarded {s : State} {p q : Nat} (h : (s.queue p q).st = .idle ∨ (s.queue p q).st = .done) :
    (s.queueCommand p q 4).1 = s := by
  rcases h with h | h <;> simp [State.queueCommand, h]

/-! ## Counter waits (R192) -/

/-- A two-bit field is made of its two bits. -/
theorem bits_pair (lo w : Nat) : bits (lo + 1) lo w = b2n (bit lo w) + 2 * b2n (bit (lo + 1) w) := by
  have hwidth : lo + 1 + 1 - lo = 2 := by omega
  have hhigh : w / 2 ^ (lo + 1) = w / 2 ^ lo / 2 := by rw [pow_succ, Nat.div_div_eq_div_mul]
  simp only [bits, bit, b2n, hwidth, hhigh, decide_eq_true_eq]
  split_ifs <;> omega

/-- Bit 0 of WAIT_BASE adds SC1 × MUL1 and bit 1 adds SC2 × MUL2, in 32-bit arithmetic. -/
theorem ofNat_threshold (u : Queue) (w : Nat) :
    BitVec.ofNat 32 (threshold u w) = BitVec.ofNat 32 (bits 93 78 w)
      + (if bit 76 w then BitVec.ofNat 32 u.sc1 * BitVec.ofNat 32 u.mul1 else 0)
      + (if bit 77 w then BitVec.ofNat 32 u.sc2 * BitVec.ofNat 32 u.mul2 else 0) := by
  have hwrap (v : Nat) : BitVec.ofNat 32 (wrap32 v) = BitVec.ofNat 32 v := BitVec.eq_of_toNat_eq (by simp [wrap32])
  rw [threshold, hwrap, BitVec.ofNat_add, BitVec.ofNat_add]
  cases bit 76 w <;> cases bit 77 w <;> simp [BitVec.ofNat_mul]

/-- `counterMet` is the modular comparison of R192. -/
theorem counterMet_iff {c th : Nat} (hc : c < 2 ^ 32) (hth : th < 2 ^ 32) :
    counterMet c th = true ↔ (BitVec.ofNat 32 c - BitVec.ofNat 32 th).toNat < 2 ^ 31 := by
  simp only [counterMet, decide_eq_true_eq, BitVec.toNat_sub, BitVec.toNat_ofNat, Nat.mod_eq_of_lt hc, Nat.mod_eq_of_lt hth]
  omega

theorem State.waitMet_of_counter {s : State} {u : Queue} {w : Nat} (p : Nat) (h : bits 65 64 w = 1) :
    s.waitMet p u w = counterMet (s.counter p (bits 75 66 w)) (threshold u w) := by
  simp [State.waitMet, h]

/-! ## Bits of a mask -/

theorem bit_eq_testBit (i w : Nat) : bit i w = w.testBit i := Nat.testBit_eq_decide_div_mod_eq.symm

/-- A power of two added at a clear bit carries into no other. -/
theorem bit_two_pow_add_of_clear {f g v : Nat} (hclear : bit f v = false) (h : g ≠ f) : bit g (2 ^ f + v) = bit g v := by
  simp only [bit_eq_testBit]
  rcases Nat.lt_or_gt_of_ne h with hlow | hhigh
  · exact Nat.testBit_two_pow_add_gt hlow v
  · obtain ⟨k, rfl⟩ := Nat.exists_eq_add_of_lt hhigh
    have hquot : (2 ^ f + v) / 2 ^ f = v / 2 ^ f + 1 := Nat.add_div_left v (Nat.two_pow_pos f)
    have heven : v / 2 ^ f % 2 ≠ 1 := by simpa [bit] using hclear
    have hupper : (2 ^ f + v) / 2 ^ (f + 1) = v / 2 ^ (f + 1) := by
      rw [pow_succ, ← Nat.div_div_eq_div_mul, ← Nat.div_div_eq_div_mul, hquot]
      omega
    rw [show f + k + 1 = k + (f + 1) by omega, Nat.testBit_add, hupper, ← Nat.testBit_add]

theorem bit_two_pow_add_self (f v : Nat) : bit f (2 ^ f + v) = !bit f v := by
  simp only [bit_eq_testBit, Nat.testBit_two_pow_add_eq]

/-- A bit that changes is added where it was clear, and taken from where it was set. -/
theorem setBit_cases {f w : Nat} {b : Bool} (h : bit f w ≠ b) :
    (b = true ∧ bit f w = false ∧ setBit f b w = 2 ^ f + w)
      ∨ (b = false ∧ bit f (setBit f b w) = false ∧ w = 2 ^ f + setBit f b w) := by
  cases b with
  | true => exact .inl ⟨rfl, by simpa using h, by simp [setBit, h, Nat.add_comm]⟩
  | false =>
    have hset : bit f w = true := by simpa using h
    have hle : 2 ^ f ≤ w := Nat.ge_two_pow_of_testBit (by rwa [← bit_eq_testBit])
    have hw : w = 2 ^ f + setBit f false w := by simp [setBit, hset, Nat.add_sub_cancel' hle]
    refine .inr ⟨rfl, ?_, hw⟩
    rw [hw, bit_two_pow_add_self] at hset
    simpa using hset

@[simp] theorem setBit_of_same {f w : Nat} {b : Bool} (h : bit f w = b) : setBit f b w = w := if_pos h

@[simp] theorem bit_setBit_self (f : Nat) (b : Bool) (w : Nat) : bit f (setBit f b w) = b := by
  by_cases h : bit f w = b
  · rw [setBit_of_same h, h]
  · obtain ⟨rfl, hclear, hadd⟩ | ⟨rfl, hclear, -⟩ := setBit_cases h
    · rw [hadd, bit_two_pow_add_self, hclear, Bool.not_false]
    · exact hclear

@[simp] theorem bit_setBit_ne {f g : Nat} (b : Bool) (w : Nat) (hg : g ≠ f) : bit g (setBit f b w) = bit g w := by
  by_cases h : bit f w = b
  · rw [setBit_of_same h]
  · obtain ⟨-, hclear, hadd⟩ | ⟨-, hclear, hsub⟩ := setBit_cases h
    · rw [hadd, bit_two_pow_add_of_clear hclear hg]
    · conv_rhs => rw [hsub, bit_two_pow_add_of_clear hclear hg]

/-! ## Flags (R196, R197) -/

/-- Two Piers: the other one is the other side of the module. -/
theorem other_side (p : Nat) : (p = 0) ≠ (other p = 0) := by
  rw [ne_eq, eq_iff_iff, other]
  omega

/-- What a change of one Pier leaves there, it leaves in both. -/
theorem State.modPier_pier_field {α : Type} (s : State) (p r : Nat) {f : Pier → Pier} (field : Pier → α)
    (h : ∀ x, field (f x) = field x) : field ((s.modPier p f).pier r) = field (s.pier r) := by
  by_cases hside : (p = 0) = (r = 0)
  · have hsame (t : State) : t.pier r = t.pier p := by simp only [State.pier, hside]
    rw [hsame, hsame, State.modPier_pier, h]
  · rw [State.modPier_pier_ne s f hside]

@[simp] theorem State.noteWaits_flags (s : State) (p r : Nat) : ((s.noteWaits p).pier r).flags = (s.pier r).flags :=
  s.modPier_pier_field p r Pier.flags fun _ => rfl
@[simp] theorem State.noteWaits_mirrorQ (s : State) (p r : Nat) : ((s.noteWaits p).pier r).mirrorQ = (s.pier r).mirrorQ :=
  s.modPier_pier_field p r Pier.mirrorQ fun _ => rfl
@[simp] theorem State.noteWaits_counters (s : State) (p r : Nat) : ((s.noteWaits p).pier r).counters = (s.pier r).counters :=
  s.modPier_pier_field p r Pier.counters fun _ => rfl

/-- The flag changes at its Pier, and the change waits for the other Pier's mirror. -/
def State.flagChange (s : State) (p f : Nat) (b : Bool) : State :=
  (s.modPier p (fun r => { r with flags := setBit f b r.flags })).modPier (other p)
    (fun r => { r with mirrorQ := r.mirrorQ ++ [(f, b)] })

@[simp] theorem State.flagChange_flags (s : State) (p f : Nat) (b : Bool) :
    ((s.flagChange p f b).pier p).flags = setBit f b (s.pier p).flags := by
  rw [State.flagChange, State.modPier_pier_ne _ _ (other_side p).symm, State.modPier_pier]

@[simp] theorem State.flagChange_other (s : State) (p f : Nat) (b : Bool) : (s.flagChange p f b).pier (other p) =
    { s.pier (other p) with mirrorQ := (s.pier (other p)).mirrorQ ++ [(f, b)] } := by
  rw [State.flagChange, State.modPier_pier, State.modPier_pier_ne _ _ (other_side p)]

@[simp] theorem State.flagChange_counters (s : State) (p f : Nat) (b : Bool) (r : Nat) :
    ((s.flagChange p f b).pier r).counters = (s.pier r).counters := by
  calc ((s.flagChange p f b).pier r).counters
    _ = ((s.modPier p (fun x => { x with flags := setBit f b x.flags })).pier r).counters :=
      State.modPier_pier_field _ _ r Pier.counters fun _ => rfl
    _ = (s.pier r).counters := s.modPier_pier_field p r Pier.counters fun _ => rfl

/-- A flag that holds the value already makes no change. -/
theorem State.setFlag_of_same {s : State} {p f : Nat} {b : Bool} (h : bit f (s.pier p).flags = b) : s.setFlag p f b = s := if_pos h

theorem State.setFlag_of_change {s : State} {p f : Nat} {b : Bool} (h : bit f (s.pier p).flags ≠ b) :
    s.setFlag p f b = (s.flagChange p f b).noteWaits p := if_neg h

@[simp] theorem State.setFlag_flags (s : State) (p f : Nat) (b : Bool) :
    ((s.setFlag p f b).pier p).flags = setBit f b (s.pier p).flags := by
  by_cases h : bit f (s.pier p).flags = b
  · rw [State.setFlag_of_same h, setBit_of_same h]
  · rw [State.setFlag_of_change h, State.noteWaits_flags, State.flagChange_flags]

@[simp] theorem State.setFlag_other_flags (s : State) (p f : Nat) (b : Bool) :
    ((s.setFlag p f b).pier (other p)).flags = (s.pier (other p)).flags := by
  by_cases h : bit f (s.pier p).flags = b
  · rw [State.setFlag_of_same h]
  · rw [State.setFlag_of_change h, State.noteWaits_flags, State.flagChange_other]

/-- Only a change goes to the other Pier's mirror, after those that wait already. -/
theorem State.setFlag_other_mirrorQ (s : State) (p f : Nat) (b : Bool) : ((s.setFlag p f b).pier (other p)).mirrorQ =
    (s.pier (other p)).mirrorQ ++ (if bit f (s.pier p).flags = b then [] else [(f, b)]) := by
  by_cases h : bit f (s.pier p).flags = b
  · rw [State.setFlag_of_same h, if_pos h, List.append_nil]
  · rw [State.setFlag_of_change h, if_neg h, State.noteWaits_mirrorQ, State.flagChange_other]

@[simp] theorem State.setFlag_counter (s : State) (p f : Nat) (b : Bool) (r c : Nat) : (s.setFlag p f b).counter r c = s.counter r c := by
  by_cases h : bit f (s.pier p).flags = b
  · rw [State.setFlag_of_same h]
  · rw [State.setFlag_of_change h, State.counter, State.noteWaits_counters, State.flagChange_counters, State.counter]

/-! ## Signals (Table 6-6) -/

/-- The counter or flag update of a word's signal, before its IRQ. -/
def State.signalUpdate (s : State) (p w : Nat) : State :=
  match bits 95 94 w with
  | 1 => s.addCounter p (bits 105 96 w) (bits 107 106 w + 1)
  | 2 => s.setFlag p (bits 105 96 w % 256) true
  | 3 => s.setFlag p (bits 105 96 w % 256) false
  | _ => s

/-- The IRQ bit raises the Pier's vector after the update. -/
theorem State.postSignal_eq (s : State) (p w : Nat) :
    s.postSignal p w = if bit 119 w then (s.signalUpdate p w).raise (1 + p) else s.signalUpdate p w := rfl

theorem State.postSignal_of_irq {s : State} {w : Nat} (p : Nat) (h : bit 119 w = true) :
    s.postSignal p w = (s.signalUpdate p w).raise (1 + p) := by
  rw [State.postSignal_eq, if_pos h]

theorem State.postSignal_of_no_irq {s : State} {w : Nat} (p : Nat) (h : bit 119 w = false) : s.postSignal p w = s.signalUpdate p w := by
  rw [State.postSignal_eq, h, if_neg Bool.false_ne_true]

theorem State.signalUpdate_none {s : State} {p w : Nat} (h : bits 95 94 w = 0) : s.signalUpdate p w = s := by
  simp [State.signalUpdate, h]

theorem State.signalUpdate_add {s : State} {p w : Nat} (h : bits 95 94 w = 1) : s.signalUpdate p w =
    s.setCounter p (bits 105 96 w) (s.counter p (bits 105 96 w) + (bits 107 106 w + 1)) := by
  simp [State.signalUpdate, h, State.addCounter]

theorem State.signalUpdate_set {s : State} {p w : Nat} (h : bits 95 94 w = 2) :
    s.signalUpdate p w = s.setFlag p (bits 105 96 w % 256) true := by
  simp [State.signalUpdate, h]

theorem State.signalUpdate_clear {s : State} {p w : Nat} (h : bits 95 94 w = 3) :
    s.signalUpdate p w = s.setFlag p (bits 105 96 w % 256) false := by
  simp [State.signalUpdate, h]

end Sys2Proof.Machine

namespace Sys2Proof.Claims
open Sys2Proof.Machine

/-- Settles O53: WAIT_BASE read bit by bit in `ofNat_threshold`, the comparison from `counterMet_iff`. -/
theorem counterWait : Obligations.CounterWait := by
  refine ⟨fun u w => ?_, fun c th => counterMet_iff, fun s p u w => State.waitMet_of_counter p⟩
  have hbase : bits 77 76 w = b2n (bit 76 w) + 2 * b2n (bit 77 w) := bits_pair 76 w
  simp only [ofNat_threshold, hbase]
  cases bit 76 w <;> cases bit 77 w <;> simp [b2n]

/-- Settles O54: a signal is its update and then its IRQ (`State.postSignal_eq`); a flag is a bit of its Pier's mask
(`State.setFlag_flags`), and its change goes to the other Pier (`State.setFlag_other_mirrorQ`). -/
theorem signalsAndFlags : Obligations.SignalsAndFlags := by
  refine ⟨fun s p w hirq => ?_, fun s p w hirq => ?_, fun s p f b _ => ?_⟩
  · rw [State.postSignal_of_no_irq p hirq]
    exact ⟨State.signalUpdate_none, State.signalUpdate_add, State.signalUpdate_set, State.signalUpdate_clear⟩
  · exact ⟨s.signalUpdate p w, State.postSignal_of_irq p hirq, State.signalUpdate_none⟩
  · refine ⟨?_, fun g hg => ?_, s.setFlag_other_flags p f b, s.setFlag_counter p f b, s.setFlag_other_mirrorQ p f b⟩
    · rw [State.setFlag_flags, bit_setBit_self]
    · rw [State.setFlag_flags, bit_setBit_ne b _ hg]

/-- Settles O3: each row of Table 6-3, accepted or discarded, from the lemma on that command. -/
theorem queueCommandsTaken : Obligations.QueueCommandsTaken := by
  intro s p q
  simp only [exec_queueStart, exec_queueHalt, exec_queueResume, exec_queueReset]
  refine ⟨fun h => congrArg _ (State.queueStart_of_mayStart h), fun h => congrArg _ (State.queueStart_discarded h),
    fun h => congrArg _ (State.queueHalt_of_active h), fun h => congrArg _ (State.queueHalt_discarded h),
    fun hst hdrain => congrArg _ (State.queueResume_of_halt hst hdrain), fun h => congrArg _ (State.queueResume_of_fault h),
    fun hst hdrain => congrArg _ (State.queueResume_of_draining hst hdrain), fun h => congrArg _ (State.queueResume_discarded h),
    fun h => congrArg _ (State.queueReset_of_busy h), fun h => congrArg _ (State.queueReset_discarded h)⟩

end Sys2Proof.Claims
end

section
/-! The arbiters (08): what a write of PRIORITY does to the levels, the quotas, the quota masks and HIGH_COUNT (R282 to R286,
Table 8-6). -/

namespace Sys2Proof

/-! ## Runs of writes to a table -/

/-- A run of writes leaves every key that it does not name. -/
theorem Tab.get_foldl_set_ne {ι α : Type} [DecidableEq α] {d : α} {l : List ι} {key : ι → Nat} (v : ι → α)
    (t : Tab α) {j : Nat} (h : ∀ i ∈ l, j ≠ key i) :
    Tab.get d (l.foldl (fun t i => Tab.set d t (key i) (v i)) t) j = Tab.get d t j :=
  List.foldlRecOn (motive := fun u => Tab.get d u j = Tab.get d t j) _ _ rfl
    fun u hu i hi => (Tab.get_set_ne d u (v i) (h i hi)).trans hu

/-- Where the keys are distinct, a run's entry that is not the default reads back. -/
theorem Tab.get_foldl_set_self {ι α : Type} [DecidableEq α] {d : α} {l : List ι} {key : ι → Nat} {v : ι → α}
    (t : Tab α) {i : ι} (hkey : key.Injective) (hi : i ∈ l) (hv : v i ≠ d) :
    Tab.get d (l.foldl (fun t i => Tab.set d t (key i) (v i)) t) (key i) = v i := by
  induction l generalizing t with
  | nil => cases hi
  | cons j l ih =>
    by_cases hl : i ∈ l
    · exact ih _ hl
    · obtain rfl : i = j := by simpa [hl] using hi
      have hrest : ∀ i' ∈ l, key i ≠ key i' := fun i' hi' heq => hl (hkey heq ▸ hi')
      rw [List.foldl_cons, Tab.get_foldl_set_ne v _ hrest, Tab.get_set_self t (key i) hv]

end Sys2Proof

namespace Sys2Proof.Machine

/-! ## Originators and their quotas -/

/-- The ORIGINs of Table 8-2 have at most nine bits. -/
theorem lt_of_originOk {o : Nat} (h : originOk o = true) : o < 2 ^ 9 := by
  simp only [originOk, Bool.or_eq_true, Bool.and_eq_true, decide_eq_true_eq] at h
  omega

/-- Keys of one originator in different classes differ. -/
theorem arbKey_injective (o : Nat) : Function.Injective (arbKey · o) := fun c c' h => by
  simp only [arbKey] at h
  omega

/-- Keys of different originators differ, whatever the classes. -/
theorem arbKey_ne {o o' : Nat} (c c' : Nat) (ho : o < 2 ^ 16) (ho' : o' < 2 ^ 16) (h : o' ≠ o) : arbKey c' o' ≠ arbKey c o := by
  unfold arbKey
  omega

/-- A table of quotas after originator o's quota in each class c has become `q c`. -/
def setQuotas (o : Nat) (q : Nat → Nat) (t : Tab Nat) : Tab Nat :=
  (List.range arbClasses).foldl (fun t c => Tab.set 0 t (arbKey c o) (q c)) t

theorem setQuotas_self {c o : Nat} {q : Nat → Nat} (t : Tab Nat) (hc : c < 6) (hq : 0 < q c) :
    Tab.get 0 (setQuotas o q t) (arbKey c o) = q c :=
  Tab.get_foldl_set_self t (arbKey_injective o) (List.mem_range.mpr hc) hq.ne'

theorem setQuotas_ne {o o' : Nat} (c : Nat) (q : Nat → Nat) (t : Tab Nat) (ho : o < 2 ^ 16) (ho' : o' < 2 ^ 16) (h : o' ≠ o) :
    Tab.get 0 (setQuotas o q t) (arbKey c o') = Tab.get 0 t (arbKey c o') :=
  Tab.get_foldl_set_ne q t fun c' _ => arbKey_ne c' c ho ho' h

/-! ## Quota masks -/

theorem ArbInst.mem_maskQuota (a : ArbInst) (o : Nat) : o ∈ (a.maskQuota o).quotaMask := by
  by_cases h : o ∈ a.quotaMask <;> simp [ArbInst.maskQuota, h]

/-- The instance without an originator's quota mask. -/
def ArbInst.unmaskQuota (a : ArbInst) (o : Nat) : ArbInst := { a with quotaMask := a.quotaMask.filter (fun x => !decide (x = o)) }

theorem ArbInst.not_mem_unmaskQuota (a : ArbInst) (o : Nat) : o ∉ (a.unmaskQuota o).quotaMask := by
  simp [ArbInst.unmaskQuota]

/-- Every instance listed after `mapInsts` is a changed one. -/
theorem State.eq_of_mem_mapInsts {s : State} {f : Nat → ArbInst → ArbInst} {e : Nat × ArbInst}
    (h : e ∈ (s.mapInsts f).arb.insts) : ∃ c a, e.2 = f c a := by
  obtain ⟨e', -, he⟩ := List.mem_filterMap.mp h
  obtain ⟨-, he⟩ := Option.ite_none_left_eq_some.mp he
  exact ⟨_, _, (congrArg Prod.snd (Option.some.inj he)).symm⟩

/-! ## HIGH_COUNT (Table 8-6) -/

/-- HIGH_COUNT takes the number of the high originators. -/
def State.noteHigh (s : State) : State := s.setOd 0 0x3803 0 s.highCount

/-- An originator at a high level is counted. -/
theorem State.highCount_ne_zero {s : State} {o : Nat} (h : s.level o ≠ 0) : s.highCount ≠ 0 := fun hzero =>
  h (by rw [State.level, List.length_eq_zero_iff.mp hzero, Tab.get])

theorem State.noteHigh_odv {s : State} {o : Nat} (h : s.level o ≠ 0) : s.noteHigh.odv 0 0x3803 0 = s.noteHigh.highCount :=
  Tab.get_set_self s.od _ (State.highCount_ne_zero h)

/-! ## The write (R282 to R286) -/

/-- The write before HIGH_COUNT, between high levels. -/
def State.setLevel (s : State) (o v : Nat) : State := { s with arb := { s.arb with priority := Tab.set 0 s.arb.priority o v } }

/-- The write before HIGH_COUNT, from level 0 to a high level. -/
def State.raised (s : State) (o v : Nat) : State := { s with arb := { s.arb with
  priority := Tab.set 0 s.arb.priority o v
  quota := setQuotas o (s.arbOd · 5) s.arb.quota
  oldQuota := setQuotas o (s.arbOd · 5) s.arb.oldQuota
  insts := (s.mapInsts fun c a => if s.arbOd c 5 ≤ Tab.get 0 a.winGrants o then a.maskQuota o else a).arb.insts } }

/-- The write of level 0 before HIGH_COUNT. -/
def State.lowered (s : State) (o : Nat) : State := { s with arb := { s.arb with
  priority := Tab.set 0 s.arb.priority o 0
  quota := setQuotas o (fun _ => 0) s.arb.quota
  oldQuota := setQuotas o (fun _ => 0) s.arb.oldQuota
  insts := (s.mapInsts fun _ a => a.unmaskQuota o).arb.insts } }

theorem exec_priorityWrite (o v : Nat) (s : State) : exec (.priorityWrite o v) s = .next (s.priorityWrite o v).2 := rfl

theorem State.arbRaise_setLevel (s : State) (o v : Nat) : (s.setLevel o v).arbRaise o = s.raised o v := rfl

theorem State.arbLower_setLevel (s : State) (o : Nat) : (s.setLevel o 0).arbLower o = s.lowered o := rfl

/-- A write that passes the checks of range and count. -/
theorem State.priorityWrite_of_taken {s : State} {o v : Nat} (ho : originOk o = true) (hv : v ≤ 3)
    (hroom : s.level o = 0 → v ≠ 0 → s.highCount < 32) : (s.priorityWrite o v).2 =
      (if v = 0 then (s.setLevel o v).arbLower o else if s.level o = 0 then (s.setLevel o v).arbRaise o
        else s.setLevel o v).noteHigh := by
  have hrange : (3 < v || !originOk o) = false := by simp [ho, hv]
  have hcount : (s.level o = 0 && v ≠ 0 && decide (32 ≤ s.highCount)) = false := by simpa using hroom
  rw [State.priorityWrite, hrange, hcount]
  rfl

theorem State.priorityWrite_of_raise {s : State} {o v : Nat} (ho : originOk o = true) (hpos : 1 ≤ v) (hv : v ≤ 3)
    (hlevel : s.level o = 0) (hroom : s.highCount < 32) : (s.priorityWrite o v).2 = (s.raised o v).noteHigh := by
  rw [State.priorityWrite_of_taken ho hv fun _ _ => hroom, if_neg (by omega), if_pos hlevel, State.arbRaise_setLevel]

theorem State.priorityWrite_of_high {s : State} {o v : Nat} (ho : originOk o = true) (hpos : 1 ≤ v) (hv : v ≤ 3)
    (hlevel : s.level o ≠ 0) : (s.priorityWrite o v).2 = (s.setLevel o v).noteHigh := by
  rw [State.priorityWrite_of_taken ho hv fun h => absurd h hlevel, if_neg (by omega), if_neg hlevel]

theorem State.priorityWrite_zero {s : State} {o : Nat} (ho : originOk o = true) :
    (s.priorityWrite o 0).2 = (s.lowered o).noteHigh := by
  rw [State.priorityWrite_of_taken ho (Nat.zero_le 3) fun _ h => absurd rfl h, if_pos rfl, State.arbLower_setLevel]

theorem State.priorityWrite_refused {s : State} {o v : Nat}
    (h : originOk o = false ∨ 3 < v ∨ (s.level o = 0 ∧ v ≠ 0 ∧ 32 ≤ s.highCount)) : (s.priorityWrite o v).2 = s := by
  unfold State.priorityWrite
  by_cases hrange : (3 < v || !originOk o) = true
  · rw [if_pos hrange]
  · obtain ⟨hv, ho⟩ : v ≤ 3 ∧ originOk o = true := by simpa using hrange
    obtain ⟨hlevel, hpos, hfull⟩ : s.level o = 0 ∧ v ≠ 0 ∧ 32 ≤ s.highCount := by
      simpa [ho, Nat.not_lt.mpr hv] using h
    rw [if_neg hrange, if_pos (by simp [hlevel, hpos, hfull])]

/-! ## The raised and the lowered originator -/

theorem State.raised_level_self {s : State} {o v : Nat} (h : v ≠ 0) : (s.raised o v).level o = v :=
  Tab.get_set_self s.arb.priority o h

theorem State.raised_level_ne {s : State} {o o' : Nat} (v : Nat) (h : o' ≠ o) : (s.raised o v).level o' = s.level o' :=
  Tab.get_set_ne 0 s.arb.priority v h

theorem State.raised_quota_self {s : State} {c o : Nat} (v : Nat) (hc : c < 6) (hmax : 0 < s.arbOd c 5) :
    (s.raised o v).quotaOf c o = s.arbOd c 5 :=
  setQuotas_self (q := (s.arbOd · 5)) s.arb.quota hc hmax

theorem State.raised_quota_ne {s : State} {o o' : Nat} (c v : Nat) (ho : o < 2 ^ 16) (ho' : o' < 2 ^ 16) (h : o' ≠ o) :
    (s.raised o v).quotaOf c o' = s.quotaOf c o' :=
  setQuotas_ne c (s.arbOd · 5) s.arb.quota ho ho' h

/-- The quota of a window is QUOTA_MAX whichever decision governs it, so also in a window that has begun. -/
theorem State.raised_windowQuota {s : State} {c o : Nat} (v : Nat) (a : ArbInst) (hc : c < 6) (hmax : 0 < s.arbOd c 5) :
    (s.raised o v).windowQuota c a o = s.arbOd c 5 := by
  unfold State.windowQuota
  split
  · exact State.raised_quota_self v hc hmax
  · exact setQuotas_self (q := (s.arbOd · 5)) s.arb.oldQuota hc hmax

theorem State.lowered_quotaMask {s : State} {o : Nat} {e : Nat × ArbInst} (h : e ∈ (s.lowered o).arb.insts) :
    o ∉ e.2.quotaMask := by
  obtain ⟨_, a, he⟩ := State.eq_of_mem_mapInsts (s := s) (f := fun _ a => a.unmaskQuota o) h
  exact he ▸ a.not_mem_unmaskQuota o

end Sys2Proof.Machine

namespace Sys2Proof.Claims
open Sys2Proof.Machine

/-- Settles O42: each write is refused, or is the raised, moved or lowered state with its HIGH_COUNT (`State.priorityWrite_of_raise`
and the lemmas beside it); the raised quotas read back by `setQuotas_self`. -/
theorem priorityWrite : Obligations.PriorityWrite := by
  intro s o v
  simp only [exec_priorityWrite]
  refine ⟨fun ho hpos hv hlevel hroom =>
      ⟨(s.raised o v).noteHigh, congrArg _ (State.priorityWrite_of_raise ho hpos hv hlevel hroom), ?_⟩,
    fun ho hpos hv hlevel => congrArg _ (State.priorityWrite_of_high ho hpos hv hlevel),
    fun ho => ⟨(s.lowered o).noteHigh, congrArg _ (State.priorityWrite_zero ho), rfl, fun _ => State.lowered_quotaMask,
      rfl, rfl, rfl, rfl⟩,
    fun h => congrArg _ (State.priorityWrite_refused h)⟩
  have hself : (s.raised o v).level o = v := State.raised_level_self (by omega)
  have ho16 : o < 2 ^ 16 := (lt_of_originOk ho).trans (by norm_num)
  exact ⟨hself, fun o' => State.raised_level_ne v,
    fun c => State.raised_quota_self v,
    fun c o' hne ho' => State.raised_quota_ne c v ho16 ho' hne,
    fun c a => State.raised_windowQuota v a,
    fun a => ⟨rfl, a.mem_maskQuota o⟩, rfl,
    State.noteHigh_odv (o := o) (by omega),
    fun k hk => Tab.get_set_ne 0 s.od _ hk, rfl⟩

end Sys2Proof.Claims
end

section
/-! Power, clocks and reset (17): what a record of the power event log leaves to read (R585, R595), what a cold reset and the
loss of the input do to the log (R559, R585), and the entry into the range of low input voltage (R560). -/

namespace Sys2Proof.Machine

/-! ## The power event log (R585, R595) -/

/-- The power after one more record. -/
def Power.append (w : Power) (r : PowerRec) : Power :=
  { w with log := (w.log ++ [r]).drop ((w.log ++ [r]).length - 256), logSeq := wrap32 (w.logSeq + 1) }

/-- A record made by the module with its epoch. -/
@[simp] theorem State.powerLog_power (s : State) (event key d0 d1 : Nat) :
    (s.powerLog event key d0 d1).power = s.power.append ⟨s.recEpoch, key, event, d0, d1⟩ := rfl

@[simp] theorem Power.append_state (w : Power) (r : PowerRec) : (w.append r).state = w.state := by
  simp only [Power.append]

@[simp] theorem Power.append_inputLow (w : Power) (r : PowerRec) : (w.append r).inputLow = w.inputLow := by
  simp only [Power.append]

@[simp] theorem Power.append_logSeq (w : Power) (r : PowerRec) : (w.append r).logSeq = (w.logSeq + 1) % 2 ^ 32 := by
  simp only [Power.append, wrap32]

theorem Power.append_logSeq_of_lt {w : Power} (r : PowerRec) (h : w.logSeq + 1 < 2 ^ 32) :
    (w.append r).logSeq = w.logSeq + 1 := by
  rw [Power.append_logSeq, Nat.mod_eq_of_lt h]

/-- Latest first, the log takes a record at its head and keeps 256. -/
theorem Power.append_log_reverse (w : Power) (r : PowerRec) :
    (w.append r).log.reverse = (r :: w.log.reverse).take 256 := by
  rw [Power.append, List.reverse_drop, List.reverse_append, List.reverse_singleton, List.singleton_append,
    List.take_eq_take_iff]
  simp
  omega

theorem Power.append_log_length_le (w : Power) (r : PowerRec) : (w.append r).log.length ≤ 256 := by
  rw [← List.length_reverse, Power.append_log_reverse]
  exact List.length_take_le ..

theorem Power.append_log_getLast? (w : Power) (r : PowerRec) : (w.append r).log.getLast? = some r := by
  rw [← List.head?_reverse, Power.append_log_reverse]
  rfl

/-- The next number is no record's. -/
theorem Power.record_logSeq (w : Power) : w.record w.logSeq = none := by
  simp [Power.record]

/-- While the numbers have not wrapped, record n lies as far back as numbers have been given since. -/
theorem Power.record_eq_reverse {w : Power} {n : Nat} (hn : n < w.logSeq) (hseq : w.logSeq < 2 ^ 32) :
    w.record n = w.log.reverse[w.logSeq - 1 - n]? := by
  have hback : (w.logSeq + 2 ^ 32 - n) % 2 ^ 32 = w.logSeq - n := by omega
  rw [Power.record, hback]
  by_cases hlen : w.log.length < w.logSeq - n
  · have hpast : w.log.reverse.length ≤ w.logSeq - 1 - n := by rw [List.length_reverse]; omega
    simp [hlen, List.getElem?_eq_none hpast]
  · have hin : w.logSeq - 1 - n < w.log.length := by omega
    have hindex : w.log.length - 1 - (w.logSeq - 1 - n) = w.log.length - (w.logSeq - n) := by omega
    have hsome : w.logSeq - n ≠ 0 := by omega
    rw [List.getElem?_reverse hin, hindex]
    simp [hlen, hsome]

/-- A record reads back by the number it was given. -/
theorem Power.append_record_self {w : Power} (r : PowerRec) (h : w.logSeq + 1 < 2 ^ 32) :
    (w.append r).record w.logSeq = some r := by
  have hseq := Power.append_logSeq_of_lt r h
  rw [Power.record_eq_reverse (by omega) (by omega), Power.append_log_reverse, hseq, Nat.add_sub_cancel, Nat.sub_self]
  rfl

/-- A record made fewer than 256 numbers ago stays with its number. -/
theorem Power.append_record_of_lt {w : Power} {n : Nat} (r : PowerRec) (h : w.logSeq + 1 < 2 ^ 32) (hn : n < w.logSeq)
    (hlate : w.logSeq < n + 256) : (w.append r).record n = w.record n := by
  have hseq := Power.append_logSeq_of_lt r h
  have hindex : w.logSeq + 1 - 1 - n = w.logSeq - 1 - n + 1 := by omega
  rw [Power.record_eq_reverse (by omega) (by omega), Power.record_eq_reverse hn (by omega), Power.append_log_reverse, hseq,
    hindex, List.getElem?_take_of_lt (by omega), List.getElem?_cons_succ]

/-! ## What the resets leave of the power (R559, R585) -/

theorem State.portsReset_power (s : State) (keepFailed : Bool) : (s.portsReset keepFailed).power = s.power :=
  List.foldlRecOn (motive := fun t : State => t.power = s.power) _ _ rfl fun t ht k _ => by
    rw [← ht]
    dsimp only
    split <;> split <;> rfl

/-- What is lost at a cold reset, the log is not. -/
theorem State.coldClear_log (s : State) (vtoll : Bool) : (s.coldClear vtoll).power.log = s.power.log := by
  simp only [State.coldClear, State.keystoneReset, State.mailboxGone, State.endHostCommands, State.setOd_power,
    State.portsReset_power, State.coldOd]

/-- A cold reset's own record is in the log that stays. -/
theorem State.coldReset_log (s : State) (cause : Nat) : (s.coldReset cause).power.log = (s.powerLog 9 0 cause 0).power.log := by
  rw [State.coldReset, State.setOd_power, State.coldClear_log]

/-! ## Low input voltage (R560) -/

theorem State.sendMsix_power (s : State) (v : Nat) : (s.sendMsix v).power = s.power := by
  unfold State.sendMsix
  dsimp only
  split <;> rfl

theorem State.sendAll_power (s : State) (vs : List Nat) : (s.sendAll vs).power = s.power :=
  List.foldlRecOn (motive := fun t : State => t.power = s.power) _ _ rfl fun t ht v _ => (t.sendMsix_power v).trans ht

/-- The notify line and the messages are the host attachment's. -/
theorem State.notifyAll_power (s : State) (vs : List Nat) : (s.notifyAll vs).power = s.power := by
  unfold State.notifyAll
  dsimp only
  split
  · rfl
  · split
    · rfl
    · exact State.sendAll_power _ _

theorem State.raisePower_power (s : State) : s.raisePower.power = s.power := by
  unfold State.raisePower
  split
  · exact State.notifyAll_power _ _
  · rfl

theorem State.canSend_power (s : State) (cls ident : Nat) (data : List Byte) : (s.canSend cls ident data).power = s.power := by
  unfold State.canSend
  cases s.can.mode with
  | busOff => dsimp only; split <;> rfl
  | _ => rfl

/-- An alert is the CAN FD port's and its counters'. -/
theorem State.alert_power (s : State) (code key data : Nat) : (s.alert code key data).power = s.power := by
  unfold State.alert
  dsimp only
  split
  · split
    · rfl
    · exact State.canSend_power ..
  · rfl

theorem exec_inputLow (mv : Nat) (s : State) : exec (.inputLow mv) s = .next (s.inputLow mv) := rfl

theorem State.inputLow_of_low {s : State} {mv : Nat} (h : s.power.inputLow = true) : s.inputLow mv = s := by
  simp [State.inputLow, h]

/-- The entry into the range notes the voltage and makes its one record: the vector and the alert leave the power. -/
theorem State.inputLow_power_of_entry {s : State} {mv : Nat} (hpresent : s.power.inputPresent = true) (hmin : 36000 ≤ mv)
    (hmax : mv < 40000) (hlow : s.power.inputLow = false) : (s.inputLow mv).power =
      ({ s.power with millivolts := mv, inputLow := true } : Power).append ⟨s.recEpoch, 0, 5, mv, s.effectiveCap mv⟩ := by
  have hentry : (!s.power.inputPresent || mv < 36000 || 40000 ≤ mv || s.power.inputLow) = false := by
    simp [hpresent, hlow, hmin, hmax]
  rw [State.inputLow, hentry]
  exact (State.alert_power ..).trans ((State.raisePower_power _).trans (State.powerLog_power ..))

end Sys2Proof.Machine

namespace Sys2Proof.Claims
open Sys2Proof.Machine

/-- Settles O57: the log read latest first (`Power.append_log_reverse`), and a record found by how far back its number lies
(`Power.record_eq_reverse`). -/
theorem powerLogRecords : Obligations.PowerLogRecords := by
  refine ⟨fun s event key d0 d1 hroom => ?_, fun s => ⟨rfl, rfl⟩, State.coldReset_log⟩
  have hseq := Power.append_logSeq_of_lt ⟨s.recEpoch, key, event, d0, d1⟩ hroom
  simp only [State.powerLog_power]
  refine ⟨hseq, Power.append_log_length_le .., Power.append_record_self _ hroom, ?_, fun n r hn hr hlate => ?_⟩
  · rw [← hseq]
    exact Power.record_logSeq _
  · exact (Power.append_record_of_lt _ hroom hn hlate).trans hr

/-- Settles O58: the entry's power is that of its record (`State.inputLow_power_of_entry`), the latest of the log; within the
range the state stays. -/
theorem inputLowCap : Obligations.InputLowCap := by
  intro s mv hmin hmax hpresent
  refine ⟨rfl, fun hlow => ⟨s.inputLow mv, exec_inputLow mv s, ?_⟩, fun hlow => ?_⟩
  · rw [State.inputLow_power_of_entry hpresent hmin hmax hlow]
    exact ⟨Power.append_state .., Power.append_inputLow .., Power.append_logSeq .., Power.append_log_getLast? ..⟩
  · rw [exec_inputLow, State.inputLow_of_low hlow]

end Sys2Proof.Claims
end

section
/-! The outcome of a write whose ordered checks have passed, and the order of the checks (R603). -/

namespace Sys2Proof.Machine
open Sys2Proof.Claims

/-- Past the ordered checks a count-limited write is accepted (R606). -/
theorem State.odAccept_of_countLimited {s : State} {a : Access} {r : OdRow} (h : r.acc = .rwc) :
    s.odAccept a r = (0, s.fuseStart a, false) := by
  simp [State.odAccept, h]

/-- Past the ordered checks any other write ends with the code of the object's own rule, zero where the rule accepts. -/
theorem State.odAccept_code_of_not_countLimited {s : State} {a : Access} {r : OdRow} (h : r.acc ≠ .rwc) :
    (s.odAccept a r).1 = (s.apply a.tr a.idx a.sub a.data r).1 := by
  by_cases hcode : (s.apply a.tr a.idx a.sub a.data r).1 = 0
  · simp [State.odAccept, h, hcode]
  · simp [State.odAccept, h, hcode]

/-- The first check that fails ends a write, and the state stays. -/
theorem State.odWrite_of_failure {s : State} {a : Access} {r : OdRow} (hobj : objectAt a.idx a.sub = some r)
    (hfail : firstFailure s a r ≠ 0) : s.odWrite a = (firstFailure s a r, s, true) := by
  rw [State.odWrite_of_object hobj, if_pos hfail]

theorem State.odWrite_of_passed {s : State} {a : Access} {r : OdRow} (hobj : objectAt a.idx a.sub = some r)
    (hpass : firstFailure s a r = 0) : s.odWrite a = s.odAccept a r := by
  rw [State.odWrite_of_object hobj, if_neg (not_not.mpr hpass)]

end Sys2Proof.Machine

namespace Sys2Proof.Claims
open Sys2Proof.Machine

/-- Settles O40: the split on the object and on its first failing check; past the checks, `State.odAccept` by the object's
access class. -/
theorem checksInOrder : Obligations.ChecksInOrder := by
  intro s a
  refine ⟨fun habsent => ?_, fun r hobj hfail => ?_, fun r hobj hpass hrwc => ?_, fun r hobj hpass hrwc => ?_⟩
  · rw [State.odWrite_of_absent habsent]
  · rw [State.odWrite_of_failure hobj hfail]
  · rw [State.odWrite_of_passed hobj hpass, State.odAccept_of_countLimited hrwc]
  · rw [State.odWrite_of_passed hobj hpass, State.odAccept_code_of_not_countLimited hrwc]

end Sys2Proof.Claims
end

section
/-! What every command keeps, from the rows of Laws/Rows.lean: the fuse log, the waiting commands and the canonical memory; that
every command ends in a next state; and the reads of a written run of bytes. -/

namespace Sys2Proof.Machine
open Sys2Proof.Claims

/-! ## What a command keeps, row by row -/

/-- HALT fetches nothing. -/
theorem keeps_queueHalt {s : State} (p q : Nat) : s.Keeps true (s.queueCommand p q 2).1 := by
  by_cases h : (s.queue p q).st = .load ∨ (s.queue p q).st = .run
  · rw [State.queueHalt_of_active h]
    exact keeps_setQueue (.refl s)
  · rw [State.queueHalt_discarded h]
    exact .refl s

/-- RESET fetches nothing. -/
theorem keeps_queueReset {s : State} (p q : Nat) : s.Keeps true (s.queueCommand p q 4).1 := by
  by_cases h : (s.queue p q).st = .idle ∨ (s.queue p q).st = .done
  · rw [State.queueReset_discarded h]
    exact .refl s
  · have hbusy : (s.queue p q).st = .load ∨ (s.queue p q).st = .run ∨ (s.queue p q).st = .halt ∨ (s.queue p q).st = .fault := by
      generalize (s.queue p q).st = x at h ⊢
      cases x <;> simp_all
    rw [State.queueReset_of_busy hbusy]
    exact keeps_arbDiscard (keeps_setQueue (.refl s))

theorem keeps_mem_execQueueHalt {s t : State} {p q : Nat} (h : execQueueHalt p q s = .next t) : s.Keeps true t :=
  Host.Outcome.next.inj h ▸ keeps_queueHalt p q

theorem keeps_mem_execQueueReset {s t : State} {p q : Nat} (h : execQueueReset p q s = .next t) : s.Keeps true t :=
  Host.Outcome.next.inj h ▸ keeps_queueReset p q

/-- A command that hands no access to the dictionary engine keeps the fuse log. -/
theorem exec_keeps {c : Instr} {s t : State} (hc : mayTouchFuses c = false) (h : exec c s = .next t) : s.Keeps false t :=
  match c, hc, h with
  | .watchBankClose .., _, h => keeps_execWatchBankClose h
  | .ringTailWrite .., _, h => keeps_execRingTailWrite h
  | .mma .., _, h => keeps_execMma h
  | .mmaS .., _, h => keeps_execMmaS h
  | .mmaE .., _, h => keeps_execMmaE h
  | .mmaSe .., _, h => keeps_execMmaSe h
  | .xport .., _, h => keeps_execXport h
  | .astat .., _, h => keeps_execAstat h
  | .snop .., _, h => keeps_execSnop h
  | .spanExecutionComplete .., _, h => keeps_execSpanExecutionComplete h
  | .wakeComplete .., _, h => keeps_execWakeComplete h
  | .dnop .., _, h => keeps_execDnop h
  | .add .., _, h => keeps_execAdd h
  | .sub .., _, h => keeps_execSub h
  | .mul .., _, h => keeps_execMul h
  | .fma .., _, h => keeps_execFma h
  | .div .., _, h => keeps_execDiv h
  | .min .., _, h => keeps_execMin h
  | .max .., _, h => keeps_execMax h
  | .abs .., _, h => keeps_execAbs h
  | .neg .., _, h => keeps_execNeg h
  | .sqrt .., _, h => keeps_execSqrt h
  | .rsqrt .., _, h => keeps_execRsqrt h
  | .rcp .., _, h => keeps_execRcp h
  | .exp .., _, h => keeps_execExp h
  | .log .., _, h => keeps_execLog h
  | .tanh .., _, h => keeps_execTanh h
  | .sigm .., _, h => keeps_execSigm h
  | .mov .., _, h => keeps_execMov h
  | .bcast .., _, h => keeps_execBcast h
  | .cmplt .., _, h => keeps_execCmplt h
  | .cmple .., _, h => keeps_execCmple h
  | .cmpeq .., _, h => keeps_execCmpeq h
  | .cmpne .., _, h => keeps_execCmpne h
  | .iadd .., _, h => keeps_execIadd h
  | .imin .., _, h => keeps_execImin h
  | .imax .., _, h => keeps_execImax h
  | .scansum .., _, h => keeps_execScansum h
  | .scansumx .., _, h => keeps_execScansumx h
  | .scanmax .., _, h => keeps_execScanmax h
  | .scanmin .., _, h => keeps_execScanmin h
  | .iscan .., _, h => keeps_execIscan h
  | .iscanx .., _, h => keeps_execIscanx h
  | .rsum .., _, h => keeps_execRsum h
  | .rprod .., _, h => keeps_execRprod h
  | .rmax .., _, h => keeps_execRmax h
  | .rmin .., _, h => keeps_execRmin h
  | .rargmax .., _, h => keeps_execRargmax h
  | .rargmin .., _, h => keeps_execRargmin h
  | .rcount .., _, h => keeps_execRcount h
  | .rnorm .., _, h => keeps_execRnorm h
  | .rmean .., _, h => keeps_execRmean h
  | .rssq .., _, h => keeps_execRssq h
  | .irsum .., _, h => keeps_execIrsum h
  | .rabr .., _, h => keeps_execRabr h
  | .easum .., _, h => keeps_execEasum h
  | .eassq .., _, h => keeps_execEassq h
  | .eaout .., _, h => keeps_execEaout h
  | .eanorm .., _, h => keeps_execEanorm h
  | .eamean .., _, h => keeps_execEamean h
  | .eaclr .., _, h => keeps_execEaclr h
  | .badd .., _, h => keeps_execBadd h
  | .bsub .., _, h => keeps_execBsub h
  | .bmul .., _, h => keeps_execBmul h
  | .bfma .., _, h => keeps_execBfma h
  | .bmin .., _, h => keeps_execBmin h
  | .bmax .., _, h => keeps_execBmax h
  | .sets .., _, h => keeps_execSets h
  | .lds .., _, h => keeps_execLds h
  | .setvl .., _, h => keeps_execSetvl h
  | .dstat .., _, h => keeps_execDstat h
  | .deckExecutionComplete .., _, h => keeps_execDeckExecutionComplete h
  | .queueStart .., _, h => keeps_execQueueStart h
  | .queueHalt .., _, h => keeps_execQueueHalt h
  | .queueResume .., _, h => keeps_execQueueResume h
  | .queueReset .., _, h => keeps_execQueueReset h
  | .windowLoaded .., _, h => keeps_execWindowLoaded h
  | .queueDone .., _, h => keeps_execQueueDone h
  | .queueDrained .., _, h => keeps_execQueueDrained h
  | .waitTimeout .., _, h => keeps_execWaitTimeout h
  | .flagMirrorUpdate .., _, h => keeps_execFlagMirrorUpdate h
  | .bankRefresh .., _, h => keeps_execBankRefresh h
  | .requestAdmit .., _, h => keeps_execRequestAdmit h
  | .scrubPass .., _, h => keeps_execScrubPass h
  | .unpin .., _, h => keeps_execUnpin h
  | .writeBackInvalidate .., _, h => keeps_execWriteBackInvalidate h
  | .cnop .., _, h => keeps_execCnop h
  | .copy .., _, h => keeps_execCopy h
  | .gather .., _, h => keeps_execGather h
  | .scatter .., _, h => keeps_execScatter h
  | .fill .., _, h => keeps_execFill h
  | .copyComplete .., _, h => keeps_execCopyComplete h
  | .guardBaseWrite .., _, h => keeps_execGuardBaseWrite h
  | .guardSizeWrite .., _, h => keeps_execGuardSizeWrite h
  | .arbiterRequest .., _, h => keeps_execArbiterRequest h
  | .arbiterGrant .., _, h => keeps_execArbiterGrant h
  | .grantEnd .., _, h => keeps_execGrantEnd h
  | .cutoff .., _, h => keeps_execCutoff h
  | .quotaWindowEnd .., _, h => keeps_execQuotaWindowEnd h
  | .adaptClass .., _, h => keeps_execAdaptClass h
  | .priorityWrite .., _, h => keeps_execPriorityWrite h
  | .ledgerClear, _, h => keeps_execLedgerClear h
  | .tnop .., _, h => keeps_execTnop h
  | .gopen .., _, h => keeps_execGopen h
  | .gcancel .., _, h => keeps_execGcancel h
  | .route .., _, h => keeps_execRoute h
  | .routeComplete .., _, h => keeps_execRouteComplete h
  | .inbox .., _, h => keeps_execInbox h
  | .inboxArrivalsComplete .., _, h => keeps_execInboxArrivalsComplete h
  | .answer .., _, h => keeps_execAnswer h
  | .cexport .., _, h => keeps_execCexport h
  | .cexportReady .., _, h => keeps_execCexportReady h
  | .genQuietExpiry .., _, h => keeps_execGenQuietExpiry h
  | .answerPacket .., _, h => keeps_execAnswerPacket h
  | .gsend .., _, h => keeps_execGsend h
  | .gsendComplete .., _, h => keeps_execGsendComplete h
  | .ginbox .., _, h => keeps_execGinbox h
  | .ginboxArrivalsComplete .., _, h => keeps_execGinboxArrivalsComplete h
  | .ganswer .., _, h => keeps_execGanswer h
  | .ggrad .., _, h => keeps_execGgrad h
  | .ggradReady .., _, h => keeps_execGgradReady h
  | .wgstart .., _, h => keeps_execWgstart h
  | .reduce .., _, h => keeps_execReduce h
  | .lacc .., _, h => keeps_execLacc h
  | .lfence .., _, h => keeps_execLfence h
  | .lfenceApply, _, h => keeps_execLfenceApply h
  | .reducePacket .., _, h => keeps_execReducePacket h
  | .reduceComplete .., _, h => keeps_execReduceComplete h
  | .response .., _, h => keeps_execResponse h
  | .reduceRetry .., _, h => keeps_execReduceRetry h
  | .releaseBucket .., _, h => keeps_execReleaseBucket h
  | .releaseAllBuckets .., _, h => keeps_execReleaseAllBuckets h
  | .curLayoutWrite .., _, h => keeps_execCurLayoutWrite h
  | .inop .., _, h => keeps_execInop h
  | .uopen .., _, h => keeps_execUopen h
  | .pass1 .., _, h => keeps_execPass1 h
  | .nexport .., _, h => keeps_execNexport h
  | .nexportWrite, _, h => keeps_execNexportWrite h
  | .norms .., _, h => keeps_execNorms h
  | .normsCompute, _, h => keeps_execNormsCompute h
  | .pass2 .., _, h => keeps_execPass2 h
  | .wcopy .., _, h => keeps_execWcopy h
  | .uclose .., _, h => keeps_execUclose h
  | .updateDone, _, h => keeps_execUpdateDone h
  | .tagScrub, _, h => keeps_execTagScrub h
  | .exchangeContribution, _, h => keeps_execExchangeContribution h
  | .exchUp, _, h => keeps_execExchUp h
  | .exchToken, _, h => keeps_execExchToken h
  | .voteSend, _, h => keeps_execVoteSend h
  | .voteUp, _, h => keeps_execVoteUp h
  | .voteToken, _, h => keeps_execVoteToken h
  | .roundTimeout, _, h => keeps_execRoundTimeout h
  | .abandon, _, h => keeps_execAbandon h
  | .abandonUpdate, _, h => keeps_execAbandonUpdate h
  | .inject, _, h => keeps_execInject h
  | .restore, _, h => keeps_execRestore h
  | .reseed, _, h => keeps_execReseed h
  | .mseal, _, h => keeps_execMseal h
  | .attemptReset, _, h => keeps_execAttemptReset h
  | .mopen, _, h => keeps_execMopen h
  | .mdata, _, h => keeps_execMdata h
  | .mdone, _, h => keeps_execMdone h
  | .mclose, _, h => keeps_execMclose h
  | .mack, _, h => keeps_execMack h
  | .mirrorResend, _, h => keeps_execMirrorResend h
  | .mread, _, h => keeps_execMread h
  | .mrdata, _, h => keeps_execMrdata h
  | .codeword .., _, h => keeps_execCodeword h
  | .ack .., _, h => keeps_execAck h
  | .nak .., _, h => keeps_execNak h
  | .credit .., _, h => keeps_execCredit h
  | .stomp .., _, h => keeps_execStomp h
  | .packetForward .., _, h => keeps_execPacketForward h
  | .packetExpired .., _, h => keeps_execPacketExpired h
  | .packetDelivery, _, h => keeps_execPacketDelivery h
  | .write .., _, h => keeps_execWrite h
  | .signalDetected .., _, h => keeps_execSignalDetected h
  | .trainingStep .., _, h => keeps_execTrainingStep h
  | .trainingTimeout .., _, h => keeps_execTrainingTimeout h
  | .detectRepeat .., _, h => keeps_execDetectRepeat h
  | .linkErrorLimit .., _, h => keeps_execLinkErrorLimit h
  | .signalLost .., _, h => keeps_execSignalLost h
  | .farEndDetect .., _, h => keeps_execFarEndDetect h
  | .selftestPass .., _, h => keeps_execSelftestPass h
  | .loopbackFail .., _, h => keeps_execLoopbackFail h
  | .retrain .., _, h => keeps_execRetrain h
  | .disable .., _, h => keeps_execDisable h
  | .enable .., _, h => keeps_execEnable h
  | .portEnableWrite .., _, h => keeps_execPortEnableWrite h
  | .rwrite .., _, h => keeps_execRwrite h
  | .permute .., _, h => keeps_execPermute h
  | .mapData .., _, h => keeps_execMapData h
  | .mapSignal .., _, h => keeps_execMapSignal h
  | .mapRetry .., _, h => keeps_execMapRetry h
  | .barWrite .., _, h => keeps_execBarWrite h
  | .barRead .., _, h => keeps_execBarRead h
  | .hdmRead .., _, h => keeps_execHdmRead h
  | .hdmWrite .., _, h => keeps_execHdmWrite h
  | .bisnpResponse .., _, h => keeps_execBisnpResponse h
  | .snoop, _, h => keeps_execSnoop h
  | .notifyComplete, _, h => keeps_execNotifyComplete h
  | .intHoldoffExpiry .., _, h => keeps_execIntHoldoffExpiry h
  | .intCauseWrite .., _, h => keeps_execIntCauseWrite h
  | .intMaskWrite .., _, h => keeps_execIntMaskWrite h
  | .identify, _, h => keeps_execIdentify h
  | .backgroundOperationStatus, _, h => keeps_execBackgroundOperationStatus h
  | .getEventRecords .., _, h => keeps_execGetEventRecords h
  | .clearEventRecords .., _, h => keeps_execClearEventRecords h
  | .getEventInterruptPolicy, _, h => keeps_execGetEventInterruptPolicy h
  | .setEventInterruptPolicy .., _, h => keeps_execSetEventInterruptPolicy h
  | .getFwInfo, _, h => keeps_execGetFwInfo h
  | .transferFw .., _, h => keeps_execTransferFw h
  | .activateFw .., _, h => keeps_execActivateFw h
  | .getTimestamp, _, h => keeps_execGetTimestamp h
  | .setTimestamp .., _, h => keeps_execSetTimestamp h
  | .getSupportedLogs, _, h => keeps_execGetSupportedLogs h
  | .getLog .., _, h => keeps_execGetLog h
  | .doeDiscovery .., _, h => keeps_execDoeDiscovery h
  | .getVersion .., _, h => keeps_execGetVersion h
  | .getCapabilities .., _, h => keeps_execGetCapabilities h
  | .negotiateAlgorithms .., _, h => keeps_execNegotiateAlgorithms h
  | .getDigests .., _, h => keeps_execGetDigests h
  | .getCertificate .., _, h => keeps_execGetCertificate h
  | .challenge .., _, h => keeps_execChallenge h
  | .getMeasurements .., _, h => keeps_execGetMeasurements h
  | .keyExchange .., _, h => keeps_execKeyExchange h
  | .finish .., _, h => keeps_execFinish h
  | .spdmHeartbeat .., _, h => keeps_execSpdmHeartbeat h
  | .keyUpdate .., _, h => keeps_execKeyUpdate h
  | .endSession .., _, h => keeps_execEndSession h
  | .chunkSend .., _, h => keeps_execChunkSend h
  | .chunkGet .., _, h => keeps_execChunkGet h
  | .getPqSignature .., _, h => keeps_execGetPqSignature h
  | .perstAssert, _, h => keeps_execPerstAssert h
  | .perstDeassert, _, h => keeps_execPerstDeassert h
  | .hotReset, _, h => keeps_execHotReset h
  | .flr, _, h => keeps_execFlr h
  | .cxlReset, _, h => keeps_execCxlReset h
  | .d3hot, _, h => keeps_execD3hot h
  | .hostLinkDown, _, h => keeps_execHostLinkDown h
  | .hostLinkUp .., _, h => keeps_execHostLinkUp h
  | .inputRise .., _, h => keeps_execInputRise h
  | .undervoltageLockout, _, h => keeps_execUndervoltageLockout h
  | .overvoltage .., _, h => keeps_execOvervoltage h
  | .inputLow .., _, h => keeps_execInputLow h
  | .railPowerGood .., _, h => keeps_execRailPowerGood h
  | .railFault .., _, h => keeps_execRailFault h
  | .referenceStable, _, h => keeps_execReferenceStable h
  | .channelTraining .., _, h => keeps_execChannelTraining h
  | .wake, _, h => keeps_execWake h
  | .standby, _, h => keeps_execStandby h
  | .toll, _, h => keeps_execToll h
  | .gateEntry .., _, h => keeps_execGateEntry h
  | .parkEntry .., _, h => keeps_execParkEntry h
  | .retainEntry .., _, h => keeps_execRetainEntry h
  | .offEntry .., _, h => keeps_execOffEntry h
  | .clusterRestoreComplete .., _, h => keeps_execClusterRestoreComplete h
  | .powerLoop .., _, h => keeps_execPowerLoop h
  | .thermalLoop .., _, h => keeps_execThermalLoop h
  | .stackThrottle .., _, h => keeps_execStackThrottle h
  | .ilbenThrottle .., _, h => keeps_execIlbenThrottle h
  | .thermalTrip .., _, h => keeps_execThermalTrip h
  | .moduleReset, _, h => keeps_execModuleReset h
  | .moduleResetRelease, _, h => keeps_execModuleResetRelease h
  | .firmwareVerify, _, h => keeps_execFirmwareVerify h
  | .pierReset .., _, h => keeps_execPierReset h
  | .pierResetRelease .., _, h => keeps_execPierResetRelease h
  | .engineReset .., _, h => keeps_execEngineReset h
  | .writeInit .., _, h => keeps_execWriteInit h
  | .abort .., _, h => keeps_execAbort h
  | .transferTimeout, _, h => keeps_execTransferTimeout h
  | .foreignFrame .., _, h => keeps_execForeignFrame h
  | .heartbeat, _, h => keeps_execHeartbeat h
  | .busOff .., _, h => keeps_execBusOff h
  | .busOffRecovery, _, h => keeps_execBusOffRecovery h
  | .tokenVerifyComplete .., _, h => keeps_execTokenVerifyComplete h
  | .senseOpen, _, h => keeps_execSenseOpen h
  | .senseClose, _, h => keeps_execSenseClose h
  | .ilbenCommandComplete .., _, h => keeps_execIlbenCommandComplete h
  | .refreshIntervalChange .., _, h => keeps_execRefreshIntervalChange h
  | .canBusError .., _, h => keeps_execCanBusError h
  | .d0Entry, _, h => keeps_execD0Entry h
  | .configurationRequest, _, h => keeps_execConfigurationRequest h
  | .spdmResponseReady, _, h => keeps_execSpdmResponseReady h

/-- Every command moves the state as `State.Moves` allows: the rows that may touch the fuse log are moves themselves. -/
theorem exec_moves {c : Instr} {s t : State} (h : exec c s = .next t) : s.Moves t := by
  cases hc : mayTouchFuses c with
  | false => exact (exec_keeps hc h).moves
  | true =>
    exact match c, hc, h with
    | .dictionaryWrite .., _, h => moves_execDictionaryWrite h
    | .odRead .., _, h => moves_execOdRead h
    | .odWrite .., _, h => moves_execOdWrite h
    | .odWriteSigned .., _, h => moves_execOdWriteSigned h
    | .canRead .., _, h => moves_execCanRead h
    | .canWrite .., _, h => moves_execCanWrite h
    | .writeSeg .., _, h => moves_execWriteSeg h
    | .ownerKeyDigestWrite .., _, h => moves_execOwnerKeyDigestWrite h
    | .fwSecurityVersionWrite .., _, h => moves_execFwSecurityVersionWrite h
    | .fabricIdBaseWrite .., _, h => moves_execFabricIdBaseWrite h
    | .debugLockoutWrite .., _, h => moves_execDebugLockoutWrite h
    | .ownerTransfer .., _, h => moves_execOwnerTransfer h
    | .debugUnlock .., _, h => moves_execDebugUnlock h
    | .tokenStage .., _, h => moves_execTokenStage h
    | .tokenBegin .., _, h => moves_execTokenBegin h
    | .tokenSeal .., _, h => moves_execTokenSeal h
    | .fuseProgramComplete, _, h => moves_execFuseProgramComplete h

/-- A command that stores nothing keeps the contents of the memory. -/
theorem exec_keeps_mem {c : Instr} {s t : State} (hc : storesNothing c = true) (h : exec c s = .next t) : s.Keeps true t :=
  match c, hc, h with
  | .queueHalt .., _, h => keeps_mem_execQueueHalt h
  | .queueReset .., _, h => keeps_mem_execQueueReset h
  | .queueDone .., _, h => keeps_execQueueDone h
  | .queueDrained .., _, h => keeps_execQueueDrained h
  | .flagMirrorUpdate .., _, h => keeps_execFlagMirrorUpdate h
  | .bankRefresh .., _, h => keeps_execBankRefresh h
  | .requestAdmit .., _, h => keeps_execRequestAdmit h
  | .unpin .., _, h => keeps_execUnpin h
  | .writeBackInvalidate .., _, h => keeps_execWriteBackInvalidate h
  | .copyComplete .., _, h => keeps_execCopyComplete h
  | .guardBaseWrite .., _, h => keeps_execGuardBaseWrite h
  | .guardSizeWrite .., _, h => keeps_execGuardSizeWrite h
  | .arbiterRequest .., _, h => keeps_execArbiterRequest h
  | .arbiterGrant .., _, h => keeps_execArbiterGrant h
  | .grantEnd .., _, h => keeps_execGrantEnd h
  | .quotaWindowEnd .., _, h => keeps_execQuotaWindowEnd h
  | .priorityWrite .., _, h => keeps_execPriorityWrite h
  | .ledgerClear, _, h => keeps_execLedgerClear h
  | .genQuietExpiry .., _, h => keeps_execGenQuietExpiry h
  | .gsendComplete .., _, h => keeps_execGsendComplete h
  | .reduceRetry .., _, h => keeps_execReduceRetry h
  | .curLayoutWrite .., _, h => keeps_execCurLayoutWrite h
  | .attemptReset, _, h => keeps_execAttemptReset h
  | .mirrorResend, _, h => keeps_execMirrorResend h
  | .codeword .., _, h => keeps_execCodeword h
  | .ack .., _, h => keeps_execAck h
  | .nak .., _, h => keeps_execNak h
  | .credit .., _, h => keeps_execCredit h
  | .stomp .., _, h => keeps_execStomp h
  | .packetForward .., _, h => keeps_execPacketForward h
  | .packetExpired .., _, h => keeps_execPacketExpired h
  | .packetDelivery, _, h => keeps_execPacketDelivery h
  | .signalDetected .., _, h => keeps_execSignalDetected h
  | .trainingStep .., _, h => keeps_execTrainingStep h
  | .trainingTimeout .., _, h => keeps_execTrainingTimeout h
  | .detectRepeat .., _, h => keeps_execDetectRepeat h
  | .linkErrorLimit .., _, h => keeps_execLinkErrorLimit h
  | .signalLost .., _, h => keeps_execSignalLost h
  | .farEndDetect .., _, h => keeps_execFarEndDetect h
  | .selftestPass .., _, h => keeps_execSelftestPass h
  | .loopbackFail .., _, h => keeps_execLoopbackFail h
  | .retrain .., _, h => keeps_execRetrain h
  | .disable .., _, h => keeps_execDisable h
  | .enable .., _, h => keeps_execEnable h
  | .portEnableWrite .., _, h => keeps_execPortEnableWrite h
  | .mapSignal .., _, h => keeps_execMapSignal h
  | .mapRetry .., _, h => keeps_execMapRetry h
  | .snoop, _, h => keeps_execSnoop h
  | .notifyComplete, _, h => keeps_execNotifyComplete h
  | .intHoldoffExpiry .., _, h => keeps_execIntHoldoffExpiry h
  | .intCauseWrite .., _, h => keeps_execIntCauseWrite h
  | .intMaskWrite .., _, h => keeps_execIntMaskWrite h
  | .identify, _, h => keeps_execIdentify h
  | .backgroundOperationStatus, _, h => keeps_execBackgroundOperationStatus h
  | .getEventRecords .., _, h => keeps_execGetEventRecords h
  | .clearEventRecords .., _, h => keeps_execClearEventRecords h
  | .getEventInterruptPolicy, _, h => keeps_execGetEventInterruptPolicy h
  | .setEventInterruptPolicy .., _, h => keeps_execSetEventInterruptPolicy h
  | .getFwInfo, _, h => keeps_execGetFwInfo h
  | .transferFw .., _, h => keeps_execTransferFw h
  | .activateFw .., _, h => keeps_execActivateFw h
  | .getTimestamp, _, h => keeps_execGetTimestamp h
  | .setTimestamp .., _, h => keeps_execSetTimestamp h
  | .getSupportedLogs, _, h => keeps_execGetSupportedLogs h
  | .getLog .., _, h => keeps_execGetLog h
  | .doeDiscovery .., _, h => keeps_execDoeDiscovery h
  | .getVersion .., _, h => keeps_execGetVersion h
  | .getCapabilities .., _, h => keeps_execGetCapabilities h
  | .negotiateAlgorithms .., _, h => keeps_execNegotiateAlgorithms h
  | .getDigests .., _, h => keeps_execGetDigests h
  | .getCertificate .., _, h => keeps_execGetCertificate h
  | .challenge .., _, h => keeps_execChallenge h
  | .getMeasurements .., _, h => keeps_execGetMeasurements h
  | .keyExchange .., _, h => keeps_execKeyExchange h
  | .finish .., _, h => keeps_execFinish h
  | .spdmHeartbeat .., _, h => keeps_execSpdmHeartbeat h
  | .keyUpdate .., _, h => keeps_execKeyUpdate h
  | .endSession .., _, h => keeps_execEndSession h
  | .chunkSend .., _, h => keeps_execChunkSend h
  | .chunkGet .., _, h => keeps_execChunkGet h
  | .getPqSignature .., _, h => keeps_execGetPqSignature h
  | .flr, _, h => keeps_execFlr h
  | .cxlReset, _, h => keeps_execCxlReset h
  | .d3hot, _, h => keeps_execD3hot h
  | .hostLinkUp .., _, h => keeps_execHostLinkUp h
  | .inputLow .., _, h => keeps_execInputLow h
  | .railPowerGood .., _, h => keeps_execRailPowerGood h
  | .referenceStable, _, h => keeps_execReferenceStable h
  | .channelTraining .., _, h => keeps_execChannelTraining h
  | .gateEntry .., _, h => keeps_execGateEntry h
  | .parkEntry .., _, h => keeps_execParkEntry h
  | .retainEntry .., _, h => keeps_execRetainEntry h
  | .powerLoop .., _, h => keeps_execPowerLoop h
  | .thermalLoop .., _, h => keeps_execThermalLoop h
  | .stackThrottle .., _, h => keeps_execStackThrottle h
  | .ilbenThrottle .., _, h => keeps_execIlbenThrottle h
  | .moduleResetRelease, _, h => keeps_execModuleResetRelease h
  | .writeInit .., _, h => keeps_execWriteInit h
  | .abort .., _, h => keeps_execAbort h
  | .transferTimeout, _, h => keeps_execTransferTimeout h
  | .foreignFrame .., _, h => keeps_execForeignFrame h
  | .heartbeat, _, h => keeps_execHeartbeat h
  | .busOff .., _, h => keeps_execBusOff h
  | .busOffRecovery, _, h => keeps_execBusOffRecovery h
  | .tokenVerifyComplete .., _, h => keeps_execTokenVerifyComplete h
  | .refreshIntervalChange .., _, h => keeps_execRefreshIntervalChange h
  | .canBusError .., _, h => keeps_execCanBusError h
  | .d0Entry, _, h => keeps_execD0Entry h
  | .configurationRequest, _, h => keeps_execConfigurationRequest h
  | .spdmResponseReady, _, h => keeps_execSpdmResponseReady h

/-- No arm of exec faults or refuses. -/
theorem exec_ends (c : Instr) (s : State) : ∃ t, exec c s = .next t := by
  cases c <;> exact ⟨_, rfl⟩

/-! ## Steps -/

theorem step_of_idle {s : State} (h : s.pending = []) : step s = .next s := by
  simp only [step, h]

theorem step_of_pending {s : State} {c : Instr} {rest : List Instr} (h : s.pending = c :: rest) :
    step s = exec c { s with pending := rest } := by
  simp only [step, h]

/-- A step idles, or moves the state whose front command it has taken. -/
theorem step_cases {s t : State} (h : step s = .next t) : t = s ∨ ∃ rest, ({ s with pending := rest } : State).Moves t := by
  cases hp : s.pending with
  | nil =>
    rw [step_of_idle hp] at h
    exact .inl (Host.Outcome.next.inj h).symm
  | cons c rest =>
    rw [step_of_pending hp] at h
    exact .inr ⟨rest, exec_moves h⟩

theorem steps (s : State) : s.Steps := by
  cases hp : s.pending with
  | nil => exact ⟨s, step_of_idle hp⟩
  | cons c rest =>
    rw [State.Steps, step_of_pending hp]
    exact exec_ends c _

/-! ## A run of bytes -/

theorem State.bytes_getD (s : State) {k n i : Nat} (hi : i < n) (b : Byte) : (s.bytes k n).getD i b = s.byte (k + i) := by
  simp [State.bytes, hi]

/-- In a canonical memory each address of a written run reads its byte of the run, and every other address as before. -/
theorem State.setBytes_byte {s : State} (k : Nat) (l : List Byte) (hwf : Memory.wf s.mem = true) (j : Nat) :
    (s.setBytes k l).byte j = if k ≤ j ∧ j < k + l.length then l.getD (j - k) 0 else s.byte j := by
  split
  · next hin =>
    have hj : k + (j - k) = j := by omega
    have hread : (s.setBytes k l).bytes k l.length = l := State.setBytes_bytes hwf
    rw [← hj, ← State.bytes_getD (n := l.length) _ (by omega) 0, hread, hj]
  · next hout => exact s.setBytes_byte_ne l (by omega)

end Sys2Proof.Machine

namespace Sys2Proof.Claims
open Sys2Proof.Machine

/-- Settles O43: the fuse log's bound is part of `State.Moves`, and an idle step changes nothing. -/
theorem fuseCountsHold : Obligations.FuseCountsHold := by
  intro s t hfit hstep
  rcases step_cases hstep with rfl | ⟨rest, hmoves⟩
  · exact hfit
  · exact hmoves.fit hfit

/-- Settles O44: every command's `State.Moves` lets the log stand. -/
theorem fuseLogStands : Obligations.FuseLogStands := by
  intro s t hstep
  rcases step_cases hstep with rfl | ⟨rest, hmoves⟩
  · exact .same rfl
  · exact hmoves.stand

/-- Settles O45: every command's `State.Moves` keeps the canonical form. -/
theorem memoryCanonical : Obligations.MemoryCanonical := by
  intro s t hwf hstep
  rcases step_cases hstep with rfl | ⟨rest, hmoves⟩
  · exact hwf
  · exact hmoves.mem hwf

/-- Settles O48: the rows outside the seventeen keep the log, by `exec_keeps`. -/
theorem onlyTheDictionaryTouchesFuses : Obligations.OnlyTheDictionaryTouchesFuses :=
  fun _ _ _ hc h => (exec_keeps hc h).fuses

/-- Settles O49: each address by `State.setBytes_byte`, a number by `State.setNum_num`. -/
theorem bytesReadBack : Obligations.BytesReadBack :=
  fun _ k l hwf => ⟨State.setBytes_byte k l hwf, fun _ _ => State.setNum_num hwf⟩

/-- Settles O50: the listed rows keep the memory, by `exec_keeps_mem`. -/
theorem commandsThatStoreNothing : Obligations.CommandsThatStoreNothing :=
  fun _ _ _ a hc h => (exec_keeps_mem hc h).byte a

/-- Settles O1: the two branches of `step`. -/
theorem stepRunsFrontCommand : Obligations.StepRunsFrontCommand :=
  fun _ _ _ => ⟨step_of_pending, step_of_idle⟩

/-- Settles O2: each field of the reset state, and the reads of its empty tables. -/
theorem resetState : Obligations.ResetState := by
  refine ⟨rfl, rfl, rfl, rfl, fun _ _ => rfl, rfl, rfl, rfl, fun _ => rfl, fun p _ => ?_⟩
  unfold State.counter State.queue State.pier
  split <;> exact ⟨rfl, rfl⟩

/-- Settles O46: the log and the memory of the reset state are empty. -/
theorem resetMeetsInvariants : Obligations.ResetMeetsInvariants :=
  ⟨fun _ => Nat.zero_le _, rfl⟩

/-- Settles O47: `exec_ends`, the waiting commands from `exec_moves`, and a step for every state that a run reaches. -/
theorem noCommandStops : Obligations.NoCommandStops := by
  refine ⟨fun c s => ?_, fun s n t _ => steps t⟩
  obtain ⟨t, ht⟩ := exec_ends c s
  exact ⟨t, ht, (exec_moves ht).pending⟩

end Sys2Proof.Claims
end

section
/-! The packet's header (Table 14-5): its fields do not overlap, and the CRC stands above the fields it covers. -/

namespace Sys2Proof.Machine

theorem crcBit_lt {c : Nat} (h : c < 2 ^ 32) : crcBit c < 2 ^ 32 := by
  have hhalf : c / 2 < 2 ^ 32 := by omega
  unfold crcBit
  split
  · exact Nat.xor_lt_two_pow hhalf (by norm_num)
  · exact hhalf

theorem crcByte_lt {c : Nat} (b : Byte) (h : c < 2 ^ 32) : crcByte c b < 2 ^ 32 := by
  have hbyte : b.toNat < 2 ^ 32 := b.isLt.trans (by norm_num)
  iterate 8 apply crcBit_lt
  exact Nat.xor_lt_two_pow h hbyte

theorem crc32c_lt (l : List Byte) : crc32c l < 2 ^ 32 :=
  Nat.xor_lt_two_pow (List.foldlRecOn (motive := (· < 2 ^ 32)) _ _ (by norm_num) fun _ hc b _ => crcByte_lt b hc) (by norm_num)

/-- The fields of a header below its CRC, as mkPacket adds them (Table 14-5). -/
def headerFields (dest src dp sp tc proto seg nseg addr tag len : Nat) : Nat :=
  dest % 2 ^ 16 + (src % 2 ^ 16) * 2 ^ 16 + (dp % 2) * 2 ^ 32 + (sp % 2) * 2 ^ 33 + (tc % 8) * 2 ^ 34
    + (proto % 16) * 2 ^ 38 + (len % 2 ^ 13) * 2 ^ 48 + (seg % 2 ^ 16) * 2 ^ 64 + (nseg % 2 ^ 16) * 2 ^ 80
    + (addr % 2 ^ 48) * 2 ^ 96 + (tag % 2 ^ 32) * 2 ^ 160

theorem headerFields_lt (dest src dp sp tc proto seg nseg addr tag len : Nat) :
    headerFields dest src dp sp tc proto seg nseg addr tag len < 2 ^ 192 := by
  unfold headerFields; omega

theorem headerFields_bits (dest src dp sp tc proto seg nseg addr tag len c : Nat) :
    let h := headerFields dest src dp sp tc proto seg nseg addr tag len + c * 2 ^ 192
    bits 15 0 h = dest % 2 ^ 16 ∧ bits 31 16 h = src % 2 ^ 16 ∧ bits 32 32 h = dp % 2 ∧ bits 33 33 h = sp % 2
    ∧ bits 36 34 h = tc % 8 ∧ bits 37 37 h = 0 ∧ bits 41 38 h = proto % 16 ∧ bits 47 42 h = 0 ∧ bits 60 48 h = len % 2 ^ 13
    ∧ bits 79 64 h = seg % 2 ^ 16 ∧ bits 95 80 h = nseg % 2 ^ 16 ∧ bits 143 96 h = addr % 2 ^ 48 ∧ bits 191 160 h = tag % 2 ^ 32 := by
  simp only [headerFields, bits]
  refine ⟨?_, ?_, ?_, ?_, ?_, ?_, ?_, ?_, ?_, ?_, ?_, ?_, ?_⟩ <;> omega

/-- The CRC field stands above the other fields of the header. -/
theorem bits_crc {h c : Nat} (hh : h < 2 ^ 192) (hc : c < 2 ^ 32) : bits 223 192 (h + c * 2 ^ 192) = c := by
  simp only [bits]
  omega

theorem setBits_crc_zero {h c : Nat} (hh : h < 2 ^ 192) (hc : c < 2 ^ 32) : setBits 223 192 0 (h + c * 2 ^ 192) = h := by
  rw [setBits, bits_crc hh hc, Nat.zero_mod, Nat.zero_mul, Nat.add_zero, Nat.add_sub_cancel]

/-- A packet with the CRC of its header and body in the field passes its check: the field is taken as zero (log entry 46). -/
theorem Packet.good_of_crc {h : Nat} (hh : h < 2 ^ 192) (body : List Byte) :
    (⟨h + packetCrc h body * 2 ^ 192, body⟩ : Packet).good = true := by
  have hcrc : packetCrc h body < 2 ^ 32 := crc32c_lt _
  have hzero : setBits 223 192 0 h = h := by simpa using setBits_crc_zero hh (Nat.two_pow_pos 32)
  have hsame : packetCrc (h + packetCrc h body * 2 ^ 192) body = packetCrc h body := by
    rw [packetCrc, setBits_crc_zero hh hcrc, packetCrc, hzero]
  rw [Packet.good, Packet.crc, bits_crc hh hcrc, hsame, decide_eq_true rfl]

theorem mkPacket_eq (dest src dp sp tc proto seg nseg addr tag : Nat) (body : List Byte) :
    let h := headerFields dest src dp sp tc proto seg nseg addr tag body.length
    mkPacket dest src dp sp tc proto seg nseg addr tag body = ⟨h + packetCrc h body * 2 ^ 192, body⟩ := rfl

end Sys2Proof.Machine

namespace Sys2Proof.Claims
open Sys2Proof.Machine

/-- Settles O55: the fields from `headerFields_bits`, the check from `Packet.good_of_crc`. -/
theorem packetHeader : Obligations.PacketHeader := by
  intro dest src dp sp tc proto seg nseg addr tag body
  rw [mkPacket_eq]
  obtain ⟨hdest, hsrc, hdp, hsp, htc, hdl, hproto, hhops, hlen, hseg, hnseg, haddr, htag⟩ :=
    headerFields_bits dest src dp sp tc proto seg nseg addr tag body.length
      (packetCrc (headerFields dest src dp sp tc proto seg nseg addr tag body.length) body)
  exact ⟨hdest, hsrc, hdp, hsp, htc, hdl, hproto, hhops, hlen, hseg, hnseg, haddr, htag,
    Packet.good_of_crc (headerFields_lt ..) body, rfl⟩

end Sys2Proof.Claims
end

section
/-! The head of a queue and the rows that issue it: what a row does by what stands at the head (06 R190, Table 6-14, log entry 10). -/

namespace Sys2Proof.Machine
open Sys2Proof.Claims

/-! ## Issue -/

section
variable {s : State} {p q op : Nat} {ok : Nat → Bool} {go : State → Nat → State}

theorem State.issue_of_not_ready (h : s.ready p q = false) : s.issue p q op ok go = s := by
  simp [State.issue, h]

theorem State.issue_of_bad (hready : s.ready p q = true) (hbad : s.headBad p q = true) :
    s.issue p q op ok go = (s.headFetch p q).headFault p q 5 := by
  simp [State.issue, hready, hbad]

theorem State.issue_of_reserved (hready : s.ready p q = true) (hbad : s.headBad p q = false)
    (hok : (ok (s.headWord p q) && commonOk (s.headWord p q)) = false) :
    s.issue p q op ok go = (s.headFetch p q).headFault p q 1 := by
  simp [State.issue, hready, hbad, hok]

/-- A row whose opcode is not the head's does nothing (log entry 10). -/
theorem State.issue_of_other (hbad : s.headBad p q = false) (hok : (ok (s.headWord p q) && commonOk (s.headWord p q)) = true)
    (hop : opOf (s.headWord p q) ≠ op) : s.issue p q op ok go = s := by
  simp [State.issue, hbad, hok, hop]

/-- The row of the head's opcode latches it, its word fetched. -/
theorem State.issue_of_latches (h : Latches s p q op ok) : s.issue p q op ok go = go (s.headFetch p q) (s.headWord p q) := by
  obtain ⟨hready, hbad, hok, hcommon, hop⟩ := h
  simp [State.issue, hready, hbad, hok, hcommon, hop]

end

/-- A Span or Deck queue has its window in its buffer. -/
theorem State.headFetch_of_buffer {s : State} {p q : Nat} (h : q < 64) : s.headFetch p q = s := by
  simp [State.headFetch, h]

/-! ## The rows that issue a head, by queue -/

/-- The row of a Span, Deck or copy opcode is the issue of its engine's queue. -/
theorem exec_queueRow : ∀ r ∈ queueRows, ∀ x ∈ r.2.2, ∃ go : State → Nat → Nat → State → Nat → State, ∀ s p i,
    exec (x.2 p i) s = .next (s.issue p (r.1 + i) x.1 r.2.1 (go s p i)) := by
  simp only [queueRows, spanRows, deckRowsA, deckRowsB, localCopyRows, List.cons_append, List.nil_append, List.forall_mem_cons,
    List.not_mem_nil, false_implies, implies_true, and_true, Nat.zero_add]
  repeat' apply And.intro
  all_goals exact ⟨_, fun _ _ _ => rfl⟩

/-- The row of a Trestle opcode is the issue of queue 80. -/
theorem exec_trestleRow : ∀ x ∈ trestleRows, ∃ go : State → Nat → State → Nat → State, ∀ s p,
    exec (x.2 p) s = .next (s.issue p 80 x.1 trOk (go s p)) := by
  simp only [trestleRows, List.forall_mem_cons, List.not_mem_nil, false_implies, implies_true, and_true]
  repeat' apply And.intro
  all_goals exact ⟨_, fun _ _ => rfl⟩

/-- The row of an Ilben opcode is the issue of queue 81. -/
theorem exec_ilbenRow : ∀ x ∈ ilbenRows, ∃ go : State → Nat → State → Nat → State, ∀ s p,
    exec (x.2 p) s = .next (s.issue p 81 x.1 ilOk (go s p)) := by
  simp only [ilbenRows, List.forall_mem_cons, List.not_mem_nil, false_implies, implies_true, and_true]
  repeat' apply And.intro
  all_goals exact ⟨_, fun _ _ => rfl⟩

end Sys2Proof.Machine

namespace Sys2Proof.Claims
open Sys2Proof.Machine

/-- Settles O6: every row is an issue of its queue (`exec_queueRow` and the lemmas beside it), whose branches before the latch
`State.issue_of_reserved` and the lemmas beside it say. -/
theorem reservedEncodingFaults : Obligations.ReservedEncodingFaults := by
  refine ⟨fun r hr x hx s p i => ?_, fun x hx s p => ?_, fun x hx s p => ?_⟩
  · obtain ⟨go, hrow⟩ := exec_queueRow r hr x hx
    simp only [hrow, Host.Outcome.next.injEq]
    exact ⟨State.issue_of_reserved, State.issue_of_bad, State.issue_of_other, State.issue_of_not_ready⟩
  · obtain ⟨go, hrow⟩ := exec_trestleRow x hx
    simp only [hrow, Host.Outcome.next.injEq]
    exact ⟨State.issue_of_reserved, State.issue_of_not_ready⟩
  · obtain ⟨go, hrow⟩ := exec_ilbenRow x hx
    simp only [hrow, Host.Outcome.next.injEq]
    exact ⟨State.issue_of_reserved, State.issue_of_not_ready⟩

end Sys2Proof.Claims
end

section
/-! A plain write in a Pier's fast tier (07, 16): the accesses through the Girder take no Pier into reset, so that the bytes that follow
them are stored. -/

namespace Sys2Proof.Machine
open Sys2Proof.Claims

/-! ## Which Piers are in reset -/

/-- The reset of each Pier. -/
def State.resets (s : State) : Bool × Bool := (s.p0.inReset, s.p1.inReset)

/-- An operation that takes no Pier into reset or out of it, whatever it changes of one. -/
theorem State.modPier_resets (s : State) (p : Nat) {f : Pier → Pier} (hf : ∀ r, (f r).inReset = r.inReset) :
    (s.modPier p f).resets = s.resets := by
  unfold State.modPier
  split
  · exact congrArg (·, s.p1.inReset) (hf s.p0)
  · exact congrArg (s.p0.inReset, ·) (hf s.p1)

theorem foldl_resets {α : Type} {l : List α} {f : State → α → State} (s : State) (hf : ∀ t a, (f t a).resets = t.resets) :
    (l.foldl f s).resets = s.resets :=
  List.foldlRecOn (motive := fun t : State => t.resets = s.resets) _ _ rfl fun t ht a _ => (hf t a).trans ht

@[simp] theorem State.setOd_resets (s : State) (i x k v : Nat) : (s.setOd i x k v).resets = s.resets := rfl
@[simp] theorem State.bump32_resets (s : State) (i x k n : Nat) : (s.bump32 i x k n).resets = s.resets := rfl
@[simp] theorem State.bump64_resets (s : State) (i x k n : Nat) : (s.bump64 i x k n).resets = s.resets := rfl
@[simp] theorem State.present_resets (s : State) (c n : Nat) (k : Asker) (len : Nat) : (s.present c n k len).resets = s.resets := rfl
@[simp] theorem State.cureCells_resets (s : State) (p off : Nat) : (s.cureCells p off).resets = s.resets := rfl

@[simp] theorem State.setBytes_resets (s : State) (k : Nat) (l : List Byte) : (s.setBytes k l).resets = s.resets := by
  induction l generalizing s k with
  | nil => rfl
  | cons b l ih => exact ih (s.setByte k b) (k + 1)

@[simp] theorem State.markFaulted_resets (s : State) : s.markFaulted.resets = s.resets := by
  unfold State.markFaulted
  split <;> rfl

@[simp] theorem State.sendMsix_resets (s : State) (v : Nat) : (s.sendMsix v).resets = s.resets := by
  unfold State.sendMsix
  dsimp only
  split <;> rfl

@[simp] theorem State.sendAll_resets (s : State) (vs : List Nat) : (s.sendAll vs).resets = s.resets :=
  foldl_resets s State.sendMsix_resets

@[simp] theorem State.notifyAll_resets (s : State) (vs : List Nat) : (s.notifyAll vs).resets = s.resets := by
  unfold State.notifyAll
  dsimp only
  split
  · rfl
  · split
    · rfl
    · exact State.sendAll_resets _ _

@[simp] theorem State.raise_resets (s : State) (v : Nat) : (s.raise v).resets = s.resets := State.notifyAll_resets _ _

@[simp] theorem State.canSend_resets (s : State) (cls ident : Nat) (data : List Byte) : (s.canSend cls ident data).resets = s.resets := by
  unfold State.canSend
  cases s.can.mode with
  | busOff => dsimp only; split <;> rfl
  | _ => rfl

@[simp] theorem State.alert_resets (s : State) (code key data : Nat) : (s.alert code key data).resets = s.resets := by
  unfold State.alert
  dsimp only
  split
  · split
    · rfl
    · exact State.canSend_resets ..
  · rfl

@[simp] theorem State.persistentMem_resets (s : State) (p stack channel cause : Nat) :
    (s.persistentMem p stack channel cause).resets = s.resets := by
  unfold State.persistentMem
  split
  · exact s.markFaulted_resets
  · simp only [State.markFaulted_resets, State.alert_resets, State.raise_resets]
    rfl

/-! ## An access through the Girder -/

@[simp] theorem State.setLine_resets (s : State) (p k : Nat) (l : Line) : (s.setLine p k l).resets = s.resets :=
  s.modPier_resets p fun _ => rfl

@[simp] theorem State.setStage_resets (s : State) (p j : Nat) (st : ReqStage) :
    (s.modPier p (fun r => r.setStage j st)).resets = s.resets :=
  s.modPier_resets p fun _ => rfl

@[simp] theorem State.serveFirst_resets (s : State) (p : Nat) (f : MemReq → Bool) : (s.serveFirst p f).resets = s.resets :=
  s.modPier_resets p fun _ => rfl

@[simp] theorem State.notePeak_resets (s : State) (p stack : Nat) : (s.notePeak p stack).resets = s.resets := by
  unfold State.notePeak
  dsimp only
  split <;> rfl

@[simp] theorem State.letIn_resets (s : State) (p j : Nat) : (s.letIn p j).resets = s.resets := by
  unfold State.letIn
  split
  · rfl
  · dsimp only
    split <;> simp [State.modPier_resets]

@[simp] theorem State.issueReq_resets (s : State) (p j : Nat) : (s.issueReq p j).resets = s.resets := by
  unfold State.issueReq
  split
  · rfl
  · dsimp only
    split <;> simp [State.modPier_resets]

@[simp] theorem State.issueAll_resets (s : State) (p source fuel : Nat) : (s.issueAll p source fuel).resets = s.resets := by
  induction fuel generalizing s with
  | zero => rfl
  | succ fuel ih =>
    unfold State.issueAll
    split
    · rfl
    split
    · rfl
    split
    · rfl
    dsimp only
    split_ifs <;> simp [ih]

@[simp] theorem State.request_resets (s : State) (p : Nat) (k : Asker) (g : Nat) (fill : Bool) : (s.request p k g fill).resets = s.resets := by
  simp [State.request, State.modPier_resets]

@[simp] theorem State.bankWrite_resets (s : State) (p off : Nat) (k : Asker) : (s.bankWrite p off k).resets = s.resets := by
  simp [State.bankWrite]

@[simp] theorem State.writeBack_resets (s : State) (p j : Nat) (k : Asker) : (s.writeBack p j k).resets = s.resets := by
  unfold State.writeBack
  dsimp only
  split <;> simp

@[simp] theorem State.victim_resets (s : State) (p off : Nat) : (s.victim p off).1.resets = s.resets := by
  unfold State.victim
  dsimp only
  split
  · rfl
  · split <;> exact foldl_resets s fun t k => t.setLine_resets ..

@[simp] theorem State.girderFill_resets (s : State) (p off age : Nat) (pin dirty : Bool) (k : Asker) :
    (s.girderFill p off age pin dirty k).resets = s.resets := by
  unfold State.girderFill
  dsimp only
  split <;> simp

@[simp] theorem State.uncorrectable_resets (s : State) (p off : Nat) (e : CellErr) (pattern : List Byte) (kept : Bool) :
    (s.uncorrectable p off e pattern kept).resets = s.resets := by
  unfold State.uncorrectable
  dsimp only
  split_ifs <;> simp

@[simp] theorem State.correctOne_resets (s : State) (p off : Nat) (c : Nat × Nat) : (s.correctOne p off c).resets = s.resets := by
  unfold State.correctOne
  dsimp only
  split
  · exact State.persistentMem_resets ..
  · rfl

@[simp] theorem State.meetGranule_resets (s : State) (p off : Nat) (pattern : List Byte) (kept : Bool) :
    (s.meetGranule p off pattern kept).resets = s.resets := by
  unfold State.meetGranule
  dsimp only
  split
  · rfl
  split
  · exact State.uncorrectable_resets ..
  · exact foldl_resets s fun t c => t.correctOne_resets ..

@[simp] theorem State.bankRead_resets (s : State) (p off : Nat) (k : Asker) (fill : Bool) (pattern : List Byte) :
    (s.bankRead p off k fill pattern).resets = s.resets := by
  simp [State.bankRead]

@[simp] theorem State.lineFlaw_resets (s : State) (p off j : Nat) (k : Asker) (pattern : List Byte) :
    (s.lineFlaw p off j k pattern).resets = s.resets := by
  unfold State.lineFlaw
  dsimp only
  split_ifs <;> simp

@[simp] theorem State.toSlice_resets (s : State) (p off : Nat) (wr : Bool) (k : Asker) : (s.toSlice p off wr k).resets = s.resets := by
  unfold State.toSlice
  dsimp only
  split <;> rfl

@[simp] theorem State.markLine_resets (s : State) (p off j : Nat) (wr : Bool) (hint : Nat) :
    (s.markLine p off j wr hint).resets = s.resets := by
  unfold State.markLine
  dsimp only
  split
  case h_4 => split <;> simp
  all_goals exact State.setLine_resets ..

@[simp] theorem State.placeLine_resets (s : State) (p off : Nat) (wr whole : Bool) (hint : Nat) (k : Asker) :
    (s.placeLine p off wr whole hint k).resets = s.resets := by
  unfold State.placeLine
  split
  case h_3 => split_ifs <;> simp
  all_goals exact State.girderFill_resets ..

@[simp] theorem State.girder_resets (s : State) (p off : Nat) (wr whole : Bool) (hint : Nat) (k : Asker) (pattern : List Byte) :
    (s.girder p off wr whole hint k pattern).resets = s.resets := by
  cases hline : (s.toSlice p off wr k).findLine p off with
  | some j =>
    rw [State.girder_of_hit whole hint pattern hline]
    dsimp only
    split_ifs <;> simp
  | none =>
    rw [State.girder_of_miss whole hint pattern hline]
    dsimp only
    split <;> simp

/-- The accesses of a run leave each Pier in reset or out of it. -/
theorem State.girderRun_resets (s : State) (p off n : Nat) (wr : Bool) (hint : Nat) (k : Asker) (pattern : List Byte) :
    (s.girderRun p off n wr hint k pattern).resets = s.resets :=
  foldl_resets s fun t _ => t.girder_resets ..

/-! ## A plain write in the fast tier -/

theorem State.downAt_congr {s t : State} (h : t.resets = s.resets) (k : Nat) : t.downAt k = s.downAt k := by
  obtain ⟨h0, h1⟩ := Prod.mk.inj h
  simp only [State.downAt, h0, h1]

theorem pspace_fast {p o : Nat} (ho : o < 2 ^ 44) : pspace (pkey (spFast p) o) = p := by
  unfold pspace pkey spFast
  omega

theorem poff_fast {p o : Nat} (ho : o < 2 ^ 44) : poff (pkey (spFast p) o) = o := by
  unfold poff pkey spFast
  omega

section
variable {s : State} {p o : Nat}

/-- The accesses of a write in a Pier's fast tier, but Ilben's, whose path leads over the Ilben link. -/
theorem State.touchWriteRun_fast {who : Asker} (hint : Nat) (pattern : List Byte) {n : Nat} (hp : p < 2) (ho : o < 2 ^ 44) (hn : n ≠ 0)
    (hwho : who.source ≠ 17) (hup : s.downAt (pkey (spFast p) o) = false) :
    s.touchWriteRun who hint pattern (pkey (spFast p) o, n) = s.girderRun p o n true hint who pattern := by
  have hpath : s.presentRun who true (pkey (spFast p) o, n) = s := by
    have hspace : p ≠ spTrf 0 ∧ p ≠ spTrf 1 ∧ p ≠ spSlow := by unfold spTrf spSlow; omega
    simp [State.presentRun, pspace_fast ho, hspace, hwho]
  unfold State.touchWriteRun
  simp only [hn, hup, hpath, pspace_fast ho, poff_fast ho, hp, if_true, if_false, Bool.false_eq_true]

/-- The bytes of a write in the fast tier of a Pier that is out of reset are stored. -/
theorem State.write_fast (bs : List Byte) (hp : p < 2) (ho : o < 2 ^ 44) (hup : s.downAt (pkey (spFast p) o) = false) :
    s.write (pkey (spFast p) o) bs = s.setBytes (pkey (spFast p) o) bs := by
  have hspace : p ≠ spSlow ∧ p ≠ spCtl 0 ∧ p ≠ spCtl 1 := by unfold spSlow spCtl; omega
  simp [State.write, hup, pspace_fast ho, hspace]

theorem State.storeRun_fast {who : Asker} (hint : Nat) {bs : List Byte} (hp : p < 2) (ho : o < 2 ^ 44) (hbs : bs.length ≠ 0)
    (hwho : who.source ≠ 17) (hup : s.downAt (pkey (spFast p) o) = false) :
    s.storeRun who hint (pkey (spFast p) o) bs
      = (s.girderRun p o bs.length true hint who ffPattern).setBytes (pkey (spFast p) o) bs := by
  have hup' : (s.girderRun p o bs.length true hint who ffPattern).downAt (pkey (spFast p) o) = false := by
    rw [State.downAt_congr (s.girderRun_resets ..), hup]
  rw [State.storeRun, State.touchWriteRun_fast hint _ hp ho hbs hwho hup, State.write_fast bs hp ho hup']

end

/-! ## A host write through BAR2 (16) -/

theorem bar2Of_bounds {off p o : Nat} (h : bar2Of off = some (p, o)) : p < 2 ∧ o < 2 ^ 44 := by
  unfold bar2Of at h
  simp only [Bool.and_eq_true, decide_eq_true_eq] at h
  split_ifs at h with hlow hhigh
  all_goals cases h
  · omega
  · omega

/-- A Pier that the host reaches is out of reset. -/
theorem State.downAt_of_pierUp {s : State} {p o : Nat} (hp : p < 2) (ho : o < 2 ^ 44) (h : s.pierDown p = false) :
    s.downAt (pkey (spFast p) o) = false := by
  simp only [State.pierDown, Bool.or_eq_false_iff, Bool.and_eq_false_iff, decide_eq_false_iff_not] at h
  obtain ⟨⟨-, h0⟩, h1⟩ := h
  have hspace := pspace_fast (p := p) ho
  have hcase : p = 0 ∨ p = 1 := by omega
  rcases hcase with rfl | rfl
  · simp only [State.downAt, hspace, h0]
    simp [spFast, spCtl]
  · have h1' : s.p1.inReset = false := by simpa [State.pier] using h1
    simp only [State.downAt, hspace, h1']
    simp [spFast, spCtl]

theorem State.guardOnce_frame (s : State) (runs : List (Nat × Nat)) :
    (s.guardOnce runs).resets = s.resets ∧ (s.guardOnce runs).mem = s.mem ∧ ∀ p, (s.guardOnce runs).cells p = s.cells p :=
  List.foldlRecOn (motive := fun t : State => t.resets = s.resets ∧ t.mem = s.mem ∧ ∀ p, t.cells p = s.cells p) _ _
    ⟨rfl, rfl, fun _ => rfl⟩ fun _ ht _ _ => ht

theorem exec_barWrite_of_bar2 {s : State} {off : Nat} {data : List Byte} (htaken : BarTaken s off data.length) (hoff : off < 2 ^ 40) :
    exec (.barWrite 2 off data) s = .next (s.bar2Write off data) := by
  obtain ⟨hlink, hd3, htlp⟩ := htaken
  show execBarWrite 2 off data s = _
  simp only [execBarWrite, hlink, hd3, htlp, decide_eq_true hoff]
  rfl

theorem State.bar2Write_of_up {s : State} {off p o : Nat} (data : List Byte) (hplace : bar2Of off = some (p, o))
    (hup : s.pierDown p = false) (hring : s.inRingArea p o = false) :
    s.bar2Write off data
      = (s.guardOnce [(pkey (spFast p) o, data.length)]).storeRun (Asker.host p) 0 (pkey (spFast p) o) data := by
  simp [State.bar2Write, hplace, hup, hring]

end Sys2Proof.Machine

namespace Sys2Proof.Claims
open Sys2Proof.Machine

/-- Settles O51: the write is a run of accesses through the Girder and then its bytes (`State.storeRun_fast`); the bytes read back by
`State.setBytes_byte`, and the accesses spare the others by `State.girderRun_byte`. -/
theorem hostWriteReachesMemory : Obligations.HostWriteReachesMemory := by
  intro s off p o data htaken hoff hplace hup hring hwf
  obtain ⟨hp, ho⟩ := bar2Of_bounds hplace
  obtain ⟨hresets, hmem, hcells⟩ := s.guardOnce_frame [(pkey (spFast p) o, data.length)]
  have hlen : data.length ≠ 0 := by
    have htlp := htaken.2.2
    simp only [tlpOk, Bool.and_eq_true, decide_eq_true_eq] at htlp
    exact htlp.1
  have hsource : (Asker.host p).source ≠ 17 := by norm_num [Asker.host]
  have hup' := (State.downAt_congr hresets _).trans (State.downAt_of_pierUp hp ho hup)
  refine ⟨_, (exec_barWrite_of_bar2 htaken hoff).trans (congrArg _ ((State.bar2Write_of_up data hplace hup hring).trans
    (State.storeRun_fast 0 hp ho hlen hsource hup'))), ?_⟩
  generalize s.guardOnce [(pkey (spFast p) o, data.length)] = u at hresets hmem hcells hup'
  have hbyte : ∀ j, u.byte j = s.byte j := fun j => congrArg (Tab.get 0 · j) hmem
  have hwf' : Memory.wf (u.girderRun p o data.length true 0 (Asker.host p) ffPattern).mem = true :=
    (keeps_girderRun (.refl u)).mem (by rwa [hmem])
  have hpattern : ffPattern.length ≤ 128 := by simp [ffPattern]
  refine ⟨fun j hj => ?_, fun a hout => ?_, fun herrs hlines a hout => ?_⟩
  · rw [State.setBytes_byte _ data hwf', if_pos ⟨Nat.le_add_right .., by omega⟩, Nat.add_sub_cancel_left]
  · rw [State.setBytes_byte _ data hwf', if_neg (mt InGranules.of_mem hout), State.girderRun_byte _ _ _ hpattern (.inr hout), hbyte]
  · have hread : u.Readable p := State.Readable.of_cells (s := s) ⟨herrs, hlines⟩ (hcells p)
    rw [State.setBytes_byte _ data hwf', if_neg hout, State.girderRun_byte _ _ _ hpattern (.inl hread), hbyte]

end Sys2Proof.Claims
end

section
/-! What a queue does of itself (06): the window that has been loaded, the end of a queue, the mirror of the flags, WAIT_TIMEOUT; and the
tails of the rings and the closing of a watch bank (03). -/

namespace Sys2Proof.Machine

/-- Commands end in next states: equal states, equal outcomes. -/
theorem next_congr {s t : State} (h : s = t) : (.next s : Host.Outcome State Fault Refusal) = .next t := congrArg _ h

/-! ## Queue rows (Table 6-3) -/

section
variable {s : State} {p q : Nat}

/-- The next head of a queue with a buffer needs no fetch. -/
theorem State.takeHead_of_buffer (hq : q < 64) : s.takeHead p q = s.noteWaits p := by
  simp [State.takeHead, hq]

/-- The window of a queue is being copied: it is in LOAD, or was halted or resumed since. -/
def Queue.Loads (u : Queue) : Prop := u.st = .load ∨ (u.loading = true ∧ (u.st = .run ∨ u.st = .halt))

theorem State.windowLoaded_of_loads (h : (s.queue p q).Loads) (hq : q < 64) (hc : s.cluster (clusterOf p (q % 32)) ≠ .restoring) :
    s.windowLoaded p q = ((s.fetch p q (s.queue p q).qbase (16 * (s.queue p q).qlen)).setQueue p q
      { s.queue p q with
        st := if (s.queue p q).st = .load then .run else (s.queue p q).st, loading := false,
        buf := s.windowBuf p (s.queue p q) }).noteWaits p := by
  have hcond : ((s.queue p q).st = .load ∨ (s.queue p q).loading = true ∧ ((s.queue p q).st = .run ∨ (s.queue p q).st = .halt)) := h
  rw [State.windowLoaded, if_pos (by simpa [hq, hc] using hcond), State.takeHead_of_buffer hq]

theorem State.windowLoaded_discarded (h : ¬ (s.queue p q).Loads ∨ 64 ≤ q ∨ s.cluster (clusterOf p (q % 32)) = .restoring) :
    s.windowLoaded p q = s := by
  refine if_neg ?_
  simp only [Bool.and_eq_true, Bool.or_eq_true, decide_eq_true_eq, Bool.not_eq_true', decide_eq_false_iff_not]
  rintro ⟨⟨hloads, hq⟩, hc⟩
  rcases h with h | h | h
  · exact h hloads
  · omega
  · exact hc h

theorem State.queueDone_of_ended (hst : (s.queue p q).st = .run) (hended : (s.queue p q).ended = true) (hfl : (s.queue p q).flights = []) :
    s.queueDone p q = s.setQueue p q { s.queue p q with st := .done, ended := false } := by
  simp [State.queueDone, hst, hended, hfl]

theorem State.queueDone_discarded (h : (s.queue p q).st ≠ .run ∨ (s.queue p q).ended = false ∨ (s.queue p q).flights ≠ []) :
    s.queueDone p q = s :=
  if_neg (by rcases h with h | h | h <;> simp [h])

theorem State.queueDrained_of_draining (hdrain : (s.queue p q).draining = true) (hfl : (s.queue p q).flights = []) :
    s.queueDrained p q = s.setQueue p q { s.queue p q with
      st := .idle, draining := false, ended := false, timedOut := false, loading := false, head := none, met := false } := by
  simp [State.queueDrained, hdrain, hfl]

theorem State.queueDrained_discarded (h : (s.queue p q).draining = false ∨ (s.queue p q).flights ≠ []) : s.queueDrained p q = s :=
  if_neg (by rcases h with h | h <;> simp [h])

/-! ## The mirror of the other Pier's flags (R197) -/

theorem State.mirrorUpdate_of_empty (h : (s.pier p).mirrorQ = []) : s.mirrorUpdate p = s := by
  simp [State.mirrorUpdate, h]

theorem State.mirrorUpdate_of_change {f : Nat} {b : Bool} {t : List (Nat × Bool)} (h : (s.pier p).mirrorQ = (f, b) :: t) :
    s.mirrorUpdate p = (s.modPier p (fun r => { r with mirror := setBit f b r.mirror, mirrorQ := t })).noteWaits p := by
  simp [State.mirrorUpdate, h]

/-! ## The tail of a ring (03 R109) -/

theorem odk_ring_ne (r : Ring) : odk 0 (r.idx + 2) r.sub ≠ odk 0 (r.idx + 1) r.sub := by
  cases r <;> simp only [odk, Ring.idx, Ring.sub] <;> omega

/-- A write of TAIL leaves the LOST count. -/
theorem State.setTail_lost (s : State) (r : Ring) (v : Nat) :
    (s.setOd 0 (r.idx + 1) r.sub v).odv 0 (r.idx + 2) r.sub = s.odv 0 (r.idx + 2) r.sub :=
  State.setOd_odv_ne s v (odk_ring_ne r)

/-! ## The closing of a watch bank (03 R90) -/

/-- The counters of the oldest bank that waits become the LAST bank. -/
def State.bankMoved (s : State) (p : Nat) (c : WatchClose) (rest : List WatchClose) : State :=
  ({ s with watch := Tab.move 0 (watchBank p (wbGen c.gen)) (2 ^ 20) (watchBank p wbLast) s.watch } : State).modPier p
    (fun r => { r with watchClosing := rest })

theorem State.bankClose_of_waiting {c : WatchClose} {rest : List WatchClose} (h : (s.pier p).watchClosing = c :: rest) :
    s.bankClose p = ((s.bankMoved p c rest).bankSets p wbLast).foldl (fun t k => (t.silentCheck p c k).spillCheck p c k)
      ((s.bankMoved p c rest).lastImages p (s.bankSets p wbLast ++ (s.bankMoved p c rest).bankSets p wbLast).eraseDups) := by
  simp only [State.bankClose, h, State.bankMoved]

theorem State.bankClose_of_none (h : (s.pier p).watchClosing = []) : s.bankClose p = s := by
  simp [State.bankClose, h]

/-! ## WAIT_TIMEOUT (Table 6-14) -/

theorem State.waitTimeout_of_unmet (hon : s.odv 0 0xF122 0 ≠ 0) (hstand : s.standing p q = true) (hnew : (s.queue p q).timedOut = false)
    (hbad : s.headBad p q = false) (hmet : (s.queue p q).met = false) (hwait : s.waitMet p (s.queue p q) (s.headWord p q) = false) :
    s.waitTimeout p q = (s.ringPut (.fault p) (fun _ => faultRec s p q 6 (s.queue p q).pc (s.queue p q).sc1 0 0 0 7)).setQueue p q
      { s.queue p q with timedOut := true } := by
  simp [State.waitTimeout, State.streamFault, hon, hstand, hnew, hbad, hmet, hwait]

theorem State.waitTimeout_discarded (h : s.odv 0 0xF122 0 = 0 ∨ (s.queue p q).timedOut = true ∨ s.standing p q = false
    ∨ s.headBad p q = true ∨ (s.queue p q).met = true ∨ s.waitMet p (s.queue p q) (s.headWord p q) = true) : s.waitTimeout p q = s :=
  if_neg (by rcases h with h | h | h | h | h | h <;> simp [h])

theorem State.timeout_of_inside {n : Nat} {f : Flight} (hf : s.flight p q n = some f) (hon : s.odv 0 0xF122 0 ≠ 0) (hnew : f.timedOut = false)
    (hwait : s.waitsInside p q f = true) : s.timeout p q (n + 1)
      = (s.ringPut (.fault p) (fun _ => faultRec s p q 6 f.pc f.sc1 0 0 0 7)).putFlight p q n { f with timedOut := true } := by
  simp [State.timeout, State.streamFault, hf, hon, hnew, hwait]

theorem State.timeout_of_absent {n : Nat} (h : s.odv 0 0xF122 0 = 0 ∨ s.flight p q n = none) : s.timeout p q (n + 1) = s := by
  cases hf : s.flight p q n with
  | none => simp [State.timeout, hf]
  | some f => simp [State.timeout, hf, h.resolve_right (by simp [hf])]

theorem State.timeout_discarded {n : Nat} {f : Flight} (hf : s.flight p q n = some f) (h : f.timedOut = true ∨ s.waitsInside p q f = false) :
    s.timeout p q (n + 1) = s := by
  rcases h with h | h <;> simp [State.timeout, hf, h]

end

/-- A timeout of a queue that exists, or nothing. -/
theorem exec_waitTimeout {s : State} {p q : Nat} (hp : p < 2) (hq : q < 82) (k : Nat) :
    exec (.waitTimeout p q k) s = .next (s.timeout p q k) :=
  next_congr (if_pos (by simp [hp, hq]))

theorem exec_waitTimeout_discarded {s : State} {p q k : Nat} (h : s.timeout p q k = s) : exec (.waitTimeout p q k) s = .next s :=
  next_congr ((if_congr Iff.rfl h rfl).trans (ite_self s))

theorem exec_ringTailWrite {s : State} {n p v : Nat} (h : v < (ringOf n p).size) :
    exec (.ringTailWrite n p v) s = .next (s.ringTail (ringOf n p) v) :=
  next_congr (if_pos h)

theorem exec_ringTailWrite_discarded {s : State} {n p v : Nat} (h : (ringOf n p).size ≤ v) : exec (.ringTailWrite n p v) s = .next s :=
  next_congr (if_neg (Nat.not_lt.mpr h))

theorem exec_watchBankClose {s : State} {p : Nat} (h : s.bankInUse p = false) : exec (.watchBankClose p) s = .next (s.bankClose p) :=
  next_congr (if_neg (by simp [h]))

theorem exec_watchBankClose_discarded {s : State} {p : Nat} (h : (s.pier p).watchClosing = [] ∨ s.bankInUse p = true) :
    exec (.watchBankClose p) s = .next s := by
  cases hu : s.bankInUse p with
  | true => exact next_congr (if_pos hu)
  | false =>
    have hnone : (s.pier p).watchClosing = [] := h.resolve_right (by simp [hu])
    rw [exec_watchBankClose hu, State.bankClose_of_none hnone]

end Sys2Proof.Machine

namespace Sys2Proof.Claims
open Sys2Proof.Machine

/-- Settles O4: each row by the lemma on its condition; the LOST count is read past the write of TAIL (`State.setTail_lost`). -/
theorem queueAdvances : Obligations.QueueAdvances := by
  intro s p q n v
  refine ⟨fun h hq hc => next_congr (State.windowLoaded_of_loads h hq hc), fun hst he hf => next_congr (State.queueDone_of_ended hst he hf),
    fun h => next_congr (State.windowLoaded_discarded h), fun h => next_congr (State.queueDone_discarded h),
    fun h => next_congr (State.queueDrained_discarded h), fun h => next_congr (State.mirrorUpdate_of_empty h),
    fun hd hf => next_congr (State.queueDrained_of_draining hd hf), fun f b t h => next_congr (State.mirrorUpdate_of_change h),
    fun hv h => ?_, fun hv hlost hspace => ?_, exec_ringTailWrite_discarded, fun c rest hc hu => ?_, exec_watchBankClose_discarded⟩
  · rw [exec_ringTailWrite hv, State.ringTail_of_no_record (by rwa [State.setTail_lost])]
  · rw [exec_ringTailWrite hv, State.ringTail_of_lost (by rwa [State.setTail_lost]) hspace]
  · rw [exec_watchBankClose hu, State.bankClose_of_waiting hc]
    rfl

/-- Settles O5: the head's timeout and that of an instruction in flight, each recorded or nothing. -/
theorem waitTimeoutRecorded : Obligations.WaitTimeoutRecorded := by
  intro s p q
  refine ⟨fun hp hq hon hstand hnew hbad hmet hwait => ?_, fun h => exec_waitTimeout_discarded (State.waitTimeout_discarded h),
    fun n f hp hq hon hf hnew hwait => ?_, fun n h => exec_waitTimeout_discarded (State.timeout_of_absent h),
    fun n f hf h => exec_waitTimeout_discarded (State.timeout_discarded hf h)⟩
  · rw [exec_waitTimeout hp hq]
    exact next_congr (State.waitTimeout_of_unmet hon hstand hnew hbad hmet hwait)
  · rw [exec_waitTimeout hp hq, State.timeout_of_inside hf hon hnew hwait]

end Sys2Proof.Claims
end

section
/-! The engines of a cluster (04, 05): the latch of a Span and of a Deck instruction, and the rows on which their executions complete and
a waking engine reaches RUN. -/

namespace Sys2Proof.Machine
open Sys2Proof.Claims

/-! ## The latch of a Span instruction (04 R137, R142, R143) -/

theorem exec_spanRow : ∀ r ∈ spanRows, ∀ s p i, exec (r.2 p i) s = .next (s.spanIssue p i r.1) := by
  simp only [spanRows, List.forall_mem_cons, List.not_mem_nil, false_implies, implies_true, and_true]
  repeat' apply And.intro
  all_goals exact fun _ _ _ => rfl

/-- The nest that the head's word names. -/
def State.headNest (s : State) (p q : Nat) : Nest := parseNest (s.rawNest p (loopOf (s.headWord p q)))

section
variable {s : State} {p i op : Nat} {ops : List Held}

theorem State.spanIssue_of_latches (hi : i < 32) (h : Latches s p i op spanOk) :
    s.spanIssue p i op = s.spanLatch p i (s.headWord p i) := by
  rw [State.spanIssue, State.issue_of_latches h, State.headFetch_of_buffer (by omega)]

/-- An instruction with nothing to do is a null completion, counted. -/
theorem State.spanLatch_of_empty (hops : s.latchAll p (spanHandles (s.headWord p i)) = some ops)
    (hnest : nestOk (s.rawNest p (loopOf (s.headWord p i))) (spanUsed (opOf (s.headWord p i))) = true)
    (hempty : spanEmpty (opOf (s.headWord p i)) ops (s.headNest p i) = true) : s.spanLatch p i (s.headWord p i)
      = ((s.setPair p i { s.pair p i with spanWarm := false }).bump64 (eInst p i) 0xF101 2 1).nullHead p i (s.headWord p i) := by
  unfold State.headNest at hempty
  simp [State.spanLatch, hops, hnest, hempty]

/-- Any other is put in flight, and its first execution issues or the Span wakes. -/
theorem State.spanLatch_of_work (hops : s.latchAll p (spanHandles (s.headWord p i)) = some ops)
    (hnest : nestOk (s.rawNest p (loopOf (s.headWord p i))) (spanUsed (opOf (s.headWord p i))) = true)
    (hempty : spanEmpty (opOf (s.headWord p i)) ops (s.headNest p i) = false) : s.spanLatch p i (s.headWord p i)
      = if (spanLatched s p i ops).1.inRun p i false then (spanLatched s p i ops).1.spanExec p i (spanLatched s p i ops).2
        else (spanLatched s p i ops).1.beginWake p i false := by
  unfold State.headNest at hempty
  simp only [State.spanLatch, hops, hnest, hempty]
  rfl

end

/-! ## The latch of a Deck instruction (05 R172) -/

theorem exec_deckRow : ∀ r ∈ deckRowsA ++ deckRowsB, ∀ s p i, exec (r.2 p i) s = .next (s.deckIssue p i r.1) := by
  simp only [deckRowsA, deckRowsB, List.cons_append, List.nil_append, List.forall_mem_cons, List.not_mem_nil, false_implies,
    implies_true, and_true]
  repeat' apply And.intro
  all_goals exact fun _ _ _ => rfl

section
variable {s : State} {p i op : Nat} {ops : List Held}

theorem State.deckIssue_of_latches (hi : i < 32) (h : Latches s p (32 + i) op deckOk) :
    s.deckIssue p i op = s.deckLatch s p i (s.headWord p (32 + i)) := by
  rw [State.deckIssue, State.issue_of_latches h, State.headFetch_of_buffer (by omega)]

/-- The operands and the nest of a Deck word, which nothing in flight holds. -/
structure State.DeckFree (s : State) (p i : Nat) (ops : List Held) : Prop where
  latched : s.deckOps p (s.headWord p (32 + i)) = some ops
  nest : nestOk (s.rawNest p (loopOf (s.headWord p (32 + i))))
    [(kindOf (opOf (s.headWord p (32 + i)))).usesHd && !isChain (dkHd (s.headWord p (32 + i))),
      (kindOf (opOf (s.headWord p (32 + i)))).usesHs && !isChain (dkHs (s.headWord p (32 + i))), false] = true
  free : deckHeld s p i (deckFlight s p i ops) = false

/-- Past the checks a Deck instruction has nothing to do, or is put in flight with its claims. -/
theorem State.deckLatch_of_free (h : s.DeckFree p i ops) : s.deckLatch s p i (s.headWord p (32 + i)) =
    if deckNull (s.headWord p (32 + i)) (s.deckArgs p i (s.headWord p (32 + i))).c ops (s.headNest p (32 + i)) then
      ((s.setPair p i { s.pair p i with deckWarm := false }).bump64 (eInst p i) 0xF111 2 1).nullHead p (32 + i) (s.headWord p (32 + i))
    else if (deckLatched s p i ops).1.inRun p i true then
      (deckLatched s p i ops).1.deckExec p i (s.queue p (32 + i)).flights.length (deckLatched s p i ops).2
    else (deckLatched s p i ops).1.beginWake p i true := by
  obtain ⟨hops, hnest, hfree⟩ := h
  rw [deckHeld, Bool.or_assoc] at hfree
  simp only [State.deckLatch, hops, hnest, Bool.not_true, Bool.false_eq_true, if_false]
  exact if_neg (Bool.eq_false_iff.mp hfree)

/-- What the row of a Deck opcode does at its latch. -/
theorem deckRowLatches {rows : List (Nat × (Nat → Nat → Instr))} (hrows : ∀ r ∈ rows, r ∈ deckRowsA ++ deckRowsB) : DeckRowLatches rows := by
  intro r hr s p i ops ⟨hi, hlatches, hops, hnest, hfree⟩
  have hop : opOf (s.headWord p (32 + i)) = r.1 := hlatches.2.2.2.2
  rw [← hop] at hnest
  rw [exec_deckRow r (hrows r hr), State.deckIssue_of_latches hi hlatches, State.deckLatch_of_free ⟨hops, hnest, hfree⟩]
  exact ⟨fun hnull => next_congr (if_pos hnull), fun hnull => next_congr (if_neg (Bool.eq_false_iff.mp hnull))⟩

end

/-! ## Executions complete (04 R138, R145; 05) -/

section
variable {s : State} {p i k : Nat} {f : Flight}

theorem State.spanComplete_of_next {fs : List Flight} (hf : (s.queue p i).flights = f :: fs) (hrun : f.running = true)
    (hclock : s.clockRuns p i = true) (hmore : f.begun < f.total) :
    s.spanComplete p i = (s.release 1 f.owned).spanExec p i { f with running := false, owned := [] } := by
  simp [State.spanComplete, hf, hrun, hclock, hmore]

theorem State.spanComplete_of_last {fs : List Flight} (hf : (s.queue p i).flights = f :: fs) (hrun : f.running = true)
    (hclock : s.clockRuns p i = true) (hlast : f.total ≤ f.begun) :
    let t := ((s.release 1 f.owned).setFlights p i []).finish p 1 { f with running := false, owned := [] }
    s.spanComplete p i = t.setPair p i { t.pair p i with spanWarm := spWarm f.word } := by
  simp [State.spanComplete, hf, hrun, hclock, Nat.not_lt.mpr hlast]

theorem State.spanComplete_discarded (h : (∀ f ∈ (s.queue p i).flights.head?, f.running = false) ∨ s.clockRuns p i = false) :
    s.spanComplete p i = s := by
  cases hf : (s.queue p i).flights with
  | nil => simp [State.spanComplete, hf]
  | cons f fs =>
    rcases h with h | h
    · have hidle : f.running = false := h f (by simp [hf])
      simp [State.spanComplete, hf, hidle]
    · simp [State.spanComplete, hf, h]

theorem State.deckComplete_of_next (hf : (s.queue p (32 + i)).flights[k]? = some f) (hnull : f.null = false) (hrun : f.running = true)
    (hclock : s.clockRuns p (32 + i) = true) (hmore : f.begun < f.total) :
    s.deckComplete p i k = s.deckExec p i k { f with running := false } := by
  simp [State.deckComplete, hf, hnull, hrun, hclock, hmore]

/-- The pair once an instruction has left the Deck: its anchor-base register is free. -/
def Pair.abrFreed (d : Pair) : Option Nat → Pair
  | some r => { d with abrOwn := setBit r false d.abrOwn }
  | none => d

theorem State.deckComplete_of_last (hf : (s.queue p (32 + i)).flights[0]? = some f) (hnull : f.null = false) (hrun : f.running = true)
    (hclock : s.clockRuns p (32 + i) = true) (hlast : f.total ≤ f.begun) :
    let t := (s.dropFlight p (32 + i) 0).finish p 2 f
    s.deckComplete p i 0 = t.setPair p i { (t.pair p i).abrFreed f.ownedAbr with
      deckWarm := bit 63 f.word && (t.queue p (32 + i)).flights.isEmpty } := by
  simp only [State.deckComplete, hf, hnull, hrun, hclock, Nat.not_lt.mpr hlast]
  rfl

/-- Executions of a Deck complete in queue order. -/
theorem State.deckComplete_of_behind (hf : (s.queue p (32 + i)).flights[k]? = some f) (hnull : f.null = false) (hlast : f.total ≤ f.begun)
    (hk : k ≠ 0) : s.deckComplete p i k = s := by
  simp [State.deckComplete, hf, hnull, Nat.not_lt.mpr hlast, hk]

theorem State.deckComplete_of_null (hf : (s.queue p (32 + i)).flights[k]? = some f) (hclock : s.clockRuns p (32 + i) = true)
    (hnull : f.null = true) : s.deckComplete p i k = if k = 0 then (s.dropFlight p (32 + i) 0).finish p 2 f else s := by
  simp [State.deckComplete, hf, hclock, hnull]

theorem State.deckComplete_of_idle (hf : (s.queue p (32 + i)).flights[k]? = some f) (hnull : f.null = false) (hidle : f.running = false) :
    s.deckComplete p i k = s := by
  simp [State.deckComplete, hf, hnull, hidle]

theorem State.deckComplete_discarded (h : (s.queue p (32 + i)).flights[k]? = none ∨ s.clockRuns p (32 + i) = false) :
    s.deckComplete p i k = s := by
  cases hf : (s.queue p (32 + i)).flights[k]? with
  | none => simp [State.deckComplete, hf]
  | some f => simp [State.deckComplete, hf, h.resolve_left (by simp [hf])]

end

/-! ## WAKE_COMPLETE (04 R143, 05) -/

section
variable {s : State} {p i : Nat} {deck : Bool}

/-- A waking engine whose cluster holds its state, the clock running. -/
def State.Wakes (s : State) (p i : Nat) (deck : Bool) : Prop :=
  s.engine p i deck = .waking ∧ s.clockRuns p i = true ∧ s.cluster (clusterOf p i) ≠ .off ∧ s.cluster (clusterOf p i) ≠ .restoring

/-- The engine in RUN, its cluster GATED. -/
def State.woken (s : State) (p i : Nat) (deck : Bool) : State := (s.setCluster (clusterOf p i) .gated).setEngine p i deck .run

/-- The place of the oldest instruction in flight that has not begun. -/
def oldestUnbegun (fs : List Flight) : Option Nat :=
  (List.range fs.length).find? (fun k => match fs[k]? with
    | some f => !f.null && f.begun = 0 && !f.running
    | none => false)

theorem State.wakeComplete_discarded (h : ¬ s.Wakes p i deck) : s.wakeComplete p i deck = s := by
  unfold State.wakeComplete
  split
  · rfl
  · next hst =>
    split
    · rfl
    · next hc =>
      simp only [Bool.or_eq_true, decide_eq_true_eq, Bool.not_eq_true', not_or, ne_eq, not_not, Bool.not_eq_false] at hst hc
      exact absurd ⟨hst.1, hst.2, hc.1, hc.2⟩ h

theorem State.wakeComplete_of_span (h : s.Wakes p i false) : s.wakeComplete p i false =
    match ((s.woken p i false).queue p i).flights with
    | f :: _ => if f.running then s.woken p i false else (s.woken p i false).spanExec p i f
    | [] => s.woken p i false := by
  obtain ⟨hst, hclock, hoff, hrestoring⟩ := h
  have hst' : (decide (s.engine p i false ≠ .waking) || !s.clockRuns p i) = false := by simp [hst, hclock]
  have hc : (decide (s.cluster (clusterOf p i) = .off) || decide (s.cluster (clusterOf p i) = .restoring)) = false := by
    simp [hoff, hrestoring]
  rw [State.wakeComplete, if_neg (Bool.eq_false_iff.mp hst'), if_neg (Bool.eq_false_iff.mp hc)]
  rfl

theorem State.wakeComplete_of_deck (h : s.Wakes p i true) : s.wakeComplete p i true =
    match oldestUnbegun ((s.woken p i true).queue p (32 + i)).flights with
    | some k => match ((s.woken p i true).queue p (32 + i)).flights[k]? with
      | some f => (s.woken p i true).deckExec p i k f
      | none => s.woken p i true
    | none => s.woken p i true := by
  obtain ⟨hst, hclock, hoff, hrestoring⟩ := h
  have hst' : (decide (s.engine p i true ≠ .waking) || !s.clockRuns p i) = false := by simp [hst, hclock]
  have hc : (decide (s.cluster (clusterOf p i) = .off) || decide (s.cluster (clusterOf p i) = .restoring)) = false := by
    simp [hoff, hrestoring]
  rw [State.wakeComplete, if_neg (Bool.eq_false_iff.mp hst'), if_neg (Bool.eq_false_iff.mp hc)]
  rfl

theorem oldestUnbegun_of_first {fs : List Flight} {k : Nat} {f : Flight} (hk : fs[k]? = some f) (hf : unbegun f = true)
    (hfirst : ∀ j g, j < k → fs[j]? = some g → unbegun g = false) : oldestUnbegun fs = some k := by
  obtain ⟨hlt, -⟩ := List.getElem?_eq_some_iff.mp hk
  refine List.find?_range_eq_some.mpr ⟨by simpa [hk, unbegun] using hf, by simpa using hlt, fun j hj => ?_⟩
  have hget : fs[j]? = some (fs[j]'(by omega)) := List.getElem?_eq_getElem (by omega)
  simp only [hget]
  exact congrArg (!·) (hfirst j _ hj hget)

theorem oldestUnbegun_of_none {fs : List Flight} (h : ∀ g ∈ fs, unbegun g = false) : oldestUnbegun fs = none := by
  refine List.find?_eq_none.mpr fun j hj => ?_
  have hget : fs[j]? = some (fs[j]'(List.mem_range.mp hj)) := List.getElem?_eq_getElem _
  simpa [hget, unbegun] using h _ (List.getElem_mem (List.mem_range.mp hj))

end

end Sys2Proof.Machine

namespace Sys2Proof.Claims
open Sys2Proof.Machine

/-- Settles O7: the latch of the Span's rows, with nothing to do or with work (`State.spanLatch_of_empty`, `State.spanLatch_of_work`). -/
theorem spanLatches : Obligations.SpanLatches := by
  intro r hr s p i ops hi hlatches hops hnest
  have hop : opOf (s.headWord p i) = r.1 := hlatches.2.2.2.2
  rw [exec_spanRow r hr, State.spanIssue_of_latches hi hlatches, ← hop]
  rw [← hop] at hnest
  exact ⟨fun hempty => next_congr (State.spanLatch_of_empty hops hnest hempty),
    fun hempty => next_congr (State.spanLatch_of_work hops hnest hempty)⟩

/-- Settles O8: the latch of the Deck's rows, by `deckRowLatches`. -/
theorem deckElementRowsLatch : Obligations.DeckElementRowsLatch :=
  deckRowLatches fun _ => List.mem_append_left _

/-- Settles O9: the latch of the Deck's rows, by `deckRowLatches`. -/
theorem deckOtherRowsLatch : Obligations.DeckOtherRowsLatch :=
  deckRowLatches fun _ => List.mem_append_right _

/-- Settles O10: a completion row goes on, ends the instruction or does nothing; the oldest instruction that has not begun is found by
`oldestUnbegun_of_first`. -/
theorem engineExecutionsComplete : Obligations.EngineExecutionsComplete := by
  refine ⟨fun s p i f fs hf hrun hclock => ⟨fun hmore => next_congr (State.spanComplete_of_next hf hrun hclock hmore),
      fun hlast => next_congr (State.spanComplete_of_last hf hrun hclock hlast)⟩,
    fun s p i h => next_congr (State.spanComplete_discarded h),
    fun s p i k f hf hnull hrun hclock => ⟨fun hmore => next_congr (State.deckComplete_of_next hf hnull hrun hclock hmore),
      fun hlast hk => ?_, fun hlast hk => next_congr (State.deckComplete_of_behind hf hnull hlast hk)⟩,
    fun s p i k f hf hclock => ⟨fun hnull => next_congr (State.deckComplete_of_null hf hclock hnull),
      fun hnull hidle => next_congr (State.deckComplete_of_idle hf hnull hidle)⟩,
    fun s p i k h => next_congr (State.deckComplete_discarded h), fun s p i deck => ?_⟩
  · subst hk
    refine next_congr ((State.deckComplete_of_last hf hnull hrun hclock hlast).trans ?_)
    cases f.ownedAbr <;> rfl
  · refine ⟨fun h => next_congr (State.wakeComplete_discarded h), fun f fs h hd hf => next_congr ?_, fun h hd hf => next_congr ?_,
      fun k f h hd hk hf hfirst => next_congr ?_, fun h hd hnone => next_congr ?_⟩
    all_goals subst hd
    · rw [State.wakeComplete_of_span h]
      simp only [State.woken, hf]
    · rw [State.wakeComplete_of_span h]
      simp only [State.woken, hf]
    · rw [State.wakeComplete_of_deck h]
      simp only [State.woken, oldestUnbegun_of_first hk hf hfirst, hk]
    · rw [State.wakeComplete_of_deck h]
      simp only [State.woken, oldestUnbegun_of_none hnone]

end Sys2Proof.Claims
end

section
/-! The copy engines and the fast tier (07): the latch and the completion of a copy instruction, requests and refresh of the banks, the
patrol scrubber, Girder control and the guard objects. -/

namespace Sys2Proof.Machine
open Sys2Proof.Claims

/-! ## The latch of a copy instruction (07 R260) -/

theorem exec_localCopyRow : ∀ r ∈ localCopyRows, ∀ s p e, exec (r.2 p e) s = .next (s.copyIssue p e r.1) := by
  simp only [localCopyRows, List.forall_mem_cons, List.not_mem_nil, false_implies, implies_true, and_true]
  repeat' apply And.intro
  all_goals exact fun _ _ _ => rfl

/-- An instruction whose executions have run: in flight unless one of them faulted. -/
def State.pushIf (x : State × Option Flight) (p q : Nat) : State :=
  match x.2 with
  | some f => x.1.pushFlight p q f
  | none => x.1

section
variable {s : State} {p q w : Nat} {ops : List Held}

theorem State.copyLatch_of_null (hops : s.latchAll p (copyHandles w) = some ops) (hnest : nestOk (s.rawNest p (loopOf w)) (copyUsed (opOf w)) = true)
    (hnull : copyNull (opOf w) ops (parseNest (s.rawNest p (loopOf w))) = true) : s.copyLatch p q w = s.nullHead p q w := by
  simp [State.copyLatch, hops, hnest, hnull]

/-- The executions of a copy instruction, from its latch on. -/
def State.copyExecs (s : State) (p q w : Nat) (ops : List Held) : State × Option Flight :=
  let nest := parseNest (s.rawNest p (loopOf w))
  let g := s.guardCheck p q { s.newFlight p q w ops nest false with args := [s.reqIdent p q, 0] } ((List.range ops.length).drop 1)
  let t := if opOf w = 0x13 then g.1 else g.1.writeSnap p (ops.getD 0 Held.none) (ops.getD 1 Held.none)
  (t.advance p q w).copyAll p q g.2 nest.total 0

theorem State.copyLatch_of_work (hops : s.latchAll p (copyHandles w) = some ops) (hnest : nestOk (s.rawNest p (loopOf w)) (copyUsed (opOf w)) = true)
    (hnull : copyNull (opOf w) ops (parseNest (s.rawNest p (loopOf w))) = false) :
    s.copyLatch p q w = State.pushIf (s.copyExecs p q w ops) p q := by
  simp only [State.copyLatch, hops, hnest, hnull, Bool.not_true, Bool.false_eq_true, if_false]
  rfl

end

/-! ## COPY_COMPLETE (07 R252, R260) -/

section
variable {s : State} {p e : Nat} {f : Flight} {fs : List Flight}

theorem State.copyDone_of_empty (h : (s.queue p (64 + e)).flights = []) : s.copyDone p e = s := by
  simp [State.copyDone, h]

/-- The oldest is an RWRITE or PERMUTE, whose completion is the map's. -/
theorem State.copyDone_of_map (hf : (s.queue p (64 + e)).flights = f :: fs) (hop : opOf f.word = 0x28 ∨ opOf f.word = 0x29) :
    s.copyDone p e = s.mapDone p (64 + e) (f.args.getD 0 0) := by
  simp [State.copyDone, hf, hop]

theorem State.copyDone_of_local (hf : (s.queue p (64 + e)).flights = f :: fs) (hrwrite : opOf f.word ≠ 0x28) (hpermute : opOf f.word ≠ 0x29) :
    s.copyDone p e = if f.null then (s.setFlights p (64 + e) fs).finish p 3 f
      else if localCopy f.word && !s.asking (f.args.getD 0 0) && s.host.snoopWait.isEmpty then
        ((s.dropReqs (f.args.getD 0 0)).setFlights p (64 + e) fs).finish p 3 f
      else s := by
  simp [State.copyDone, State.copyComplete, hf, hrwrite, hpermute]

/-- The map's opcodes are not local. -/
theorem not_map_of_localCopy {w : Nat} (h : localCopy w = true) : opOf w ≠ 0x28 ∧ opOf w ≠ 0x29 := by
  simp only [localCopy, Bool.or_eq_true, decide_eq_true_eq] at h
  omega

end

/-! ## Requests and refresh (07 R231, R239) -/

section
variable {s : State} {p bank b : Nat}

theorem State.requestAdmit_of_refreshing (h : (s.pier p).refreshing.contains bank = true) : s.requestAdmit p bank b = s := if_pos h

theorem State.requestAdmit_of_none (href : (s.pier p).refreshing.contains bank = false) (h : s.chooseHeld p bank = none) :
    s.requestAdmit p bank b = (s.serveFirst p (fun q => q.bank = b)).issueOn p := by
  rw [State.requestAdmit, href]
  simp only [h, Bool.false_eq_true, if_false]

/-- The bank and its stack have room. -/
theorem State.requestAdmit_of_room {j : Nat} (href : (s.pier p).refreshing.contains bank = false) (h : s.chooseHeld p bank = some j)
    (hroom : s.mayAdmit p bank = true) : s.requestAdmit p bank b = (s.letIn p j).issueOn p := by
  rw [State.requestAdmit, href]
  simp only [h, hroom, Bool.not_true, Bool.false_eq_true, if_false, if_true]

/-- The served request makes room. -/
theorem State.requestAdmit_of_served {i j : Nat} (href : (s.pier p).refreshing.contains bank = false) (h : s.chooseHeld p bank = some i)
    (hfull : s.mayAdmit p bank = false) (hroom : (s.serveFirst p (fun q => q.bank = b)).mayAdmit p bank = true)
    (hnext : (s.serveFirst p (fun q => q.bank = b)).chooseHeld p bank = some j) :
    s.requestAdmit p bank b = ((s.serveFirst p (fun q => q.bank = b)).letIn p j).issueOn p := by
  rw [State.requestAdmit, href]
  simp only [h, hfull, hroom, hnext, Bool.not_true, Bool.false_eq_true, if_false]

theorem State.requestAdmit_of_full {i : Nat} (href : (s.pier p).refreshing.contains bank = false) (h : s.chooseHeld p bank = some i)
    (hfull : s.mayAdmit p bank = false) (hroom : (s.serveFirst p (fun q => q.bank = b)).mayAdmit p bank = false) :
    s.requestAdmit p bank b = s.serveFirst p (fun q => q.bank = b) := by
  rw [State.requestAdmit, href]
  simp only [h, hfull, hroom, Bool.not_false, Bool.false_eq_true, if_false, if_true]

theorem State.letIn_of_asker {j : Nat} {q : MemReq} (h : (s.pier p).reqs[j]? = some q) (hwho : q.who.ident ≠ 0) : s.letIn p j
    = (((s.modPier p (fun r => r.setStage j .admitted)).notePeak p (q.bank / 1024)).present 2 (p * 640 + q.bank / 16) q.who 1) := by
  simp [State.letIn, h, hwho]

/-- Only what a change makes of the Pier as it stands matters. -/
theorem State.modPier_congr {f g : Pier → Pier} (h : f (s.pier p) = g (s.pier p)) : s.modPier p f = s.modPier p g := by
  unfold State.modPier
  unfold State.pier at h
  split
  · next hp => rw [if_pos hp] at h; rw [h]
  · next hp => rw [if_neg hp] at h; rw [h]

end

/-! ## Errors that have arisen (07 R267 to R270) -/

/-- New errors of Girder lines touch the lines alone. -/
theorem State.newLines_frame (s : State) (p : Nat) (l : List (Nat × Nat)) :
    let t := l.foldl (fun s e => if (s.lineAt p e.1).valid then s.setLine p e.1 { s.lineAt p e.1 with flaw := e.2 } else s) s
    t.fab = s.fab ∧ t.errs = s.errs :=
  List.foldlRecOn (motive := fun t : State => t.fab = s.fab ∧ t.errs = s.errs) _ _ ⟨rfl, rfl⟩ fun t ht e _ => by
    dsimp only
    split
    · exact ⟨(State.modPier_fab t p _).trans ht.1, (State.modPier_errs t p _).trans ht.2⟩
    · exact ht

/-! ## Guard objects (07 R262) -/

section
variable {s : State} {r v : Nat}

theorem State.guardWrite_base (h : v % 2 ^ 21 = 0) (hin : v < fastSize) (hfits : s.guardFits r v (s.odv r 0x3021 2) = true) :
    (s.guardWrite r 1 v).2 = (s.setOd r 0x3021 1 v).bump32 r 0x3021 3 1 := by
  rw [State.guardWrite, if_neg (by simpa [hin] using h)]
  exact congrArg Prod.snd (if_pos hfits)

theorem State.guardWrite_base_refused (h : v % 2 ^ 21 ≠ 0 ∨ fastSize ≤ v ∨ s.guardFits r v (s.odv r 0x3021 2) = false) :
    (s.guardWrite r 1 v).2 = s := by
  unfold State.guardWrite
  split
  · rfl
  · next hrange =>
    have hin : v % 2 ^ 21 = 0 ∧ v < fastSize := by simpa using hrange
    have hfits := (h.resolve_left (not_not.mpr hin.1)).resolve_left (Nat.not_le.mpr hin.2)
    simp [hfits]

theorem State.guardWrite_size (h : v % 2 ^ 21 = 0) (hfits : s.guardFits r (s.odv r 0x3021 1) v = true) :
    (s.guardWrite r 2 v).2 = (s.setOd r 0x3021 2 v).bump32 r 0x3021 3 1 := by
  rw [State.guardWrite, if_neg (by simpa using h)]
  exact congrArg Prod.snd (if_pos hfits)

theorem State.guardWrite_size_refused (h : v % 2 ^ 21 ≠ 0 ∨ s.guardFits r (s.odv r 0x3021 1) v = false) : (s.guardWrite r 2 v).2 = s := by
  unfold State.guardWrite
  split
  · rfl
  · next hrange =>
    have hfits := h.resolve_left (not_not.mpr (by simpa using hrange))
    simp [hfits]

end

end Sys2Proof.Machine

namespace Sys2Proof.Claims
open Sys2Proof.Machine

/-- Settles O11: the latch by whether there is an element to copy, the completion by the oldest instruction of the engine. -/
theorem copyInstructionsLatch : Obligations.CopyInstructionsLatch := by
  refine ⟨fun r hr s p e ops hlatches hops hnest => ?_, fun s p e f fs hf => ⟨fun hnull hrw hpm => ?_, fun hnull hloc hask hsn => ?_,
      fun hnull hloc hwait => ?_⟩, fun s p e f fs hf => ⟨fun hop => next_congr (State.copyDone_of_map hf hop), fun hnull hloc hrw hpm => ?_⟩,
    fun s p e h => next_congr (State.copyDone_of_empty h)⟩
  · have hop : opOf (s.headWord p (64 + e)) = r.1 := hlatches.2.2.2.2
    rw [← hop] at hnest
    rw [exec_localCopyRow r hr, State.copyIssue, State.issue_of_latches hlatches, ← hop]
    refine ⟨fun hnull => next_congr (State.copyLatch_of_null hops hnest hnull), fun hnull => ?_⟩
    rw [State.copyLatch_of_work hops hnest hnull]
    refine ⟨fun f hf => next_congr ?_, fun hf => next_congr ?_⟩
    all_goals
      rw [State.pushIf, show (State.copyExecs _ p (64 + e) _ ops).2 = _ from hf]
      rfl
  · exact next_congr ((State.copyDone_of_local hf hrw hpm).trans (if_pos hnull))
  · obtain ⟨hrw, hpm⟩ := not_map_of_localCopy hloc
    refine next_congr ((State.copyDone_of_local hf hrw hpm).trans ?_)
    simp only [hnull, hloc, hask, hsn, Bool.not_false, Bool.true_and, List.isEmpty_nil, Bool.false_eq_true, if_false, if_true]
  · obtain ⟨hrw, hpm⟩ := not_map_of_localCopy hloc
    refine next_congr ((State.copyDone_of_local hf hrw hpm).trans ?_)
    rcases hwait with hask | hsn
    · simp only [hnull, hask, Bool.not_true, Bool.and_false, Bool.false_and, Bool.false_eq_true, if_false]
    · simp [hnull, hsn]
  · refine next_congr ((State.copyDone_of_local hf hrw hpm).trans ?_)
    simp [hnull, hloc]

/-- Settles O13: a write of a guard object that fits, or is refused. -/
theorem guardWritesChecked : Obligations.GuardWritesChecked :=
  fun _ _ _ => ⟨fun h hin hfits => next_congr (State.guardWrite_base h hin hfits), fun h => next_congr (State.guardWrite_base_refused h),
    fun h hfits => next_congr (State.guardWrite_size h hfits), fun h => next_congr (State.guardWrite_size_refused h)⟩

end Sys2Proof.Claims
end

/-! # The fast tier, and the arbiters

The patrol is its own run (07 R267), and the errors that have arisen go where they name. An arbiter's rows change that arbiter and
the counts of Table 8-6. -/

section

namespace Sys2Proof.Machine

/-! ## The patrol, and a bank's refresh (07 R239, R267) -/

/-- The patrol on a clock that has moved on, its marks of more than 24 hours ago gone. -/
theorem exec_scrubPass (s : State) (p : Nat) (x : FreshErrors) (hours : Nat) :
    let u := { s with hours := s.hours + hours,
                      ceMarks := s.ceMarks.filter (fun m => decide (s.hours + hours + 1 ≤ m.2 + 24)) }
    let met := (u.errs.filter (fun m => decide (pspace (m.1 * 128) = spFast p))).foldl (fun (t : State) (m : Nat × CellErr) =>
      t.meetGranule p (poff (m.1 * 128)) ffPattern (t.findLine p (poff (m.1 * 128))).isSome) u
    let t := (List.range 10).foldl (fun t k => t.bump32 (p * 16 + k) 0x3011 5 1) met
    exec (.scrubPass p x hours) s = .next (t.newErrors p x) := by
  show execScrubPass p x hours s = _
  rfl

/-- The errors of Girder lines come first, and change neither the buffer's nor the cells'. -/
theorem State.newErrors_stored (t : State) (p : Nat) (x : FreshErrors) : (t.newErrors p x).fab.bufBad = (t.fab.bufBad ++ x.buffer).eraseDups
    ∧ (t.newErrors p x).errs = x.slow.foldl (fun (e : Tab CellErr) (y : Nat × CellErr) => Tab.set CellErr.none e (pkey spSlow (y.1 * 256) / 128) y.2)
        (x.fast.foldl (fun (e : Tab CellErr) (y : Nat × CellErr) => Tab.set CellErr.none e (pkey (spFast p) (y.1 * 128) / 128) y.2) t.errs) := by
  obtain ⟨hfab, herrs⟩ := State.newLines_frame _ p x.lines
  exact ⟨congrArg Fab.bufBad hfab, herrs⟩

theorem exec_bankRefresh (s : State) (p bank : Nat) :
    let others := (s.pier p).refreshing.filter (fun b => !decide (b = bank))
    exec (.bankRefresh p bank true) s = .next (s.modPier p (fun r => { r with refreshing := others ++ [bank] }))
    ∧ exec (.bankRefresh p bank false) s = .next (s.modPier p (fun r => { r with refreshing := others })) :=
  ⟨next_congr (State.modPier_congr rfl), next_congr (State.modPier_congr rfl)⟩

end Sys2Proof.Machine

namespace Sys2Proof.Claims
open Sys2Proof.Machine

/-- Settles O12: an admission by the room that there is, the refresh of one bank, and the patrol, whose new errors of lines leave
those of cells (`State.newErrors_stored`). -/
theorem fastTierCommands : Obligations.FastTierCommands := by
  refine ⟨fun s p bank b href => ⟨fun h => next_congr (State.requestAdmit_of_none href h),
      fun j h hroom => next_congr (State.requestAdmit_of_room href h hroom),
      fun i j h hfull hroom hnext => next_congr (State.requestAdmit_of_served href h hfull hroom hnext),
      fun i h hfull hroom => next_congr (State.requestAdmit_of_full href h hfull hroom)⟩,
    fun s p bank b href => next_congr (State.requestAdmit_of_refreshing href),
    fun s p j q h hwho => State.letIn_of_asker h hwho,
    exec_bankRefresh, ?_, fun s p => ⟨rfl, rfl⟩⟩
  intro s p x hours u met t
  exact ⟨exec_scrubPass s p x hours, State.newErrors_stored t p x⟩

end Sys2Proof.Claims
end

/-! # The arbiters

An arbiter's rows change that arbiter, and the counts and records of Table 8-6 and R290. -/

section

namespace Sys2Proof.Machine

section
variable {s : State} {c n cycles beats : Nat}

/-! ## A request (08 R272, R277) -/

/-- The requester does not exist, or the length is out of range. -/
theorem State.arbRequest_refused {origin input len : Nat} (h : arbInstances c ≤ n ∨ originOk origin = false
    ∨ (s.comingLen c n origin input len).1 = 0 ∨ 4096 < (s.comingLen c n origin input len).1) :
    s.arbRequest c n cycles beats origin input len = s := by
  refine if_neg fun hok => ?_
  simp only [Bool.and_eq_true, decide_eq_true_eq] at hok
  obtain ⟨⟨⟨hinst, horigin⟩, hpos⟩, hmax⟩ := hok
  rcases h with h | h | h | h
  · omega
  · simp [horigin] at h
  · omega
  · omega

/-! ## A grant (08 R273 to R276, R294 to R297) -/

/-- The chosen request after the cycles that pass before it is granted. -/
def Pick.aged (cycles : Nat) : Pick → Pick
  | .fresh r => .fresh { r with wait := r.wait + cycles }
  | .resume r => .resume { r with wait := r.wait + cycles }

theorem State.arbGrant_of_idle {w : Pick} (howner : (s.arbInst c n).owner = none) (hw : s.arbSelect (s.arbInst c n) = some w) :
    s.arbGrant c n cycles beats = (s.arbElapse c n cycles 0).arbTake c n (w.aged cycles) := by
  cases w <;> simp only [State.arbGrant, howner, hw, Pick.aged]

/-- The owner is suspended, both are counted, and the chosen request begins. -/
theorem State.arbGrant_of_preempts {o x : ArbReq} {w : Pick} (howner : (s.arbInst c n).owner = some o)
    (hw : s.arbSelect (s.arbInst c n) = some w) (hmay : s.mayPreempt (s.arbInst c n) o w beats = true) (hdue : o.overdue cycles = false)
    (hx : ((s.arbElapse c n cycles beats).arbInst c n).owner = some x) :
    let u := s.arbElapse c n cycles beats
    s.arbGrant c n cycles beats = (((u.setArbInst c n { u.arbInst c n with
        owner := none, suspended := { x with preempted := x.preempted + 1 } :: (u.arbInst c n).suspended }).ledger
          c w.req.origin 6 1).ledger c o.origin 7 1).arbTake c n (w.aged cycles) := by
  cases w <;> simp only [State.arbGrant, howner, hw, hmay, hdue, hx, Pick.aged, Bool.not_false, Bool.and_true, if_true]

theorem State.arbGrant_of_held {o : ArbReq} {w : Pick} (howner : (s.arbInst c n).owner = some o)
    (hw : s.arbSelect (s.arbInst c n) = some w) (h : s.mayPreempt (s.arbInst c n) o w beats = false ∨ o.overdue cycles = true) :
    s.arbGrant c n cycles beats = s := by
  simp only [State.arbGrant, howner, hw]
  refine if_neg ?_
  rcases h with h | h <;> simp [h]

theorem State.arbGrant_of_none (h : s.arbSelect (s.arbInst c n) = none) : s.arbGrant c n cycles beats = s := by
  rw [State.arbGrant, h]
  cases (s.arbInst c n).owner <;> rfl

@[simp] theorem State.ledger_arbInst (s : State) (c o sub k d n : Nat) : (s.ledger c o sub k).arbInst d n = s.arbInst d n := rfl

/-- An arbiter with an owner is listed as it is. -/
theorem State.setArbInst_arbInst {v : ArbInst} {r : ArbReq} (h : v.owner = some r) : (s.setArbInst c n v).arbInst c n = v :=
  Tab.get_set_self _ _ fun hz => by simp [hz, ArbInst.zero] at h

@[simp] theorem ArbInst.maskQuota_owner (a : ArbInst) (o : Nat) : (a.maskQuota o).owner = a.owner := rfl

theorem State.arbGrantNew_owner (s : State) (c n : Nat) (r : ArbReq) : ((s.arbGrantNew c n r).arbInst c n).owner = some { r with
    burst := 0, hold := 0, preempted := 0, wait := 0, limit := s.arbOd c 1, holdLimit := s.arbOd c 2,
    bascule := if s.arbOd c 9 = 1 then s.arbOd c 10 else 0 } := by
  unfold State.arbGrantNew
  extract_lets a g full b
  have howner : (if full = true then b.maskQuota r.origin else b).owner = b.owner := by
    split
    · exact ArbInst.maskQuota_owner b r.origin
    · rfl
  rw [State.ledger_arbInst, State.setArbInst_arbInst howner]
  exact howner

theorem State.arbResume_owner (s : State) (c n : Nat) (r : ArbReq) :
    ((s.arbResume c n r).arbInst c n).owner = some { r with wait := 0 } := by
  unfold State.arbResume
  rw [State.setArbInst_arbInst rfl]

/-! ## The end of a grant (08 R279, R291, R292) -/

theorem State.arbEnd_of_idle (h : (s.arbInst c n).owner = none) : s.arbEnd c n cycles beats = s := by
  simp only [State.arbEnd, h]

theorem State.arbEnd_of_overdue {o : ArbReq} (h : (s.arbInst c n).owner = some o) (hdue : o.overdue cycles = true) :
    s.arbEnd c n cycles beats = s := by
  simp only [State.arbEnd, h, hdue, if_true]

theorem State.arbEnd_of_owned {o x : ArbReq} (h : (s.arbInst c n).owner = some o) (hdue : o.overdue cycles = false)
    (hx : ((s.arbElapse c n cycles (min beats o.left)).arbInst c n).owner = some x) :
    let t := s.arbElapse c n cycles (min beats o.left)
    s.arbEnd c n cycles beats = if x.len ≤ x.moved then (t.setArbInst c n { t.arbInst c n with owner := none }).channelServed c n x.origin
      else t.setArbInst c n { t.arbInst c n with
        owner := none, cands := (t.arbInst c n).cands ++ [{ x with burst := 0, hold := 0, preempted := 0, wait := 0 }] } := by
  simp only [State.arbEnd, h, hdue, hx, Bool.false_eq_true, if_false]

theorem State.arbCutoff_of_idle (h : (s.arbInst c n).owner = none) : s.arbCutoff c n cycles beats = s := by
  simp only [State.arbCutoff, h]

/-- The limit is not reached, or the grant has ended by itself. -/
theorem State.arbCutoff_of_early {o : ArbReq} (h : (s.arbInst c n).owner = some o)
    (hearly : o.hold + cycles < o.holdLimit ∨ o.left ≤ min beats cycles) : s.arbCutoff c n cycles beats = s := by
  simp only [State.arbCutoff, h]
  exact if_pos (by simpa using hearly)

theorem State.arbCutoff_of_due {o x : ArbReq} (h : (s.arbInst c n).owner = some o) (hdue : o.holdLimit ≤ o.hold + cycles)
    (hleft : min beats cycles < o.left) (hx : ((s.arbElapse c n cycles beats).arbInst c n).owner = some x) :
    let t := s.arbElapse c n cycles beats
    let u := (t.setArbInst c n { t.arbInst c n with
      owner := none, cands := (t.arbInst c n).cands ++ [{ x with burst := 0, hold := 0, preempted := 0, wait := 0 }],
      cutMask := if (t.arbInst c n).cutMask.contains x.origin then (t.arbInst c n).cutMask else (t.arbInst c n).cutMask ++ [x.origin],
      wasMasked := if (t.arbInst c n).wasMasked.contains x.origin then (t.arbInst c n).wasMasked
        else (t.arbInst c n).wasMasked ++ [x.origin] }).bump32 (ledgerInst c x.origin) 0x3831 8 1
    s.arbCutoff c n cycles beats = if u.isFirst 5 (ledgerInst c x.origin) then
      (u.setOnce 5 (ledgerInst c x.origin)).arbEvent c 2 x.origin n x.moved else u := by
  have hnot : (decide (o.hold + cycles < o.holdLimit) || decide (o.left ≤ min beats cycles)) = false := by
    simp only [Bool.or_eq_false_iff, decide_eq_false_iff_not]; omega
  simp only [State.arbCutoff, h, hnot, hx, Bool.false_eq_true, if_false]

end

/-- The adaptation of one originator's quota (08 R287 to R289). -/
theorem State.adaptOne_eq (s : State) (c o : Nat) (starved : Bool) :
    let q := s.quotaOf c o
    let want : Int :=
      if starved = true ∧ 0 < Tab.get 0 s.arb.filled (arbKey c o) then (q : Int) - s.arbOd c 6
      else if starved = false ∧ 0 < Tab.get 0 s.arb.maskedPending (arbKey c o) then (q : Int) + s.arbOd c 6
      else q
    let new : Nat := (min (max want (s.arbOd c 4 : Int)) (s.arbOd c 5 : Int)).toNat
    let u := if (new : Int) = want then s else s.bump32 0 0x3841 (c + 1) 1
    let v := if new = q then u else (u.bump32 0 0x3840 (c + 1) 1).arbEvent c 1 o q new
    s.adaptOne c starved o = { v with arb := { v.arb with
      quota := Tab.set 0 v.arb.quota (arbKey c o) new, oldQuota := Tab.set 0 v.arb.oldQuota (arbKey c o) q,
      filled := Tab.set 0 v.arb.filled (arbKey c o) 0, maskedPending := Tab.set 0 v.arb.maskedPending (arbKey c o) 0 } } := by
  simp only [State.adaptOne, Bool.and_eq_true, decide_eq_true_eq, Bool.not_eq_true']

end Sys2Proof.Machine

namespace Sys2Proof.Claims
open Sys2Proof.Machine

/-- Settles O14: a request by its length, a grant by the owner and the selection, an end and a cut-off by the owner's limits, and the
window, the adaptation and the ledger as they are. -/
theorem arbiterCommands : Obligations.ArbiterCommands := by
  refine ⟨fun s c n cycles beats origin input len => ⟨fun hinst horigin hpos hmax => next_congr (if_pos ?_),
      fun h => next_congr (State.arbRequest_refused h)⟩,
    fun s c n cycles beats r => ⟨fun howner hw => next_congr (State.arbGrant_of_idle howner hw),
      fun howner hw => next_congr (State.arbGrant_of_idle howner hw),
      fun o w howner hw hmay hdue x hx => ⟨fun hfresh => ?_, fun hresume => ?_⟩,
      fun o w howner hw h => next_congr (State.arbGrant_of_held howner hw h), fun h => next_congr (State.arbGrant_of_none h),
      State.arbGrantNew_owner s c n r, State.arbResume_owner s c n r⟩,
    fun s c n cycles beats => ⟨fun h => ⟨next_congr (State.arbEnd_of_idle h), next_congr (State.arbCutoff_of_idle h)⟩,
      fun o h hdue => next_congr (State.arbEnd_of_overdue h hdue),
      fun o x h hdue hx => ⟨fun hend => next_congr ((State.arbEnd_of_owned h hdue hx).trans (if_pos hend)),
        fun hmore => next_congr ((State.arbEnd_of_owned h hdue hx).trans (if_neg (Nat.not_le.mpr hmore)))⟩,
      fun o h hearly => next_congr (State.arbCutoff_of_early h hearly),
      fun o x h hdue hleft hx => next_congr (State.arbCutoff_of_due h hdue hleft hx)⟩,
    fun s c n => rfl, fun s c => rfl, State.adaptOne_eq, fun s => rfl⟩
  · simp [hinst, horigin, hpos, hmax]
  · subst hfresh
    exact next_congr (State.arbGrant_of_preempts howner hw hmay hdue hx)
  · subst hresume
    exact next_congr (State.arbGrant_of_preempts howner hw hmay hdue hx)

end Sys2Proof.Claims
end

section
/-! # The Trestle's rows latch

What the head of queue 80 does once it issues (09, 10): its operands latch, its layer entry and extension are read, its checks pass
or name the operand at fault. -/

namespace Sys2Proof.Machine
open Sys2Proof.Claims

section
variable {s : State} {p w : Nat}

/-! ## Operands, layer entry and extension -/

theorem State.withOps_of_latched {hs : List Nat} {own : Nat} {go : List Held → State} {ops : List Held} (h : s.latchAll p hs = some ops) :
    s.withOps p hs own go = go ops := by
  simp only [State.withOps, h]

/-- The layer entry is not in use. -/
theorem State.withLayer_of_unused {go : State → Layer → State} (h : s.lteUsed p (trLte w) = false) :
    s.withLayer p w go = s.trFault p w 7 0 := by
  simp only [State.withLayer, h, Bool.not_false, if_true]

theorem State.withLayer_of_layer {go : State → Layer → State} {l : Layer} (h : LayerAt s p w l) :
    s.withLayer p w go = go (s.readLayer p w) l := by
  obtain ⟨hused, hok, hl⟩ := h
  simp only [State.withLayer, hused, hok, hl, Bool.not_true, Bool.false_eq_true, if_false]

theorem State.withExt_of_unused {go : State → Layer → BwdExt → State} (h : s.lteUsed p (trLte w) = false) :
    s.withExt p w go = s.trFault p w 7 0 :=
  State.withLayer_of_unused h

theorem State.withExt_of_ext {go : State → Layer → BwdExt → State} {l : Layer} {x : BwdExt} (h : ExtAt s p w l x) :
    s.withExt p w go = go (readExt s p w) l x := by
  obtain ⟨hlayer, hok, hx⟩ := h
  rw [State.withExt, State.withLayer_of_layer hlayer]
  exact (if_pos hok).trans (congrArg (go (readExt s p w) l) hx)

/-! ## Live entries: GOPEN and GCANCEL (09 R307, R326) -/

section
variable {ops : List Held} (hops : s.latchAll p [trH0 w, trH1 w] = some ops)
include hops

theorem State.gopen_of_quiet (h : (s.liveAt p (trLive w)).st = .quiet) : s.gopen p w = s := by
  simp only [State.gopen, hops, h, if_true]

theorem State.gopen_of_unfit {k : Nat} (h : (s.liveAt p (trLive w)).st ≠ .quiet)
    (hk : gopenFault p (ops.getD 0 Held.none).d (ops.getD 1 Held.none).d = some k) :
    s.gopen p w = s.trFault p w k (if k = 0 then (ops.getD 0 Held.none).d.base else (ops.getD 1 Held.none).d.base) := by
  simp only [State.gopen, hops, h, hk, if_false]

theorem State.gopen_of_live (h : (s.liveAt p (trLive w)).st = .live)
    (hfit : gopenFault p (ops.getD 0 Held.none).d (ops.getD 1 Held.none).d = none) : s.gopen p w = s.trFault p w 7 0 := by
  simp only [State.gopen, hops, h, hfit, if_true, reduceCtorEq, if_false]

theorem State.gopen_of_free (h : (s.liveAt p (trLive w)).st = .free)
    (hfit : gopenFault p (ops.getD 0 Held.none).d (ops.getD 1 Held.none).d = none) :
    s.gopen p w = (s.setLive p (trLive w) { LiveEntry.zero with
      st := .live, gen := bits 47 36 w, hc := (ops.getD 0 Held.none).d, hr := (ops.getD 1 Held.none).d }).nullHead p 80 w := by
  simp only [State.gopen, hops, h, hfit, reduceCtorEq, if_false]

end

theorem State.gcancel_of_not_live (h : (s.liveAt p (trLive w)).st ≠ .live) : s.gcancel p w = s.nullHead p 80 w := if_neg h

theorem State.gcancel_of_live (h : (s.liveAt p (trLive w)).st = .live) :
    s.gcancel p w = if (s.liveAt p (trLive w)).backward then
        (((s.nullHead p 80 w).quiet p (trLive w)).bump32 0 (0x5050 + p) 8 1).markFaulted
      else (s.nullHead p 80 w).quiet p (trLive w) :=
  if_pos h

/-! ## ROUTE and GSEND (09 R309 to R316, 10 R341) -/

theorem State.route_of_layer {ops : List Held} {l : Layer} (hops : s.latchAll p [trH0 w, trH1 w] = some ops) (hl : LayerAt s p w l) :
    let v := (s.readLayer p w).readMap p l
    (((List.range l.e).map (v.mapEntry p l)).any fun m => decide (m / 2 ^ 28 ≠ 0)) = false →
    s.route p w = match v.routeFault p w l ops with
      | some k => v.trFaultAt p w k ops
      | none => v.routeRun p w l ops := by
  intro v hmap
  rw [State.route, State.withOps_of_latched hops, State.withLayer_of_layer hl]
  exact if_neg (by rw [hmap]; exact Bool.false_ne_true)

/-- The state of GSEND once its live entry's routes and the layer's map have been read. -/
def State.gsendRead (s : State) (p w : Nat) (l : Layer) (n : Nat) : State :=
  let a := readExt s p w
  if (a.liveAt p (trLive w)).st = .live then
    (a.readRoute p (Asker.trestle p) (a.liveAt p (trLive w)).hr (n * l.k)).readTable p l.mapBase (8 * l.e)
  else a

theorem State.gsend_of_ext {ops : List Held} {l : Layer} {x : BwdExt} (hops : s.latchAll p [trH0 w, trH1 w] = some ops)
    (hx : ExtAt s p w l x) :
    let n := (ops.getD 0 Held.none).d.extent 1
    let v := s.gsendRead p w l n
    ((v.liveAt p (trLive w)).st = .live → v.gsendMapBad p w l n = false) →
    s.gsend p w = match v.gsendFault p w l x ops with
      | some k => v.trFaultAt p w k ops
      | none => v.gsendRun p w l x ops := by
  intro n v hmap
  rw [State.gsend, State.withOps_of_latched hops, State.withExt_of_ext hx]
  refine if_neg fun hbad => ?_
  simp only [Bool.and_eq_true, decide_eq_true_eq] at hbad
  exact Bool.false_ne_true ((hmap hbad.1).symm.trans hbad.2)

/-! ## INBOX and GINBOX (09 R317 to R320, 10 R345) -/

theorem State.inboxLatch_of_slots {l : Layer} {ext base : Nat} {idx : List Held} :
    let v := s.readTable p base (64 * l.nslot)
    let slots := (List.range l.nslot).map (v.rawSlot p base)
    SlotsAt v p l slots idx → s.inboxLatch p w l ext base = inboxLatched v p w ext slots idx := by
  rintro v slots ⟨hslots, hlatch, hidx, hpatch⟩
  rw [State.inboxLatch, if_neg (by rw [hslots]; exact Bool.false_ne_true), State.withOps_of_latched hlatch]
  simp only [hidx]
  exact if_neg (by rw [hpatch]; exact Bool.false_ne_true)

/-! ## ANSWER and GANSWER (09 R321, 10 R346) -/

theorem State.answer_of_slot {l : Layer} {hs idx : Held} (hl : LayerAt s p w l) (hslot : trSlot w < l.nslot) :
    let v := (s.readLayer p w).readTable p (l.slotBase + 64 * trSlot w) 64
    let r := v.rawSlot p l.slotBase (trSlot w)
    slotOk r = true → v.latchAll p [trH0 w, slotIdx r] = some [hs, idx] → idxOk p l idx.d = true →
    (hs.d.fmt = 5 ∨ hs.d.fmt = 6) → hs.d.extent 0 = l.h → idx.d.extent 0 ≤ hs.d.extent 1 → hs.d.flat2 = true →
    badPlace p hs = false →
    s.answer p w = if idx.d.extent 0 = 0 then v.trNull p w else v.answerRun p w l (slotNo r) (idx.d.extent 0) [hs, idx] := by
  intro v r hok hlatch hidx hfmt hh hn hflat hplace
  have hsfit : (!((hs.d.fmt = 5 || hs.d.fmt = 6) && decide (hs.d.extent 0 = l.h) && decide (idx.d.extent 0 ≤ hs.d.extent 1)
      && hs.d.flat2) || badPlace p hs) = false := by
    simpa [hh, hn, hflat, hplace, or_iff_not_imp_left] using hfmt
  rw [State.answer, State.withLayer_of_layer hl]
  simp only [Nat.not_le.mpr hslot, if_false]
  rw [if_neg (by rw [hok]; exact Bool.false_ne_true), State.withOps_of_latched hlatch]
  simp only [List.getD_cons_zero, List.getD_cons_succ, hidx, hsfit, Bool.not_true, Bool.false_eq_true, if_false]
  rfl

theorem State.ganswer_of_slot {l : Layer} {x : BwdExt} {hs hp idx : Held} (hx : ExtAt s p w l x) (hslot : trSlot w < l.nslot)
    (hbank : trGbank w < x.banks) :
    let v := (readExt s p w).readTable p (x.slotBase + 64 * trSlot w) 64
    let r := v.rawSlot p x.slotBase (trSlot w)
    slotOk r = true → v.latchAll p [trH0 w, trH1 w, slotIdx r] = some [hs, hp, idx] → idx.d.fmt = 9 →
    hs.d.fmt = x.dxFmt → hs.d.extent 0 = l.h → idx.d.extent 0 ≤ hs.d.extent 1 → hs.d.flat2 = true → badPlace p hs = false →
    hp.d.fmt = 6 → idx.d.extent 0 ≤ hp.d.count → badPlace p hp = false →
    s.ganswer p w = if idx.d.extent 0 = 0 then v.trNull p w
      else v.ganswerRun p w l x (slotNo r) (idx.d.extent 0) [hs, hp, idx] := by
  intro v r hok hlatch hfmt hsfmt hh hn hflat hplace hpfmt hpn hpplace
  have hin : (decide (l.nslot ≤ trSlot w) || decide (x.banks ≤ trGbank w)) = false := by
    simp [hslot, hbank]
  have hsfit : (!(decide (hs.d.fmt = x.dxFmt) && decide (hs.d.extent 0 = l.h) && decide (idx.d.extent 0 ≤ hs.d.extent 1)
      && hs.d.flat2) || badPlace p hs) = false := by
    simp [hsfmt, hh, hn, hflat, hplace]
  have hpfit : (!(decide (hp.d.fmt = 6) && decide (idx.d.extent 0 ≤ hp.d.count)) || badPlace p hp) = false := by
    simp [hpfmt, hpn, hpplace]
  rw [State.ganswer, State.withExt_of_ext hx, if_neg (by rw [hin]; exact Bool.false_ne_true),
    if_neg (by rw [hok]; exact Bool.false_ne_true), State.withOps_of_latched hlatch]
  simp only [List.getD_cons_zero, List.getD_cons_succ, hfmt, hsfit, hpfit, ne_eq, not_true_eq_false, Bool.false_eq_true, if_false]
  rfl

/-! ## CEXPORT and GGRAD (09 R324, 10 R349) -/

section
variable {hd : Held} (hops : s.latchAll p [trH0 w] = some [hd]) (hfmt : hd.d.fmt = 6 ∨ hd.d.fmt = 7 ∨ hd.d.fmt = 8)
  (hplace : badPlace p hd = false)
include hops hfmt hplace

theorem State.cexport_of_not_live (h : (s.liveAt p (trLive w)).st ≠ .live) : s.cexport p w = s.trNull p w := by
  rw [State.cexport, State.withOps_of_latched hops]
  simp only [List.getD_cons_zero]
  rw [if_neg (by simpa [h, hplace, or_iff_not_imp_left] using hfmt), if_pos h]

theorem State.cexport_of_live (h : (s.liveAt p (trLive w)).st = .live)
    (hx : hd.d.extent 0 = (s.liveAt p (trLive w)).hc.extent 0) (hy : hd.d.extent 1 = (s.liveAt p (trLive w)).hc.extent 1)
    (hflat : hd.d.flat2 = true) : s.cexport p w = (s.advance p 80 w).pushFlight p 80
      { s.newFlight p 80 w [hd] Nest.one false with args := [s.reqIdent p 80, (s.liveAt p (trLive w)).gen] } := by
  rw [State.cexport, State.withOps_of_latched hops]
  simp only [List.getD_cons_zero]
  rw [if_neg (by simpa [h, hplace, hx, hy, hflat, or_iff_not_imp_left] using hfmt), if_neg (not_not.mpr h)]

end

theorem State.ggrad_of_ext {l : Layer} {x : BwdExt} {hd hs : Held} (hops : s.latchAll p [trH0 w, trH1 w] = some [hd, hs])
    (hx : ExtAt s p w l x) :
    let v := readExt s p w
    let e := v.liveAt p (trLive w)
    let t := if e.st = .live then e.hc.extent 1 else hd.d.extent 1
    (∀ d ∈ [hd, hs], d.d.fmt = 6 ∧ d.d.extent 0 = l.e ∧ d.d.extent 1 = t ∧ d.d.flat2 = true ∧ badPlace p d = false) →
    s.ggrad p w = if e.st ≠ .live then v.trNull p w else if !e.backward then v.trFault p w 7 0 else
      let g := v.guardCheck p 80 { v.newFlight p 80 w [hd, hs] Nest.one false with
        args := [v.reqIdent p 80, e.gen, v.rawLayer p (trLte w)] } [1]
      (g.1.advance p 80 w).pushFlight p 80 g.2 := by
  intro v e t hfit
  have hok : ∀ d ∈ [hd, hs], (!(decide (d.d.fmt = 6) && decide (d.d.extent 0 = l.e) && decide (d.d.extent 1 = t) && d.d.flat2)
      || badPlace p d) = false := fun d hd => by
    obtain ⟨hfmt, he, ht, hflat, hplace⟩ := hfit d hd
    simp [hfmt, he, ht, hflat, hplace]
  rw [State.ggrad, State.withOps_of_latched hops, State.withExt_of_ext hx]
  refine (if_neg ?_).trans (if_neg ?_)
  · exact Bool.eq_false_iff.mp (hok hd (by simp))
  · exact Bool.eq_false_iff.mp (hok hs (by simp))

/-! ## WGSTART (10 R350) -/

theorem State.wgstart_of_ext {l : Layer} {x : BwdExt} (hx : ExtAt s p w l x)
    (hfits : ∀ k < l.nslot, x.wgBase + k * x.wgStride + x.areaSize ≤ fastSize) :
    let v := readExt s p w
    let a := (v.advance p 80 w).writesBy p { v.newFlight p 80 w [] Nest.one false with args := [v.reqIdent p 80] } 0
      ((List.range l.nslot).flatMap (fun k => wgStats p x k ++ [(pkey (spFast p) (x.visitBase + 16 * k), toBytes 16 0)]))
    let t := a.1.pushFlight p 80 a.2
    s.wgstart p w = t.workDone p 80 ((t.queue p 80).flights.length - 1) := by
  rw [State.wgstart, State.withExt_of_ext hx]
  refine if_neg fun hany => ?_
  obtain ⟨k, hk, hout⟩ := List.any_eq_true.mp hany
  exact Nat.not_lt.mpr (hfits k (List.mem_range.mp hk)) (of_decide_eq_true hout)

end

end Sys2Proof.Machine

namespace Sys2Proof.Claims
open Sys2Proof.Machine

/-- A Trestle row whose head latches does what it does on the state with the head fetched. -/
theorem next_trIssue {s t : State} {p op : Nat} {go : State → Nat → State} (h : Latches s p 80 op trOk)
    (ht : go (s.headFetch p 80) (s.headWord p 80) = t) : Host.Outcome.next (s.trIssue p op go) = (.next t : Host.Outcome State Fault Refusal) :=
  next_congr ((State.issue_of_latches h).trans ht)

/-- The inboxes of both Piers test their records. -/
abbrev testBoth (s : State) : State := (s.inboxTests 0).inboxTests 1

/-- Settles O15: each row by its operands, its layer entry and extension, and its checks. -/
theorem trestleLatches : Obligations.TrestleLatches := by
  intro s p w u i e null
  refine ⟨fun h => next_trIssue h rfl, fun hc hr h hops hfit hfree => next_trIssue h (State.gopen_of_free hops hfree hfit),
    fun ops h hops hquiet => ⟨fun k hk => next_trIssue h (State.gopen_of_unfit hops hquiet hk),
      fun hfit hlive => next_trIssue h (State.gopen_of_live hops hlive hfit)⟩,
    fun ops h hops hquiet => next_trIssue h (State.gopen_of_quiet hops hquiet),
    fun hunused => ⟨fun h => next_trIssue h (State.withLayer_of_unused hunused), fun h => next_trIssue h (State.withLayer_of_unused hunused),
      fun h => next_trIssue h (State.withExt_of_unused hunused), fun h => next_trIssue h (State.withExt_of_unused hunused),
      fun h => next_trIssue h (State.withExt_of_unused hunused), fun ops hops =>
        ⟨fun h => next_trIssue h (congrArg testBoth ((State.withOps_of_latched hops).trans (State.withLayer_of_unused hunused))),
          fun h => next_trIssue h (congrArg testBoth ((State.withOps_of_latched hops).trans (State.withExt_of_unused hunused))),
          fun h => next_trIssue h ((State.withOps_of_latched hops).trans (State.withExt_of_unused hunused))⟩⟩,
    fun h hlive => next_trIssue h (State.gcancel_of_not_live hlive),
    fun h hlive hback => next_trIssue h ((State.gcancel_of_live hlive).trans (if_neg (Bool.eq_false_iff.mp hback))),
    fun h hlive hback => next_trIssue h ((State.gcancel_of_live hlive).trans (if_pos hback)),
    fun ops l h hops hl hmap => ⟨fun hok => next_trIssue h (congrArg testBoth ?_), fun k hk => next_trIssue h (congrArg testBoth ?_)⟩,
    fun l idx h hl hslots => next_trIssue h ((State.withLayer_of_layer hl).trans (State.inboxLatch_of_slots hslots)),
    fun l hs idx h hl hslot hok hlatch hidx hfmt hh hn hflat hplace =>
      next_trIssue h (State.answer_of_slot hl hslot hok hlatch hidx hfmt hh hn hflat hplace),
    fun hd h hops hfmt hplace => ⟨fun hlive => next_trIssue h (State.cexport_of_not_live hops hfmt hplace hlive),
      fun hlive hx hy hflat => next_trIssue h (State.cexport_of_live hops hfmt hplace hlive hx hy hflat)⟩,
    fun ops l x h hops hx hmap => ⟨fun hok => next_trIssue h (congrArg testBoth ?_), fun k hk => next_trIssue h (congrArg testBoth ?_)⟩,
    fun l x idx h hx hslots => next_trIssue h ((State.withExt_of_ext hx).trans (State.inboxLatch_of_slots hslots)),
    fun l x hs hp idx h hx hslot hbank hok hlatch hfmt hsfmt hh hn hflat hplace hpfmt hpn hpplace => next_trIssue h
      (State.ganswer_of_slot hx hslot hbank hok hlatch hfmt hsfmt hh hn hflat hplace hpfmt hpn hpplace),
    fun l x hd hs h hops hx hfit => ⟨fun hlive => next_trIssue h ((State.ggrad_of_ext hops hx hfit).trans (if_pos hlive)),
      fun hlive hback => next_trIssue h ((State.ggrad_of_ext hops hx hfit).trans ((if_neg (not_not.mpr hlive)).trans (if_pos ?_))),
      fun hlive hback => next_trIssue h ((State.ggrad_of_ext hops hx hfit).trans ((if_neg (not_not.mpr hlive)).trans (if_neg ?_)))⟩,
    fun l x h hx hfits => next_trIssue h (State.wgstart_of_ext hx hfits)⟩
  · rw [State.route_of_layer hops hl hmap, hok]
  · rw [State.route_of_layer hops hl hmap, hk]
  · exact (State.gsend_of_ext hops hx hmap).trans (by rw [State.gsendRead]; exact hok ▸ rfl)
  · exact (State.gsend_of_ext hops hx hmap).trans (by rw [State.gsendRead]; exact hk ▸ rfl)
  · rw [hback]; rfl
  · rw [hback]; exact Bool.false_ne_true

end Sys2Proof.Claims
end

section
/-! # The Trestle's waits end

The rows that end an instruction of queue 80 once what it waits for is there (09 R313, R317, R324, 10 R344, R345, R349), and the
answers that arrive (09 R322). Each looks at one instruction in flight, of one opcode. -/

namespace Sys2Proof.Machine
open Sys2Proof.Claims

section
variable {s : State} {p k : Nat} {f : Flight} (hf : s.flight p 80 k = some f)
include hf

/-! ## ROUTE_COMPLETE and GSEND_COMPLETE -/

/-- The entry, once it is still the one that the instruction opened, knows how many answers it waits for. -/
def State.told (s : State) (p : Nat) (f : Flight) : State :=
  let i := trLive f.word
  let e := s.liveAt p i
  if e.st = .live ∧ e.gen = f.args.getD 1 0 then s.setLive p i { e with expected := f.args.getD 3 0, sent := true } else s

theorem State.routeComplete_of_visible (hnull : f.null = false) (hop : opOf f.word = 0x12) (hvis : s.allVisible (f.args.getD 0 0) = true) :
    let a := (s.told p f).addWords p f f.adds
    let t := a.1.putFlight p 80 k a.2
    s.routeComplete p k = ((((((t.bump64 0 (0x5010 + p) 1 1).bump64 0 (0x5010 + p) 2 (f.args.getD 2 0)).bump64 0 (0x5010 + p) 3
      (f.args.getD 3 0)).bump64 0 (0x5010 + p) 4 (f.args.getD 4 0)).bump64 0 (0x5010 + p) 5 (f.args.getD 5 0)).workDone p 80 k) := by
  simp only [State.routeComplete, State.told, hf, hnull, hop, hvis, Bool.not_true, ne_eq, not_true_eq_false, decide_false, Bool.or_self,
    Bool.false_eq_true, if_false, Bool.and_eq_true, decide_eq_true_eq]

theorem State.routeComplete_of_waiting (h : f.null = true ∨ opOf f.word ≠ 0x12 ∨ s.allVisible (f.args.getD 0 0) = false) :
    s.routeComplete p k = s := by
  simp only [State.routeComplete, hf]
  exact if_pos (by simpa [or_assoc] using h)

theorem State.gsendComplete_of_visible (hnull : f.null = false) (hop : opOf f.word = 0x30) (hvis : s.allVisible (f.args.getD 0 0) = true) :
    s.gsendComplete p k
      = (((s.told p f).bump64 0 (0x5050 + p) 1 1).bump64 0 (0x5050 + p) 2 (f.args.getD 3 0)).workDone p 80 k := by
  simp only [State.gsendComplete, State.told, hf, hnull, hop, hvis, Bool.not_true, ne_eq, not_true_eq_false, decide_false, Bool.or_self,
    Bool.false_eq_true, if_false, Bool.and_eq_true, decide_eq_true_eq]

theorem State.gsendComplete_of_waiting (h : f.null = true ∨ opOf f.word ≠ 0x30 ∨ s.allVisible (f.args.getD 0 0) = false) :
    s.gsendComplete p k = s := by
  simp only [State.gsendComplete, hf]
  exact if_pos (by simpa [or_assoc] using h)

/-! ## The inboxes -/

theorem State.inboxDone_of_other (h : f.null = true ∨ opOf f.word ≠ 0x13) : s.inboxDone p k = s := by
  simp only [State.inboxDone, hf]
  exact if_pos (by simpa using h)

theorem State.ginboxDone_of_other (h : f.null = true ∨ opOf f.word ≠ 0x31) : s.ginboxDone p k = s := by
  simp only [State.ginboxDone, hf]
  exact if_pos (by simpa using h)

/-- The lists are built already, and become visible. -/
theorem State.inboxDone_of_running (hnull : f.null = false) (hop : opOf f.word = 0x13) (hrun : f.running = true) :
    s.inboxDone p k = s.whenVisible p k := by
  simp [State.inboxDone, hf, hnull, hop, hrun]

theorem State.ginboxDone_of_running (hnull : f.null = false) (hop : opOf f.word = 0x31) (hrun : f.running = true) :
    s.ginboxDone p k = s.whenVisible p k := by
  simp [State.ginboxDone, hf, hnull, hop, hrun]

section
variable {g : Flight} (hnull : f.null = false) (hrun : f.running = false)
  (hg : ((s.readArrivals p (inboxJob f)).inboxTest p k).flight p 80 k = some g)
include hnull hrun hg

theorem State.inboxDone_of_tested (hop : opOf f.word = 0x13) :
    let j := inboxJob f
    let u := (s.readArrivals p j).inboxTest p k
    let r := (j.slots.zip j.idx).foldl (fun (a : State × Flight) x =>
      let o := a.1.inboxSlot p a.2 j x.1 x.2
      o.1.addWords p o.2.1 [(pkey (spFast p) (j.l.loadBase + 32 * slotExpert x.1 + 16), o.2.2)]) (u, g)
    s.inboxDone p k = if !u.inboxReady p j then u else (r.1.putFlight p 80 k r.2.wrote).whenVisible p k := by
  simp only [State.inboxDone, hf, hnull, hop, hrun, hg, Option.getD_some, ne_eq, not_true_eq_false, decide_false, Bool.or_self,
    Bool.false_eq_true, if_false]

theorem State.ginboxDone_of_tested (hop : opOf f.word = 0x31) :
    let j := inboxJob f
    let u := (s.readArrivals p j).inboxTest p k
    let r := ((List.range j.slots.length).zip (j.slots.zip j.idx)).foldl (fun (a : State × Flight) y =>
      let o := a.1.inboxSlot p a.2 j y.2.1 y.2.2
      o.1.visit p o.2.1 (parseExt (f.args.getD 3 0)) y.1 o.2.2) (u, g)
    s.ginboxDone p k = if !u.inboxReady p j then u else (r.1.putFlight p 80 k r.2.wrote).whenVisible p k := by
  simp only [State.ginboxDone, hf, hnull, hop, hrun, hg, Option.getD_some, ne_eq, not_true_eq_false, decide_false, Bool.or_self,
    Bool.false_eq_true, if_false]

end

/-! ## CEXPORT_READY and GGRAD_READY -/

theorem State.cexportReady_of_other (h : f.null = true ∨ opOf f.word ≠ 0x15) : s.cexportReady p k = s := by
  simp only [State.cexportReady, hf]
  exact if_pos (by simpa using h)

theorem State.ggradReady_of_other (h : f.null = true ∨ opOf f.word ≠ 0x33) : s.ggradReady p k = s := by
  simp only [State.ggradReady, hf]
  exact if_pos (by simpa using h)

theorem State.cexportReady_of_running (hnull : f.null = false) (hop : opOf f.word = 0x15) (hrun : f.running = true) :
    s.cexportReady p k = s.whenVisible p k := by
  simp [State.cexportReady, hf, hnull, hop, hrun]

theorem State.ggradReady_of_running (hnull : f.null = false) (hop : opOf f.word = 0x33) (hrun : f.running = true) :
    s.ggradReady p k = s.ggradDone p k (trLive f.word) := by
  simp [State.ggradReady, hf, hnull, hop, hrun]

section
variable (hrun : f.running = false)
include hrun

/-- The entry is not live, or not every answer has arrived. -/
theorem State.cexportReady_of_waiting (h : (s.liveAt p (trLive f.word)).st ≠ .live ∨ (s.liveAt p (trLive f.word)).sent = false
    ∨ (s.liveAt p (trLive f.word)).arrived ≠ (s.liveAt p (trLive f.word)).expected) : s.cexportReady p k = s := by
  simp only [State.cexportReady, hf, hrun]
  refine ite_eq_left_iff.mpr fun _ => (if_neg Bool.false_ne_true).trans (if_pos ?_)
  simpa [or_iff_not_imp_left] using h

theorem State.ggradReady_of_waiting (h : (s.liveAt p (trLive f.word)).st ≠ .live ∨ (s.liveAt p (trLive f.word)).sent = false
    ∨ (s.liveAt p (trLive f.word)).arrived ≠ (s.liveAt p (trLive f.word)).expected) : s.ggradReady p k = s := by
  simp only [State.ggradReady, hf, hrun]
  refine ite_eq_left_iff.mpr fun _ => (if_neg Bool.false_ne_true).trans (if_pos ?_)
  simpa [or_iff_not_imp_left] using h

section
variable (hnull : f.null = false) (hlive : (s.liveAt p (trLive f.word)).st = .live)
  (hsent : (s.liveAt p (trLive f.word)).sent = true)
  (harrived : (s.liveAt p (trLive f.word)).arrived = (s.liveAt p (trLive f.word)).expected)
include hnull hlive hsent harrived

theorem State.cexportReady_of_arrived (hop : opOf f.word = 0x15) :
    let i := trLive f.word
    let e := s.liveAt p i
    let who := f.trestle p
    let hd := f.ops.getD 0 Held.none
    let wr : Writer := ⟨streamOf p 80, f.pc, f.gen⟩
    let t := (s.readOperand p who ⟨0, e.hc, 0, none, false⟩).touchReadRun who 0 ffPattern
      (pkey (spFast p) (combStat e.hc 0), 8 * e.hc.extent 1)
    let rows := (List.range (e.hc.extent 1)).map (t.combRow p e.hc hd.d.fmt)
    let g := t.guardRuns f.guards (physRuns p hd.runs)
    let o := (g.1.writeOperand p who hd).writeElems p 0 hd (rows.flatMap (·.1))
    let v := rows.foldl (fun t r => t.watchExport p wr hd.d r.2.wspill r.2) (o.1.watchWrites p wr hd.d o.2)
    let v := if v.gradPending p i then v.setLive p i { e with freeing := true } else v.setLive p i LiveEntry.zero
    s.cexportReady p k = (v.putFlight p 80 k { f with guards := g.2, running := true }).whenVisible p k := by
  simp only [State.cexportReady, hf, hnull, hop, hrun, hlive, hsent, harrived, Flight.wrote, ne_eq, not_true_eq_false, decide_false,
    decide_true, Bool.and_self, Bool.not_true, Bool.or_self, Bool.false_eq_true, if_false]

theorem State.ggradReady_of_arrived (hop : opOf f.word = 0x33) :
    let i := trLive f.word
    let e := s.liveAt p i
    let who := f.trestle p
    let hd := f.ops.getD 0 Held.none
    let l := parseLayer (f.args.getD 2 0)
    let hs := f.ops.getD 1 Held.none
    let u := ((((s.trSched p f [(1, hs)]).readOperand p who hs).readRoute p who e.hr (e.hc.extent 1 * l.k)).readOperand p who
      ⟨0, e.hg, 0, none, false⟩).readMap p l
    let toks := u.tokens p l hs
    let rows := ((List.range toks.length).zip toks).flatMap (fun t =>
      gradRow l t.2 ((List.range l.k).map (u.routeRec p l.k e.hr t.1))
        ((List.range l.k).map (fun r => u.readVal p 0 ⟨0, e.hg, 0, none, false⟩ (t.1 * l.k + r))))
    let g := u.guardRuns f.guards (physRuns p hd.runs)
    let o := (g.1.writeOperand p who hd).writeElems p 0 hd (((List.range rows.length).zip rows).map (fun x => (x.1, .f x.2)))
    s.ggradReady p k
      = ((o.1.bump64 0 (0x5050 + p) 9 1).putFlight p 80 k { f with guards := g.2, running := true }).ggradDone p k i := by
  simp only [State.ggradReady, hf, hnull, hop, hrun, hlive, hsent, harrived, Flight.wrote, ne_eq, not_true_eq_false, decide_false,
    decide_true, Bool.and_self, Bool.not_true, Bool.or_self, Bool.false_eq_true, if_false]

end
end
end

/-- No such instruction is in flight: each of the six rows has nothing to end. -/
theorem exec_trestleEnd_of_none {s : State} {p k : Nat} (h : s.flight p 80 k = none) : ∀ c ∈ [Instr.routeComplete p k, .gsendComplete p k,
    .inboxArrivalsComplete p k, .ginboxArrivalsComplete p k, .cexportReady p k, .ggradReady p k], exec c s = .next s := by
  simp only [List.forall_mem_cons, List.not_mem_nil, false_implies, implies_true, and_true]
  refine ⟨next_congr ?_, next_congr ?_, next_congr ?_, next_congr ?_, next_congr ?_, next_congr ?_⟩
  · simp only [State.routeComplete, h]
  · simp only [State.gsendComplete, h]
  · simp only [State.inboxDone, h]
  · simp only [State.ginboxDone, h]
  · simp only [State.cexportReady, h]
  · simp only [State.ggradReady, h]

theorem State.ggradDone_eq (s : State) (p k i : Nat) :
    let t := s.whenVisible p k
    s.ggradDone p k i = if (t.liveAt p i).freeing = true ∧ t.gradPending p i = false then t.setLive p i LiveEntry.zero else t := by
  simp only [State.ggradDone, Bool.and_eq_true, Bool.not_eq_true']

/-! ## Answers -/

section
variable {s : State} {p : Nat} {pk : Packet} (hpk : s.inboxOf p 2 = some pk)
include hpk

theorem State.answerPacket_of_other (h : pk.proto ≠ 2) : s.answerPacket p = s := by
  simp only [State.answerPacket, hpk, h, ne_eq, not_false_eq_true, if_true]

theorem State.answerPacket_of_whole (h : pk.proto = 2) (hseg : pk.nseg ≤ 1) :
    s.answerPacket p = (s.takeInbox p 2).answerWhole p pk (ofBytes (pk.body.take 32)) [] (pk.body.drop 32) := by
  simp only [State.answerPacket, hpk, h, hseg, ne_eq, not_true_eq_false, if_false, if_true]

theorem State.answerPacket_of_segment (h : pk.proto = 2) (hseg : 1 < pk.nseg) :
    let t := s.takeInbox p 2
    let x := t.stage p (ofBytes (pk.body.take 32)) pk.nseg (pk.body.take 32) (pk.body.drop 32)
    s.answerPacket p = x.1.answerStaged p pk (ofBytes (pk.body.take 32))
      (t.stageRuns p (ofBytes (pk.body.take 32)) (pk.body.drop 32).length) x.2 := by
  simp only [State.answerPacket, hpk, h, Nat.not_le.mpr hseg, ne_eq, not_true_eq_false, if_false]

end

end Sys2Proof.Machine

namespace Sys2Proof.Claims
open Sys2Proof.Machine

/-- Settles O16: each row by the instruction in flight that it names, and an answer by its segments. -/
theorem trestleWorkCompletes : Obligations.TrestleWorkCompletes := by
  refine ⟨fun s p k f hf => ⟨fun hnull hop hvis => next_congr (State.routeComplete_of_visible hf hnull hop hvis),
      fun h => next_congr (State.routeComplete_of_waiting hf h),
      fun hnull hop hvis => next_congr (State.gsendComplete_of_visible hf hnull hop hvis),
      fun h => next_congr (State.gsendComplete_of_waiting hf h), fun h => next_congr (State.inboxDone_of_other hf h),
      fun h => next_congr (State.ginboxDone_of_other hf h), fun h => next_congr (State.cexportReady_of_other hf h),
      fun h => next_congr (State.ggradReady_of_other hf h)⟩,
    fun s p k h => exec_trestleEnd_of_none h,
    fun s p k f hf hnull hrun => ⟨fun hop => next_congr (State.inboxDone_of_running hf hnull hop hrun),
      fun hop => next_congr (State.ginboxDone_of_running hf hnull hop hrun),
      fun hop => next_congr (State.cexportReady_of_running hf hnull hop hrun),
      fun hop => next_congr (State.ggradReady_of_running hf hnull hop hrun)⟩,
    fun s p k g f hg hnull hrun hf => ⟨fun hop hready => next_congr ((State.inboxDone_of_tested hg hnull hrun hf hop).trans (if_neg ?_)),
      fun hop hready => next_congr ((State.ginboxDone_of_tested hg hnull hrun hf hop).trans (if_neg ?_)),
      fun hop hready => next_congr ((State.inboxDone_of_tested hg hnull hrun hf hop).trans (if_pos ?_)),
      fun hop hready => next_congr ((State.ginboxDone_of_tested hg hnull hrun hf hop).trans (if_pos ?_))⟩,
    fun s p k f hf hnull hrun => ⟨fun hlive hsent harrived =>
        ⟨fun hop => next_congr (State.cexportReady_of_arrived hf hrun hnull hlive hsent harrived hop),
          fun hop => next_congr (State.ggradReady_of_arrived hf hrun hnull hlive hsent harrived hop)⟩,
      fun h => ⟨next_congr (State.cexportReady_of_waiting hf hrun h), next_congr (State.ggradReady_of_waiting hf hrun h)⟩⟩,
    State.ggradDone_eq,
    fun s p k => ⟨fun h => next_congr (if_pos h), fun h => next_congr (if_neg h)⟩,
    fun s p pk hpk => ⟨fun hproto hseg => next_congr (State.answerPacket_of_whole hpk hproto hseg),
      fun whole hproto hseg hwhole => next_congr ((State.answerPacket_of_segment hpk hproto hseg).trans ?_),
      fun hproto hseg hpart => next_congr ((State.answerPacket_of_segment hpk hproto hseg).trans ?_),
      fun hproto => next_congr (State.answerPacket_of_other hpk hproto)⟩,
    fun s p h => next_congr ?_⟩
  · rw [hready]; exact Bool.false_ne_true
  · rw [hready]; exact Bool.false_ne_true
  · rw [hready]; rfl
  · rw [hready]; rfl
  · rw [hwhole]; rfl
  · rw [hpart]; rfl
  · simp only [State.answerPacket, h]

end Sys2Proof.Claims
end

section
/-! # Ilben's commands latch and complete

What the head of queue 81 does once it issues (12 R398 to R433): each command stands in the update state that it needs, and latches its
tensors or raises the first fault among them. -/

namespace Sys2Proof.Machine
open Sys2Proof.Claims

section
variable {s : State} {p w : Nat}

/-! ## The update state of a command -/

theorem State.ilIn_of_state {st : UpdState} {wide : Bool} {go : State} (hst : s.upd.st = st) (h : wide = true → p = 0) :
    s.ilIn p w st wide go = go := by
  refine if_neg fun hbad => ?_
  simp only [hst, Bool.or_eq_true, Bool.and_eq_true, decide_eq_true_eq, ne_eq, not_true_eq_false, false_or] at hbad
  exact hbad.2 (h hbad.1)

/-- The state is another, or Pier 1 issues a command of the whole module. -/
theorem State.ilIn_of_other {st : UpdState} {wide : Bool} {go : State} (h : s.upd.st ≠ st ∨ (wide = true ∧ p ≠ 0)) :
    s.ilIn p w st wide go = s.ilFault p w 0 :=
  if_pos (by simpa using h)

/-! ## UOPEN (12 R399 to R402) -/

/-- The state of UOPEN once the tensor table and the group table have been read. -/
def State.uopenRead (s : State) (p : Nat) : State :=
  let k := Asker.queue p 81 0
  (s.touchReadRun k 0 ffPattern (pkey spSlow s.updObjects.table, 128 * s.updObjects.count)).touchReadRun k 0 ffPattern
    (pkey spSlow (s.odv 0 0x7006 0), 16384)

theorem State.uopen_of_idle (hst : s.upd.st = .idle) (hp : p = 0) :
    let d := s.updObjects
    let t := s.uopenRead p
    let entry (g : Nat) : Nat := t.num (pkey spSlow (s.odv 0 0x7006 0 + 64 * g)) 64
    let v := t.modUpd (fun x => { x with
      st := .opened, eNext := t.eNext, cfg := d, anchor := bkAnchor (t.bucketRaw d.nbPier d.nb), words := [], stats := [],
      named := [], groups := (List.range 256).foldl (fun t g => Tab.set 0 t g (entry g)) [], updated := 0, skipped := 0 })
    s.uopen p w = if !(t.groupsNamed d).all (fun g => groupOk (entry g)) then t.headFault p 81 1
      else ((v.bump32 0 0x7021 1 1).advance p 81 w).openStream.postSignal p w :=
  State.ilIn_of_state hst fun _ => hp

/-! ## PASS1, PASS2 and WCOPY, by the tensors that they name (12 R403, R421, R431) -/

theorem State.pass1_of_opened (hst : s.upd.st = .opened) :
    let x := s.namedTensors p s.upd.cfg w
    s.pass1 p w = match x.2 with
      | .error e => x.1.ilError p w e
      | .ok ts => x.1.ilPush p w false s.upd.cfg ts [] :=
  State.ilIn_of_state hst fun h => absurd h Bool.false_ne_true

theorem State.pass2_of_normed (hst : s.upd.st = .normed) :
    let x := s.namedTensors p s.upd.cfg w
    s.pass2 p w = match x.2 with
      | .error e => x.1.ilError p w e
      | .ok ts => (x.1.modUpd (fun x => { x with named := x.named ++ ts.map (·.ix) })).ilPush p w (ilAdopt w) s.upd.cfg ts [] :=
  State.ilIn_of_state hst fun h => absurd h Bool.false_ne_true

theorem State.wcopy_of_idle (hst : s.upd.st = .idle) :
    let x := s.namedTensors p s.updObjects w
    s.wcopy p w = match x.2 with
      | .error e => x.1.ilError p w e
      | .ok ts => x.1.ilPush p w false s.updObjects ts [] :=
  State.ilIn_of_state hst fun h => absurd h Bool.false_ne_true

/-! ## NEXPORT, NORMS and UCLOSE (12 R413, R416, R428) -/

theorem State.nexport_of_opened (hst : s.upd.st = .opened) (hp : p = 0) :
    s.nexport p w = if !s.normOk s.upd.cfg then s.ilFault p w 0 else s.ilPush p w false s.upd.cfg [] (s.ilIdents 0x11) :=
  State.ilIn_of_state hst fun _ => hp

theorem State.norms_of_unfit (hst : s.upd.st = .exported) (hp : p = 0) (h : s.normOk s.upd.cfg = false
    ∨ s.bucketState s.upd.cfg.nbPier s.upd.cfg.nb = bkHeld ∨ s.bucketState s.upd.cfg.nbPier s.upd.cfg.nb = bkFailed) :
    s.norms p w = s.ilFault p w 0 :=
  (State.ilIn_of_state hst fun _ => hp).trans (if_pos (by simpa [or_assoc] using h))

theorem State.norms_of_fit (hst : s.upd.st = .exported) (hp : p = 0) (hok : s.normOk s.upd.cfg = true)
    (hheld : s.bucketState s.upd.cfg.nbPier s.upd.cfg.nb ≠ bkHeld) (hfailed : s.bucketState s.upd.cfg.nbPier s.upd.cfg.nb ≠ bkFailed) :
    let c := s.upd.cfg
    let v := s.readTensors p c 0x13 (List.range c.count)
    s.norms p w = match v.latchTensors c 0x13 false (List.range c.count) with
      | .error e => v.ilError p w e
      | .ok ts => v.ilPush p w false c ts [] :=
  (State.ilIn_of_state hst fun _ => hp).trans (if_neg (by simp [hok, hheld, hfailed]))

theorem State.uclose_of_normed (hst : s.upd.st = .normed) (hp : p = 0) :
    s.uclose p w = s.ilPush p w false s.upd.cfg [] (s.ilIdents 0x14) :=
  State.ilIn_of_state hst fun _ => hp

end

/-! ## The jobs in flight (12 R409 to R433) -/

section
variable {s : State}

section
variable {i : Nat} {j : UpdJob} (hj : s.upd.jobs[i]? = some j)
include hj

/-- What the command has left to do is done; then it ends, once no slow-tier write waits for the host. -/
theorem State.ilComplete_of_items (hop : j.op = 0x11 ∨ j.op = 0x14 ∨ j.op = 0x15) :
    let t := s.ilWork j (j.items.length - j.did)
    s.ilComplete i = match t.upd.jobs[i]? with
      | none => t
      | some x => if x.did = x.items.length && t.host.snoopWait.isEmpty then t.ilDone x else t := by
  simp only [State.ilComplete, hj]
  exact if_pos (by simpa [or_assoc] using hop)

theorem State.ilComplete_of_other (hop : ¬ (j.op = 0x11 ∨ j.op = 0x14 ∨ j.op = 0x15)) : s.ilComplete i = s := by
  simp only [State.ilComplete, hj]
  exact if_neg (by simpa [or_assoc] using hop)

end

theorem State.nexportWrite_of_next {j : UpdJob} (h : s.ilNext 0x12 = some j) :
    let n := j.cfg.nnorm
    let k := pkey (spFast j.cfg.nbPier) j.cfg.hs
    let t := (s.ilWrite k ((List.range n).flatMap (fun i => toBytes 16 (Tab.get 0 s.upd.words i)))).ilWrite
      (k + 32768 * ceilDiv n 2048) ((List.range (ceilDiv n 2048)).flatMap (fun t => toBytes 8 (s.upd.stat (2048 * t)).toNat))
    s.nexportWrite = (t.modUpd (fun u => { u with st := .exported })).ilDone j := by
  simp only [State.nexportWrite, h]

theorem State.normsCompute_of_reduced {j : UpdJob} (h : s.ilNext 0x13 = some j) (hst : s.bucketState j.cfg.nbPier j.cfg.nb = bkReduced) :
    s.normsCompute = ((s.normsRun j).modUpd (fun u => { u with st := .normed })).ilDone j := by
  simp only [State.normsCompute, h, hst, if_true]

theorem State.normsCompute_of_waiting {j : UpdJob} (h : s.ilNext 0x13 = some j)
    (hst : s.bucketState j.cfg.nbPier j.cfg.nb ∉ [bkReduced, bkHeld, bkFailed]) : s.normsCompute = s := by
  simp only [List.mem_cons, List.not_mem_nil, or_false, not_or] at hst
  obtain ⟨hreduced, hheld, hfailed⟩ := hst
  simp only [State.normsCompute, h, hreduced, hheld, hfailed, decide_false, Bool.or_self, Bool.false_eq_true, if_false]

theorem State.updateDone_of_next {j : UpdJob} (h : s.ilNext 0x16 = some j) :
    let t := (s.modUpd (fun u => { u with st := .closed })).ilDone j
    s.updateDone = (t.ilbenEvent 5 0 t.upd.updated t.upd.skipped).streamDone := by
  simp only [State.updateDone, h]

/-- Of one copy of a state block: a TAG above COMMITTED is emptied and counted. -/
theorem State.tagScrub_eq (s : State) : s.tagScrub = (List.range s.updObjects.count).foldl (fun t k =>
    [0, 1].foldl (fun (t : State) b =>
      let r := t.rawTensor s.updObjects k
      let o := tnState r + 64 * b
      let tag := t.num (pkey spSlow o) 8
      if tag ≠ 2 ^ 64 - 1 ∧ t.commit.committed < tag then
        let v := (t.storeRun (Asker.queue 0 81 0) 0 (pkey spSlow o) (toBytes 8 (2 ^ 64 - 1))).bump64 0 0x7810 5 1
        { v with commit := { v.commit with scrubbed := v.commit.scrubbed ++ [(wcPier r, o)] } }
      else t) t) (s.readTensors 0 s.updObjects 0 (List.range s.updObjects.count)) := by
  simp only [State.tagScrub, Bool.and_eq_true, decide_eq_true_eq]

end

end Sys2Proof.Machine

namespace Sys2Proof.Claims
open Sys2Proof.Machine

/-- An Ilben row whose head latches does what it does on the state with the head fetched. -/
theorem next_ilIssue {s t : State} {p op : Nat} {go : State → Nat → State} (h : Latches s p 81 op ilOk)
    (ht : go (s.headFetch p 81) (s.headWord p 81) = t) : Host.Outcome.next (s.ilIssue p op go) = (.next t : Host.Outcome State Fault Refusal) :=
  next_congr ((State.issue_of_latches h).trans ht)

/-- Settles O17: each command by the update state (`State.ilIn_of_state`, `State.ilIn_of_other`) and by what it latches. -/
theorem ilbenLatches : Obligations.IlbenLatches := by
  intro s p w u c
  refine ⟨fun h => next_ilIssue h rfl,
    fun h hst hp => ⟨fun hok => next_ilIssue h ((State.uopen_of_idle hst hp).trans (if_neg (Bool.eq_false_iff.mp (congrArg not hok)))),
      fun hbad => next_ilIssue h ((State.uopen_of_idle hst hp).trans (if_pos (congrArg not hbad)))⟩,
    fun v r h hst hv => ⟨fun ts hts => next_ilIssue h ((State.pass1_of_opened hst).trans (by rw [hv, hts])),
      fun e he => next_ilIssue h ((State.pass1_of_opened hst).trans (by rw [hv, he]))⟩,
    fun h hst hp hok => next_ilIssue h ((State.nexport_of_opened hst hp).trans (if_neg (Bool.eq_false_iff.mp (congrArg not hok)))),
    fun hst hp hbad h => next_ilIssue h ((State.nexport_of_opened hst hp).trans (if_pos (congrArg not hbad))),
    fun hst hp h hbad => next_ilIssue h (State.norms_of_unfit hst hp hbad),
    fun h hst hp hok hheld hfailed => ⟨fun ts hts => next_ilIssue h ((State.norms_of_fit hst hp hok hheld hfailed).trans ?_),
      fun e he => next_ilIssue h ((State.norms_of_fit hst hp hok hheld hfailed).trans ?_)⟩,
    fun v r h hst hv => ⟨fun ts hts => next_ilIssue h ((State.pass2_of_normed hst).trans (by rw [hv, hts])),
      fun e he => next_ilIssue h ((State.pass2_of_normed hst).trans (by rw [hv, he]))⟩,
    fun v r h hst hv => ⟨fun ts hts => next_ilIssue h ((State.wcopy_of_idle hst).trans (by rw [hv, hts])),
      fun e he => next_ilIssue h ((State.wcopy_of_idle hst).trans (by rw [hv, he]))⟩,
    fun h hst hp => next_ilIssue h (State.uclose_of_normed hst hp), ?_⟩
  · rw [hts]
  · rw [he]
  · simp only [List.forall_mem_cons, List.not_mem_nil, false_implies, implies_true, and_true]
    refine ⟨fun h hbad => next_ilIssue h (State.ilIn_of_other ?_), fun h hbad => next_ilIssue h (State.ilIn_of_other ?_),
      fun h hbad => next_ilIssue h (State.ilIn_of_other ?_), fun h hbad => next_ilIssue h (State.ilIn_of_other ?_),
      fun h hbad => next_ilIssue h (State.ilIn_of_other ?_), fun h hbad => next_ilIssue h (State.ilIn_of_other ?_),
      fun h hbad => next_ilIssue h (State.ilIn_of_other ?_)⟩
    all_goals simpa using hbad

/-- Settles O18: a completion by what is left of its job, and the rows of the three module-wide commands by the oldest job that is
ready. -/
theorem ilbenWorkCompletes : Obligations.IlbenWorkCompletes := by
  refine ⟨fun s i j hj => ⟨fun hop => ⟨fun x hx hdid hsnoop => next_congr ((State.ilComplete_of_items hj hop).trans ?_),
        fun hwait => next_congr ((State.ilComplete_of_items hj hop).trans ?_)⟩,
      fun hop => next_congr (State.ilComplete_of_other hj hop)⟩,
    fun s j h => next_congr (State.nexportWrite_of_next h), fun s j h hst => next_congr (State.normsCompute_of_reduced h hst),
    fun s j h hst => next_congr (State.normsCompute_of_waiting h hst), fun s j h => next_congr (State.updateDone_of_next h),
    fun s => ⟨fun h => next_congr ?_, fun h => next_congr ?_, fun h => next_congr ?_⟩,
    fun s => ⟨fun hst hps => next_congr ((if_pos ?_).trans (State.tagScrub_eq s)), fun h => next_congr (if_neg ?_)⟩⟩
  · simp [hx, hdid, hsnoop]
  · split
    · rfl
    · next x hx =>
      refine if_neg ?_
      rcases hwait x hx with hdid | hsnoop
      · simp [hdid]
      · simp [hsnoop]
  · simp only [State.nexportWrite, h]
  · simp only [State.normsCompute, h]
  · simp only [State.updateDone, h]
  · simp [hst, hps]
  · rw [Bool.and_eq_true, decide_eq_true_eq, decide_eq_true_eq, not_and_or]
    exact h

end Sys2Proof.Claims
end

section
/-! # Remote copy instructions and reductions

REDUCE, LACC, LFENCE, RWRITE and PERMUTE at the head of a copy queue (11, 15), and what ends a bucket, a fence and a layout (11). -/

namespace Sys2Proof.Machine
open Sys2Proof.Claims

section
variable {s : State} {p q w : Nat}

/-! ## LFENCE (11 R383) -/

theorem State.fenceLatch_of_current (h : fenceLayout w = s.curLayout) : s.fenceLatch p q w = s.nullHead p q w := if_pos h

theorem State.fenceLatch_of_other (h : fenceLayout w ≠ s.curLayout) :
    let t := (s.advance p q w).pushFlight p q { s.newFlight p q w [] Nest.one false with args := [s.reqIdent p q] }
    s.fenceLatch p q w = { t with fab := { t.fab with fences := t.fab.fences ++ [⟨p, q, s.reqIdent p q, fenceLayout w⟩] } } :=
  if_neg h

section
variable {ops : List Held} (hops : s.latchAll p [cpHd w, cpHs w] = some ops)
include hops

/-! ## REDUCE (11 R355, R356) -/

/-- The bucket is past the table. -/
theorem State.redLatch_of_past (h : s.bucketCount p ≤ redBucket w) :
    s.redLatch p q w = (s.advance p q w).operandFault p q (s.newFlight p q w ops Nest.one false) 0 7 0 := by
  simp only [State.redLatch, hops, Nat.not_lt.mpr h, h, if_false, if_true]

/-- The entry is read, and the checks decide. -/
theorem State.redLatch_of_bucket (h : redBucket w < s.bucketCount p) :
    let b := redBucket w
    let v := s.touchReadRun (Asker.queue p q 0) 0 ffPattern (s.bucketAddr p b, 128)
    let r := v.bucketRaw p b
    v.bucketCount p = s.bucketCount p → (bucketOk r && bucketRestOk (v.bucketRest p b)) = true →
    s.redLatch p q w = match v.redFault p b r ops with
      | some k => (v.advance p q w).operandFault p q (v.newFlight p q w ops Nest.one false) 0 k
          (if k < 7 then (ops.getD k Held.none).d.base else 0)
      | none => v.redRun p q w r ops := by
  intro b v r hcount hok
  have hread : (if b < s.bucketCount p then v else s) = v := if_pos h
  simp only [State.redLatch, hops]
  rw [hread]
  exact (if_neg (by rw [hcount]; exact Nat.not_le.mpr h)).trans (if_neg (Bool.eq_false_iff.mp (congrArg not hok)))

/-! ## LACC and RWRITE, execution by execution (11 R372, 15 R540) -/

section
variable (hnest : nestOk (s.rawNest p (loopOf w)) [true, true, false] = true)
include hnest

theorem State.laccLatch_of_null (h : (parseNest (s.rawNest p (loopOf w))).total = 0
    ∨ ((ops.getD 0 Held.none).d.count = 0 ∧ laccFault p ops = none)) : s.laccLatch p q w = s.nullHead p q w := by
  simp only [State.laccLatch, hops, hnest, Bool.not_true, Bool.false_eq_true, if_false]
  exact if_pos (by simpa using h)

theorem State.laccLatch_of_work (htotal : (parseNest (s.rawNest p (loopOf w))).total ≠ 0)
    (h : (ops.getD 0 Held.none).d.count ≠ 0 ∨ laccFault p ops ≠ none) :
    let nest := parseNest (s.rawNest p (loopOf w))
    let g := s.guardCheck p q { s.newFlight p q w ops nest false with args := [s.reqIdent p q, 0] } [1]
    let r := (g.1.advance p q w).laccAll p q g.2 nest.total 0
    s.laccLatch p q w = match r.2 with
      | some f => r.1.pushFlight p q f
      | none => r.1 := by
  simp only [State.laccLatch, hops, hnest, Bool.not_true, Bool.false_eq_true, if_false]
  refine if_neg ?_
  simpa [htotal, imp_iff_not_or] using h

theorem State.rwLatch_of_null (h : (parseNest (s.rawNest p (loopOf w))).total = 0) : s.rwLatch p q w = s.nullHead p q w := by
  simp only [State.rwLatch, hops, hnest, h, Bool.not_true, Bool.false_eq_true, if_false, if_true]

theorem State.rwLatch_of_work (htotal : (parseNest (s.rawNest p (loopOf w))).total ≠ 0) :
    let nest := parseNest (s.rawNest p (loopOf w))
    let g := s.guardCheck p q { s.newFlight p q w ops nest false with args := [s.reqIdent p q, 0, 0] } [1]
    let r := (g.1.advance p q w).rwAll p q g.2 nest.total 0
    s.rwLatch p q w = match r.2 with
      | some f => r.1.pushFlight p q f
      | none => r.1 := by
  simp only [State.rwLatch, hops, hnest, Bool.not_true, Bool.false_eq_true, if_false]
  exact if_neg htotal

end

/-! ## PERMUTE (15 R545 to R549) -/

/-- The instruction of a PERMUTE as its head latches it. -/
def State.permFlight (s : State) (p q w : Nat) (ops : List Held) : Flight :=
  { s.newFlight p q w ops Nest.one false with args := [s.reqIdent p q, 0, 0] }

/-- The state of a PERMUTE once its table has been read. -/
def State.permRead (s : State) (p q : Nat) (ops : List Held) : State :=
  s.readOperand p (Asker.queue p q (s.reqIdent p q)) (ops.getD 0 Held.none)

/-- The entries of the table, each handled with the source read. -/
def State.permEntries (s : State) (p q w ident : Nat) (ht src : Held) (f : Flight) : State :=
  let t := (s.advance p q w).readOperand p (Asker.queue p q ident) src
  let a := ((List.range (ht.d.count / 8)).map (fun k => (k, t.permEntry p ht k))).foldl
    (fun (a : State × Flight) x => a.1.permRun p a.2 src x.1 x.2) (t, f)
  (a.1.pushFlight p q { a.2 with running := true }).mapDone p q ident

theorem State.permLatch_of_fault {j : Nat} (h : (s.permRead p q ops).permFault p ops = some j) :
    s.permLatch p q w = (((s.permRead p q ops).dropReqs (s.reqIdent p q)).advance p q w).operandFault p q (s.permFlight p q w ops) 0 j
      (ops.getD j Held.none).d.base := by
  rw [State.permRead] at h
  simp only [State.permLatch, hops, h]
  rfl

theorem State.permLatch_of_null (h : (s.permRead p q ops).permFault p ops = none) (hcount : (ops.getD 0 Held.none).d.count = 0) :
    s.permLatch p q w = (s.permRead p q ops).nullHead p q w := by
  rw [State.permRead] at h
  simp only [State.permLatch, hops, h, hcount, if_true]
  rfl

/-- Every source element is this Pier's, or no longer counts. -/
theorem State.permLatch_of_own (h : (s.permRead p q ops).permFault p ops = none) (hcount : (ops.getD 0 Held.none).d.count ≠ 0) :
    let ident := s.reqIdent p q
    let ht := ops.getD 0 Held.none
    let g := (s.permRead p q ops).guardCheck p q (s.permFlight p q w ops) [0, 1]
    let src := g.2.ops.getD 1 Held.none
    src.stale = true ∨ g.1.firstForeign p 3 [(1, src)] = none →
    let t := (g.1.advance p q w).readOperand p (Asker.queue p q ident) src
    let a := ((List.range (ht.d.count / 8)).map (fun k => (k, t.permEntry p ht k))).foldl
      (fun (a : State × Flight) x => a.1.permRun p a.2 src x.1 x.2) (t, g.2)
    s.permLatch p q w = (a.1.pushFlight p q { a.2 with running := true }).mapDone p q ident := by
  intro ident ht g src hown t a
  have hforeign : (if src.stale then none else g.1.firstForeign p 3 [(1, src)]) = none := by
    rcases hown with hstale | hnone
    · exact if_pos hstale
    · rw [hnone]; exact ite_self _
  have hsched : (match (if src.stale then none else g.1.firstForeign p 3 [(1, src)]) with
      | some r => g.1.schedFault p q (s.permFlight p q w ops) 0 (regionAddr r.2) (g.1.regionOwner r.2) r.1
      | none => g.1) = g.1 := by
    rw [hforeign]
  rw [State.permRead] at h
  simp only [State.permLatch, hops, h]
  exact (if_neg hcount).trans (congrArg (fun u => State.permEntries u p q w ident ht src g.2) hsched)

end

/-! ## COPY_COMPLETE of RWRITE and PERMUTE (15 R543, R550) -/

theorem State.mapDone_of_visible {ident k : Nat} {g : Flight} (hvis : s.allVisible ident = true) (hk : s.flightOf p q ident = some k)
    (hg : s.flight p q k = some g) :
    s.mapDone p q ident = (s.bump64 0 (0x6041 + p) (if opOf g.word = 0x28 then 1 else 2) 1).workDone p q k := by
  simp only [State.mapDone, hvis, hk, hg, Bool.not_true, Bool.false_eq_true, if_false]

theorem State.mapDone_of_waiting {ident : Nat} (h : s.allVisible ident = false) : s.mapDone p q ident = s := by
  simp only [State.mapDone, h, Bool.not_false, if_true]

end

/-! ## The end of a bucket (11 R363, R366) -/

section
variable {s : State} {p b : Nat} {j : Red} (hj : s.redOf p b = some j)
include hj

theorem State.redComplete_of_ready (hended : j.ended = false) (hdone : j.full = true ∨ j.rejected = true)
    (hreqs : (s.fab.reqs.any fun x => x.ident = j.ident) = false) (hask : s.asking j.ident = false) (hsnoop : s.host.snoopWait = []) :
    s.redComplete p b = (s.redRecord p j (if j.rejected then bkFailed else bkReduced)).redEnd p j := by
  have hall : (j.full || j.rejected) = true := by simpa using hdone
  simp only [State.redComplete, hj, hended, hall, hreqs, hask, hsnoop, Bool.not_true, Bool.or_self, List.isEmpty_nil, Bool.false_eq_true,
    if_false]

theorem State.redComplete_of_waiting (h : j.ended = true ∨ (j.full = false ∧ j.rejected = false)
    ∨ (s.fab.reqs.any fun x => x.ident = j.ident) = true ∨ s.asking j.ident = true ∨ s.host.snoopWait ≠ []) : s.redComplete p b = s := by
  simp only [State.redComplete, hj]
  refine if_pos ?_
  simp only [Bool.or_eq_true, Bool.not_eq_true', Bool.or_eq_false_iff, List.isEmpty_eq_false_iff]
  simpa only [or_assoc] using h

end

/-! ## Fences and the layout (11 R383 to R386) -/

section
variable {s : State}

theorem State.fenceApply_of_drained {f : Fence} {l : List Fence} (h : s.fab.fences = f :: l) (hdrained : s.drained = true) :
    let t := (({ s with fab := { s.fab with fences := l } } : State).setLayout f.layout).redEvent f.pier 9 0 s.curLayout f.layout
    s.fenceApply = match t.flightOf f.pier f.queue f.ident with
      | some k => t.workDone f.pier f.queue k
      | none => t := by
  simp only [State.fenceApply, h]
  exact if_neg (Bool.eq_false_iff.mp (congrArg not hdrained))

theorem State.fenceApply_of_busy {f : Fence} {l : List Fence} (h : s.fab.fences = f :: l) (hdrained : s.drained = false) :
    s.fenceApply = s := by
  simp only [State.fenceApply, h, hdrained, Bool.not_false, if_true]

theorem State.layoutWrite_of_free {v : Nat} (hv : v < 2 ^ 16) (h0 : s.p0.reds = []) (h1 : s.p1.reds = []) (hperm : s.permuting = false) :
    (s.layoutWrite v).2 = s.setLayout v := by
  simp only [State.layoutWrite, Nat.not_le.mpr hv, h0, h1, hperm, List.isEmpty_nil, Bool.and_self, Bool.not_true, Bool.or_self,
    Bool.false_eq_true, if_false]

theorem State.layoutWrite_of_busy {v : Nat} (h : 2 ^ 16 ≤ v ∨ s.p0.reds ≠ [] ∨ s.p1.reds ≠ [] ∨ s.permuting = true) :
    (s.layoutWrite v).2 = s := by
  unfold State.layoutWrite
  split
  · rfl
  · next hv =>
    refine congrArg Prod.snd (if_pos ?_)
    simp only [Bool.or_eq_true, Bool.not_eq_true', Bool.and_eq_false_iff, List.isEmpty_eq_false_iff]
    simpa only [or_assoc] using h.resolve_left hv

theorem State.releaseBucket_of_closed {p b : Nat} (hb : b < s.bucketCount p) (h : s.bucketState p b ≠ bkOpen) :
    (s.releaseBucket p b).2 = s.setBucketState p b bkIdle := by
  simp only [State.releaseBucket, Nat.not_le.mpr hb, h, if_false]

theorem State.releaseBucket_of_open {p b : Nat} (h : s.bucketCount p ≤ b ∨ s.bucketState p b = bkOpen) : (s.releaseBucket p b).2 = s := by
  unfold State.releaseBucket
  split
  · rfl
  · next hb => exact congrArg Prod.snd (if_pos (h.resolve_left hb))

end

end Sys2Proof.Machine

namespace Sys2Proof.Claims
open Sys2Proof.Machine

/-- Settles O19: each row by its operands, its nest and its checks, and the completion by what its instruction waits for. -/
theorem remoteCopyInstructionsLatch : Obligations.RemoteCopyInstructionsLatch := by
  intro s p e q w u nest after
  refine ⟨fun ops h hops hb => ?_,
    fun ops h hops hb => next_congr ((State.issue_of_latches h).trans (State.redLatch_of_past hops hb)),
    fun ops h hops hnest => ⟨fun hnull => next_congr ((State.issue_of_latches h).trans (State.laccLatch_of_null hops hnest hnull)),
      fun htotal hwork => next_congr ((State.issue_of_latches h).trans (State.laccLatch_of_work hops hnest htotal hwork))⟩,
    fun h => ⟨fun hl => next_congr ((State.issue_of_latches h).trans (State.fenceLatch_of_current hl)),
      fun hl => next_congr ((State.issue_of_latches h).trans (State.fenceLatch_of_other hl))⟩,
    fun ops h hops hnest => ⟨fun hnull => next_congr ((State.issue_of_latches h).trans (State.rwLatch_of_null hops hnest hnull)),
      fun htotal => next_congr ((State.issue_of_latches h).trans (State.rwLatch_of_work hops hnest htotal))⟩,
    fun ops h hops => ⟨fun j hj => next_congr ((State.issue_of_latches h).trans (State.permLatch_of_fault hops hj)),
      fun hok hcount => next_congr ((State.issue_of_latches h).trans (State.permLatch_of_null hops hok hcount)),
      fun hok hcount hown => next_congr ((State.issue_of_latches h).trans (State.permLatch_of_own hops hok hcount hown))⟩,
    fun f l k hf hop hk => ⟨fun hvis g hg => next_congr ((State.copyDone_of_map hf hop).trans (State.mapDone_of_visible hvis hk hg)),
      fun hvis => next_congr ((State.copyDone_of_map hf hop).trans (State.mapDone_of_waiting hvis))⟩⟩
  intro b v r hcount hok
  have hlatch := (State.issue_of_latches (go := fun t x => t.redLatch p q x) h).trans (State.redLatch_of_bucket hops hb hcount hok)
  exact ⟨fun hfit => next_congr (hlatch.trans (by rw [hfit])), fun k hk => next_congr (hlatch.trans (by rw [hk]))⟩

/-- Settles O20: each row by what it finds of a packet, a bucket, a request, a fence and a layout. -/
theorem reductionCommands : Obligations.ReductionCommands := by
  refine ⟨fun s p pk l => ⟨fun h => next_congr ?_, fun h => next_congr ?_, fun h => next_congr ?_, fun h => next_congr ?_⟩,
    fun s p b j => ⟨fun hj hended hdone hreqs hask hsnoop => next_congr (State.redComplete_of_ready hj hended hdone hreqs hask hsnoop),
      fun h => next_congr ?_, fun hj h => next_congr (State.redComplete_of_waiting hj h),
      fun hb h => next_congr (State.releaseBucket_of_closed hb h), fun h => next_congr (State.releaseBucket_of_open h), rfl⟩,
    fun s tag r => ⟨fun h => next_congr ?_, fun h => next_congr ?_⟩,
    fun s f l h => ⟨fun hdrained => ⟨fun k hk => next_congr ((State.fenceApply_of_drained h hdrained).trans ?_),
        fun hnone => next_congr ((State.fenceApply_of_drained h hdrained).trans ?_)⟩,
      fun hdrained => next_congr (State.fenceApply_of_busy h hdrained)⟩,
    fun s h => next_congr ?_,
    fun s v => ⟨fun hv h0 h1 hperm => next_congr (State.layoutWrite_of_free hv h0 h1 hperm),
      fun h => next_congr (State.layoutWrite_of_busy h)⟩⟩
  · simp only [State.redPacket, State.takeContext, h, if_true]
  · simp only [State.redPacket, State.takeContext, h, if_true]
  · simp only [State.redPacket, h, Bool.false_eq_true, if_false]
  · simp only [State.redPacket, h, Bool.false_eq_true, if_false]
  · simp only [State.redComplete, h]
  · simp only [State.redRetry, h]
  · simp only [State.redRetry, h]
  · rw [hk]
  · rw [hnone]
  · simp only [State.fenceApply, h]

end Sys2Proof.Claims
end

section
/-! # Packets that have arrived

Write packets, responses and map packets, as the Pier that they are for takes them (14 R512 to R517, 15 R541). -/

namespace Sys2Proof.Machine
open Sys2Proof.Claims

section
variable {s : State} {p : Nat} {pk : Packet}

/-! ## WRITE -/

theorem State.writePacket_of_write (hpk : s.inboxOf p 2 = some pk) (h : pk.proto = 1) :
    let t := s.takeInbox p 2
    let k := pkey (spFast p) pk.addr
    s.writePacket p = if pk.addr + pk.body.length ≤ fastSize then
        (if pk.body.isEmpty then t
          else ((t.guardOnce [(k, pk.body.length)]).storeRun (Asker.fabric p 2) 0 k pk.body).inboxTests p).respond pk 0
      else t.respond pk 4 := by
  simp only [State.writePacket, hpk, h, ne_eq, not_true_eq_false, if_false]

theorem State.writePacket_of_other (hpk : s.inboxOf p 2 = some pk) (h : pk.proto ≠ 1) : s.writePacket p = s := by
  simp only [State.writePacket, hpk, h, ne_eq, not_false_eq_true, if_true]

/-! ## RESPONSE -/

section
variable (hpk : s.inboxOf p 0 = some pk)
include hpk

/-- No request of the Pier has the TAG. -/
theorem State.response_of_none (h : (s.takeInbox p 0).fab.reqs.find?
    (fun r => decide (r.tag = bits 31 0 (ofBytes (pk.body.take 8))) && decide (r.pkt.srcPier = p)) = none) :
    s.response p = s.takeInbox p 0 := by
  simp only [State.response, hpk, h]

theorem State.response_of_request {r : Req} (h : (s.takeInbox p 0).fab.reqs.find?
    (fun r => decide (r.tag = bits 31 0 (ofBytes (pk.body.take 8))) && decide (r.pkt.srcPier = p)) = some r) :
    let t := s.takeInbox p 0
    let code := bits 35 32 (ofBytes (pk.body.take 8))
    (r.kind = .row ∨ r.kind = .arrival → s.response p = t.rowResponse r code)
    ∧ (r.kind = .answer → s.response p = t.answerResponse r)
    ∧ (r.kind = .reduce → s.response p = t.redResponse r code)
    ∧ (r.kind = .mapData ∨ r.kind = .mapSignal → s.response p = t.mapResponse r code) := by
  simp only [State.response, hpk, h]
  refine ⟨?_, fun hkind => by rw [hkind], fun hkind => by rw [hkind], ?_⟩
  · rintro (hkind | hkind) <;> rw [hkind]
  · rintro (hkind | hkind) <;> rw [hkind]

end

/-! ## MAP_DATA and MAP_SIGNAL -/

section
variable (hpk : s.inboxOf p 6 = some pk)
include hpk

theorem State.mapData_of_signal (h : bits 7 0 (ofBytes (pk.body.take 32)) = 2) : s.mapData p = s := by
  simp only [State.mapData, hpk, h, if_true]

theorem State.mapSignal_of_data (h : bits 7 0 (ofBytes (pk.body.take 32)) ≠ 2) : s.mapSignal p = s := by
  simp only [State.mapSignal, hpk, h, ne_eq, not_false_eq_true, if_true]

/-- The packet fails a check. -/
theorem State.mapData_of_bad (h : bits 7 0 (ofBytes (pk.body.take 32)) ≠ 2) (hbad : (s.mapJudge p pk).2 ≠ 0) :
    s.mapData p = ((s.mapJudge p pk).1.takeInbox p 6).respond pk (s.mapJudge p pk).2 := by
  simp only [State.mapData, hpk, h, hbad, ne_eq, not_false_eq_true, if_false, if_true]

theorem State.mapSignal_of_bad (h : bits 7 0 (ofBytes (pk.body.take 32)) = 2) (hbad : (s.mapJudge p pk).2 ≠ 0) :
    s.mapSignal p = ((s.mapJudge p pk).1.takeInbox p 6).respond pk (s.mapJudge p pk).2 := by
  simp only [State.mapSignal, hpk, h, hbad, ne_eq, not_true_eq_false, not_false_eq_true, if_false, if_true]

theorem State.mapData_of_good (h : bits 7 0 (ofBytes (pk.body.take 32)) ≠ 2) (hgood : s.mapJudge p pk = (s, 0)) :
    let hdr := ofBytes (pk.body.take 32)
    let t := s.takeInbox p 6
    let data := pk.body.drop 32
    let off := bits 127 64 hdr
    s.mapData p = if bit 11 hdr then
        if s.runHeld off data.length then s.invalidateRun off data.length
        else (t.storeRun (Asker.fabric p 6) 0 (pkey spSlow off) data).respond pk 0
      else ((t.guardOnce [(pkey (spFast p) off, data.length)]).storeRun (Asker.fabric p 6) 0 (pkey (spFast p) off) data).respond pk 0 := by
  simp only [State.mapData, hpk, h, hgood, ne_eq, not_true_eq_false, if_false]

theorem State.mapSignal_of_good (h : bits 7 0 (ofBytes (pk.body.take 32)) = 2) (hgood : s.mapJudge p pk = (s, 0)) :
    s.mapSignal p = (((s.takeInbox p 6).addCounter p (bits 57 48 (ofBytes (pk.body.take 32))) 1).bump64 0 (0x6041 + p) 4 1).respond pk 0 := by
  simp only [State.mapSignal, hpk, h, hgood, ne_eq, not_true_eq_false, if_false]

end
end

end Sys2Proof.Machine

namespace Sys2Proof.Claims
open Sys2Proof.Machine

/-- Settles O21: a write by where it lies, a response by the request with its TAG, a map packet by its checks and the lines that the
host holds. -/
theorem packetsTakenAndAnswered : Obligations.PacketsTakenAndAnswered := by
  refine ⟨fun s p pk hpk hproto => ⟨fun hin hbody => next_congr ((State.writePacket_of_write hpk hproto).trans ?_),
      fun hin hbody => next_congr ((State.writePacket_of_write hpk hproto).trans ?_),
      fun hout => next_congr ((State.writePacket_of_write hpk hproto).trans (if_neg (Nat.not_le.mpr hout)))⟩,
    fun s p h => next_congr ?_, fun s p pk hpk h => next_congr (State.writePacket_of_other hpk h),
    fun s p h => ⟨next_congr ?_, next_congr ?_⟩, fun s tag h => next_congr ?_,
    fun s p pk hpk => ⟨fun h => next_congr (State.response_of_none hpk h), fun r hr => ?_⟩,
    fun s p h => next_congr ?_,
    fun s p pk hpk => ⟨fun hdata hgood => ⟨fun hfast => next_congr ((State.mapData_of_good hpk hdata hgood).trans ?_),
        fun hslow hheld => next_congr ((State.mapData_of_good hpk hdata hgood).trans ?_),
        fun hslow hheld => next_congr ((State.mapData_of_good hpk hdata hgood).trans ?_)⟩,
      fun hsignal hgood => next_congr (State.mapSignal_of_good hpk hsignal hgood),
      fun hbad => ⟨fun hdata => next_congr (State.mapData_of_bad hpk hdata hbad),
        fun hsignal => next_congr (State.mapSignal_of_bad hpk hsignal hbad)⟩,
      fun hsignal => next_congr (State.mapData_of_signal hpk hsignal), fun hdata => next_congr (State.mapSignal_of_data hpk hdata)⟩,
    fun s tag r h => next_congr ?_⟩
  · rw [if_pos hin, if_neg (by simpa using hbody)]
  · rw [if_pos (by simpa [hbody] using hin), if_pos (by simp [hbody])]
  · simp only [State.writePacket, h]
  · simp only [State.mapData, h]
  · simp only [State.mapSignal, h]
  · simp only [State.mapRetry, h]
  · obtain ⟨hrow, hanswer, hreduce, hmap⟩ := State.response_of_request hpk hr
    exact ⟨fun hk => next_congr (hrow hk), fun hk => next_congr (hanswer hk), fun hk => next_congr (hreduce hk), fun hk => next_congr (hmap hk)⟩
  · simp only [State.response, h]
  · rw [if_neg (Bool.eq_false_iff.mp hfast)]
  · rw [if_pos hslow, if_neg (Bool.eq_false_iff.mp hheld)]
  · rw [if_pos hslow, if_pos hheld]
  · simp only [State.mapRetry, h]

end Sys2Proof.Claims
end

section
/-! # Rounds and attempts

The messages of the two rounds and the vote (13 R452 to R474), the commands that end or go on with an attempt (13 R476 to R490), and the
mirror's messages (13 R465). -/

namespace Sys2Proof.Machine
open Sys2Proof.Claims

/-! ## Round messages (13 R452 to R456) -/

theorem State.takeRound_eq (s : State) (kind : Nat) (go : State → Nat → RoundMsg → State) :
    s.takeRound kind go = match roundNext s kind with
      | none => s
      | some (src, n, none) => roundCut s src n
      | some (src, n, some m) => go (roundCut s src n) src m := rfl

/-- Each of the four rows takes the messages of its kind. -/
theorem exec_roundRow : ∀ r ∈ roundRows, ∀ s : State, exec r.2.1 s = .next (s.takeRound r.1 r.2.2) := by
  simp only [roundRows, List.forall_mem_cons, List.not_mem_nil, false_implies, implies_true, and_true]
  exact ⟨fun _ => rfl, fun _ => rfl, fun _ => rfl, fun _ => rfl⟩

section
variable {s : State} {vote : Bool} {src : Nat} {m : RoundMsg}

/-- The contributions that have arrived for a round. -/
def Commit.roundIn (c : Commit) (vote : Bool) : List Contrib := if vote then c.voteIn else c.exchIn

/-- The sender has contributed already, or cannot be a child. -/
theorem State.roundUp_of_known (h : (s.commit.roundIn vote).any (fun y =>
      decide (y.sender = src) && decide (y.epoch = m.epoch) && decide (y.attempt = m.attempt)) = true
    ∨ src = s.eff 0x7802 0 ∨ src = s.moduleId) : s.roundUp vote src m = s := by
  refine if_pos ?_
  rw [Bool.or_eq_true, Bool.or_eq_true, decide_eq_true_eq, decide_eq_true_eq, or_assoc]
  exact h

theorem State.roundUp_of_child (hnew : (s.commit.roundIn vote).any (fun y =>
      decide (y.sender = src) && decide (y.epoch = m.epoch) && decide (y.attempt = m.attempt)) = false)
    (hparent : src ≠ s.eff 0x7802 0) (hself : src ≠ s.moduleId) :
    let c := s.commit
    let x : Contrib := ⟨src, m.epoch, m.attempt, m.flags, m.count, m.maxs, m.sums⟩
    s.roundUp vote src m
      = ({ s with commit := if vote then { c with voteIn := c.voteIn ++ [x] } else { c with exchIn := c.exchIn ++ [x] } } : State).tryCombine
          vote := by
  refine if_neg fun hbad => ?_
  rw [Bool.or_eq_true, Bool.or_eq_true, decide_eq_true_eq, decide_eq_true_eq, or_assoc] at hbad
  rcases hbad with hagain | hbad | hbad
  · exact Bool.false_ne_true (hnew.symm.trans hagain)
  · exact hparent hbad
  · exact hself hbad

/-- The contributions of a round that count for the attempt as it stands. -/
def State.roundUps (s : State) (vote : Bool) : List Contrib :=
  (s.commit.roundIn vote).filter (fun x => decide (x.epoch = s.eNext) && decide (x.attempt = s.commit.attempt))

/-- The module's own contribution is not formed, the round is combined already, or a child has not contributed. -/
theorem State.tryCombine_of_waiting (h : (if vote then s.commit.voteOwn else s.commit.exchOwn) = none
    ∨ (if vote then s.commit.voteDone else s.commit.exchDone) = true ∨ (s.roundUps vote).length < s.eff 0x7803 0) :
    s.tryCombine vote = s := by
  cases ho : (if vote then s.commit.voteOwn else s.commit.exchOwn) with
  | none => simp only [State.tryCombine, ho]
  | some o =>
    simp only [State.tryCombine, ho]
    refine if_pos ?_
    rw [Bool.or_eq_true, decide_eq_true_eq]
    exact h.resolve_left (by simp [ho])

/-- The round is combined, with the children that took part. -/
def State.roundDone (s : State) (vote : Bool) (kids : List Nat) : State :=
  let c := s.commit
  { s with commit := if vote then { c with voteDone := true, voteKids := kids } else { c with exchDone := true, exchKids := kids } }

theorem State.tryCombine_of_ready {o : Contrib} (ho : (if vote then s.commit.voteOwn else s.commit.exchOwn) = some o)
    (hdone : (if vote then s.commit.voteDone else s.commit.exchDone) = false) (hn : s.eff 0x7803 0 ≤ (s.roundUps vote).length) :
    let ins := (s.roundUps vote).take (s.eff 0x7803 0)
    s.tryCombine vote = (s.roundDone vote (ins.map (·.sender))).combined vote (ins.foldl Contrib.add o) := by
  simp only [State.tryCombine, ho]
  refine if_neg ?_
  rw [Bool.or_eq_true, decide_eq_true_eq, not_or]
  exact ⟨Bool.eq_false_iff.mp hdone, Nat.not_lt.mpr hn⟩

/-- A module with a parent sends the combination up. -/
theorem State.combined_of_parent {all : Contrib} {kids : List Nat} (h : s.eff 0x7802 0 ≠ 0xFFFF) :
    (s.roundDone vote kids).combined vote all
      = (s.roundDone vote kids).sendRound (s.eff 0x7802 0) (all.msg (if vote then 3 else 1) 0 0) := by
  cases vote
  · exact if_pos h
  · exact if_pos h

/-- The root decides. -/
theorem State.combined_of_root {all : Contrib} {kids : List Nat} (h : s.eff 0x7802 0 = 0xFFFF) :
    (s.roundDone vote kids).combined vote all = (s.roundDone vote kids).token (all.msg ((if vote then 3 else 1) + 1)
      (if all.count = s.eff 0x7801 0 ∧ bits 3 0 all.flags = 0 then (if vote then 1 else 3) else 2) s.moduleId) := by
  have hgood : ∀ n : Nat, (if (decide (all.count = s.eff 0x7801 0) && decide (bits 3 0 all.flags = 0)) = true then n else 2)
      = if all.count = s.eff 0x7801 0 ∧ bits 3 0 all.flags = 0 then n else 2 := fun n => by
    simp only [Bool.and_eq_true, decide_eq_true_eq]
  cases vote
  · exact (if_neg (not_not.mpr h)).trans (congrArg (fun d => State.token _ (all.msg 2 d s.moduleId)) (hgood 3))
  · exact (if_neg (not_not.mpr h)).trans (congrArg (fun d => State.token _ (all.msg 4 d s.moduleId)) (hgood 1))

end

/-! ## The module's own contribution and vote, and the timeout (13 R458, R467, R475) -/

section
variable {s : State}

theorem State.exchangeContribution_of_met (hst : s.commit.pstate = .running) (hsent : s.commit.exchSent = false)
    (hmet : s.attemptFaulted = true ∨ counterMet (s.counter 0 (bits 9 0 (s.eff 0x7805 1))) (s.eff 0x7805 2) = true) :
    let r : State := (s.readPlan.touchReadRun (Asker.abutment 0) 0 ffPattern
      (pkey (spFast 0) (s.eff 0x7808 1), 4 * s.eff 0x7808 2)).touchBias false
    let t : State := { r with commit := { r.commit with planFault := r.planBad, exchSent := true } }
    s.exchangeContribution = ({ t with commit := { t.commit with exchOwn := some t.exchContrib } } : State).tryCombine false := by
  refine if_pos ?_
  rw [hst, hsent, Bool.and_eq_true, Bool.or_eq_true]
  exact ⟨rfl, hmet⟩

theorem State.exchangeContribution_of_waiting (h : s.commit.pstate ≠ .running ∨ s.commit.exchSent = true
    ∨ ¬ (s.attemptFaulted = true ∨ counterMet (s.counter 0 (bits 9 0 (s.eff 0x7805 1))) (s.eff 0x7805 2) = true)) :
    s.exchangeContribution = s := by
  refine if_neg fun hgo => ?_
  rw [Bool.and_eq_true, Bool.and_eq_true, Bool.or_eq_true, decide_eq_true_eq, Bool.not_eq_true'] at hgo
  obtain ⟨⟨hst, hsent⟩, hmet⟩ := hgo
  rcases h with h | h | h
  · exact h hst
  · exact Bool.false_ne_true (hsent.symm.trans h)
  · exact h hmet

theorem State.voteSend_of_ready (hst : s.commit.pstate = .exchanged) (hsent : s.commit.voteSent = false) (hready : s.voteReady = true) :
    let c := s.commit
    let less := s.mdoneWaived
    let v := if less then s.bump64 0 0x7810 8 1 else s
    s.voteSend = ({ v with commit := { c with
      pstate := .voted, voteSent := true,
      voteOwn := some ⟨v.moduleId, v.eNext, c.attempt, v.ownFlags + b2n less * 16, 1, [], []⟩ } } : State).tryCombine true := by
  refine if_pos ?_
  rw [hst, hsent, hready]
  rfl

theorem State.voteSend_of_waiting (h : s.commit.pstate ≠ .exchanged ∨ s.commit.voteSent = true ∨ s.voteReady = false) :
    s.voteSend = s := by
  refine if_neg fun hgo => ?_
  rw [Bool.and_eq_true, Bool.and_eq_true, decide_eq_true_eq, Bool.not_eq_true'] at hgo
  obtain ⟨⟨hst, hsent⟩, hready⟩ := hgo
  rcases h with h | h | h
  · exact h hst
  · exact Bool.false_ne_true (hsent.symm.trans h)
  · exact Bool.false_ne_true (h.symm.trans hready)

/-- The round whose token is awaited: the exchange of a running attempt that has contributed, or the vote of a voted one. -/
def State.awaitsToken (s : State) : Prop := (s.commit.pstate = .running ∧ s.commit.exchOwn.isSome = true) ∨ s.commit.pstate = .voted

theorem State.roundTimeout_of_waiting (h : s.awaitsToken) (hnew : s.commit.timedOut = false) :
    let c := s.commit
    let exch := c.pstate = .running ∧ c.exchOwn.isSome = true
    s.roundTimeout
      = (({ s with commit := { c with timedOut := true } } : State).bump64 0 0x7810 3 1).commitEvent 4 0 (if exch then 1 else 2) 0 := by
  have hgo : ((decide (s.commit.pstate = .running) && s.commit.exchOwn.isSome) || decide (s.commit.pstate = .voted)) = true := by
    simpa [State.awaitsToken] using h
  rw [State.roundTimeout]
  simp only [hgo, hnew, Bool.not_false, Bool.and_self, if_true]
  simp only [Bool.and_eq_true, decide_eq_true_eq]

theorem State.roundTimeout_of_done (h : ¬ s.awaitsToken ∨ s.commit.timedOut = true) : s.roundTimeout = s := by
  have hstop : (((decide (s.commit.pstate = .running) && s.commit.exchOwn.isSome) || decide (s.commit.pstate = .voted))
      && !s.commit.timedOut) = false := by
    rcases h with h | h
    · rw [Bool.and_eq_false_iff, Bool.eq_false_iff]
      exact .inl fun hgo => h (by simpa [State.awaitsToken] using hgo)
    · simp [h]
  rw [State.roundTimeout]
  simp only [hstop, Bool.false_eq_true, if_false]

/-! ## Attempts (13 R476 to R490) -/

theorem State.abandonCommand_of_attempt (h : s.commit.inAttempt = true ∨ s.commit.pstate = .invalid) :
    s.abandonCommand.2 = s.abandon s.ownFlags 0  := by
  rw [State.abandonCommand, if_pos (by simpa using h)]

theorem State.abandonCommand_of_none (h : s.commit.inAttempt = false) (hst : s.commit.pstate ≠ .invalid) : s.abandonCommand.2 = s := by
  rw [State.abandonCommand, if_neg (by simp [h, hst])]

theorem State.abandonUpdate_of_token (h : goesAgain (s.readSlot 0))
    (hst : (s.readSlot 0).commit.pstate = .exchanged ∨ (s.readSlot 0).commit.pstate = .voted) :
    let t := (s.readSlot 0).updAbandon.tagScrub.nextAttempt.endMarks
    s.abandonUpdate.2
      = { t with commit := { t.commit.endStream with pstate := .exchanged, exchSent := true, updReplay := true } } := by
  obtain ⟨m, hm, hkind, hdecision, hepoch, hjournal⟩ := h
  simp only [State.abandonUpdate, hm, hkind, hdecision, hepoch, hjournal, decide_true, Bool.and_true, Bool.or_eq_true, decide_eq_true_eq, hst,
    if_true]

theorem State.abandonUpdate_of_other (h : ¬ goesAgain (s.readSlot 0)
    ∨ ¬ ((s.readSlot 0).commit.pstate = .exchanged ∨ (s.readSlot 0).commit.pstate = .voted)) : s.abandonUpdate.2 = s.readSlot 0 := by
  rw [State.abandonUpdate]
  rcases h with h | h
  · cases hm : (s.readSlot 0).slotToken 0 with
    | none => simp only [Bool.and_false, Bool.false_eq_true, if_false]
    | some m =>
      rw [if_neg]
      simp only [Bool.and_eq_true, decide_eq_true_eq]
      exact fun ⟨_, ⟨⟨hkind, hdecision⟩, hepoch⟩, hjournal⟩ => h ⟨m, hm, hkind, hdecision, hepoch, hjournal⟩
  · simp only [Bool.and_eq_true, Bool.or_eq_true, decide_eq_true_eq, h, false_and, if_false]

/-! ### INJECT, by the token of slot 3 and the state -/

section
variable {t : State}

theorem State.injectToken_of_none (h : t.slotToken 3 = none) : t.injectToken.2 = t := by
  simp only [State.injectToken, h]

section
variable {m : RoundMsg} (hm : t.slotToken 3 = some m)
include hm

theorem State.injectToken_of_bad (h : ¬ (t.journalOk = true ∧ (m.kind = 2 ∨ m.kind = 4))) : t.injectToken.2 = t := by
  have hbad : (!t.journalOk || (decide (m.kind ≠ 2) && decide (m.kind ≠ 4))) = true := by
    rcases not_and_or.mp h with h | h
    · simp [h]
    · obtain ⟨hexch, hvote⟩ := not_or.mp h
      simp [hexch, hvote]
  simp only [State.injectToken, hm, hbad, if_true]

/-- The token of a step whose scales an idle module takes. -/
def State.takesScales (t : State) (m : RoundMsg) : Prop :=
  m.kind = 2 ∧ (m.decision = 3 ∨ m.decision = 2) ∧ m.epoch = t.eNext ∧ m.attempt < t.commit.attempt

/-- An idle module either takes the scales or leaves the token. -/
theorem State.injectToken_of_idle (hst : t.commit.pstate = .idle) :
    ((t.journalOk = true ∧ (m.kind = 2 ∨ m.kind = 4)) → t.takesScales m → t.injectToken.2 = t.scalesFromToken m.maxs)
    ∧ (¬ t.takesScales m → t.injectToken.2 = t) := by
  constructor
  · rintro ⟨hjournal, -⟩ ⟨hkind, hdecision, hepoch, hattempt⟩
    simp only [State.injectToken, hm, hst, hjournal, hkind, hepoch, hattempt, Bool.not_true, ne_eq, not_true_eq_false, decide_false,
      decide_true, Bool.false_and, Bool.or_self, Bool.true_and, Bool.and_true, Bool.or_eq_true, decide_eq_true_eq, hdecision,
      Bool.false_eq_true, if_false, if_true]
  · intro h
    simp only [State.injectToken, hm, hst, if_true]
    split
    · rfl
    · rw [if_neg]
      simp only [Bool.and_eq_true, Bool.or_eq_true, decide_eq_true_eq]
      exact fun ⟨⟨⟨hkind, hdecision⟩, hepoch⟩, hattempt⟩ => h ⟨hkind, hdecision, hepoch, hattempt⟩

/-- Another acts on a token that matches, and leaves one that does not. -/
theorem State.injectToken_of_busy (hst : t.commit.pstate ≠ .idle) :
    ((t.journalOk = true ∧ (m.kind = 2 ∨ m.kind = 4)) → t.tokenMatches m = true → t.injectToken.2 = t.actToken m)
    ∧ (t.tokenMatches m = false → t.injectToken.2 = t) := by
  constructor
  · rintro ⟨hjournal, hkind⟩ hmatch
    have hgood : (!t.journalOk || (decide (m.kind ≠ 2) && decide (m.kind ≠ 4))) = false := by
      rcases hkind with hkind | hkind <;> simp [hjournal, hkind]
    simp only [State.injectToken, hm, hgood, hst, hmatch, Bool.false_eq_true, if_false, if_true]
  · intro hmatch
    simp only [State.injectToken, hm, hst, hmatch, Bool.false_eq_true, if_false]
    split <;> rfl

end
end

/-! ### RESTORE, ATTEMPT_RESET, MSEAL, RESEED and MIRROR_RESEND -/

/-- A state from which the module restores itself from its buddy. -/
def State.mayRestore (s : State) : Prop := s.commit.pstate = .empty ∨ s.commit.pstate = .idle ∨ s.commit.pstate = .invalid

theorem State.restore_of_buddy (hst : s.mayRestore) (hbuddy : s.odv 0 0x780B 0 ≠ 0xFFFF) :
    let t : State := { s with commit := { s.commit with
      live := s.commitObjects, restoring := 1, restoreWant := [], restoreImage := [], restoreBytes := 0 } }
    s.restore.2 = if t.slowFailed then t.restoreFailed else t.pull 0 0 256 := by
  have hgo : ((decide (s.commit.pstate = .empty) || decide (s.commit.pstate = .idle) || decide (s.commit.pstate = .invalid))
      && decide (s.odv 0 0x780B 0 ≠ 0xFFFF)) = true := by
    simp only [Bool.and_eq_true, Bool.or_eq_true, decide_eq_true_eq, or_assoc]
    exact ⟨hst, hbuddy⟩
  simp only [State.restore, hgo, if_true]

theorem State.restore_of_other (h : ¬ s.mayRestore ∨ s.odv 0 0x780B 0 = 0xFFFF) : s.restore.2 = s := by
  have hstop : ((decide (s.commit.pstate = .empty) || decide (s.commit.pstate = .idle) || decide (s.commit.pstate = .invalid))
      && decide (s.odv 0 0x780B 0 ≠ 0xFFFF)) = false := by
    rw [Bool.eq_false_iff]
    simp only [ne_eq, Bool.and_eq_true, Bool.or_eq_true, decide_eq_true_eq, or_assoc]
    exact fun ⟨hst, hbuddy⟩ => h.elim (fun hn => hn hst) hbuddy
  simp only [State.restore, hstop, Bool.false_eq_true, if_false]

theorem State.mseal_eq (s : State) :
    let r := s.readHdr.readSlot 3
    let h := r.heldHdr
    let k := r.journal 3
    let ok := r.holds = true ∧ h.mstate = 2 ∧ h.done = 1 ∧ r.num (k + 9) 1 = 2 ∧ r.num k 8 = h.epoch ∧ r.num (k + 8) 1 % 8 = h.attempt
    s.mseal.2 = if ok then (r.storeRun (Asker.mirror 0) 0 (r.mirrorBase + 0x1000)
        (r.bytes k (min (64 + 2 * r.num (k + 16) 4 + 8 * r.num (k + 20) 4) (2 ^ 21)))).setHeldHdr { h with mstate := 3 }
      else r := by
  simp only [State.mseal, Bool.and_eq_true, decide_eq_true_eq, and_assoc, apply_ite Prod.snd]

theorem State.reseed_of_busy (h : s.hasBuddy = false ∨ s.commit.streamOpen = true ∨ s.commit.reseedWait.isSome = true
    ∨ s.commit.reseedLeft.isSome = true) : s.reseed.2 = s := by
  have hstop : (!s.hasBuddy || s.commit.streamOpen || s.commit.reseedWait.isSome || s.commit.reseedLeft.isSome) = true := by
    simpa only [Bool.or_eq_true, Bool.not_eq_true', or_assoc] using h
  simp only [State.reseed, hstop, if_true]

theorem State.reseed_of_buddy (hbuddy : s.hasBuddy = true) (hopen : s.commit.streamOpen = false) (hwait : s.commit.reseedWait = none)
    (hleft : s.commit.reseedLeft = none) :
    let r := s.readPlan
    let t := r.sendMirror 0 r.buddy (r.ownMsg 1 0 (stateImage r.plan + r.odv 0 0x7000 2) true [])
    s.reseed.2 = ({ t with commit := { t.commit with
      streamBytes := 0, reseed := true, reseedAcked := false, reseedLeft := some (List.range (t.odv 0 0x7005 0)) } } : State).reseedOn := by
  simp only [State.reseed, hbuddy, hopen, hwait, hleft, Bool.not_true, Option.isSome_none, Bool.or_self, Bool.false_eq_true, if_false]

/-- Tensors that no PASS2 names are sent at once; the ranges and the marker follow the last. -/
theorem State.reseedOn_of_left {ts : List Nat} (h : s.commit.reseedLeft = some ts) :
    let left := ts.filter s.inPass2
    let t := (ts.filter (fun k => !left.contains k)).foldl (fun (t : State) k => t.reseedTensor k) s
    let u := [0, 1].foldl (fun (t : State) k =>
      (t.sendRanges false k t.eNext t.commit.attempt true).sendRanges true k t.eNext t.commit.attempt true) t
    let v := u.sendMarker (u.ownMsg 3 0 0 true [])
    s.reseedOn = if !left.isEmpty then { t with commit := { t.commit with reseedLeft := some left } }
      else { v with commit := { v.commit with
        reseedLeft := none, reseedWait := some (v.commit.markBytes, v.eNext, v.commit.attempt) } } := by
  simp only [State.reseedOn, h]

end

/-! ## Mirror messages (13 R465) -/

/-- The message that stands first at a Pier's half, where a row of a kind takes it: of that kind, or malformed. -/
def mirrorPick (s : State) (kind p : Nat) : Option (Nat × Packet × Option MirrorMsg) :=
  match mirrorHead s p with
  | some (pk, none) => some (p, pk, none)
  | some (pk, some m) => if m.kind = kind then some (p, pk, some m) else none
  | none => none

/-- What is done with a message that a row takes. -/
def mirrorDo (s : State) (go : State → Packet → MirrorMsg → State) : Nat × Packet × Option MirrorMsg → State
  | (p, _, none) => s.takeInbox p 5
  | (p, pk, some m) => go (s.takeInbox p 5) pk m

theorem State.mirrorIn_eq (s : State) (p kind : Nat) (go : State → Packet → MirrorMsg → State) :
    s.mirrorIn p kind go = (mirrorPick s kind p).map (mirrorDo s go) := by
  unfold State.mirrorIn mirrorPick mirrorHead
  cases s.inboxOf p 5 with
  | none => rfl
  | some pk =>
    cases hm : parseMirror pk.body with
    | none => simp only [Option.map_some, hm, mirrorDo]
    | some m =>
      simp only [Option.map_some, hm]
      split
      · rfl
      · rfl

theorem State.takeMirror_eq (s : State) (kind : Nat) (go : State → Packet → MirrorMsg → State) :
    s.takeMirror kind go = ((mirrorNext s kind).map (mirrorDo s go)).getD s := by
  have hnext : mirrorNext s kind = match mirrorPick s kind 0 with
    | some x => some x
    | none => if s.p1.inReset then none else mirrorPick s kind 1 := rfl
  rw [State.takeMirror, State.mirrorIn_eq, State.mirrorIn_eq, hnext]
  cases mirrorPick s kind 0 with
  | some x => rfl
  | none =>
    dsimp only [Option.map_none]
    split
    · rfl
    · rfl

/-- Each of the seven rows takes the messages of its kind, those of a marker and of a close once the mirror is visible. -/
theorem exec_mirrorRow : ∀ r ∈ mirrorRows, ∀ s : State,
    exec r.2.1 s = .next (if (r.1 = 3 ∨ r.1 = 4) ∧ s.mirrorVisible = false then s else s.takeMirror r.1 r.2.2) := by
  simp only [mirrorRows, List.forall_mem_cons, List.not_mem_nil, false_implies, implies_true, and_true]
  refine ⟨fun s => next_congr (if_neg ?_).symm, fun s => next_congr (if_neg ?_).symm, fun s => next_congr ?_, fun s => next_congr ?_,
    fun s => next_congr (if_neg ?_).symm, fun s => next_congr (if_neg ?_).symm, fun s => next_congr (if_neg ?_).symm⟩
  case refine_3 | refine_4 => cases h : s.mirrorVisible <;> simp
  all_goals simp

end Sys2Proof.Machine

namespace Sys2Proof.Claims
open Sys2Proof.Machine

/-- Settles O22: a message by the oldest of its kind, a round by the contributions that have arrived, and the module's own part by its
attempt. -/
theorem roundMessagesTaken : Obligations.RoundMessagesTaken := by
  refine ⟨fun r hr s src n m => ?_, fun s src m vote hvote => ⟨State.roundUp_of_known, State.roundUp_of_child,
      fun h => ?_, fun h => if_pos h⟩,
    fun s vote hvote => ⟨fun h => State.tryCombine_of_waiting h, fun o ho hdone hn => ?_⟩,
    fun s => ⟨fun hst hsent hmet => next_congr (State.exchangeContribution_of_met hst hsent hmet),
      fun h => next_congr (State.exchangeContribution_of_waiting h),
      fun hst hsent hready => next_congr (State.voteSend_of_ready hst hsent hready), fun h => next_congr (State.voteSend_of_waiting h),
      fun h hnew => next_congr (State.roundTimeout_of_waiting h hnew), fun h => next_congr (State.roundTimeout_of_done h)⟩⟩
  · rw [exec_roundRow r hr, State.takeRound_eq]
    exact ⟨fun h => by rw [h], fun h => by rw [h], fun h => by rw [h]⟩
  · exact if_neg (Bool.eq_false_iff.mp h)
  · have hcombine := State.tryCombine_of_ready ho hdone hn
    refine ⟨fun hparent => hcombine.trans (State.combined_of_parent hparent),
      fun hroot hgood => hcombine.trans ((State.combined_of_root hroot).trans ?_),
      fun hroot hbad => hcombine.trans ((State.combined_of_root hroot).trans ?_)⟩
    · exact congrArg (fun d => State.token _ (Contrib.msg _ _ d s.moduleId)) (if_pos hgood)
    · exact congrArg (fun d => State.token _ (Contrib.msg _ _ d s.moduleId)) (if_neg hbad)

/-- Settles O23: each command by the state that it needs. -/
theorem attemptCommands : Obligations.AttemptCommands := by
  intro s
  refine ⟨fun h => ⟨next_congr (State.abandonCommand_of_attempt h), rfl, rfl, rfl, rfl, rfl, rfl, rfl, rfl, rfl⟩,
    fun h hst => next_congr (State.abandonCommand_of_none h hst),
    fun h hst => ⟨next_congr (State.abandonUpdate_of_token (s := s) h hst), rfl⟩, fun h => next_congr (State.abandonUpdate_of_other h),
    fun h => next_congr (State.injectToken_of_none h),
    fun m hm => ⟨fun hgood hst hscales => next_congr ((State.injectToken_of_idle hm hst).1 hgood hscales),
      fun hgood hst hmatch => next_congr ((State.injectToken_of_busy hm hst).1 hgood hmatch),
      fun hbad => next_congr (State.injectToken_of_bad hm hbad),
      fun hst hscales => next_congr ((State.injectToken_of_idle hm hst).2 hscales),
      fun hst hmatch => next_congr ((State.injectToken_of_busy hm hst).2 hmatch)⟩,
    fun hst hbuddy => ⟨fun hslow => next_congr ((State.restore_of_buddy hst hbuddy).trans (if_neg (Bool.eq_false_iff.mp hslow))),
      fun hslow => next_congr ((State.restore_of_buddy hst hbuddy).trans (if_pos hslow))⟩,
    fun h => next_congr (State.restore_of_other h),
    fun h => next_congr ?_, fun h => next_congr ?_,
    ⟨fun h => next_congr ((State.mseal_eq s).trans (if_pos h)), fun h => next_congr ((State.mseal_eq s).trans (if_neg h))⟩,
    fun hbuddy hopen hwait hleft => next_congr (State.reseed_of_buddy hbuddy hopen hwait hleft),
    fun ts hts => ⟨fun hleft => (State.reseedOn_of_left hts).trans (if_pos (by simpa using hleft)),
      fun hleft => (State.reseedOn_of_left hts).trans (if_neg (by simpa using hleft))⟩,
    fun h => next_congr (State.reseed_of_busy h), rfl⟩
  · simp only [State.attemptReset, h, if_true]
  · simp only [State.attemptReset, h, Bool.false_eq_true, if_false]

/-- Settles O24: what a row takes is what stands first (`State.takeMirror_eq`). -/
theorem mirrorMessagesTaken : Obligations.MirrorMessagesTaken := by
  intro r hr s
  rw [exec_mirrorRow r hr]
  refine ⟨fun p pk m hnext hvis => next_congr ((if_neg ?_).trans ?_), fun p pk hnext hvis => next_congr ((if_neg ?_).trans ?_),
    fun hnext => next_congr (ite_eq_left_iff.mpr fun _ => ?_), fun hkind hvis => next_congr (if_pos ⟨hkind, hvis⟩)⟩
  · exact fun ⟨hkind, hdark⟩ => Bool.false_ne_true (hdark.symm.trans (hvis hkind))
  · rw [State.takeMirror_eq, hnext]; rfl
  · exact fun ⟨hkind, hdark⟩ => Bool.false_ne_true (hdark.symm.trans (hvis hkind))
  · rw [State.takeMirror_eq, hnext]; rfl
  · rw [State.takeMirror_eq, hnext]; rfl

end Sys2Proof.Claims
end

section
/-! # The link layer and the ports

Codewords, their acknowledgements, credits and stomps at one port, the packets of the router (14 R495 to R511), and the states of a
port (Tables 14-8, 14-9). -/

namespace Sys2Proof.Machine
open Sys2Proof.Claims

section
variable {s : State} {k n vc : Nat}

/-! ## Codewords (14 R499 to R503) -/

section
variable {symbols : List Nat}

theorem State.codeword_of_other (h : (s.port k).st ≠ .active ∨ (s.port k).rxNext ≠ n) : s.codeword k n symbols = s :=
  if_pos (by simpa using h)

theorem State.codeword_of_next (hst : (s.port k).st = .active) (hn : (s.port k).rxNext = n) :
    let q := s.port k
    s.codeword k n symbols = match decodeCodeword symbols with
      | none => ((s.setPort k { q with discarding := true }).bump64 k 0x6011 5 1).sendControl k (ctlNum 2 n)
      | some (fixed, header, data) =>
        let ack := decide (64 ≤ q.sinceAck + 1)
        let t := s.setPort k { q with rxNext := wrap32 (n + 1), discarding := false, sinceAck := if ack then 0 else q.sinceAck + 1 }
        let t := (if fixed ≠ 0 then t.bump64 k 0x6011 4 1 else t).takeSlots k header data
        if ack then t.sendControl k (ctlNum 1 (n + 1)) else t :=
  if_neg (by simp [hst, hn])

end

/-! ## ACK, NAK, CREDIT and STOMP (14 R502 to R507) -/

theorem State.takeAck_of_active (hst : (s.port k).st = .active) :
    let q := s.port k
    s.takeAck k n = if n = q.txNext then (s.setPort k { q with replay := [] }).pumpAll k
      else if q.replay.any (fun c => c.num = n) then
        (s.setPort k { q with replay := q.replay.dropWhile (fun c => c.num ≠ n) }).pumpAll k
      else s :=
  if_neg (not_not.mpr hst)

theorem State.takeAck_of_inactive (h : (s.port k).st ≠ .active) : s.takeAck k n = s := if_pos h

/-- The ACK names no codeword of the port. -/
theorem State.takeAck_of_unknown (hnext : n ≠ (s.port k).txNext) (h : ((s.port k).replay.any fun c => c.num = n) = false) :
    s.takeAck k n = s := by
  by_cases hst : (s.port k).st = .active
  · rw [State.takeAck_of_active hst, if_neg hnext, if_neg (Bool.eq_false_iff.mp h)]
  · exact State.takeAck_of_inactive hst

theorem State.takeNak_of_known (hst : (s.port k).st = .active) (h : ((s.port k).replay.any fun c => c.num = n) = true) :
    let q := s.port k
    s.takeNak k n = (q.replay.dropWhile (fun c => c.num ≠ n)).foldl (fun t c => t.emit (.codeword k c))
      ((s.setPort k { q with
        nakOf := n, nakCount := if q.nakCount ≠ 0 ∧ q.nakOf = n then q.nakCount + 1 else 1 }).bump64 k 0x6011 6 1) := by
  simp only [State.takeNak, hst, h, decide_true, Bool.and_self, if_true, Bool.and_eq_true, decide_eq_true_eq]

theorem State.takeNak_of_unknown (h : (s.port k).st ≠ .active ∨ ((s.port k).replay.any fun c => c.num = n) = false) :
    s.takeNak k n = s := by
  refine if_neg fun hgo => ?_
  rw [Bool.and_eq_true, decide_eq_true_eq] at hgo
  rcases h with h | h
  · exact h hgo.1
  · exact Bool.false_ne_true (h.symm.trans hgo.2)

theorem State.takeStomp_of_none (h : (s.port k).partials.find? (fun x => x.1 = vc) = none) : s.takeStomp k vc = s := by
  simp only [State.takeStomp, h]

theorem State.takeStomp_of_partial {x : Nat × List Byte} (hst : (s.port k).st = .active)
    (hx : (s.port k).partials.find? (fun x => x.1 = vc) = some x) :
    s.takeStomp k vc = ((s.setPort k { s.port k with partials := (s.port k).partials.filter (fun y => y.1 ≠ vc) }).bump32 0 0x6020 6
      1).sendControl k (ctlCredit vc (x.2.length / 64)) := by
  simp only [State.takeStomp, hx, hst, ne_eq, not_true_eq_false, if_false]

theorem State.takeStomp_of_inactive (h : (s.port k).st ≠ .active) : s.takeStomp k vc = s := by
  unfold State.takeStomp
  dsimp only
  split
  · exact if_pos h
  · rfl

/-! ## Packets (14 R495 to R511) -/

/-- A packet for a Pier goes to the reduce contexts, or to the Pier. -/
theorem State.handOver_eq (s : State) (pk : Packet) : s.handOver pk = { s with fab :=
    if pk.proto = 3 ∧ pk.tc = 4 then { s.fab with inboxR := s.fab.inboxR ++ [pk] }
    else if pk.destPier = 0 then { s.fab with inbox0 := s.fab.inbox0 ++ [pk] }
    else { s.fab with inbox1 := s.fab.inbox1 ++ [pk] } } := by
  simp only [State.handOver, Bool.and_eq_true, decide_eq_true_eq]
  split
  · rfl
  · split <;> rfl

section
variable {pk : Packet} {l : List (Nat × Packet)} (h : s.fab.eject = (k, pk) :: l)
include h

theorem State.deliver_of_packet :
    let t : State := { s with fab := { s.fab with eject := l } }
    s.deliver = if !pk.good then t.dropPacket 5
      else if (s.pier pk.destPier).inReset && !(decide (pk.proto = 6) && decide (pk.destPier = 1)) then
        (if k < 6 then t.bump32 k 0x6011 7 1 else t)
      else t.handOver pk := by
  simp only [State.deliver, h]
  rfl

theorem State.deliver_of_corrupt (hgood : pk.good = false) :
    s.deliver = ({ s with fab := { s.fab with eject := l } } : State).dropPacket 5 :=
  (State.deliver_of_packet h).trans (if_pos (congrArg not hgood))

theorem State.deliver_of_reset (hgood : pk.good = true) (hreset : (s.pier pk.destPier).inReset = true)
    (hpier : ¬ (pk.proto = 6 ∧ pk.destPier = 1)) :
    let t : State := { s with fab := { s.fab with eject := l } }
    s.deliver = if k < 6 then t.bump32 k 0x6011 7 1 else t := by
  refine (State.deliver_of_packet h).trans ((if_neg (Bool.eq_false_iff.mp (congrArg not hgood))).trans (if_pos ?_))
  rw [hreset, Bool.true_and, Bool.not_eq_true', Bool.eq_false_iff, ne_eq, Bool.and_eq_true, decide_eq_true_eq, decide_eq_true_eq]
  exact hpier

theorem State.deliver_of_good (hgood : pk.good = true)
    (hpier : (s.pier pk.destPier).inReset = false ∨ (pk.proto = 6 ∧ pk.destPier = 1)) :
    s.deliver = ({ s with fab := { s.fab with eject := l } } : State).handOver pk := by
  refine (State.deliver_of_packet h).trans ((if_neg (Bool.eq_false_iff.mp (congrArg not hgood))).trans (if_neg ?_))
  rcases hpier with hpier | ⟨hproto, hdest⟩
  · rw [hpier]; exact Bool.false_ne_true
  · simp [hproto, hdest]

end

theorem State.deliver_of_none (h : s.fab.eject = []) : s.deliver = s := by
  simp only [State.deliver, h]

/-! ### PACKET_EXPIRED, by where the packet resides -/

theorem State.expire_ejection_of_packet {x : Nat × Packet} {l : List (Nat × Packet)} (h : s.fab.eject = x :: l) :
    s.expire k .ejection = ({ s with fab := { s.fab with eject := l } } : State).dropPacket 2 := by
  simp only [State.expire, h]

theorem State.expire_ejection_of_none (h : s.fab.eject = []) : s.expire k .ejection = s := by
  simp only [State.expire, h]

theorem State.expire_training_of_held {i : Nat} (h : s.fab.held.findIdx? (fun x => x.1 = k) = some i) :
    s.expire k .training = ({ s with fab := { s.fab with held := s.fab.held.eraseIdx i } } : State).dropPacket 2 := by
  simp only [State.expire, h]

theorem State.expire_training_of_none (h : s.fab.held.findIdx? (fun x => x.1 = k) = none) : s.expire k .training = s := by
  simp only [State.expire, h]

theorem State.expire_output_of_waiting {x : TxSlot} (h : (s.port k).txWait.find? (fun x => x.vc = vc) = some x) :
    let q := s.port k
    let t := (s.setPort k { q with txWait := dropSlots vc (x.left + 1) q.txWait }).dropPacket 2
    s.expire k (.output vc) = if x.first then t else t.sendControl k (ctlStomp vc) := by
  simp only [State.expire, h]

theorem State.expire_output_of_none (h : (s.port k).txWait.find? (fun x => x.vc = vc) = none) : s.expire k (.output vc) = s := by
  simp only [State.expire, h]

/-! ## The states of a port (Tables 14-8, 14-9) -/

theorem State.trainStep_of_training {peer : Train} (h : (s.port k).st = .training) :
    s.trainStep k peer = if (s.port k).step < 3 then s.setPort k { s.port k with step := (s.port k).step + 1 }
      else if peer.base ≠ s.odv 0 0xA012 0 then s.portEnter k .down 3 true
      else if !s.peerOk k peer then s.portEnter k .down 4 true
      else s.portActive k (s.peerId peer) :=
  if_neg (not_not.mpr h)

theorem State.loopbackFail_of_selftest {v : Nat} (h : (s.port k).st = .selftest) :
    let t := s.portEnter k .failed (s.port k).cause false
    let w := 1 + k % 8 * 2 + (v % 2 ^ 16) * 16 + 2 ^ 20
    let u := t.setOd 0 0x6008 0 w
    s.loopbackFail k v = if t.fabFailed then t.markFaulted
      else ((({ u with host := { u.host with eventLog := u.host.eventLog ++ [w + 2 ^ 32] } } : State).raise 15).alert 2 0 w).markFaulted :=
  if_neg (not_not.mpr h)

/-- RETRAIN and DISABLE of a port that is neither FAILED nor DISABLED. -/
theorem State.portCommand_of_enabled (hfailed : (s.port k).st ≠ .failed) (hdisabled : (s.port k).st ≠ .disabled) :
    s.portCommand k 1 = s.portEnter k .down 7 false ∧ s.portCommand k 2 = s.portEnter k .disabled 7 false := by
  simp only [State.portCommand, hfailed, hdisabled, if_false, and_self]

theorem State.portCommand_of_stopped (h : (s.port k).st = .failed ∨ (s.port k).st = .disabled) :
    s.portCommand k 1 = s ∧ s.portCommand k 2 = s := by
  rcases h with h | h <;> simp only [State.portCommand, h, reduceCtorEq, if_true, if_false, and_self]

theorem LinkState.stopped_of_not_running {st : LinkState} (h : ¬ st = .down ∧ ¬ st = .training ∧ ¬ st = .active ∧ ¬ st = .selftest) :
    st = .failed ∨ st = .disabled := by
  cases st <;> simp at h ⊢

/-- Each move of Table 14-8 that has no other condition. -/
theorem exec_portMove : ∀ r ∈ portMoves k, (s.port k).st = r.2.1 →
    exec r.1 s = .next (s.portEnter k r.2.2.1 (r.2.2.2 (s.port k)) false) := by
  simp only [portMoves, List.forall_mem_cons, List.not_mem_nil, false_implies, implies_true, and_true]
  refine ⟨fun h => next_congr (if_pos h), fun h => ?_, fun h => ?_, fun h => next_congr (if_pos h), fun h => next_congr (if_pos h),
    fun h => next_congr ?_⟩
  · show execSignalLost k s = _
    rw [execSignalLost, h]
  · show execSignalLost k s = _
    rw [execSignalLost, h]
  · simp only [State.portCommand, h, reduceCtorEq, if_false, if_true]

/-- No row acts on a port in a state in which the tables give it none. -/
theorem exec_portAct_of_other {peer : Train} {limit : LinkLimit} {v : Nat} :
    ∀ r ∈ portActs k peer limit v, (s.port k).st ∉ r.2 → exec r.1 s = .next s := by
  simp only [portActs, List.forall_mem_cons, List.not_mem_nil, false_implies, implies_true, and_true]
  simp only [List.mem_cons, List.not_mem_nil, or_false, not_or]
  refine ⟨fun h => next_congr (if_neg ?_), fun h => next_congr (if_pos h), fun h => next_congr (if_neg h), fun h => next_congr (if_neg h),
    fun h => next_congr (if_neg ?_), fun ⟨hactive, htraining⟩ => ?_, fun h => next_congr (if_neg h), fun h => next_congr (if_neg h),
    fun h => next_congr (if_pos h), fun h => next_congr (State.portCommand_of_stopped ?_).1,
    fun h => next_congr (State.portCommand_of_stopped ?_).2, fun h => next_congr ?_⟩
  · simp [h]
  · simp [h]
  · show execSignalLost k s = _
    unfold execSignalLost
    split
    · next h => exact absurd h hactive
    · next h => exact absurd h htraining
    · rfl
  · exact LinkState.stopped_of_not_running h
  · exact LinkState.stopped_of_not_running h
  · simp only [State.portCommand, h, if_false, ite_self]

end

end Sys2Proof.Machine

namespace Sys2Proof.Claims
open Sys2Proof.Machine

/-- Settles O25: each row of the link layer by the state of the port, and of the router by the packet that stands where it looks. -/
theorem linkLayerCommands : Obligations.LinkLayerCommands := by
  refine ⟨fun s k n symbols => ⟨fun h => next_congr (State.codeword_of_other h),
      fun hst hn hbad => next_congr ((State.codeword_of_next hst hn).trans (by rw [hbad])),
      fun fixed header data hst hn hgood => next_congr ((State.codeword_of_next hst hn).trans ?_)⟩,
    fun s k n vc => ⟨fun hst hn => next_congr ((State.takeAck_of_active hst).trans (if_pos hn)),
      fun hst hn hknown => next_congr ((State.takeAck_of_active hst).trans ((if_neg hn).trans (if_pos hknown))),
      fun hst hknown => next_congr (State.takeNak_of_known hst hknown),
      fun hn h => next_congr (State.takeAck_of_unknown hn h), fun h => next_congr (State.takeNak_of_unknown (.inr h)),
      fun h => next_congr (State.takeStomp_of_none h), fun hst => next_congr (if_neg (not_not.mpr hst)),
      fun x hst hx => next_congr (State.takeStomp_of_partial hst hx),
      fun hst => ⟨next_congr (State.takeAck_of_inactive hst), next_congr (State.takeNak_of_unknown (.inl hst)),
        next_congr (if_pos hst), next_congr (State.takeStomp_of_inactive hst)⟩⟩,
    fun s k vc pk l h => ⟨next_congr ?_, next_congr ?_⟩, fun s k h => ⟨next_congr ?_, next_congr ?_⟩,
    fun s k pk l h => ⟨fun hgood => next_congr (State.deliver_of_corrupt h hgood),
      fun hgood hpier => next_congr ((State.deliver_of_good h hgood hpier).trans (State.handOver_eq _ pk)),
      fun hgood hreset hpier => next_congr (State.deliver_of_reset h hgood hreset hpier), next_congr (State.expire_ejection_of_packet h)⟩,
    fun s k h => ⟨next_congr (State.deliver_of_none h), next_congr (State.expire_ejection_of_none h)⟩,
    fun s k vc => ⟨fun i h => next_congr (State.expire_training_of_held h), fun h => next_congr (State.expire_training_of_none h),
      fun x h => next_congr (State.expire_output_of_waiting h), fun h => next_congr (State.expire_output_of_none h)⟩⟩
  · rw [hgood]
    simp only [ne_eq, ite_not]
  · simp only [State.routerForward, h]
  · simp only [State.expire, h]
  · simp only [State.routerForward, h]
  · simp only [State.expire, h]

/-- Settles O26: the moves of the tables (`exec_portMove`), the states in which a row does not act (`exec_portAct_of_other`), and the rows
that look at more than the state. -/
theorem portStateCommands : Obligations.PortStateCommands := by
  intro s k peer limit v
  refine ⟨exec_portMove, exec_portAct_of_other, fun hst hbar => next_congr (if_pos (by simp [hst, hbar])),
    fun hst hbar => next_congr (if_neg (by simp [hbar])),
    fun hst hstep => next_congr ((State.trainStep_of_training hst).trans (if_pos hstep)),
    fun hst hstep hbase => next_congr ((State.trainStep_of_training hst).trans ((if_neg (Nat.not_lt.mpr hstep)).trans (if_pos hbase))),
    fun hst hstep hbase hpeer => next_congr ((State.trainStep_of_training hst).trans ((if_neg (Nat.not_lt.mpr hstep)).trans
      ((if_neg (not_not.mpr hbase)).trans (if_pos (congrArg not hpeer))))),
    fun hst hstep hbase hpeer => next_congr ((State.trainStep_of_training hst).trans ((if_neg (Nat.not_lt.mpr hstep)).trans
      ((if_neg (not_not.mpr hbase)).trans (if_neg (Bool.eq_false_iff.mp (congrArg not hpeer)))))),
    fun hst => next_congr (if_pos hst), fun hst hlimit => next_congr (if_pos (by simp [hst, hlimit])),
    fun hst hlimit => next_congr (if_neg (by simp [hlimit])),
    fun hst => ⟨fun hfailed => next_congr ((State.loopbackFail_of_selftest hst).trans (if_pos hfailed)),
      fun hfailed => next_congr ((State.loopbackFail_of_selftest hst).trans (if_neg (Bool.eq_false_iff.mp hfailed)))⟩,
    fun hfailed hdisabled => ⟨next_congr (State.portCommand_of_enabled hfailed hdisabled).1,
      next_congr (State.portCommand_of_enabled hfailed hdisabled).2⟩,
    fun hv => next_congr (if_pos hv), fun hv => next_congr (if_neg (Nat.not_lt.mpr hv))⟩

end Sys2Proof.Claims
end

section
/-! # The host's accesses

BAR accesses by the place they reach (16 R518 to R523, Tables 16-3, 16-4), host-managed memory (16 R541 to R545) and the answers to
snoops. -/

namespace Sys2Proof.Machine
open Sys2Proof.Claims

/-! ## A register of the doorbell page, written whole -/

/-- A fold over a range in which one step alone does something. -/
theorem List.foldl_range_single {α : Type} {f : α → Nat → α} {r : Nat} (h : ∀ a k, k ≠ r → f a k = a) (a : α) :
    ∀ n, (List.range n).foldl f a = if r < n then f a r else a
  | 0 => rfl
  | n + 1 => by
    rw [List.range_succ, List.foldl_append, List.foldl_range_single h a n]
    rcases Nat.lt_trichotomy r n with hlt | heq | hgt
    · rw [if_pos hlt, if_pos (Nat.lt_succ_of_lt hlt)]
      exact h _ _ (Nat.ne_of_gt hlt)
    · rw [heq, if_neg (Nat.lt_irrefl n), if_pos (Nat.lt_succ_self n)]
      rfl
    · rw [if_neg (Nat.not_lt.mpr hgt.le), if_neg (by omega)]
      exact h _ _ (Nat.ne_of_lt hgt)

/-- The eight bytes of a register take every byte of the value. -/
theorem ofBytes_of_whole {bs old : List Byte} (h : bs.length = 8) (off : Nat) : ofBytes ((List.range 8).map (fun i =>
    if off ≤ off + i && off + i < off + bs.length then bs.getD (off + i - off) 0 else old.getD i 0)) = ofBytes bs := by
  congr 1
  refine List.ext_getElem (by simp [h]) fun i hi _ => ?_
  have hi8 : i < 8 := by simpa using hi
  simp [h, hi8]

theorem State.pageBytes_of_register (s : State) {r v : Nat} (hr : r < 8) (hv : v < 2 ^ 64) :
    s.pageBytes (8 * r) (toBytes 8 v) = s.pageWrite r v := by
  have hlen : (toBytes 8 v).length = 8 := toBytes_length 8 v
  unfold State.pageBytes
  rw [List.foldl_range_single (r := r), if_pos hr]
  · rw [if_pos (by simp [meets])]
    dsimp only
    rw [ofBytes_of_whole hlen, ofBytes_toBytes, Nat.mod_eq_of_lt (lt_of_lt_of_eq hv (by norm_num))]
  · intro t k hk
    refine if_neg ?_
    simp only [hlen, meets, Bool.and_eq_true, decide_eq_true_eq]
    omega

/-! ## BAR0 and BAR2 -/

section
variable {s : State} {off n : Nat} {data : List Byte}

theorem exec_barWrite_of_bar0 (htaken : BarTaken s off data.length) (hoff : off < 2 ^ 24) :
    exec (.barWrite 0 off data) s = .next (s.bar0Write off data) := by
  obtain ⟨hlink, hd3, htlp⟩ := htaken
  show execBarWrite 0 off data s = _
  simp only [execBarWrite, hlink, hd3, htlp, decide_eq_true hoff]
  rfl

theorem exec_barRead_of_bar0 (htaken : BarTaken s off n) (hoff : off < 2 ^ 24) : exec (.barRead 0 off n) s = .next (s.bar0Read off n) := by
  obtain ⟨hlink, hd3, htlp⟩ := htaken
  show execBarRead 0 off n s = _
  simp only [execBarRead, hlink, hd3, htlp, decide_eq_true hoff]
  rfl

theorem exec_barRead_of_bar2 (htaken : BarTaken s off n) (hoff : off < 2 ^ 40) : exec (.barRead 2 off n) s = .next (s.bar2Read off n) := by
  obtain ⟨hlink, hd3, htlp⟩ := htaken
  show execBarRead 2 off n s = _
  simp only [execBarRead, hlink, hd3, htlp, decide_eq_true hoff]
  rfl

/-- The link is down, the function is in D3hot, or the transfer leaves its block. -/
theorem tlp_refused (h : ¬ BarTaken s off n) : (s.hostLinked && !s.host.d3hot && tlpOk off n) = false := by
  rw [Bool.eq_false_iff]
  simp only [ne_eq, Bool.and_eq_true, Bool.not_eq_true']
  exact fun ⟨⟨hlink, hd3⟩, htlp⟩ => h ⟨hlink, hd3, htlp⟩

/-- Neither of the two BARs, or an offset past them. -/
theorem exec_bar_of_other {bar : Nat} (h0 : ¬ (bar = 0 ∧ off < 2 ^ 24)) (h2 : ¬ (bar = 2 ∧ off < 2 ^ 40)) :
    exec (.barWrite bar off data) s = .next s ∧ exec (.barRead bar off n) s = .next s := by
  have hbar0 : (decide (bar = 0) && decide (off < 2 ^ 24)) = false := by
    rw [Bool.eq_false_iff, ne_eq, Bool.and_eq_true, decide_eq_true_eq, decide_eq_true_eq]
    exact h0
  have hbar2 : (decide (bar = 2) && decide (off < 2 ^ 40)) = false := by
    rw [Bool.eq_false_iff, ne_eq, Bool.and_eq_true, decide_eq_true_eq, decide_eq_true_eq]
    exact h2
  constructor
  · show execBarWrite bar off data s = _
    simp only [execBarWrite, hbar0, hbar2, Bool.false_eq_true, if_false, ite_self]
  · show execBarRead bar off n s = _
    simp only [execBarRead, hbar0, hbar2, Bool.false_eq_true, if_false, ite_self]

/-! ### The places of BAR0 -/

theorem State.bar0Write_control {p : Nat} (hp : p < 2) (hlo : p * 0x400000 ≤ off) (hhi : off < (p + 1) * 0x400000) :
    s.bar0Write off data = if s.pierDown p then s.dropWrite else s.write (pkey (spCtl p) (off % 0x400000)) data := by
  have hpier : off / 0x400000 = p := by omega
  rw [State.bar0Write, if_pos (by omega), hpier]

theorem State.bar0Write_component (hlo : 0x800000 ≤ off) (hhi : off < 0x810000) :
    s.bar0Write off data = s.componentWrite (off - 0x800000) data := by
  rw [State.bar0Write, if_neg (by omega), if_pos hhi]

theorem State.bar0Write_page (hlo : 0x900000 ≤ off) (hhi : off < 0x901000) : s.bar0Write off data = s.pageBytes (off - 0x900000) data := by
  rw [State.bar0Write, if_neg (by omega), if_neg (by omega), if_pos (by simp [hlo, hhi])]

theorem State.bar0Write_msix (hlo : 0xA00000 ≤ off) (hhi : off < 0xA01000) : s.bar0Write off data = s.msixWrite (off - 0xA00000) data := by
  rw [State.bar0Write, if_neg (by omega), if_neg (by omega), if_neg (by simp; omega), if_pos (by simp [hlo, hhi])]

theorem State.bar0Write_hole (h : (0x810000 ≤ off ∧ off < 0x900000) ∨ (0x901000 ≤ off ∧ off < 0xA00000)
    ∨ (0xA01000 ≤ off ∧ off < 2 ^ 24)) : s.bar0Write off data = s := by
  rw [State.bar0Write, if_neg (by omega), if_neg (by omega), if_neg (by simp; omega), if_neg (by simp; omega)]

theorem State.bar0Read_control {p : Nat} (hp : p < 2) (hlo : p * 0x400000 ≤ off) (hhi : off < (p + 1) * 0x400000) :
    s.bar0Read off n = if s.pierDown p then s.poison n
      else s.emit (.hostData false ((List.range n).map (fun i => s.ctlByte p (off % 0x400000 + i)))) := by
  have hpier : off / 0x400000 = p := by omega
  rw [State.bar0Read]
  dsimp only
  rw [if_pos (by omega), hpier]

theorem State.bar0Read_component (hlo : 0x800000 ≤ off) (hhi : off < 0x820000) :
    s.bar0Read off n = (s.takeBytes n).2.emit (.hostData false (s.takeBytes n).1) := by
  rw [State.bar0Read]
  dsimp only
  rw [if_neg (by omega), if_pos hhi]

theorem State.bar0Read_page (hlo : 0x900000 ≤ off) (hhi : off < 0x901000) :
    s.bar0Read off n = s.emit (.hostData false ((List.range n).map (fun i =>
      BitVec.ofNat 8 (s.pageReg ((off - 0x900000 + i) / 8) / 256 ^ ((off - 0x900000 + i) % 8))))) := by
  rw [State.bar0Read]
  dsimp only
  rw [if_neg (by omega), if_neg (by omega), if_pos (by simp [hlo, hhi])]

theorem State.bar0Read_msix (hlo : 0xA00000 ≤ off) (hhi : off < 0xA01000) :
    s.bar0Read off n = s.emit (.hostData false ((List.range n).map (fun i =>
      if off - 0xA00000 + i < 512 then s.host.msixByte (off - 0xA00000 + i) else 0))) := by
  rw [State.bar0Read]
  dsimp only
  rw [if_neg (by omega), if_neg (by omega), if_neg (by simp; omega), if_pos (by simp [hlo, hhi])]

theorem State.bar0Read_pending (hlo : 0xA01000 ≤ off) (hhi : off < 0xA02000) :
    s.bar0Read off n = s.emit (.hostData false ((List.range n).map (fun i =>
      BitVec.ofNat 8 ((s.host.unsent &&& s.host.intCause) / 256 ^ (off - 0xA01000 + i))))) := by
  rw [State.bar0Read]
  dsimp only
  rw [if_neg (by omega), if_neg (by omega), if_neg (by simp; omega), if_neg (by simp; omega), if_pos (by simp [hlo, hhi])]

theorem State.bar0Read_hole (h : (0x820000 ≤ off ∧ off < 0x900000) ∨ (0x901000 ≤ off ∧ off < 0xA00000)
    ∨ (0xA02000 ≤ off ∧ off < 2 ^ 24)) : s.bar0Read off n = s.emit (.hostData false ((List.range n).map (fun _ => 0))) := by
  rw [State.bar0Read]
  dsimp only
  rw [if_neg (by omega), if_neg (by omega), if_neg (by simp; omega), if_neg (by simp; omega), if_neg (by simp; omega)]

/-! ### The places of BAR2 -/

theorem State.bar2Write_of_closed {p o : Nat} (hplace : bar2Of off = some (p, o)) (h : s.pierDown p = true ∨ s.inRingArea p o = true) :
    s.bar2Write off data = s.dropWrite := by
  simp only [State.bar2Write, hplace]
  exact if_pos (by simpa using h)

theorem State.bar2Read_of_down {p o : Nat} (hplace : bar2Of off = some (p, o)) (h : s.pierDown p = true) :
    s.bar2Read off n = s.poison n := by
  simp only [State.bar2Read, hplace, h, if_true]

theorem State.bar2Read_of_up {p o : Nat} (hplace : bar2Of off = some (p, o)) (h : s.pierDown p = false) :
    let r := s.loadRun (Asker.host p) (pkey (spFast p) o) n
    s.bar2Read off n = if s.ueIn (pkey (spFast p) o) n then r.1.poison n else r.1.emit (.hostData false r.2) := by
  simp only [State.bar2Read, hplace, h, Bool.false_eq_true, if_false]

/-! ## Host-managed memory and snoops -/

theorem State.snoopResponse_of_line {l : Nat} {dirty : Option (List Byte)} (h : s.host.snoopWait.filter (fun x => x.1 = l) ≠ []) :
    let w := s.host.snoopWait.filter (fun x => x.1 = l)
    let t : State := { s with host := { s.host with
      snoopWait := s.host.snoopWait.filter (fun x => !decide (x.1 = l)),
      readWait := s.host.readWait.filter (fun x => !decide (x.1 = l)) } }
    let u := match dirty with
      | some d => t.hostLineWrite (pkey spSlow (l * 64)) ((padTo 64 d).take 64)
      | none => t
    let v := u.putBytes (w.flatMap (fun (x : Nat × List (Nat × Byte)) => x.2))
    s.snoopResponse l dirty
      = ((s.host.readWait.filter (fun x => x.1 = l)).foldl (fun t x => t.lineRequest x.2) v.answersSweep).tryCxlReset :=
  if_neg (by simpa using h)

end

end Sys2Proof.Machine

namespace Sys2Proof.Claims
open Sys2Proof.Machine

/-- Settles O27: a BAR access by the place that its offset names, a line by the window and by who holds it. -/
theorem hostAccesses : Obligations.HostAccesses := by
  refine ⟨fun s off data htaken => ⟨fun p hp hlo hhi => ?_, fun hlo hhi => ?_, fun r v hr hoff hdata hv => ?_, fun hlo hhi => ?_,
      fun hlo hhi => ?_, fun h => ?_, fun p o hoff hplace hup hring => ?_, fun p o hoff hplace h => ?_, fun hoff hplace => ?_⟩,
    fun s off n htaken => ⟨fun p hp hlo hhi => ?_, fun hlo hhi => ?_, fun hlo hhi => ?_, fun hlo hhi => ?_, fun hlo hhi => ?_,
      fun h => ?_, fun p o hoff hplace hdown => ?_, fun p o hoff hplace hup => ?_, fun hoff hplace => ?_⟩,
    fun s bar off data h => ⟨next_congr (if_neg (Bool.eq_false_iff.mp (tlp_refused h))),
      next_congr (if_neg (Bool.eq_false_iff.mp (tlp_refused h)))⟩,
    fun s bar off n data h0 h2 => exec_bar_of_other h0 h2,
    fun s w off data => ⟨fun h => next_congr (if_pos h), fun h => next_congr (if_neg (Bool.eq_false_iff.mp h)),
      fun h => next_congr (if_pos h), fun h => next_congr (if_pos h), fun h => next_congr (if_neg (Bool.eq_false_iff.mp h))⟩,
    fun s l dirty => ⟨fun h => next_congr (if_pos (by simpa using h)),
      fun h => ⟨fun hclean => next_congr ((State.snoopResponse_of_line h).trans (by rw [hclean])),
        fun d hdirty => next_congr ((State.snoopResponse_of_line h).trans (by rw [hdirty]))⟩⟩,
    fun s => ⟨fun hlink hcxl => next_congr (if_pos (by rw [hlink, hcxl]; rfl)), fun h => next_congr (if_neg ?_)⟩⟩
  · rw [exec_barWrite_of_bar0 htaken (by omega), State.bar0Write_control hp hlo hhi]
    exact ⟨fun hdown => next_congr (if_pos hdown), fun hup => next_congr (if_neg (Bool.eq_false_iff.mp hup))⟩
  · rw [exec_barWrite_of_bar0 htaken (by omega), State.bar0Write_component hlo hhi]
  · rw [exec_barWrite_of_bar0 htaken (by omega), State.bar0Write_page (by omega) (by omega), hoff, hdata, Nat.add_sub_cancel_left,
      State.pageBytes_of_register s hr hv]
  · rw [exec_barWrite_of_bar0 htaken (by omega), State.bar0Write_page hlo hhi]
  · rw [exec_barWrite_of_bar0 htaken (by omega), State.bar0Write_msix hlo hhi]
  · rw [exec_barWrite_of_bar0 htaken (by omega), State.bar0Write_hole h]
  · rw [exec_barWrite_of_bar2 htaken hoff, State.bar2Write_of_up data hplace hup hring]
  · rw [exec_barWrite_of_bar2 htaken hoff, State.bar2Write_of_closed hplace h]; rfl
  · rw [exec_barWrite_of_bar2 htaken hoff, State.bar2Write, hplace]; rfl
  · rw [exec_barRead_of_bar0 htaken (by omega), State.bar0Read_control hp hlo hhi]
    exact ⟨fun hdown => next_congr (if_pos hdown), fun hup => next_congr (if_neg (Bool.eq_false_iff.mp hup))⟩
  · rw [exec_barRead_of_bar0 htaken (by omega), State.bar0Read_component hlo hhi]
  · rw [exec_barRead_of_bar0 htaken (by omega), State.bar0Read_page hlo hhi]
  · rw [exec_barRead_of_bar0 htaken (by omega), State.bar0Read_msix hlo hhi]
  · rw [exec_barRead_of_bar0 htaken (by omega), State.bar0Read_pending hlo hhi]
  · rw [exec_barRead_of_bar0 htaken (by omega), State.bar0Read_hole h]
  · rw [exec_barRead_of_bar2 htaken hoff, State.bar2Read_of_down hplace hdown]; rfl
  · rw [exec_barRead_of_bar2 htaken hoff, State.bar2Read_of_up hplace hup]; rfl
  · rw [exec_barRead_of_bar2 htaken hoff, State.bar2Read, hplace]
  · rcases h with h | h <;> simp [h]

end Sys2Proof.Claims
end

section
/-! # The host's interrupts, links and resets

The notify line and the vectors (16 R536 to R540), and what the host's link and its resets do to the controller (16 R533, R554, R555). -/

namespace Sys2Proof.Machine
open Sys2Proof.Claims

section
variable {s : State}

/-! ## Interrupt registers -/

theorem exec_notifyComplete_of_writing {vs : List Nat} (h : s.host.notifyWait = some vs) :
    let t : State := { s with host := { s.host with
      notifyWait := none, unsent := vs.foldl (fun n v => setBit v true n) s.host.unsent } }
    let now := vs.filter t.host.mayNotify
    exec .notifyComplete s = .next ((({ t with host := { t.host with
      unsent := now.foldl (fun n v => setBit v false n) t.host.unsent } } : State).sendAll now).renotify) := by
  show execNotifyComplete s = _
  simp only [execNotifyComplete, h]

theorem exec_notifyComplete_of_none (h : s.host.notifyWait = none) : exec .notifyComplete s = .next s := by
  show execNotifyComplete s = _
  simp only [execNotifyComplete, h]

theorem exec_intWrites_of_linked {v : Nat} (hlink : s.hostLinked = true) (hd3 : s.host.d3hot = false) :
    exec (.intCauseWrite v) s = .next (s.causeWrite v) ∧ exec (.intMaskWrite v) s = .next (s.maskWrite v) :=
  ⟨next_congr (if_pos (by rw [hlink, hd3]; rfl)), next_congr (if_pos (by rw [hlink, hd3]; rfl))⟩

/-- The link is down, the function is in D3hot, or the value is too wide. -/
theorem exec_intWrites_refused {v : Nat} (h : s.hostLinked = false ∨ s.host.d3hot = true ∨ 2 ^ 32 ≤ v) :
    exec (.intCauseWrite v) s = .next s ∧ exec (.intMaskWrite v) s = .next s := by
  by_cases hopen : (s.hostLinked && !s.host.d3hot) = true
  · have hv : 2 ^ 32 ≤ v := by
      rw [Bool.and_eq_true, Bool.not_eq_true'] at hopen
      simpa [hopen] using h
    exact ⟨next_congr ((if_pos hopen).trans (if_pos hv)), next_congr ((if_pos hopen).trans (if_pos hv))⟩
  · exact ⟨next_congr (if_neg hopen), next_congr (if_neg hopen)⟩

/-! ## The link -/

/-- The controller's defaults on a link that is gone. -/
theorem State.controllerReset_of_unlinked (t : State) :
    ({ t with host := { t.host with linkUp := false, rate := 0, width := 0, cxlMode := false, cxlReset := false } } : State).controllerReset
      = { t.endHostCommands with host := { t.host with
          linkUp := false, rate := 0, width := 0, cxlMode := false, cxlReset := false, readWait := [], intMask := 0,
          msixMasked := 2 ^ 32 - 1, msixTable := [], hdmCommitted := 0, launchMask := [], d3hot := false, holdoff := 0 } } := rfl

/-- The module once a notify line that was being written waits again, and counts (16 R555). -/
def State.notifyCut (s : State) : State :=
  match s.host.notifyWait with
  | none => s
  | some vs => ({ s with host := { s.host with
      notifyWait := none, unsent := vs.foldl (fun n v => setBit v true n) s.host.unsent } } : State).bump32 0 0x8010 8 1

theorem State.linkGone_eq_controllerReset (s : State) :
    let t := s.notifyCut.settleSnoops.answersSweep
    s.linkGone = ({ t with host := { t.host with
      linkUp := false, rate := 0, width := 0, cxlMode := false, cxlReset := false } } : State).controllerReset := by
  cases h : s.host.notifyWait <;> simp only [State.linkGone, State.notifyCut, h]

theorem linkOff_eq_defaults (s : State) :
    let t := s.notifyCut.settleSnoops.answersSweep
    linkOff s = { t.endHostCommands with host := { t.host with
      linkUp := false, rate := 0, width := 0, cxlMode := false, cxlReset := false, readWait := [], intMask := 0,
      msixMasked := 2 ^ 32 - 1, msixTable := [], hdmCommitted := 0, launchMask := [], d3hot := false, holdoff := 0 } } := by
  cases h : s.host.notifyWait <;> simp only [linkOff, State.notifyCut, h]

theorem State.linkGone_eq (s : State) : s.linkGone = linkOff s :=
  (State.linkGone_eq_controllerReset s).trans
    ((State.controllerReset_of_unlinked s.notifyCut.settleSnoops.answersSweep).trans (linkOff_eq_defaults s).symm)

theorem exec_cxlReset_of_cxl (hlink : s.host.linkUp = true) (h : s.host.cxlMode = true) :
    exec .cxlReset s = .next ((s.host.filter.foldl (fun (t : State) l => t.freeLine l)
      ({ s with host := { s.host with cxlReset := true } } : State)).tryCxlReset) :=
  next_congr ((if_pos hlink).trans (congrArg State.tryCxlReset (if_pos h)))

theorem exec_cxlReset_of_pcie (hlink : s.host.linkUp = true) (h : s.host.cxlMode = false) :
    exec .cxlReset s = .next (({ s with host := { s.host with cxlReset := true, filter := [] } } : State).tryCxlReset) :=
  next_congr ((if_pos hlink).trans (congrArg State.tryCxlReset (if_neg (Bool.eq_false_iff.mp h))))

/-- Without a link none of the host's resets arrives. -/
theorem exec_hostReset_of_unlinked (h : s.host.linkUp = false) :
    ∀ c ∈ [Instr.hotReset, .hostLinkDown, .flr, .d3hot, .cxlReset, .d0Entry], exec c s = .next s := by
  have hno : ¬ s.host.linkUp = true := Bool.eq_false_iff.mp h
  simp only [List.forall_mem_cons, List.not_mem_nil, false_implies, implies_true, and_true]
  exact ⟨next_congr (if_neg hno), next_congr (if_neg hno), next_congr (if_neg hno), next_congr (if_neg hno), next_congr (if_neg hno),
    next_congr (if_neg (by simp [h]))⟩

theorem exec_hostLinkUp_of_ready {rate width : Nat} {flit : Bool} (hready : s.hostReady = true) (hlink : s.host.linkUp = false)
    (hrate : rate ≤ 5) (hwidth : width ∈ [1, 2, 4, 8, 16]) :
    exec (.hostLinkUp rate width flit) s = .next (({ s with host := { s.host with
      linkUp := true, rate := rate, width := width, cxlMode := decide (4 ≤ rate) && flit } } : State).renotify) := by
  refine next_congr (if_pos ?_)
  rw [hready, hlink, decide_eq_true hrate, List.contains_iff_mem.mpr hwidth]
  rfl

theorem exec_hostLinkUp_refused {rate width : Nat} {flit : Bool}
    (h : s.hostReady = false ∨ s.host.linkUp = true ∨ 5 < rate ∨ width ∉ [1, 2, 4, 8, 16]) :
    exec (.hostLinkUp rate width flit) s = .next s := by
  refine next_congr (if_neg fun hgo => ?_)
  rw [Bool.and_eq_true, Bool.and_eq_true, Bool.and_eq_true, Bool.not_eq_true', decide_eq_true_eq, List.contains_iff_mem] at hgo
  obtain ⟨⟨⟨hready, hlink⟩, hrate⟩, hwidth⟩ := hgo
  rcases h with h | h | h | h
  · exact Bool.false_ne_true (h.symm.trans hready)
  · exact Bool.false_ne_true (hlink.symm.trans h)
  · exact Nat.not_lt.mpr hrate h
  · exact h hwidth

theorem exec_configurationRequest_of_starting (hactive : s.power.state ≠ .active) (htoll : s.power.state ≠ .toll)
    (hstandby : s.power.state ≠ .standby) : exec .configurationRequest s = .next (s.emit (.config true)) := by
  show execConfigurationRequest s = _
  unfold execConfigurationRequest
  split
  · next h => exact absurd h htoll
  · next h => exact absurd h hstandby
  · next h => exact absurd h hactive
  · rfl

end

end Sys2Proof.Machine

namespace Sys2Proof.Claims
open Sys2Proof.Machine

/-- Settles O28: each row by the link, the device state and the mode of the controller. -/
theorem hostInterruptsAndLinks : Obligations.HostInterruptsAndLinks := by
  intro s
  refine ⟨fun vs h => exec_notifyComplete_of_writing h, exec_notifyComplete_of_none,
    fun v => ⟨fun hv => next_congr (if_pos hv), fun hv => next_congr (if_neg (Nat.not_lt.mpr hv)), fun hlink hd3 hv => ?_,
      exec_intWrites_refused⟩,
    fun hlink => ⟨next_congr ((if_pos hlink).trans (State.linkGone_eq s)), next_congr ((if_pos hlink).trans (State.linkGone_eq _)),
      next_congr (if_pos hlink), next_congr (if_pos hlink), exec_cxlReset_of_cxl hlink, exec_cxlReset_of_pcie hlink,
      fun hd3 => next_congr (if_pos (by rw [hlink, hd3]; rfl)), fun hd3 => next_congr (if_neg (by simp [hd3]))⟩,
    exec_hostReset_of_unlinked, fun rate width flit => exec_hostLinkUp_of_ready, fun rate width flit => exec_hostLinkUp_refused,
    fun h => ?_, fun h => ?_, exec_configurationRequest_of_starting⟩
  · obtain ⟨hcause, hmask⟩ := exec_intWrites_of_linked (v := v) hlink hd3
    exact ⟨hcause.trans (next_congr (if_neg (Nat.not_le.mpr hv))), hmask.trans (next_congr (if_neg (Nat.not_le.mpr hv)))⟩
  · show execConfigurationRequest s = _
    rw [execConfigurationRequest, h]
  · show execConfigurationRequest s = _
    rcases h with h | h <;> rw [execConfigurationRequest, h]

end Sys2Proof.Claims
end

section
/-! # The mailbox and the SPDM responder

A mailbox command is one function of the state where it is taken (16 R546 to R548, 19 R623 to R629), and an SPDM request one entry of the
responder's queue (19 R611 to R620). -/

namespace Sys2Proof.Machine
open Sys2Proof.Claims

section
variable {s : State}

/-! ## The mailbox -/

theorem State.mailbox_of_free {inRecovery : Bool} {f : State → State} (h : MailboxFree s) :
    s.mailbox inRecovery f = if decide (s.power.state ≠ .active) && !inRecovery then s.mailboxDone 3 [] else f s := by
  obtain ⟨hlink, hd3, hbusy⟩ := h
  refine if_neg ?_
  rw [hlink, hd3, hbusy]
  exact Bool.false_ne_true

theorem State.mailbox_of_taken {inRecovery : Bool} {f : State → State} (h : ¬ MailboxFree s) : s.mailbox inRecovery f = s := by
  refine if_pos ?_
  by_contra hfree
  simp only [Bool.or_eq_true, Bool.not_eq_true', not_or, Bool.not_eq_true, Bool.not_eq_false] at hfree
  obtain ⟨⟨hlink, hd3⟩, hbusy⟩ := hfree
  exact h ⟨hlink, hd3, hbusy⟩

/-- A command that ACTIVE alone serves. -/
theorem serves_of_mailbox {c : Instr} {f : State → State} {t : State} (hexec : exec c s = .next (s.mailbox false f)) (ht : f s = t) :
    Serves s c t := by
  refine ⟨fun hfree hactive => hexec.trans (next_congr ?_), fun hfree hother => hexec.trans (next_congr ?_),
    fun htaken => hexec.trans (next_congr (State.mailbox_of_taken htaken))⟩
  · exact (State.mailbox_of_free hfree).trans ((if_neg (by simp [hactive])).trans ht)
  · exact (State.mailbox_of_free hfree).trans (if_pos (by simp [hother]))

/-- A command that RECOVERY serves too. -/
theorem servesBoth_of_mailbox {c : Instr} {f : State → State} {t : State} (hexec : exec c s = .next (s.mailbox true f)) (ht : f s = t) :
    ServesBoth s c t :=
  ⟨fun hfree => hexec.trans (next_congr ((State.mailbox_of_free hfree).trans ((if_neg (by simp)).trans ht))),
    fun htaken => hexec.trans (next_congr (State.mailbox_of_taken htaken))⟩

/-! ### Firmware transfers (19 R628, R629) -/

section
variable {action slot off : Nat} {data : List Byte}

/-- The slot does not exist or is marked for boot, or the part is too long. -/
def State.transferBad (s : State) (slot : Nat) (data : List Byte) : Prop :=
  (slot ≠ 1 ∧ slot ≠ 2) ∨ slot - 1 = s.sec.boot ∨ 3968 < data.length

theorem State.transferBad_iff : s.transferBad slot data
    ↔ (decide ((decide (slot ≠ 1) && decide (slot ≠ 2)) = true) || decide (slot - 1 = s.sec.boot) || decide (3968 < data.length)) = true := by
  simp only [State.transferBad, Bool.or_eq_true, decide_eq_true_eq, Bool.and_eq_true, or_assoc]

/-- A whole image, or the last part of one, is kept where its checks pass, and leaves the slot empty otherwise. -/
def State.transferEnd (s : State) (slot : Nat) (g : List Byte) : Nat × State :=
  if s.imageOk g then (0, { s with sec := { s.sec.setImage slot g with xfer := none } })
  else (2, { s with sec := { s.sec.setImage slot [] with xfer := none } })

/-- A transfer that starts: the slot is empty, and its first part held. -/
def State.transferStart (s : State) (slot : Nat) (data : List Byte) : State :=
  { s with sec := { s.sec.setImage slot [] with xfer := some (slot, data) } }

theorem State.transferFw_of_reserved (h : 4 < action) : s.transferFw action slot off data = (2, s) := if_pos h

theorem State.transferFw_abort : s.transferFw 4 slot off data = (0, { s with sec := { s.sec with xfer := none } }) := rfl

theorem State.transferFw_of_bad (hact : action < 4) (h : s.transferBad slot data) : s.transferFw action slot off data = (2, s) := by
  unfold State.transferFw
  extract_lets t bad start finish
  exact (if_neg (by omega)).trans ((if_neg (by omega)).trans (if_pos (State.transferBad_iff.mp h)))

section
variable (hgood : ¬ s.transferBad slot data)
include hgood

theorem State.transferFw_whole : s.transferFw 0 slot off data
    = if off = 0 then (s.transferStart (slot - 1) data).transferEnd (slot - 1) data else (2, s) := by
  unfold State.transferFw
  extract_lets t bad start finish
  exact (if_neg (by decide)).trans ((if_neg (by decide)).trans (if_neg (mt State.transferBad_iff.mpr hgood)))

theorem State.transferFw_first : s.transferFw 1 slot off data
    = if off = 0 then (0, s.transferStart (slot - 1) data) else (2, s) := by
  unfold State.transferFw
  extract_lets t bad start finish
  exact (if_neg (by decide)).trans ((if_neg (by decide)).trans (if_neg (mt State.transferBad_iff.mpr hgood)))

/-- A further part without a transfer. -/
theorem State.transferFw_of_none (hact : action = 2 ∨ action = 3) (hx : s.sec.xfer = none) :
    s.transferFw action slot off data = (2, s) := by
  have hgood := mt State.transferBad_iff.mpr hgood
  rcases hact with rfl | rfl
  all_goals
    unfold State.transferFw
    extract_lets t bad start finish
    refine (if_neg (by decide)).trans ((if_neg (by decide)).trans ((if_neg hgood).trans ?_))
    rw [hx]
    rfl

/-- A further part follows what has been received, or is refused. -/
theorem State.transferFw_part (hact : action = 2 ∨ action = 3) {x : Nat × List Byte} (hx : s.sec.xfer = some x) :
    s.transferFw action slot off data = if x.1 ≠ slot - 1 || off ≠ x.2.length || 67108864 < off + data.length then (2, s)
      else if action = 2 then (0, { s with sec := { s.sec with xfer := some (slot - 1, x.2 ++ data) } })
      else s.transferEnd (slot - 1) (x.2 ++ data) := by
  have hgood := mt State.transferBad_iff.mpr hgood
  rcases hact with rfl | rfl
  all_goals
    unfold State.transferFw
    extract_lets t bad start finish
    refine (if_neg (by decide)).trans ((if_neg (by decide)).trans ((if_neg hgood).trans ?_))
    rw [hx]
    rfl

end

theorem State.transferFw_of_offset (hact : action < 2) (hoff : off ≠ 0) : s.transferFw action slot off data = (2, s) := by
  by_cases hgood : s.transferBad slot data
  · exact State.transferFw_of_bad (by omega) hgood
  · have hcases : action = 0 ∨ action = 1 := by omega
    rcases hcases with rfl | rfl
    · rw [State.transferFw_whole hgood, if_neg hoff]
    · rw [State.transferFw_first hgood, if_neg hoff]

theorem State.activateFw_of_image (h : (slot = 1 ∨ slot = 2) ∧ s.sec.image (slot - 1) ≠ []) :
    s.activateFw slot = (0, { s with sec := { s.sec with boot := slot - 1, activate := true } }) :=
  if_pos (by simpa using h)

theorem State.activateFw_refused (h : ¬ ((slot = 1 ∨ slot = 2) ∧ s.sec.image (slot - 1) ≠ [])) : s.activateFw slot = (2, s) :=
  if_neg (by simpa using h)

end

/-! ### Accesses of the dictionary (16 R548) -/

theorem serves_odCommand {c : Instr} {fits : Bool} {a : Access} (hexec : exec c s = .next (s.odCommand fits a)) :
    (fits = true → Serves s c (s.access a)) ∧ (fits = false → Serves s c (s.mailboxDone 2 [])) :=
  ⟨fun h => serves_of_mailbox hexec (if_pos h), fun h => serves_of_mailbox hexec (if_neg (Bool.eq_false_iff.mp h))⟩

/-! ## The responder (19 R611 to R620) -/

theorem State.spdmRequest_eq (tr op : Nat) (args : List Nat) (data : List Byte) :
    s.spdmRequest tr op args data = if s.power.state = .active ∧ ((tr = 0 ∧ s.sec.spdm.status ≠ 1) ∨ (tr = 1 ∧ s.host.linkUp = true))
      then s.spdmReceive ⟨tr, op, args, data⟩ else s := by
  have hopen : (if tr = 0 then decide (s.sec.spdm.status ≠ 1) else decide (tr = 1) && s.host.linkUp) = true
      ↔ (tr = 0 ∧ s.sec.spdm.status ≠ 1) ∨ (tr = 1 ∧ s.host.linkUp = true) := by
    by_cases htr : tr = 0 <;> simp [htr]
  simp only [State.spdmRequest, Bool.and_eq_true, decide_eq_true_eq, hopen]

theorem requests_of_spdmRequest {c : Instr} {tr op : Nat} {args : List Nat} {data : List Byte}
    (hexec : exec c s = .next (s.spdmRequest tr op args data)) : Requests s tr c op args data :=
  ⟨fun h => hexec.trans (next_congr ((State.spdmRequest_eq ..).trans (if_pos h))),
    fun h => hexec.trans (next_congr ((State.spdmRequest_eq ..).trans (if_neg h)))⟩

theorem State.spdmReady_of_none (h : s.sec.spdm.queue = []) : s.spdmReady = s := by
  simp only [State.spdmReady, h]

section
variable {r : SpdmReq} {rest : List SpdmReq} (hq : s.sec.spdm.queue = r :: rest)
include hq

/-- GET_PQ_SIGNATURE after a signed response is first put off. -/
theorem State.spdmReady_deferred (hop : r.op = 14) (hfirst : s.sec.spdm.deferred = false) (hsigned : s.sec.spdm.signed.isSome = true) :
    s.spdmReady = (s.modSpdm (fun k => { k with deferred := true })).spdmDeliver r.tr (spdmError 0x42) := by
  simp only [State.spdmReady, hq, hop, hfirst, hsigned, decide_true, Bool.not_false, Bool.and_self, if_true]

theorem State.spdmReady_answered (h : r.op ≠ 14 ∨ s.sec.spdm.deferred = true ∨ s.sec.spdm.signed = none) :
    let u := (s.modSpdm (fun k => { k with queue := rest, deferred := false })).spdmAnswer r
    s.spdmReady = if spdmTransfer r.tr < u.1.length && r.op ≠ 13 then
        (u.2.modSpdm (fun k => { k with large := u.1 })).spdmDeliver r.tr (spdmError 0x0F)
      else u.2.spdmDeliver r.tr u.1 := by
  have hnow : (decide (r.op = 14) && !s.sec.spdm.deferred && s.sec.spdm.signed.isSome) = false := by
    rcases h with h | h | h <;> simp [h]
  simp only [State.spdmReady, hq, hnow, Bool.false_eq_true, if_false]

end
end

end Sys2Proof.Machine

namespace Sys2Proof.Claims
open Sys2Proof.Machine

/-- The log of events as a mailbox command reads it: only log 2 holds records. -/
theorem logOf_map (s : State) (log : Nat) : (s.logOf log).map (toBytes 8) = if log = 2 then s.host.eventLog.map (toBytes 8) else [] := by
  unfold State.logOf
  split <;> rfl

/-- Settles O29: each command by what it does where it is taken (`serves_of_mailbox`, `servesBoth_of_mailbox`), a firmware transfer by
its action. -/
theorem mailboxCommands : Obligations.MailboxCommands := by
  refine ⟨fun s => servesBoth_of_mailbox rfl rfl, fun s => servesBoth_of_mailbox rfl rfl, fun s action slot off data => servesBoth_of_mailbox rfl rfl,
    fun s slot => servesBoth_of_mailbox rfl rfl, fun s action slot off data => ⟨State.transferFw_of_reserved, ?_, State.transferFw_of_bad,
      State.transferFw_of_offset, ?_, ?_, fun hact hgood => State.transferFw_of_none hgood hact, fun x hact hgood hx => ⟨fun h => ?_,
        fun hslot hoff hlen => ⟨fun h2 => ?_, fun h3 => ?_⟩⟩⟩,
    fun s slot => ⟨State.activateFw_of_image, State.activateFw_refused⟩,
    fun s => ⟨fun h => serves_of_mailbox rfl (by rw [h]), fun x h => serves_of_mailbox rfl (by rw [h])⟩,
    fun s log => serves_of_mailbox rfl (by rw [logOf_map]), fun s log n => ⟨fun h => ⟨?_, ?_⟩, fun h h2 => ⟨?_, ?_⟩, ?_, fun h => ?_, fun h => ?_⟩,
    fun s => serves_of_mailbox rfl rfl, fun s policy => serves_of_mailbox rfl rfl, fun s => serves_of_mailbox rfl rfl,
    fun s ns => serves_of_mailbox rfl rfl, fun s => serves_of_mailbox rfl rfl,
    fun s off len => ⟨serves_of_mailbox rfl rfl, serves_of_mailbox rfl rfl⟩,
    fun s idx sub off len data ref => ⟨fun h => (serves_odCommand rfl).1 (by simpa using h), fun h => (serves_odCommand rfl).2 (by simpa using h),
      (serves_odCommand rfl).2 rfl, fun h => (serves_odCommand rfl).1 ?_, fun h => (serves_odCommand rfl).2 ?_, (serves_odCommand rfl).2 rfl,
      fun h => (serves_odCommand rfl).1 ?_, fun h => (serves_odCommand rfl).2 ?_, (serves_odCommand rfl).2 rfl⟩⟩
  · rintro rfl; exact State.transferFw_abort
  · rintro rfl hgood hoff; rw [State.transferFw_first hgood, if_pos hoff]; rfl
  · rintro rfl hgood hoff; rw [State.transferFw_whole hgood, if_pos hoff]; rfl
  · rw [State.transferFw_part hgood hact hx]
    exact if_pos (by simpa [or_assoc] using h)
  · rw [State.transferFw_part hgood hact hx, if_neg (by simp [hslot, hoff]; omega), if_pos h2]
  · rw [State.transferFw_part hgood hact hx, if_neg (by simp [hslot, hoff]; omega), if_neg (by omega)]; rfl
  · exact serves_of_mailbox rfl (if_pos (by simp [h]))
  · exact serves_of_mailbox rfl (if_pos (by simp [h]))
  · exact serves_of_mailbox rfl ((if_neg (by simpa using h)).trans (if_neg h2))
  · by_cases hn : n = 0
    · rw [if_pos hn]
      exact serves_of_mailbox rfl ((if_neg (by simp [hn, h])).trans (if_neg h2))
    · rw [if_neg hn]
      exact serves_of_mailbox rfl (if_pos (by simp [State.logOf, h2, Nat.pos_of_ne_zero hn]))
  · exact serves_of_mailbox rfl rfl
  · exact serves_of_mailbox rfl ((if_neg (by simpa [State.logOf] using h)).trans (if_pos rfl))
  · exact serves_of_mailbox rfl (if_pos (by simpa [State.logOf] using h))
  · simp only [Bool.not_false, decide_true, Bool.and_self, Bool.true_and, decide_eq_true_eq]; omega
  · rcases h with h | h
    · simp [h]
    · simp only [Bool.and_eq_false_iff, decide_eq_false_iff_not]; omega
  · simp only [Bool.not_false, decide_true, Bool.and_self, Bool.true_and, decide_eq_true_eq]; omega
  · rcases h with h | h
    · simp [h]
    · simp only [Bool.and_eq_false_iff, decide_eq_false_iff_not]; omega

/-- Settles O30: a request by its transport (`requests_of_spdmRequest`), the responder by the request at its front. -/
theorem spdmCommands : Obligations.SpdmCommands := by
  refine ⟨fun s tr => ⟨requests_of_spdmRequest rfl, requests_of_spdmRequest rfl, requests_of_spdmRequest rfl, requests_of_spdmRequest rfl,
      requests_of_spdmRequest rfl, requests_of_spdmRequest rfl, requests_of_spdmRequest rfl⟩,
    fun s tr slot off len seq last data => ⟨requests_of_spdmRequest rfl, requests_of_spdmRequest rfl, requests_of_spdmRequest rfl,
      requests_of_spdmRequest rfl, requests_of_spdmRequest rfl, requests_of_spdmRequest rfl, requests_of_spdmRequest rfl,
      requests_of_spdmRequest rfl⟩,
    fun s r => ⟨rfl, ?_, fun h => ?_, fun h => ?_⟩,
    fun s => ⟨fun h => next_congr (State.spdmReady_of_none h),
      fun r rest hq hop hfirst hsigned => next_congr (State.spdmReady_deferred hq hop hfirst hsigned),
      fun r rest hq h => ⟨fun hshort => next_congr ((State.spdmReady_answered hq h).trans (if_neg ?_)),
        fun hlong hop => next_congr ((State.spdmReady_answered hq h).trans (if_pos ?_))⟩⟩,
    fun s index => ⟨fun hactive hlink => next_congr (if_pos (by simp [hactive, hlink])), fun h => next_congr (if_neg ?_)⟩⟩
  · show (if r.tr = 0 then _ else _ : Spdm).queue = _
    split <;> rfl
  · show (if r.tr = 0 then _ else _ : Spdm).status = 1 ∧ (if r.tr = 0 then _ else _ : Spdm).rx = []
    rw [if_pos h]
    exact ⟨rfl, rfl⟩
  · show (if r.tr = 0 then _ else _ : Spdm).status = _ ∧ (if r.tr = 0 then _ else _ : Spdm).rx = _
    rw [if_neg h]
    exact ⟨rfl, rfl⟩
  · rw [Bool.and_eq_true, decide_eq_true_eq, decide_eq_true_eq]
    exact fun ⟨hlong, hop⟩ => hshort.elim (Nat.not_le.mpr hlong) hop
  · rw [Bool.and_eq_true, decide_eq_true_eq, decide_eq_true_eq]
    exact ⟨hlong, hop⟩
  · rcases h with h | h <;> simp [h]

end Sys2Proof.Claims
end

section
/-! # The 48 V input, the rails and the module's power states

What each event of the input and of the sense loop does (17 R558 to R560, 20 R649), how the rails rise and the module becomes
ready (17 R561, Tables 17-12, 17-13; 19 R630), and when STANDBY, TOLL and the states of the clusters are entered (17 R565 to R575). -/

namespace Sys2Proof.Machine
open Sys2Proof.Claims

section
variable {s : State} {node mv : Nat} {wm : Bool}

/-! ## The start and the loss of the Tollhouse -/

theorem State.tollStart_eq (s : State) : s.tollStart = if s.power.wakeMode = true then (tollOn s).wake else tollOn s := rfl

theorem State.inputRise_of_closed (hin : s.power.inputPresent = false) (hopen : s.power.senseOpen = false) :
    s.inputRise node wm
      = (withPower s (fun w => { w with supply := true, nodeStrap := node % 128, wakeMode := wm })).tollStart :=
  (if_neg (Bool.eq_false_iff.mp hin)).trans (if_neg (Bool.eq_false_iff.mp hopen))

theorem State.inputRise_of_open (hin : s.power.inputPresent = false) (hopen : s.power.senseOpen = true) :
    s.inputRise node wm = withPower s (fun w => { w with supply := true, nodeStrap := node % 128, wakeMode := wm }) :=
  (if_neg (Bool.eq_false_iff.mp hin)).trans (if_pos hopen)

theorem State.inputLost_eq (s : State) : s.inputLost = inputOff s := rfl

theorem State.undervoltage_of_present (hin : s.power.inputPresent = true) :
    s.undervoltage = withPower (inputOff s) (fun w => { w with supply := false }) :=
  congrArg (fun t : State => withPower t (fun w => { w with supply := false })) (if_pos hin)

theorem State.undervoltage_of_absent (hin : s.power.inputPresent = false) :
    s.undervoltage = withPower s (fun w => { w with supply := false }) :=
  congrArg (fun t : State => withPower t (fun w => { w with supply := false })) (if_neg (Bool.eq_false_iff.mp hin))

theorem State.senseOpened_of_present (hin : s.power.inputPresent = true) :
    s.senseOpened = withPower (inputOff s) (fun w => { w with senseOpen := true }) :=
  congrArg (fun t : State => withPower t (fun w => { w with senseOpen := true })) (if_pos hin)

theorem State.senseOpened_of_absent (hin : s.power.inputPresent = false) :
    s.senseOpened = withPower s (fun w => { w with senseOpen := true }) :=
  congrArg (fun t : State => withPower t (fun w => { w with senseOpen := true })) (if_neg (Bool.eq_false_iff.mp hin))

theorem State.senseClosed_of_closed (hopen : s.power.senseOpen = false) : s.senseClosed = s :=
  if_pos (congrArg not hopen)

theorem State.senseClosed_of_unsupplied (hopen : s.power.senseOpen = true) (hsup : s.power.supply = false) :
    s.senseClosed = withPower s (fun w => { w with senseOpen := false }) :=
  (if_neg (Bool.eq_false_iff.mp (congrArg not hopen))).trans (if_neg (Bool.eq_false_iff.mp hsup))

theorem State.senseClosed_of_supplied (hopen : s.power.senseOpen = true) (hsup : s.power.supply = true) :
    s.senseClosed = (withPower s (fun w => { w with senseOpen := false })).tollStart :=
  (if_neg (Bool.eq_false_iff.mp (congrArg not hopen))).trans (if_pos hsup)

/-! ## Overvoltage and low input -/

/-- An overvoltage that comes anew is recorded and alerted; outside TOLL it is a cold reset with cause 1. -/
theorem State.overvoltage_of_first (hin : s.power.inputPresent = true) (hmv : 62000 < mv) (hov : s.power.overvoltage = false) :
    let t := ((withPower s (fun w => { w with millivolts := mv, overvoltage := true })).powerLog 8 0 mv 0).alert 5 0 mv
    s.overvoltage mv = if s.power.state = .toll then t else t.coldReset 1 := by
  have hfirst : s.overvoltage mv
      = let t := ((withPower s (fun w => { w with millivolts := mv, overvoltage := true })).powerLog 8 0 mv 0).alert 5 0 mv
        if t.power.state = .toll then t else t.coldReset 1 :=
    (if_neg (by simp [hin, hmv])).trans (if_neg (by simp [hov]))
  rw [hfirst]
  simp only [State.alert_power, State.powerLog_power, Power.append_state]

theorem State.overvoltage_of_standing (hin : s.power.inputPresent = true) (hmv : 62000 < mv) (hov : s.power.overvoltage = true) :
    s.overvoltage mv = withPower s (fun w => { w with millivolts := mv, overvoltage := true }) :=
  (if_neg (by simp [hin, hmv])).trans (if_pos (by simp [hov]))

theorem State.overvoltage_refused (h : s.power.inputPresent = false ∨ mv ≤ 62000) : s.overvoltage mv = s :=
  if_pos (by rcases h with h | h <;> simp [h])

theorem State.inputLow_of_entry (hin : s.power.inputPresent = true) (hlo : 36000 ≤ mv) (hhi : mv < 40000)
    (hnew : s.power.inputLow = false) :
    let t := withPower s (fun w => { w with millivolts := mv, inputLow := true })
    s.inputLow mv = ((t.powerLog 5 0 mv (t.effectiveCap mv)).raisePower).alert 6 0 mv :=
  if_neg (by simp [hin, hlo, hhi, hnew])

theorem State.inputLow_refused
    (h : s.power.inputPresent = false ∨ mv < 36000 ∨ 40000 ≤ mv ∨ s.power.inputLow = true) : s.inputLow mv = s :=
  if_pos (by rcases h with h | h | h | h <;> simp [h])

/-! ## Wake -/

/-- A wake event is let through: the input is there, and no overvoltage holds (17 R560, R565). -/
theorem wakeLock_eq_false (hin : s.power.inputPresent = true) (hov : s.power.overvoltage = false ∨ s.power.millivolts < 60000) :
    (!s.power.inputPresent || (s.power.overvoltage && decide (60000 ≤ s.power.millivolts))) = false := by
  rcases hov with h | h
  · simp [hin, h]
  · simp [hin, Nat.not_le.mpr h]

theorem State.wake_of_toll (hin : s.power.inputPresent = true) (hov : s.power.overvoltage = false ∨ s.power.millivolts < 60000)
    (h : s.power.state = .toll) :
    s.wake = withPower s (fun w => { w with
      overvoltage := false, state := .waking, fromStandby := false, refStable := false, trained := false, railPending := none }) := by
  simp only [State.wake, wakeLock_eq_false hin hov, h, withPower, Bool.false_eq_true, if_false]

theorem State.wake_of_standby (hin : s.power.inputPresent = true) (hov : s.power.overvoltage = false ∨ s.power.millivolts < 60000)
    (h : s.power.state = .standby) :
    s.wake = withPower
      ((((withPower s (fun w => { w with overvoltage := false })).setOd 0 0x2002 0 7).powerLog 9 1 7 0).moduleClear)
      (fun w => { w with state := .waking, fromStandby := true, refStable := false, railPending := none }) := by
  simp only [State.wake, wakeLock_eq_false hin hov, h, withPower, Bool.false_eq_true, if_false]

theorem State.wake_of_other (hin : s.power.inputPresent = true) (hov : s.power.overvoltage = false ∨ s.power.millivolts < 60000)
    (htoll : s.power.state ≠ .toll) (hstand : s.power.state ≠ .standby) :
    s.wake = withPower s (fun w => { w with overvoltage := false }) := by
  simp only [State.wake, wakeLock_eq_false hin hov, Bool.false_eq_true, if_false]

theorem State.wake_refused (h : s.power.inputPresent = false ∨ (s.power.overvoltage = true ∧ 60000 ≤ s.power.millivolts)) :
    s.wake = s :=
  if_pos (by rcases h with h | ⟨h, hmv⟩ <;> simp [*])

end

/-! ## Rails -/

section
variable {s : State} {order : Nat}

theorem State.referenceStable_of_waking (hst : s.power.state = .waking) (href : s.power.refStable = false)
    (hrec : s.sec.recovery = false) :
    s.referenceStable = withPower s (fun w => { w with refStable := true, railPending := some 1 }) :=
  if_pos (by simp [hst, href, hrec])

theorem State.referenceStable_refused (h : s.power.state ≠ .waking ∨ s.power.refStable = true ∨ s.sec.recovery = true) :
    s.referenceStable = s :=
  if_neg (by rcases h with h | h | h <;> simp [h])

/-- The order that is started once another is good (Table 17-2; 17 R566). -/
theorem State.railGood_of_pending (h : s.power.railPending = some order) :
    let next := if s.power.fromStandby = true ∧ order = 1 then 8 else order + 1
    s.railGood order = if next ≤ 12
      then withPower s (fun w => { w with railsUp := w.railsUp ++ [order], railPending := some next })
      else (withPower s (fun w => { w with railsUp := w.railsUp ++ [order], railPending := none })).keystoneRelease := by
  simp only [State.railGood, h, if_true, Bool.and_eq_true, decide_eq_true_eq]

theorem State.railGood_refused (h : s.power.railPending ≠ some order) : s.railGood order = s := if_neg h

theorem State.railFault_of_started (hpos : 1 ≤ order) (h : s.power.railPending = some order ∨ order ∈ s.power.railsUp) :
    s.railFault order = (((s.powerLog 7 order 0 0).alert 4 order 0).coldReset 3) :=
  if_pos (by rcases h with h | h <;> simp [hpos, h])

theorem State.railFault_refused (h : order = 0 ∨ (s.power.railPending ≠ some order ∧ order ∉ s.power.railsUp)) :
    s.railFault order = s :=
  if_neg (by rcases h with h | ⟨hpend, hup⟩ <;> simp [*])

theorem State.channelTraining_of_waking {fails : List (Nat × Nat × Nat)} (hst : s.power.state = .waking)
    (hfrom : s.power.fromStandby = false) (htr : s.power.trained = false) (hup : 12 ∈ s.power.railsUp) :
    s.channelTraining (fails.map (fun f => (⟨f.1, f.2.1, f.2.2⟩ : TrainFail))) = fails.foldl (fun t f =>
        (if 2 ≤ f.1 then ({ t with slowFailed := true } : State) else t).persistentMem (f.1 % 2) (f.2.1 % 10) (f.2.2 % 64) 3)
      (withPower s (fun w => { w with trained := true })) :=
  (if_pos (by simp [hst, hfrom, htr, hup])).trans List.foldl_map

theorem State.channelTraining_refused {fails : List TrainFail} (h : s.power.state ≠ .waking ∨ s.power.fromStandby = true
    ∨ s.power.trained = true ∨ 12 ∉ s.power.railsUp) : s.channelTraining fails = s :=
  if_neg (by rcases h with h | h | h | h <;> simp [h])

/-! ## The release and the verification of Keystone -/

/-- Keystone may verify: it is released, and the channels are trained where they have to be. -/
theorem verifyLock_iff :
    (!s.power.released || (decide (s.power.state = .waking) && !s.power.fromStandby && !s.power.trained)) = true
      ↔ ¬ (s.power.released = true ∧ (s.power.state = .waking → s.power.fromStandby = false → s.power.trained = true)) := by
  simp only [Bool.or_eq_true, Bool.not_eq_true', Bool.and_eq_true, decide_eq_true_eq, not_and_or, Bool.not_eq_true, Classical.not_imp,
    and_assoc]

theorem State.firmwareVerify_refused
    (h : ¬ (s.power.released = true ∧ (s.power.state = .waking → s.power.fromStandby = false → s.power.trained = true))) :
    s.firmwareVerify = s := if_pos (verifyLock_iff.mpr h)

theorem State.firmwareVerify_of_ready
    (h : s.power.released = true ∧ (s.power.state = .waking → s.power.fromStandby = false → s.power.trained = true)) :
    let done (t : State) : State := { t.becomeActive with sec := { t.becomeActive.sec with recovery := false } }
    let t := s.bump32 0 0xA040 3 1
    let u := t.bump32 0 0xA040 3 1
    s.firmwareVerify =
      if s.imageOk (s.sec.image s.sec.boot) = true then done (s.boot s.sec.boot false)
      else if t.imageOk (t.sec.image (1 - s.sec.boot)) = true then done (t.boot (1 - s.sec.boot) true)
      else { u with
        sec := { u.sec with recovery := true, booted := false, fallback := false, activate := false },
        power := { u.power with state := .waking, released := false } } :=
  if_neg (fun hlock => verifyLock_iff.mp hlock h)

/-- The defaults that a full power-up restores are not restored on the way from STANDBY, nor in RECOVERY. -/
theorem State.becomeActive_eq (s : State) :
    let t := if s.power.state = .waking ∧ s.power.fromStandby = false ∧ s.sec.recovery = false
      then s.powerUpDefaults.portsReset false else s
    let u := ((if t.commit.pstate = .flipped then t.redoApply else t).startClusters 0).startClusters 1
    s.becomeActive = withPower u (fun w => { w with state := .active, released := false, fromStandby := false }) := by
  simp only [State.becomeActive, Bool.and_eq_true, Bool.not_eq_true', decide_eq_true_eq, and_assoc]

end

/-! ## STANDBY, TOLL and the clusters -/

section
variable {s : State} {c p i : Nat} {deck : Bool}

theorem State.standby_of_calm (hst : s.power.state = .active)
    (hcalm : s.commit.pstate = .idle ∨ s.commit.pstate = .empty ∨ s.commit.pstate = .invalid) :
    s.standby.2 = withPower (s.powerLog 9 1 0 0).moduleClear (fun w => { w with
      state := .standby, released := false, railsUp := w.railsUp.filter (fun r => !(decide (r = 1) || decide (8 ≤ r))) }) := by
  rw [State.standby, if_pos (by rcases hcalm with h | h | h <;> simp [hst, h])]

theorem State.standby_refused (h : s.power.state ≠ .active
    ∨ ¬ (s.commit.pstate = .idle ∨ s.commit.pstate = .empty ∨ s.commit.pstate = .invalid)) : s.standby.2 = s := by
  refine congrArg Prod.snd (if_neg fun hgo => ?_)
  rw [Bool.and_eq_true, decide_eq_true_eq, Bool.or_eq_true, Bool.or_eq_true, decide_eq_true_eq, decide_eq_true_eq,
    decide_eq_true_eq, or_assoc] at hgo
  exact h.elim (fun hst => hst hgo.1) (fun hcalm => hcalm hgo.2)

theorem State.toll_of_allowed (hst : s.power.state = .active ∨ s.power.state = .standby) (hfl : s.commit.pstate ≠ .flipped) :
    s.toll.2 = s.coldReset 4 := by
  rw [State.toll, if_pos (by rcases hst with h | h <;> simp [h, hfl])]

theorem State.toll_refused (h : ¬ (s.power.state = .active ∨ s.power.state = .standby) ∨ s.commit.pstate = .flipped) :
    s.toll.2 = s := by
  refine congrArg Prod.snd (if_neg fun hgo => ?_)
  rw [Bool.and_eq_true, Bool.or_eq_true, decide_eq_true_eq, decide_eq_true_eq, decide_eq_true_eq] at hgo
  exact h.elim (fun hst => hst hgo.1) (fun hfl => hgo.2 hfl)

theorem State.gateEntry_of_idle (hrun : s.engine p i deck = .run) (hidle : s.engineIdle p i deck = true) :
    s.gateEntry p i deck = s.setEngine p i deck .gated := if_pos (by simp [hrun, hidle])

theorem State.gateEntry_refused (h : s.engine p i deck ≠ .run ∨ s.engineIdle p i deck = false) : s.gateEntry p i deck = s :=
  if_neg (by rcases h with h | h <;> simp [h])

theorem State.parkEntry_of_gated (hd : s.depthOk c 1 = true) (hst : s.cluster c = .gated ∨ s.cluster c = .run)
    (hg : s.clusterGated c = true) : s.parkEntry c = s.setCluster c .parked :=
  if_pos (by rcases hst with h | h <;> simp [hd, hg, h])

theorem State.parkEntry_refused (h : s.depthOk c 1 = false ∨ ¬ (s.cluster c = .gated ∨ s.cluster c = .run)
    ∨ s.clusterGated c = false) : s.parkEntry c = s := by
  refine if_neg fun hgo => ?_
  rw [Bool.and_eq_true, Bool.and_eq_true, Bool.or_eq_true, decide_eq_true_eq, decide_eq_true_eq] at hgo
  obtain ⟨⟨hd, hst⟩, hg⟩ := hgo
  rcases h with h | h | h
  · exact Bool.eq_false_iff.mp h hd
  · exact h hst
  · exact Bool.eq_false_iff.mp h hg

theorem State.retainEntry_of_parked (hd : s.depthOk c 2 = true) (hst : s.cluster c = .parked) (hg : s.clusterGated c = true) :
    s.retainEntry c = s.setCluster c .retain := if_pos (by simp [hd, hst, hg])

theorem State.retainEntry_refused (h : s.depthOk c 2 = false ∨ s.cluster c ≠ .parked ∨ s.clusterGated c = false) :
    s.retainEntry c = s := if_neg (by rcases h with h | h | h <;> simp [h])

theorem State.offEntry_of_quiet (hd : s.depthOk c 3 = true) (hst : s.cluster c = .retain) (hq : s.clusterQuiet c = true) :
    s.offEntry c = (s.clusterRestored c).setCluster c .off := if_pos (by simp [hd, hst, hq])

theorem State.offEntry_refused (h : s.depthOk c 3 = false ∨ s.cluster c ≠ .retain ∨ s.clusterQuiet c = false) :
    s.offEntry c = s := if_neg (by rcases h with h | h | h <;> simp [h])

theorem State.restoreComplete_of_restoring (hc : c < 8) (hst : s.cluster c = .restoring)
    (hclk : s.clockRuns (c / 4) (c % 4 * 8) = true) :
    s.restoreComplete c = (s.clusterRestored c).setCluster c .gated := if_pos (by simp [hc, hst, hclk])

theorem State.restoreComplete_refused
    (h : 8 ≤ c ∨ s.cluster c ≠ .restoring ∨ s.clockRuns (c / 4) (c % 4 * 8) = false) : s.restoreComplete c = s :=
  if_neg (by rcases h with h | h | h <;> simp [h])

end

end Sys2Proof.Machine

namespace Sys2Proof.Claims
open Sys2Proof.Machine

/-- Settles O31: one lemma for each event of the input and of the sense loop, taken or refused. -/
theorem inputEvents : Obligations.InputEvents := by
  refine ⟨fun s node wm hin => ⟨fun hopen => next_congr ((State.inputRise_of_closed hin hopen).trans (State.tollStart_eq _)),
      fun hopen => next_congr (State.inputRise_of_open hin hopen)⟩,
    fun s node wm hin => next_congr (if_pos hin),
    fun s hin => ⟨next_congr (State.undervoltage_of_present hin), next_congr (State.senseOpened_of_present hin)⟩,
    fun s hin => ⟨next_congr (State.undervoltage_of_absent hin), next_congr (State.senseOpened_of_absent hin)⟩,
    fun s => ⟨fun h => next_congr (State.senseClosed_of_closed h), fun h hs => next_congr (State.senseClosed_of_unsupplied h hs),
      fun h hs => next_congr ((State.senseClosed_of_supplied h hs).trans (State.tollStart_eq _))⟩,
    fun s mv hin hmv => ⟨fun hov => next_congr (State.overvoltage_of_standing hin hmv hov),
      fun hov ht => next_congr ((State.overvoltage_of_first hin hmv hov).trans (if_pos ht)),
      fun hov ht => next_congr ((State.overvoltage_of_first hin hmv hov).trans (if_neg ht))⟩,
    fun s mv h => next_congr (State.overvoltage_refused h),
    fun s mv => ⟨fun hin hlo hhi hnew => next_congr (State.inputLow_of_entry hin hlo hhi hnew),
      fun h => next_congr (State.inputLow_refused h)⟩,
    fun s hin hov => ⟨fun h => next_congr (State.wake_of_toll hin hov h), fun h => next_congr (State.wake_of_standby hin hov h),
      fun ht hs => next_congr (State.wake_of_other hin hov ht hs)⟩,
    fun s h => next_congr (State.wake_refused h)⟩

/-- Settles O32: one lemma for each event of a power-up, taken or refused, and `becomeActive` unfolded once. -/
theorem powerUpEvents : Obligations.PowerUpEvents := by
  refine ⟨fun s => ⟨fun hst href hrec => next_congr (State.referenceStable_of_waking hst href hrec),
      fun h => next_congr (State.referenceStable_refused h)⟩,
    fun s order => ⟨fun h hle => next_congr ((State.railGood_of_pending h).trans (if_pos hle)),
      fun h hlt => next_congr ((State.railGood_of_pending h).trans (if_neg (Nat.not_le.mpr hlt))),
      fun h => next_congr (State.railGood_refused h)⟩,
    fun s order => ⟨fun hpos h => next_congr (State.railFault_of_started hpos h), fun h => next_congr (State.railFault_refused h)⟩,
    fun s fails => ⟨fun hst hfrom htr hup => next_congr (State.channelTraining_of_waking hst hfrom htr hup),
      fun h => next_congr (State.channelTraining_refused h)⟩,
    fun s => ⟨fun h => next_congr (State.firmwareVerify_refused h), fun h => next_congr (State.firmwareVerify_of_ready h),
      State.becomeActive_eq s, rfl⟩⟩

/-- Settles O33: one lemma for each row, entered where its condition holds and refused otherwise. -/
theorem powerStateCommands : Obligations.PowerStateCommands := by
  refine ⟨fun s => ⟨fun hst hcalm => next_congr (State.standby_of_calm hst hcalm),
      fun h => next_congr (State.standby_refused h)⟩,
    fun s => ⟨fun hst hfl => next_congr (State.toll_of_allowed hst hfl),
      fun h => next_congr (State.toll_refused h)⟩,
    fun s p i deck => ⟨fun hrun hidle => next_congr (State.gateEntry_of_idle hrun hidle),
      fun h => next_congr (State.gateEntry_refused h)⟩,
    fun s c => ⟨fun hd hst hg => next_congr (State.parkEntry_of_gated hd hst hg), fun h => next_congr (State.parkEntry_refused h),
      fun hd hst hg => next_congr (State.retainEntry_of_parked hd hst hg), fun h => next_congr (State.retainEntry_refused h),
      fun hd hst hq => next_congr (State.offEntry_of_quiet hd hst hq), fun h => next_congr (State.offEntry_refused h),
      fun hc hst hclk => next_congr (State.restoreComplete_of_restoring hc hst hclk),
      fun h => next_congr (State.restoreComplete_refused h)⟩⟩

end Sys2Proof.Claims
end

section
/-! # The loops and the resets

The power loop, the thermal loop and the throttles with their thresholds (17 R576 to R585, 07 R230), and the reset commands with
what each asserts and releases (17 R587 to R593). -/

namespace Sys2Proof.Machine
open Sys2Proof.Claims

/-! ## Levels that move -/

section
variable {s : State} {old new : Nat} {want : Int}

theorem levelMove_decide {sub event key e : Nat} {f : Power → Power} :
    levelMove s sub event key old new (decide (old = e)) f
      = let t := withPower ((s.bump32 0 0x2017 sub 1).powerLog event key old new) f
        if old = e then t.raisePower else t := by
  simp only [levelMove, decide_eq_true_eq]

/-! ## The power loop (17 R577, R579) -/

/-- The module with the measures of a period of the power loop. -/
def State.measured (s : State) (p1 pk mv ma : Nat) : State :=
  let a := withPower s (fun w => { w with
    millivolts := mv, milliamps := ma, watts := p1, inputLow := w.inputLow && decide (mv < 40000) })
  a.setOd 0 0x2004 4 (max (a.odv 0 0x2004 4) (min pk 65535))

/-- The level that a period of the power loop asks for. -/
def powerWant (cap hyst old p100 p1 pk : Nat) : Int :=
  if 3400 < pk then old + 2
  else if cap < p100 then old + 1
  else if (p1 : Int) < (cap : Int) - hyst then (old : Int) - 1
  else old

/-- A level asked for past 6 is counted, recorded and raised as saturation. -/
def State.saturated (s : State) (want : Nat) : State := ((s.bump32 0 0x2017 3 1).powerLog 3 0 want 6).raisePower

/-- The power loop's level brought to the one asked for, from 0 to 6. -/
def State.powerSettle (s : State) (old : Nat) (want : Int) : State :=
  let t := if 6 < want then s.saturated want.toNat else s
  let new := (min (max want 0) 6).toNat
  if new = old then t else
  let t := withPower ((t.bump32 0 0x2017 1 1).powerLog 1 0 old new) (fun w => { w with pLevel := new })
  if old = 0 then t.raisePower else t

theorem State.powerLoop_of_active {p100 p1 pk mv ma : Nat} (hin : s.power.inputPresent = true) (hact : s.power.state = .active) :
    let b := s.measured p1 pk mv ma
    s.powerLoop p100 p1 pk mv ma = b.powerSettle s.power.pLevel
      (powerWant (b.effectiveCap mv) (b.odv 0 0x2011 0) s.power.pLevel p100 p1 pk) :=
  (if_neg (Bool.eq_false_iff.mp (congrArg not hin))).trans (if_neg (not_not.mpr hact))

theorem State.powerLoop_of_inactive {p100 p1 pk mv ma : Nat} (hin : s.power.inputPresent = true) (hact : s.power.state ≠ .active) :
    s.powerLoop p100 p1 pk mv ma = s.measured p1 pk mv ma :=
  (if_neg (Bool.eq_false_iff.mp (congrArg not hin))).trans (if_pos hact)

theorem State.powerSettle_stays (hcap : want ≤ 6) (hnew : (min (max want 0) 6).toNat = old) : s.powerSettle old want = s := by
  simp only [State.powerSettle, hnew, if_true, not_lt.mpr hcap, if_false]

theorem State.powerSettle_saturated (hcap : 6 < want) (hold : old = 6) : s.powerSettle old want = s.saturated want.toNat := by
  have hnew : (min (max want 0) 6).toNat = old := by omega
  simp only [State.powerSettle, hnew, if_true, hcap]

theorem State.powerSettle_moves (hcap : want ≤ 6) (hnew : (min (max want 0) 6).toNat = new) (hne : new ≠ old) :
    s.powerSettle old want = levelMove s 1 1 0 old new (decide (old = 0)) (fun w => { w with pLevel := new }) := by
  simp only [State.powerSettle, hnew, hne, not_lt.mpr hcap, if_false, levelMove_decide]

/-- From 5 a rise by 2 is cut at 6 and counts as saturation too. -/
theorem State.powerSettle_capped (hcap : 6 < want) (hold : old ≠ 6) :
    s.powerSettle old want
      = levelMove (s.saturated want.toNat) 1 1 0 old 6 (decide (old = 0)) (fun w => { w with pLevel := 6 }) := by
  have hnew : (min (max want 0) 6).toNat = 6 := by omega
  simp only [State.powerSettle, hnew, hold.symm, hcap, if_true, if_false, levelMove_decide]

/-! ### What is asked for -/

section
variable {cap hyst p100 p1 pk : Nat}

theorem powerWant_of_peak (hpk : 3400 < pk) : powerWant cap hyst old p100 p1 pk = old + 2 := if_pos hpk

theorem powerWant_of_over (hpk : pk ≤ 3400) (hcap : cap < p100) : powerWant cap hyst old p100 p1 pk = old + 1 :=
  (if_neg (Nat.not_lt.mpr hpk)).trans (if_pos hcap)

theorem powerWant_of_under (hpk : pk ≤ 3400) (hcap : p100 ≤ cap) :
    powerWant cap hyst old p100 p1 pk = if (p1 : Int) < (cap : Int) - hyst then (old : Int) - 1 else old :=
  (if_neg (Nat.not_lt.mpr hpk)).trans (if_neg (Nat.not_lt.mpr hcap))

end

end

/-! ## The thermal loop (17 R578) -/

section
variable {s : State} {c : Nat}

/-- The hottest sensor of a cluster. -/
def State.hottest (s : State) (c : Nat) : Int :=
  max (max (max (s.temp (4 * c)) (s.temp (4 * c + 1))) (s.temp (4 * c + 2))) (s.temp (4 * c + 3))

theorem State.foldl_max_temp (s : State) (c : Nat) :
    (List.range 4).foldl (fun m k => max m (s.temp (4 * c + k))) (s.temp (4 * c)) = s.hottest c := by
  simp only [State.hottest, List.range_succ, List.range_zero, List.nil_append, List.cons_append, List.foldl_cons, List.foldl_nil,
    Nat.add_zero, max_self]

/-- The level that the thermal loop asks for, and the level from 0 to 7 that it brings it to. -/
def thermalLevel (t lim : Int) (old : Nat) : Nat :=
  let want : Int :=
    if lim + 80 ≤ t then old + 2 else if lim ≤ t then old + 1 else if t ≤ lim - 48 then (old : Int) - 1 else old
  (min (max want 0) 7).toNat

theorem State.thermalOne_eq (s : State) (c : Nat) :
    let old := Tab.get 0 s.power.tLevel c
    let new := thermalLevel (s.hottest c) (s.limit16 0x2012) old
    s.thermalOne c = if new = old then s
      else levelMove s 2 2 c old new (decide (old = 0)) (fun w => { w with tLevel := Tab.set 0 w.tLevel c new }) := by
  simp only [levelMove_decide, ← State.foldl_max_temp]
  rfl

theorem State.thermalOne_moves {new : Nat} (hnew : thermalLevel (s.hottest c) (s.limit16 0x2012) (Tab.get 0 s.power.tLevel c) = new)
    (hne : new ≠ Tab.get 0 s.power.tLevel c) :
    s.thermalOne c = levelMove s 2 2 c (Tab.get 0 s.power.tLevel c) new (decide (Tab.get 0 s.power.tLevel c = 0))
      (fun w => { w with tLevel := Tab.set 0 w.tLevel c new }) := by
  subst hnew
  exact (State.thermalOne_eq s c).trans (if_neg hne)

theorem State.thermalOne_stays (h : thermalLevel (s.hottest c) (s.limit16 0x2012) (Tab.get 0 s.power.tLevel c)
    = Tab.get 0 s.power.tLevel c) : s.thermalOne c = s :=
  (State.thermalOne_eq s c).trans (if_pos h)

theorem thermalLevel_of_hot {t lim : Int} {old : Nat} (h : lim + 80 ≤ t) : thermalLevel t lim old = min (old + 2) 7 := by
  rw [thermalLevel, if_pos h]
  omega

theorem thermalLevel_of_warm {t lim : Int} {old : Nat} (hlo : lim ≤ t) (hhi : t < lim + 80) :
    thermalLevel t lim old = min (old + 1) 7 := by
  rw [thermalLevel, if_neg (Int.not_le.mpr hhi), if_pos hlo]
  omega

theorem thermalLevel_of_cool {t lim : Int} {old : Nat} (h : t ≤ lim - 48) : thermalLevel t lim old = min (old - 1) 7 := by
  rw [thermalLevel, if_neg (by omega), if_neg (by omega), if_pos h]
  omega

theorem thermalLevel_of_between {t lim : Int} {old : Nat} (hlo : lim - 48 < t) (hhi : t < lim) :
    thermalLevel t lim old = min old 7 := by
  rw [thermalLevel, if_neg (by omega), if_neg (by omega), if_neg (by omega)]
  omega

/-- At the limit the level rises or stands at 7. -/
theorem thermalLevel_of_full {t lim : Int} (h : lim ≤ t) : thermalLevel t lim 7 = 7 := by
  rcases lt_or_ge t (lim + 80) with hhi | hhi
  · exact thermalLevel_of_warm h hhi
  · exact thermalLevel_of_hot hhi

end

/-! ## The throttles, the trip and the refresh interval -/

section
variable {s : State} {p stack sensor : Nat} {t lim : Int}

/-- The divisor of a stack that reads t (17 R582). -/
def stackDivisor (t lim : Int) (old : Nat) : Nat :=
  if lim + 80 ≤ t then 4 else if lim ≤ t then 2 else if t ≤ lim - 48 then 1 else old

/-- A stack whose divisor becomes d; a change is counted and recorded. -/
def State.stackMove (r : State) (k d : Nat) : State :=
  let old := r.power.divisor k
  if d = old then r
  else levelMove r 2 4 (36 + k) old d (decide (old = 1)) (fun w => { w with stackDiv := Tab.set 1 w.stackDiv k d })

theorem State.stackThrottle_of_active (hp : p < 2) (hs : stack < 10) (hact : s.power.state = .active) :
    let k := p * 10 + stack
    let r := s.readTemps [(36 + k, t)]
    s.stackThrottle p stack t = r.stackMove k (stackDivisor t (r.limit16 0x2013) (r.power.divisor k)) := by
  simp only [State.stackMove, levelMove_decide]
  exact if_neg (by simp [hp, hs, hact])

theorem State.stackThrottle_refused (h : 2 ≤ p ∨ 10 ≤ stack ∨ s.power.state ≠ .active) : s.stackThrottle p stack t = s :=
  if_pos (by rcases h with h | h | h <;> simp [h])

theorem stackDivisor_of_hot {old : Nat} (h : lim + 80 ≤ t) : stackDivisor t lim old = 4 := if_pos h

theorem stackDivisor_of_warm {old : Nat} (hlo : lim ≤ t) (hhi : t < lim + 80) : stackDivisor t lim old = 2 :=
  (if_neg (Int.not_le.mpr hhi)).trans (if_pos hlo)

theorem stackDivisor_of_cool {old : Nat} (h : t ≤ lim - 48) : stackDivisor t lim old = 1 :=
  (if_neg (by omega)).trans ((if_neg (by omega)).trans (if_pos h))

theorem stackDivisor_of_between {old : Nat} (hlo : lim - 48 < t) (hhi : t < lim) : stackDivisor t lim old = old :=
  (if_neg (by omega)).trans ((if_neg (by omega)).trans (if_neg (by omega)))

/-- Ilben at full or half rate; a change is counted. -/
def State.ilbenMove (r : State) (half : Bool) : State :=
  if half = r.power.ilbenHalf then r else withPower (r.bump32 0 0x2017 2 1) (fun w => { w with ilbenHalf := half })

theorem State.ilbenThrottle_of_active (hsen : sensor = 56 ∨ sensor = 57) (hact : s.power.state = .active) :
    let r := s.readTemps [(sensor, t)]
    let hot := max (r.temp 56) (r.temp 57)
    let lim := r.limit16 0x2014
    s.ilbenThrottle sensor t
      = r.ilbenMove (if lim ≤ hot then true else if hot ≤ lim - 48 then false else r.power.ilbenHalf) :=
  if_neg (by rcases hsen with h | h <;> simp [h, hact])

theorem State.ilbenThrottle_refused (h : ¬ (sensor = 56 ∨ sensor = 57) ∨ s.power.state ≠ .active) :
    s.ilbenThrottle sensor t = s := by
  refine if_pos ?_
  rw [Bool.or_eq_true, Bool.and_eq_true, decide_eq_true_eq, decide_eq_true_eq, decide_eq_true_eq, ← not_or]
  exact h

theorem State.thermalTrip_of_trip (hlim : tripTemp sensor = some lim) (ht : 16 * lim ≤ t) (hst : s.power.state ≠ .toll)
    (hin : s.power.inputPresent = true) :
    s.thermalTrip sensor t = ((((s.readTemps [(sensor, t)]).powerLog 6 sensor (ofSigned 64 t) 0).alert 3 sensor (ofSigned 64 t)).coldReset 2) := by
  simp only [State.thermalTrip, hlim]
  exact if_neg (by simp [ht, hst, hin])

theorem State.thermalTrip_refused (hlim : tripTemp sensor = some lim)
    (h : t < 16 * lim ∨ s.power.state = .toll ∨ s.power.inputPresent = false) : s.thermalTrip sensor t = s := by
  simp only [State.thermalTrip, hlim]
  exact if_pos (by rcases h with h | h | h <;> simp [h])

theorem State.thermalTrip_of_none (hlim : tripTemp sensor = none) : s.thermalTrip sensor t = s := by
  simp only [State.thermalTrip, hlim]

theorem State.refreshInterval_of_stack (hp : p < 2) (hs : stack < 10) :
    let k := p * 10 + stack
    let r := s.readTemps [(36 + k, t)]
    let rest := r.power.fastRefresh.filter (fun x => !decide (x = k))
    s.refreshInterval p stack t = withPower r (fun w => { w with fastRefresh := if 1360 < t then rest ++ [k] else rest }) :=
  if_neg (by simp [hp, hs])

theorem State.refreshInterval_refused (h : 2 ≤ p ∨ 10 ≤ stack) : s.refreshInterval p stack t = s :=
  if_pos (by rcases h with h | h <;> simp [h])

end

/-! ## Module resets (17 R591, R593; 19 R630) -/

section
variable {s : State} {p e : Nat}

theorem State.moduleReset_eq (s : State) (cause : Nat) : s.moduleReset cause = resetBy s cause := by
  simp only [State.moduleReset, resetBy, withPower]

theorem State.perstAssert_of_resettable (h : s.resettable = true) :
    s.perstAssert = resetBy (withPower s (fun w => { w with perstAsserted := true })) 5 := by
  rw [State.perstAssert, State.assertModuleReset, if_pos (by exact h), State.moduleReset_eq]

theorem State.perstAssert_merged (h : s.resettable = false) :
    s.perstAssert = withPower s (fun w => { w with perstAsserted := true }) := if_neg (Bool.eq_false_iff.mp h)

theorem State.moduleRelease_of_held (hst : s.power.state = .moduleReset) (hrel : s.power.released = false)
    (h : ¬ (s.power.resetCause = 5 ∧ s.power.perstAsserted = true)) : s.moduleRelease = s.keystoneRelease :=
  if_pos (by simpa [hst, hrel] using not_and_or.mp h)

theorem State.moduleRelease_refused (h : s.power.state ≠ .moduleReset ∨ s.power.released = true
    ∨ (s.power.resetCause = 5 ∧ s.power.perstAsserted = true)) : s.moduleRelease = s :=
  if_neg (by rcases h with h | h | ⟨hc, hp⟩ <;> simp [*])

theorem State.perstDeassert_of_perst (hst : s.power.state = .moduleReset) (hc : s.power.resetCause = 5) :
    s.perstDeassert = (withPower s (fun w => { w with perstAsserted := false })).moduleRelease := by
  simp only [State.perstDeassert, hst, hc, withPower, if_true]

theorem State.perstDeassert_of_control (hst : s.power.state = .moduleReset) (hc : s.power.resetCause ≠ 5) :
    s.perstDeassert = withPower s (fun w => { w with perstAsserted := false }) := by
  simp only [State.perstDeassert, hst, hc, withPower, if_false]

theorem State.perstDeassert_of_running (hst : s.power.state ≠ .moduleReset) :
    s.perstDeassert = (withPower s (fun w => { w with perstAsserted := false })).wake := by
  simp only [State.perstDeassert]

theorem State.resettable_of_active (h : s.power.state = .active) : s.resettable = true := by
  simp [State.resettable, h]

theorem State.not_moduleReset_of_resettable (h : s.resettable = true) : s.power.state ≠ .moduleReset := by
  intro hst
  simp [State.resettable, hst] at h

/-! ## RESET_CONTROL (Table 17-15) -/

/-- A write of RESET_CONTROL that is not allowed changes nothing. -/
theorem State.resetControl_refused {v : Nat} (h : s.resettable = false) : (s.resetControl v).2 = s := by
  rw [State.resetControl, h]
  split <;> rfl

theorem State.resetControl_module_of_resettable (h : s.resettable = true) : (s.resetControl 1).2 = resetBy s 6 := by
  have hbits : bits 2 0 1 = 1 := by decide
  simp only [State.resetControl, State.not_moduleReset_of_resettable h, h, hbits, State.assertModuleReset, Bool.not_true,
    Bool.false_eq_true, if_true, if_false, State.moduleReset_eq]

/-- What is not a module reset needs an ACTIVE module. -/
theorem State.resetControl_of_inactive {v : Nat} (hv : bits 2 0 v ≠ 1) (h : s.power.state ≠ .active) :
    (s.resetControl v).2 = s := by
  unfold State.resetControl
  dsimp only
  split
  · rfl
  · split
    · rfl
    · split
      · contradiction
      all_goals rfl

theorem State.resetControl_pier (hp : p < 2) (h : s.power.state = .active) : (s.resetControl (2 + p)).2 = s.pierReset p := by
  have hres := State.resettable_of_active h
  interval_cases p
  · have hbits : bits 2 0 2 = 2 := by decide
    simp only [State.resetControl, hres, hbits, h, Bool.not_true, Bool.false_eq_true, reduceCtorEq, if_true, if_false, Nat.add_zero]
  · have hbits : bits 2 0 3 = 3 := by decide
    simp only [State.resetControl, hres, hbits, h, Bool.not_true, Bool.false_eq_true, reduceCtorEq, if_true, if_false, Nat.reduceAdd]

/-- RESET_CONTROL of an engine: its fields (Table 17-15). -/
theorem bits_engineControl (hp : p < 2) (he : e < 50) :
    bits 2 0 (4 + 8 * e + 1024 * p) = 4 ∧ bits 9 3 (4 + 8 * e + 1024 * p) = e ∧ bits 10 10 (4 + 8 * e + 1024 * p) = p := by
  simp only [bits]
  omega

theorem State.resetControl_engine (hp : p < 2) (he : e < 50) (h : s.power.state = .active) :
    (s.resetControl (4 + 8 * e + 1024 * p)).2 = s.engineReset p e := by
  have hres := State.resettable_of_active h
  obtain ⟨hkind, hengine, hpier⟩ := bits_engineControl hp he
  simp only [State.resetControl, hres, hkind, hengine, hpier, h, Bool.not_true, Bool.false_eq_true, reduceCtorEq, if_true, if_false]

/-! ## Pier and engine resets (17 R588, R589) -/

theorem State.pierReset_of_running (hact : s.power.state = .active) (hin : (s.pier p).inReset = false) :
    let t := ((s.powerLog 9 (2 + p) 0 0).pierClear p).updReset
    s.pierReset p = (if p = 0 then t.commitReset else t.markFaulted).modPier p (fun r => { r with inReset := true }) :=
  if_neg (by simp [hact, hin])

/-- The commit goes with Pier 0. -/
theorem State.pierReset_zero (hact : s.power.state = .active) (hin : (s.pier 0).inReset = false) :
    s.pierReset 0 = (((s.powerLog 9 2 0 0).pierClear 0).updReset.commitReset).modPier 0 (fun r => { r with inReset := true }) := by
  rw [State.pierReset_of_running hact hin, if_pos rfl]

/-- Pier 1 takes its attempt only. -/
theorem State.pierReset_one (hact : s.power.state = .active) (hin : (s.pier 1).inReset = false) :
    s.pierReset 1 = (((s.powerLog 9 3 0 0).pierClear 1).updReset.markFaulted).modPier 1 (fun r => { r with inReset := true }) := by
  rw [State.pierReset_of_running hact hin, if_neg (by decide)]

theorem exec_pierReset_of_active (hp : p < 2) (hact : s.power.state = .active) : exec (.pierReset p) s = .next (s.pierReset p) :=
  next_congr ((if_pos hp).trans (State.resetControl_pier hp hact))

theorem exec_pierReset_refused (h : s.power.state ≠ .active ∨ 2 ≤ p ∨ (s.pier p).inReset = true) :
    exec (.pierReset p) s = .next s := by
  by_cases hp : p < 2
  · by_cases hact : s.power.state = .active
    · have hin : (s.pier p).inReset = true := by simpa [hact, Nat.not_le.mpr hp] using h
      exact (exec_pierReset_of_active hp hact).trans (congrArg _ (if_pos (by simp [hin])))
    · have hv : bits 2 0 (2 + p) ≠ 1 := by simp only [bits]; omega
      exact next_congr ((if_pos hp).trans (State.resetControl_of_inactive hv hact))
  · exact next_congr (if_neg hp)

/-- The Pier once it is released, before a commit that stands FLIPPED goes on. -/
def State.pierFreed (s : State) (p : Nat) : State :=
  let u := (s.modPier p (fun r => { r with inReset := false, mirror := (s.pier (other p)).flags, mirrorQ := [] })).startClusters p
  if p = 1 then u.resumeMirror else u

theorem State.pierRelease_of_held (h : (s.pier p).inReset = true) :
    let t := s.pierFreed p
    s.pierRelease p = if t.commit.pstate ≠ .flipped then t else if p = 0 then t.redoApply else t.finishApply := if_pos h

theorem State.finishApply_of_held (h : s.p0.inReset = true ∨ s.p1.inReset = true) : s.finishApply = s :=
  if_neg (by rcases h with h | h <;> simp [h])

theorem State.engineReset_of_running (he : e < 50) (hact : s.power.state = .active) (hin : (s.pier p).inReset = false) :
    let t := (engineQueues e).foldl (fun t q => t.idleQueue p q) (((s.powerLog 9 4 0 e).ownerClear p e).engineClear p e)
    s.engineReset p e = (t.arbDiscard (fun o => (engineQueues e).any (fun q => o = streamOf p q))).markFaulted :=
  if_neg (by simp [he, hact, hin])

theorem exec_engineReset_of_active (hp : p < 2) (he : e < 50) (hact : s.power.state = .active) :
    exec (.engineReset p e) s = .next (s.engineReset p e) :=
  next_congr ((if_pos (by simp [hp, he])).trans (State.resetControl_engine hp he hact))

theorem exec_engineReset_refused (h : 2 ≤ p ∨ 50 ≤ e ∨ s.power.state ≠ .active ∨ (s.pier p).inReset = true) :
    exec (.engineReset p e) s = .next s := by
  by_cases hpe : p < 2 ∧ e < 50
  · obtain ⟨hp, he⟩ := hpe
    by_cases hact : s.power.state = .active
    · have hin : (s.pier p).inReset = true := by simpa [hact, Nat.not_le.mpr hp, Nat.not_le.mpr he] using h
      exact (exec_engineReset_of_active hp he hact).trans (congrArg _ (if_pos (by simp [hin])))
    · have hv : bits 2 0 (4 + 8 * e + 1024 * p) ≠ 1 := by simp [(bits_engineControl hp he).1]
      exact next_congr ((if_pos (by simp [hp, he])).trans (State.resetControl_of_inactive hv hact))
  · exact next_congr (if_neg (by simpa using hpe))

end

end Sys2Proof.Machine

namespace Sys2Proof.Claims
open Sys2Proof.Machine

/-- The power loop's part of `loopCommands`. -/
theorem powerLoop_moves {s : State} {p100 p1 pk mv ma : Nat} (hin : s.power.inputPresent = true) (hact : s.power.state = .active) :
    let b := s.measured p1 pk mv ma
    let old := s.power.pLevel
    let low := (p1 : Int) < (b.effectiveCap mv : Int) - b.odv 0 0x2011 0
    let movedTo (new : Nat) : State := levelMove b 1 1 0 old new (decide (old = 0)) (fun w => { w with pLevel := new })
    let cappedTo (want : Nat) : State :=
      levelMove (b.saturated want) 1 1 0 old 6 (decide (old = 0)) (fun w => { w with pLevel := 6 })
    (pk ≤ 3400 → p100 ≤ b.effectiveCap mv → (¬ low ∨ old = 0) → old ≤ 6 → s.powerLoop p100 p1 pk mv ma = b)
    ∧ (3400 < pk → old ≤ 4 → s.powerLoop p100 p1 pk mv ma = movedTo (old + 2))
    ∧ (3400 < pk → old = 5 → s.powerLoop p100 p1 pk mv ma = cappedTo 7)
    ∧ (3400 < pk → old = 6 → s.powerLoop p100 p1 pk mv ma = b.saturated 8)
    ∧ (pk ≤ 3400 → b.effectiveCap mv < p100 → old ≤ 5 → s.powerLoop p100 p1 pk mv ma = movedTo (old + 1))
    ∧ (pk ≤ 3400 → b.effectiveCap mv < p100 → old = 6 → s.powerLoop p100 p1 pk mv ma = b.saturated 7)
    ∧ (pk ≤ 3400 → p100 ≤ b.effectiveCap mv → low → 0 < old → old ≤ 6 →
        s.powerLoop p100 p1 pk mv ma = movedTo (old - 1)) := by
  intro b old low movedTo cappedTo
  have hloop : s.powerLoop p100 p1 pk mv ma
      = b.powerSettle old (powerWant (b.effectiveCap mv) (b.odv 0 0x2011 0) old p100 p1 pk) := State.powerLoop_of_active hin hact
  rw [hloop]
  refine ⟨fun hpk hcap hlow h6 => ?stays, fun hpk h4 => ?peak, fun hpk h5 => ?peak5, fun hpk h6 => ?peak6,
    fun hpk hcap h5 => ?excess, fun hpk hcap h6 => ?excess6, fun hpk hcap hlow hpos h6 => ?under⟩
  case stays =>
    rw [powerWant_of_under hpk hcap]
    by_cases hl : low
    · have h0 : old = 0 := hlow.resolve_left (not_not.mpr hl)
      rw [if_pos hl]
      exact State.powerSettle_stays (by omega) (by omega)
    · rw [if_neg hl]
      exact State.powerSettle_stays (by omega) (by omega)
  case peak =>
    rw [powerWant_of_peak hpk]
    exact State.powerSettle_moves (new := old + 2) (by omega) (by omega) (by omega)
  case peak5 =>
    have hwant : (old : Int) + 2 = 7 := by omega
    rw [powerWant_of_peak hpk, hwant]
    exact State.powerSettle_capped (by omega) (by omega)
  case peak6 =>
    rw [powerWant_of_peak hpk, h6]
    exact State.powerSettle_saturated (by omega) rfl
  case excess =>
    rw [powerWant_of_over hpk hcap]
    exact State.powerSettle_moves (by omega) (by omega) (by omega)
  case excess6 =>
    rw [powerWant_of_over hpk hcap, h6]
    exact State.powerSettle_saturated (by omega) rfl
  case under =>
    rw [powerWant_of_under hpk hcap, if_pos hlow]
    exact State.powerSettle_moves (by omega) (by omega) (by omega)

/-- The thermal loop's part of `loopCommands`, for one cluster. -/
theorem thermalOne_moves (s : State) (c : Nat) :
    let t := s.hottest c
    let lim := s.limit16 0x2012
    let old := Tab.get 0 s.power.tLevel c
    let movedTo (new : Nat) : State :=
      levelMove s 2 2 c old new (decide (old = 0)) (fun w => { w with tLevel := Tab.set 0 w.tLevel c new })
    (lim + 80 ≤ t → old ≤ 5 → s.thermalOne c = movedTo (old + 2)) ∧ (lim + 80 ≤ t → old = 6 → s.thermalOne c = movedTo 7)
    ∧ (lim ≤ t → t < lim + 80 → old ≤ 6 → s.thermalOne c = movedTo (old + 1)) ∧ (lim ≤ t → old = 7 → s.thermalOne c = s)
    ∧ (t ≤ lim - 48 → 0 < old → old ≤ 7 → s.thermalOne c = movedTo (old - 1)) ∧ (t ≤ lim - 48 → old = 0 → s.thermalOne c = s)
    ∧ (lim - 48 < t → t < lim → old ≤ 7 → s.thermalOne c = s) := by
  intro t lim old movedTo
  refine ⟨fun ht h5 => State.thermalOne_moves ((thermalLevel_of_hot ht).trans (by omega)) (by omega),
    fun ht h6 => State.thermalOne_moves ((thermalLevel_of_hot ht).trans (by omega)) (by omega),
    fun hlo hhi h6 => State.thermalOne_moves ((thermalLevel_of_warm hlo hhi).trans (by omega)) (by omega),
    fun hlo h7 => State.thermalOne_stays (show thermalLevel t lim old = old by rw [h7]; exact thermalLevel_of_full hlo),
    fun ht hpos h7 => State.thermalOne_moves ((thermalLevel_of_cool ht).trans (by omega)) (by omega),
    fun ht h0 => State.thermalOne_stays ((thermalLevel_of_cool ht).trans (by omega)),
    fun hlo hhi h7 => State.thermalOne_stays ((thermalLevel_of_between hlo hhi).trans (by omega))⟩

/-- Settles O34: each loop asks for a level or a divisor by its thresholds, and one lemma says how it is brought there. -/
theorem loopCommands : Obligations.LoopCommands := by
  refine ⟨fun s p100 p1 pk mv ma hin => ⟨fun hact => next_congr (State.powerLoop_of_inactive hin hact), ?power⟩,
    fun s p100 p1 pk mv ma hin => next_congr (if_pos (congrArg not hin)),
    fun s ts => ⟨fun hact => next_congr (if_neg (not_not.mpr hact)), fun hact => next_congr (if_pos hact)⟩,
    thermalOne_moves,
    fun s p stack t => ⟨fun hp hs hact => ⟨
        fun h => next_congr ((State.stackThrottle_of_active hp hs hact).trans (congrArg _ (stackDivisor_of_hot h))),
        fun hlo hhi => next_congr ((State.stackThrottle_of_active hp hs hact).trans (congrArg _ (stackDivisor_of_warm hlo hhi))),
        fun h => next_congr ((State.stackThrottle_of_active hp hs hact).trans (congrArg _ (stackDivisor_of_cool h))),
        fun hlo hhi => next_congr ((State.stackThrottle_of_active hp hs hact).trans
          ((congrArg _ (stackDivisor_of_between hlo hhi)).trans (if_pos rfl)))⟩,
      fun h => next_congr (State.stackThrottle_refused h)⟩,
    fun s sensor t => ⟨fun hsen hact => ⟨
        fun h => next_congr ((State.ilbenThrottle_of_active hsen hact).trans (congrArg _ (if_pos h))),
        fun h => next_congr ((State.ilbenThrottle_of_active hsen hact).trans
          (congrArg _ ((if_neg (by omega)).trans (if_pos h)))),
        fun hlo hhi => next_congr ((State.ilbenThrottle_of_active hsen hact).trans
          ((congrArg _ ((if_neg (Int.not_le.mpr hhi)).trans (if_neg (Int.not_le.mpr hlo)))).trans (if_pos rfl)))⟩,
      fun h => next_congr (State.ilbenThrottle_refused h)⟩,
    fun s sensor t => ⟨fun lim hlim ht hst hin => next_congr (State.thermalTrip_of_trip hlim ht hst hin),
      fun lim hlim h => next_congr (State.thermalTrip_refused hlim h), fun hlim => next_congr (State.thermalTrip_of_none hlim)⟩,
    fun s p stack t => ⟨fun hp hs => ⟨
        fun ht => next_congr ((State.refreshInterval_of_stack hp hs).trans (by rw [if_pos ht])),
        fun ht => next_congr ((State.refreshInterval_of_stack hp hs).trans (by rw [if_neg (Int.not_lt.mpr ht)]))⟩,
      fun h => next_congr (State.refreshInterval_refused h)⟩⟩
  case power =>
    refine ⟨fun hact hpk hcap hlow h6 => next_congr ?_, fun hact hpk h4 => next_congr ?_, fun hact hpk h5 => next_congr ?_,
      fun hact hpk h6 => next_congr ?_, fun hact hpk hcap h5 => next_congr ?_, fun hact hpk hcap h6 => next_congr ?_,
      fun hact hpk hcap hlow hpos h6 => next_congr ?_⟩
    all_goals obtain ⟨hstays, hpeak, hpeak5, hpeak6, hover, hover6, hunder⟩ :=
      powerLoop_moves (p100 := p100) (p1 := p1) (pk := pk) (mv := mv) (ma := ma) hin hact
    · exact hstays hpk hcap hlow h6
    · exact hpeak hpk h4
    · exact hpeak5 hpk h5
    · exact hpeak6 hpk h6
    · exact hover hpk hcap h5
    · exact hover6 hpk hcap h6
    · exact hunder hpk hcap hlow hpos h6

/-- Settles O35: one lemma for each assertion and each release, taken, merged or refused. -/
theorem resetCommands : Obligations.ResetCommands := by
  refine ⟨fun s => ⟨fun h => next_congr (State.perstAssert_of_resettable h), fun h => next_congr (State.perstAssert_merged h)⟩,
    fun s => ⟨fun hst hc hrel => next_congr ((State.perstDeassert_of_perst hst hc).trans
        (State.moduleRelease_of_held hst hrel (by simp))),
      fun hst h => next_congr ?merged,
      fun hst => next_congr (State.perstDeassert_of_running hst)⟩,
    fun s => ⟨fun h => next_congr (State.resetControl_module_of_resettable h), fun h => next_congr (State.resetControl_refused h)⟩,
    fun s => ⟨fun hst hrel h => next_congr (State.moduleRelease_of_held hst hrel h),
      fun h => next_congr (State.moduleRelease_refused h)⟩,
    fun s => ⟨fun hact hin => (exec_pierReset_of_active (by decide) hact).trans (congrArg _ (State.pierReset_zero hact hin)),
      fun hact hin => (exec_pierReset_of_active (by decide) hact).trans (congrArg _ (State.pierReset_one hact hin)),
      fun p h => exec_pierReset_refused h⟩,
    fun s p => ⟨fun hp hin hfl => next_congr ((if_pos hp).trans ((State.pierRelease_of_held hin).trans (if_pos hfl))),
      fun hp hin hfl => next_congr ((if_pos (by omega)).trans ((State.pierRelease_of_held hin).trans
        ((if_neg (not_not.mpr hfl)).trans (if_pos hp)))),
      fun hp hin hfl => next_congr ((if_pos (by omega)).trans ((State.pierRelease_of_held hin).trans
        ((if_neg (not_not.mpr hfl)).trans (if_neg (by omega))))),
      fun h => next_congr ?held⟩,
    fun s => ⟨fun hfl h0 h1 => if_pos (by simp [hfl, h0, h1]), fun h => State.finishApply_of_held h,
      fun h => if_neg (by simp [h]), fun hfl h1 => if_pos (by simp [hfl, h1])⟩,
    fun s p e => ⟨fun hp he hact hin =>
        (exec_engineReset_of_active hp he hact).trans (congrArg _ (State.engineReset_of_running he hact hin)),
      fun h => exec_engineReset_refused h⟩⟩
  case merged =>
    by_cases hc : s.power.resetCause = 5
    · have hrel : s.power.released = true := h.resolve_left (not_not.mpr hc)
      exact (State.perstDeassert_of_perst hst hc).trans (State.moduleRelease_refused (.inr (.inl hrel)))
    · exact State.perstDeassert_of_control hst hc
  case held =>
    rcases h with h | h
    · exact if_neg (Nat.not_lt.mpr h)
    · split
      · exact if_neg (Bool.eq_false_iff.mp h)
      · rfl

end Sys2Proof.Claims
end

section
/-! # The management port and the dictionary's writes

What the CAN FD port does with a request and with the events of its bus (18 R610 to R622), and what a dictionary write, a token
command and their service do (18 R601 to R609, 19 R635 to R639). -/

namespace Sys2Proof.Machine
open Sys2Proof.Claims

/-! ## Requests (18 R615 to R617) -/

section
variable {s : State} {node tag idx sub rsv seq cmd : Nat} {bad : Bool} {f : State → State} {data : List Byte}

theorem State.canTakes_iff : s.canTakes node = true ↔ PortTakes s node := by
  simp only [State.canTakes, PortTakes, Bool.and_eq_true, Bool.or_eq_true, decide_eq_true_eq, and_assoc]

theorem State.canBusy_iff : (s.can.xfer.isSome || s.canUnanswered) = true ↔ ¬ PortFree s := by
  rw [Bool.or_eq_true, not_and_or, Option.isSome_iff_ne_none, Bool.not_eq_false]

theorem State.canRequest_of_bad (h : bad = true) :
    s.canRequest cmd tag idx sub bad f = (counted s).canStatus cmd tag idx sub 0x13 0 := if_pos h

theorem State.canRequest_of_busy (h : bad = false) (hbusy : ¬ PortFree s) :
    s.canRequest cmd tag idx sub bad f = (counted s).canStatus cmd tag idx sub 0x12 0 :=
  (if_neg (Bool.eq_false_iff.mp h)).trans (if_pos (State.canBusy_iff.mpr hbusy))

theorem State.canRequest_of_free (h : bad = false) (hfree : PortFree s) :
    s.canRequest cmd tag idx sub bad f = f (counted s) :=
  (if_neg (Bool.eq_false_iff.mp h)).trans (if_neg fun hbusy => State.canBusy_iff.mp hbusy hfree)

theorem exec_canRead_of_takes {off len : Nat} (h : PortTakes s node) :
    exec (.canRead node tag idx sub rsv off len) s
      = .next (s.canRequest 1 tag idx sub (decide (rsv ≠ 0) || decide (len = 0) || decide (52 < len))
          (fun t => t.access ⟨0, false, idx, sub, off, len, [], 0, .can 1 tag 0⟩)) :=
  next_congr (if_pos (State.canTakes_iff.mpr h))

theorem exec_canWrite_of_takes (h : PortTakes s node) :
    exec (.canWrite node tag idx sub rsv data) s
      = .next (s.canRequest 2 tag idx sub (decide (rsv ≠ 0) || data.isEmpty || decide (56 < data.length))
          (fun t => t.canWriteAccess 2 tag 0 idx sub data)) :=
  next_congr (if_pos (State.canTakes_iff.mpr h))

theorem exec_writeInit_of_takes {total len : Nat} (h : PortTakes s node) :
    exec (.writeInit node tag idx sub rsv total len) s
      = .next (s.canRequest 3 tag idx sub
          (decide (rsv ≠ 0) || decide (len ≠ 0) || decide (total = 0) || decide (4104 < total))
          (fun t => t.writeInit tag idx sub total)) :=
  next_congr (if_pos (State.canTakes_iff.mpr h))

/-- A read with a reserved value, no bytes or more than a frame carries. -/
theorem canRead_bad {len : Nat} (h : rsv ≠ 0 ∨ len = 0 ∨ 52 < len) :
    (decide (rsv ≠ 0) || decide (len = 0) || decide (52 < len)) = true := by
  rcases h with h | h | h <;> simp [h]

theorem canRead_good {len : Nat} (hmin : 1 ≤ len) (hmax : len ≤ 52) :
    (decide ((0 : Nat) ≠ 0) || decide (len = 0) || decide (52 < len)) = false := by
  simp [Nat.ne_of_gt hmin, hmax]

theorem canWrite_bad (h : rsv ≠ 0 ∨ data = [] ∨ 56 < data.length) :
    (decide (rsv ≠ 0) || data.isEmpty || decide (56 < data.length)) = true := by
  rcases h with h | h | h <;> simp [h]

theorem canWrite_good (hne : data ≠ []) (hmax : data.length ≤ 56) :
    (decide ((0 : Nat) ≠ 0) || data.isEmpty || decide (56 < data.length)) = false := by
  simp [hne, hmax]

theorem writeInit_bad {total len : Nat} (h : rsv ≠ 0 ∨ len ≠ 0 ∨ total = 0 ∨ 4104 < total) :
    (decide (rsv ≠ 0) || decide (len ≠ 0) || decide (total = 0) || decide (4104 < total)) = true := by
  rcases h with h | h | h | h <;> simp [h]

theorem writeInit_good {total : Nat} (hmin : 1 ≤ total) (hmax : total ≤ 4104) :
    (decide ((0 : Nat) ≠ 0) || decide ((0 : Nat) ≠ 0) || decide (total = 0) || decide (4104 < total)) = false := by
  simp [Nat.ne_of_gt hmin, hmax]

theorem State.writeInit_of_absent {total : Nat} (h : objectAt idx sub = none) :
    s.writeInit tag idx sub total = s.canStatus 3 tag idx sub 1 0 := by
  simp only [State.writeInit, h]

theorem State.writeInit_of_size {r : OdRow} {total : Nat} (h : objectAt idx sub = some r) (htotal : total = canTotal r) :
    s.writeInit tag idx sub total = (s.setXfer (some ⟨idx, sub, tag, total, 0, []⟩)).canStatus 3 tag idx sub 0 0 := by
  simp only [State.writeInit, h]
  exact if_neg (not_not.mpr htotal)

theorem State.writeInit_of_other_size {r : OdRow} {total : Nat} (h : objectAt idx sub = some r) (htotal : total ≠ canTotal r) :
    s.writeInit tag idx sub total = s.canStatus 3 tag idx sub 6 0 := by
  simp only [State.writeInit, h]
  exact if_pos htotal

/-! ### Segments and ABORT (18 R617) -/

theorem exec_writeSeg_of_open (h : PortTakes s node) (hun : s.canUnanswered = false) :
    exec (.writeSeg node tag idx sub 0 seq data) s = .next ((counted s).writeSeg tag idx sub seq data) :=
  next_congr ((if_pos (State.canTakes_iff.mpr h)).trans
    ((if_neg (not_not.mpr rfl)).trans (if_neg (Bool.eq_false_iff.mp hun))))

theorem exec_segment_reserved (h : PortTakes s node) (hrsv : rsv ≠ 0) :
    exec (.writeSeg node tag idx sub rsv seq data) s = .next ((counted s).canStatus 4 tag idx sub 0x13 seq)
      ∧ exec (.abort node tag idx sub rsv) s = .next ((counted s).canStatus 5 tag idx sub 0x13 0) :=
  ⟨next_congr ((if_pos (State.canTakes_iff.mpr h)).trans (if_pos hrsv)),
    next_congr ((if_pos (State.canTakes_iff.mpr h)).trans (if_pos hrsv))⟩

theorem exec_segment_unanswered (h : PortTakes s node) (hun : s.canUnanswered = true) :
    exec (.writeSeg node tag idx sub 0 seq data) s = .next ((counted s).canStatus 4 tag idx sub 0x12 seq)
      ∧ exec (.abort node tag idx sub 0) s = .next ((counted s).canStatus 5 tag idx sub 0x12 0) :=
  ⟨next_congr ((if_pos (State.canTakes_iff.mpr h)).trans ((if_neg (not_not.mpr rfl)).trans (if_pos hun))),
    next_congr ((if_pos (State.canTakes_iff.mpr h)).trans ((if_neg (not_not.mpr rfl)).trans (if_pos hun)))⟩

theorem exec_abort_of_open (h : PortTakes s node) (hun : s.canUnanswered = false) :
    exec (.abort node tag idx sub 0) s = .next (((counted s).setXfer none).canStatus 5 tag idx sub 0 0) :=
  next_congr ((if_pos (State.canTakes_iff.mpr h)).trans
    ((if_neg (not_not.mpr rfl)).trans (if_neg (Bool.eq_false_iff.mp hun))))

theorem State.writeSeg_of_closed (h : s.can.xfer = none) :
    s.writeSeg tag idx sub seq data = s.canStatus 4 tag idx sub 0x10 seq := by
  simp only [State.writeSeg, h]

theorem State.writeSeg_of_disorder {x : CanXfer} (h : s.can.xfer = some x)
    (hx : seq ≠ x.next ∨ idx ≠ x.idx ∨ sub ≠ x.sub ∨ tag ≠ x.tag) :
    s.writeSeg tag idx sub seq data = (s.setXfer none).canStatus 4 tag idx sub 0x10 seq := by
  simp only [State.writeSeg, h]
  exact if_pos (by rcases hx with hx | hx | hx | hx <;> simp [hx])

/-- A segment in order: too short, the last, or one more of the transfer. -/
theorem State.writeSeg_of_order {x : CanXfer} (h : s.can.xfer = some x) (hseq : seq = x.next) (hidx : idx = x.idx)
    (hsub : sub = x.sub) (htag : tag = x.tag) :
    let n := min 56 (x.total - 56 * seq)
    let d := x.data ++ data.take n
    let t := s.setXfer (some { x with next := seq + 1, data := d })
    s.writeSeg tag idx sub seq data =
      if data.length < n then s.canStatus 4 tag idx sub 0x13 seq
      else if x.total ≤ 56 * (seq + 1) then (s.setXfer none).canWriteAccess 4 tag seq idx sub d
      else if seq % 16 = 15 then t.canStatus 4 tag idx sub 0 seq else t := by
  simp only [State.writeSeg, h]
  exact if_neg (by simp [hseq, hidx, hsub, htag])

/-- A request that the port does not take. -/
theorem exec_request_not_taken {a b c d e g : Nat} (h : ¬ PortTakes s node) :
    exec (.canRead node a b c d e g) s = .next s ∧ exec (.canWrite node a b c d data) s = .next s
    ∧ exec (.writeInit node a b c d e g) s = .next s ∧ exec (.writeSeg node a b c d e data) s = .next s
    ∧ exec (.abort node a b c d) s = .next s :=
  have hno : ¬ s.canTakes node = true := fun ht => h (State.canTakes_iff.mp ht)
  ⟨next_congr (if_neg hno), next_congr (if_neg hno), next_congr (if_neg hno), next_congr (if_neg hno), next_congr (if_neg hno)⟩

end

/-! ## Events of the bus (18 R618 to R621) -/

section
variable {s : State} {ident tec rx : Nat} {b : Bool}

theorem exec_transferTimeout_of_none (h : s.can.xfer = none) : exec .transferTimeout s = .next s := by
  show execTransferTimeout s = _
  simp only [execTransferTimeout, h]

theorem exec_transferTimeout_of_open {x : CanXfer} (h : s.can.xfer = some x) :
    exec .transferTimeout s = .next ((s.setXfer none).canStatus 4 x.tag x.idx x.sub 0x11 x.next) := by
  show execTransferTimeout s = _
  simp only [execTransferTimeout, h]

/-- Identifiers that a node itself sends or takes as its own (18 R614). -/
theorem foreign_iff : (decide (ident / 128 = 1) || decide (ident / 128 = 0xA) || decide (ident / 128 = 0xE)) = true
    ↔ ident / 128 = 1 ∨ ident / 128 = 0xA ∨ ident / 128 = 0xE := by
  simp only [Bool.or_eq_true, decide_eq_true_eq, or_assoc]

theorem exec_foreignFrame_of_own (h : PortTakes s (ident % 128))
    (hid : ident / 128 = 1 ∨ ident / 128 = 0xA ∨ ident / 128 = 0xE) :
    exec (.foreignFrame ident) s = .next (let t := counted s; { t with can := { t.can with mode := .listenOnly } }) :=
  next_congr (if_pos (Bool.and_eq_true_iff.mpr ⟨State.canTakes_iff.mpr h, foreign_iff.mpr hid⟩))

theorem exec_foreignFrame_of_other (h : ¬ PortTakes s (ident % 128)
    ∨ (ident / 128 ≠ 1 ∧ ident / 128 ≠ 0xA ∧ ident / 128 ≠ 0xE)) : exec (.foreignFrame ident) s = .next s := by
  refine next_congr (if_neg fun hgo => ?_)
  rw [Bool.and_eq_true, State.canTakes_iff, foreign_iff] at hgo
  obtain ⟨htakes, hid⟩ := hgo
  rcases h with h | ⟨h1, hA, hE⟩
  · exact h htakes
  · exact hid.elim h1 fun hid => hid.elim hA hE

theorem exec_heartbeat_of_period (hin : s.power.inputPresent = true) (hper : s.odv 0 0x1012 0 ≠ 0) :
    exec .heartbeat s = .next (s.canSend 2 (0x700 + s.can.nodeId) s.heartbeat) :=
  next_congr (if_pos (by simp [hin, hper]))

theorem exec_heartbeat_refused (h : s.power.inputPresent = false ∨ s.odv 0 0x1012 0 = 0) : exec .heartbeat s = .next s :=
  next_congr (if_neg (by rcases h with h | h <;> simp [h]))

theorem exec_busOff_of_limit (h : PortTakes s s.can.nodeId) (htec : 256 ≤ tec) : exec (.busOff tec b) s = .next (s.busOff tec b) :=
  next_congr (if_pos (by simp [htec, State.canTakes_iff.mpr h]))

theorem exec_busOff_refused (h : tec < 256 ∨ ¬ PortTakes s s.can.nodeId) : exec (.busOff tec b) s = .next s := by
  refine next_congr (if_neg fun hgo => ?_)
  rw [Bool.and_eq_true, decide_eq_true_eq, State.canTakes_iff] at hgo
  exact h.elim (Nat.not_lt.mpr hgo.1) (fun hno => hno hgo.2)

theorem exec_canBusError_of_count (h : PortTakes s s.can.nodeId) (htec : tec < 256) :
    exec (.canBusError tec rx) s = .next { s with can := { s.can with
      txErrors := tec, rxErrors := rx, mode := if 128 ≤ tec ∨ 128 ≤ rx then .errorPassive else .errorActive } } := by
  refine next_congr ((if_pos (by simp [htec, State.canTakes_iff.mpr h])).trans ?_)
  simp only [Bool.or_eq_true, decide_eq_true_eq]

theorem exec_canBusError_refused (h : 256 ≤ tec ∨ ¬ PortTakes s s.can.nodeId) : exec (.canBusError tec rx) s = .next s := by
  refine next_congr (if_neg fun hgo => ?_)
  rw [Bool.and_eq_true, decide_eq_true_eq, State.canTakes_iff] at hgo
  exact h.elim (Nat.not_le.mpr hgo.1) (fun hno => hno hgo.2)

/-- The module at the entry to bus-off. -/
def State.busOffEntered (s : State) (tec : Nat) : State :=
  let t := s.bump32 0 0x1013 3 1
  { t with can := { t.can with mode := .busOff, txErrors := tec } }

theorem State.busOff_of_quiet : s.busOff tec false = s.busOffEntered tec := rfl

theorem State.busOff_of_no_frame (h : takeBack (s.busOffEntered tec).out = none) : s.busOff tec true = s.busOffEntered tec := by
  have hout : takeBack s.out = none := h
  simp only [State.busOff, if_true, State.bump32, State.setOd, hout, State.busOffEntered]

/-- The frame that bus-off interrupted is queued again, and is not counted as sent. -/
theorem State.busOff_of_frame {f : CanFrame} {rest : List Out} (h : takeBack (s.busOffEntered tec).out = some (f, rest)) :
    let u := s.busOffEntered tec
    let v : State := { u with out := rest, can := { u.can with tx := canEnqueue f u.can.tx } }
    s.busOff tec true = v.setOd 0 0x1013 5 (v.odv 0 0x1013 5 - 1) := by
  have hout : takeBack s.out = some (f, rest) := h
  simp only [State.busOff, if_true, State.bump32, State.setOd, hout, State.busOffEntered]

end

/-! ## Writes of the dictionary (18 R601 to R609) -/

section
variable {s : State} {tr idx sub ref v : Nat} {data : List Byte} {a : Access} {r : OdRow}

theorem reaches_iff : (decide (tr < 2) && s.power.inputPresent) = true ↔ Reaches s tr := by
  rw [Bool.and_eq_true, decide_eq_true_eq]

/-- A command that hands one access to the dictionary where it reaches it. -/
theorem accesses_of_exec {c : Instr}
    (h : exec c s = .next (if (decide (tr < 2) && s.power.inputPresent) = true then s.access a else s)) : Accesses s tr c a :=
  ⟨fun hreach => h.trans (congrArg _ (if_pos (reaches_iff.mpr hreach))),
    fun hno => h.trans (congrArg _ (if_neg fun hgo => hno (reaches_iff.mp hgo)))⟩

theorem State.access_of_busy {b : Access} (h : s.dict.busy = some b) :
    s.access a = { s with dict := { s.dict with queue := s.dict.queue ++ [a] } } :=
  if_pos (by simp [h])

/-- Past the ordered checks, a write that its object's own rule accepts has the rule's effect, and spends the token of an RWS
object. -/
theorem State.odAccept_of_applied (hacc : r.acc ≠ .rwc) (happ : (s.apply a.tr a.idx a.sub a.data r).1 = 0) :
    s.odAccept a r = (0, (let x := s.apply a.tr a.idx a.sub a.data r; if r.acc = .rws then x.2.tokenSpend a.tr else x.2), true) :=
  (if_neg hacc).trans (if_neg (not_not.mpr happ))

theorem State.serve_write_of_countLimited (hw : a.write = true) (hobj : objectAt a.idx a.sub = some r)
    (hpass : firstFailure s a r = 0) (hacc : r.acc = .rwc) : s.serve a = s.fuseStart a := by
  simp [State.serve, hw, State.odWrite_of_passed hobj hpass, State.odAccept_of_countLimited hacc]

theorem State.serve_write_of_applied (hw : a.write = true) (hobj : objectAt a.idx a.sub = some r)
    (hpass : firstFailure s a r = 0) (hacc : r.acc ≠ .rwc) (happ : (s.apply a.tr a.idx a.sub a.data r).1 = 0) :
    let x := s.apply a.tr a.idx a.sub a.data r
    s.serve a = ((if r.acc = .rws then x.2.tokenSpend a.tr else x.2).countAccess a.tr 0).replyTo a 0 r.size [] := by
  have hsize : sizeAt a.idx a.sub = r.size := by simp only [sizeAt, hobj]
  simp only [State.serve, hw, State.odWrite_of_passed hobj hpass, State.odAccept_of_applied hacc happ, hsize, if_true]

/-! ### The rules of the token objects (18 R608; 19 R635 to R639) -/

theorem State.apply_tokenControl : s.apply tr 0xA0F1 (tr + 1) data r
    = if ofBytes data = 1 then (0, s.tokenBegin tr) else s.tokenSeal tr := rfl

theorem State.apply_tokenStage : s.apply tr 0xA0F0 (tr + 1) data r = s.tokenStage tr data := rfl

theorem State.apply_ownerTransfer : s.apply tr 0xA020 0 data r
    = if s.valueFits 0xA020 0 (ofBytes data) then (0, s.keep tr 0xA020 0 (ofBytes data) r) else (3, s) := rfl

theorem State.apply_debugUnlock : s.apply tr 0xA021 0 data r
    = (0, (({ s with sec := { s.sec with debugOpen := true } } : State).setOd 0 0xA021 0 (ofBytes data)).markFaulted) := rfl

theorem State.tokenSeal_eq : s.tokenSeal tr
    = if (s.staging tr).status = 1 then (0, s.setStaging tr { s.staging tr with status := 2 }) else (2, s) :=
  ite_not ..

theorem State.tokenVerified_of_sealed (h : (s.staging tr).status = 2) :
    s.tokenVerified tr = if s.tokenOk tr = true then
        (((s.takeFree 64).2).setStaging tr { s.staging tr with status := 3, ref := max (s.takeFree 64).1 1 }).bump32 0 0xA040 1 1
      else (s.setStaging tr { s.staging tr with status := 4 }).bump32 0 0xA040 2 1 :=
  if_neg (not_not.mpr h)

end

end Sys2Proof.Machine

namespace Sys2Proof.Claims
open Sys2Proof.Machine

/-- A segment that the port takes, by what is open and what it carries. -/
theorem exec_writeSeg_cases {s : State} {node tag idx sub seq : Nat} {data : List Byte} (h : PortTakes s node)
    (hun : s.canUnanswered = false) :
    (s.can.xfer = none → exec (.writeSeg node tag idx sub 0 seq data) s = .next ((counted s).canStatus 4 tag idx sub 0x10 seq))
    ∧ (∀ x, s.can.xfer = some x → (seq ≠ x.next ∨ idx ≠ x.idx ∨ sub ≠ x.sub ∨ tag ≠ x.tag) →
      exec (.writeSeg node tag idx sub 0 seq data) s = .next (((counted s).setXfer none).canStatus 4 tag idx sub 0x10 seq))
    ∧ (∀ x, s.can.xfer = some x → seq = x.next → idx = x.idx → sub = x.sub → tag = x.tag →
      let n := min 56 (x.total - 56 * seq)
      let d := x.data ++ data.take n
      (data.length < n → exec (.writeSeg node tag idx sub 0 seq data) s = .next ((counted s).canStatus 4 tag idx sub 0x13 seq))
      ∧ (n ≤ data.length → x.total ≤ 56 * (seq + 1) → exec (.writeSeg node tag idx sub 0 seq data) s
          = .next (((counted s).setXfer none).canWriteAccess 4 tag seq idx sub d))
      ∧ (n ≤ data.length → 56 * (seq + 1) < x.total → seq % 16 ≠ 15 → exec (.writeSeg node tag idx sub 0 seq data) s
          = .next ((counted s).setXfer (some { x with next := seq + 1, data := d })))
      ∧ (n ≤ data.length → 56 * (seq + 1) < x.total → seq % 16 = 15 → exec (.writeSeg node tag idx sub 0 seq data) s
          = .next (((counted s).setXfer (some { x with next := seq + 1, data := d })).canStatus 4 tag idx sub 0 seq))) := by
  have hexec := exec_writeSeg_of_open (tag := tag) (idx := idx) (sub := sub) (seq := seq) (data := data) h hun
  refine ⟨fun hx => hexec.trans (congrArg _ (State.writeSeg_of_closed hx)),
    fun x hx hdis => hexec.trans (congrArg _ (State.writeSeg_of_disorder hx hdis)),
    fun x hx hseq hidx hsub htag => ?_⟩
  have hin : (counted s).writeSeg tag idx sub seq data = _ := State.writeSeg_of_order hx hseq hidx hsub htag
  rw [hexec, hin]
  exact ⟨fun hlen => congrArg _ (if_pos hlen),
    fun hlen hlast => congrArg _ ((if_neg (Nat.not_lt.mpr hlen)).trans (if_pos hlast)),
    fun hlen hmore hack => congrArg _ ((if_neg (Nat.not_lt.mpr hlen)).trans ((if_neg (Nat.not_le.mpr hmore)).trans (if_neg hack))),
    fun hlen hmore hack => congrArg _ ((if_neg (Nat.not_lt.mpr hlen)).trans ((if_neg (Nat.not_le.mpr hmore)).trans (if_pos hack)))⟩

/-- Settles O36: a request is bad, waits or is served by `State.canRequest`; WRITE_SEG and ABORT have lemmas of their own. -/
theorem canRequests : Obligations.CanRequests := by
  refine ⟨fun s node tag idx sub off len h => ⟨?_, ?_, ?_⟩, fun s node tag idx sub data h => ⟨?_, ?_, ?_⟩,
    fun s node tag idx sub total h hmin hmax => ⟨?_, ?_, ?_, ?_⟩, fun s node tag idx sub rsv total len h hbad => ?_,
    fun s node tag idx sub seq data h hun => exec_writeSeg_cases h hun,
    fun s node tag idx sub seq data h => ⟨fun rsv hrsv => exec_segment_reserved h hrsv, fun hun => exec_segment_unanswered h hun,
      fun hun => exec_abort_of_open h hun⟩,
    fun s node a b c d e f data h => exec_request_not_taken h, fun s cmd tag seq idx sub code d => ⟨rfl, rfl⟩⟩
  · exact fun hfree h1 h52 => (exec_canRead_of_takes h).trans (congrArg _ (State.canRequest_of_free (canRead_good h1 h52) hfree))
  · exact fun hbusy h1 h52 => (exec_canRead_of_takes h).trans (congrArg _ (State.canRequest_of_busy (canRead_good h1 h52) hbusy))
  · exact fun rsv hbad => (exec_canRead_of_takes h).trans (congrArg _ (State.canRequest_of_bad (canRead_bad hbad)))
  · exact fun hfree hne h56 =>
      (exec_canWrite_of_takes h).trans (congrArg _ (State.canRequest_of_free (canWrite_good hne h56) hfree))
  · exact fun hbusy hne h56 =>
      (exec_canWrite_of_takes h).trans (congrArg _ (State.canRequest_of_busy (canWrite_good hne h56) hbusy))
  · exact fun rsv hbad => (exec_canWrite_of_takes h).trans (congrArg _ (State.canRequest_of_bad (canWrite_bad hbad)))
  · exact fun hfree hobj => (exec_writeInit_of_takes h).trans (congrArg _
      ((State.canRequest_of_free (writeInit_good hmin hmax) hfree).trans (State.writeInit_of_absent hobj)))
  · exact fun r hfree hobj htotal => (exec_writeInit_of_takes h).trans (congrArg _
      ((State.canRequest_of_free (writeInit_good hmin hmax) hfree).trans (State.writeInit_of_size hobj htotal)))
  · exact fun r hfree hobj htotal => (exec_writeInit_of_takes h).trans (congrArg _
      ((State.canRequest_of_free (writeInit_good hmin hmax) hfree).trans (State.writeInit_of_other_size hobj htotal)))
  · exact fun hbusy => (exec_writeInit_of_takes h).trans (congrArg _
      (State.canRequest_of_busy (writeInit_good hmin hmax) hbusy))
  · exact (exec_writeInit_of_takes h).trans (congrArg _ (State.canRequest_of_bad (writeInit_bad hbad)))

/-- Settles O37: one lemma for each event of the bus, taken or refused. -/
theorem canBusEvents : Obligations.CanBusEvents := by
  refine ⟨fun s => ⟨fun h => exec_transferTimeout_of_none h, fun x h => exec_transferTimeout_of_open h⟩,
    fun s ident => ⟨fun h hid => exec_foreignFrame_of_own h hid, fun h => exec_foreignFrame_of_other h⟩,
    fun s => ⟨fun hin hper => exec_heartbeat_of_period hin hper, fun h => exec_heartbeat_refused h⟩,
    fun s tec rx h => ⟨fun htec => (exec_busOff_of_limit h htec).trans (congrArg _ State.busOff_of_quiet),
      fun htec => ⟨fun b => exec_busOff_refused (.inl htec), exec_canBusError_of_count h htec⟩,
      fun htec => exec_canBusError_refused (.inl htec)⟩,
    fun s tec rx b h => ⟨exec_busOff_refused (.inr h), exec_canBusError_refused (.inr h)⟩,
    fun s tec h htec => ⟨fun hno => (exec_busOff_of_limit h htec).trans (congrArg _ (State.busOff_of_no_frame hno)),
      fun f rest hf => (exec_busOff_of_limit h htec).trans (congrArg _ (State.busOff_of_frame hf))⟩,
    fun s => ⟨fun h => next_congr (if_pos h), fun h => next_congr (if_neg h)⟩⟩

/-- Settles O38: each command is one access, an access that passes its checks is served by its object's rule, and the rules of
the token objects are written out. -/
theorem dictionaryWrites : Obligations.DictionaryWrites := by
  refine ⟨fun s tr idx sub v ref data => ⟨accesses_of_exec rfl, accesses_of_exec rfl, accesses_of_exec rfl, accesses_of_exec rfl,
      accesses_of_exec rfl, accesses_of_exec rfl, accesses_of_exec rfl, accesses_of_exec rfl, accesses_of_exec rfl,
      accesses_of_exec rfl⟩,
    fun s a => ⟨fun h => State.access_of_idle h, fun b h => State.access_of_busy h⟩,
    fun s a r hw hobj hpass => ⟨fun hacc => State.serve_write_of_countLimited hw hobj hpass hacc,
      fun hacc happ => State.serve_write_of_applied hw hobj hpass hacc happ⟩,
    fun s tr v piece r => ⟨State.apply_tokenControl.trans (if_pos (by decide)),
      (State.apply_tokenControl.trans (if_neg (by decide))).trans State.tokenSeal_eq,
      State.apply_tokenStage, State.apply_ownerTransfer, State.apply_debugUnlock⟩,
    fun s tr => ⟨fun h => next_congr (if_pos h), fun h => next_congr (State.tokenVerified_of_sealed h)⟩⟩

end Sys2Proof.Claims
end
